-- ==== Sys2Proof/Word.lean ====
section
/-! DEFINITION. The word and byte types of the register fabric (R34): 32-bit words, 8-bit bytes. -/

namespace Sys2Proof

/-- A 32-bit register word (R34). -/
abbrev Word := BitVec 32

/-- A byte. -/
abbrev Byte := BitVec 8

/-- A 64-bit value made of two consecutive words (R41). -/
abbrev DWord := BitVec 64

end Sys2Proof
end

