-- ==== Sys2Proof/Syntax.lean ====
section
/-! DEFINITION. The commands of the block: one constructor per row of spec/opcode_table.json, with the row's operands, and before
them the types of the operands. Commands that a class may withhold come first and those without operands last; within each part the order is the table's. -/

namespace Sys2Proof

/-- Who makes a register access (R34): the host, the management interface (SPI or I²C), a Pip through PEEK or POKE, or JTAG. -/
inductive Requester where
  | host
  | mgmt
  | pip (k : Fin 28)
  | jtag
  deriving DecidableEq, Repr

/-- The path of an access: BAR0, BAR2 (R35), or a path that is no PCIe aperture. -/
inductive Aperture where
  | bar0
  | bar2
  | other
  deriving DecidableEq, Repr

/-- One register access as it reaches the fabric: requester, path, page, byte offset, byte enables (bit i enables byte i). -/
structure Access where
  req : Requester
  ap : Aperture
  page : Nat
  offset : Nat
  be : Nat := 15
  deriving DecidableEq, Repr

/-- The four 32-bit parts of a time as the registers and messages carry it. -/
structure TimeWords where
  sec : Nat
  ns : Nat
  frac : Nat
  deriving DecidableEq, Repr



/-- Which dwell of a reference slot has passed (R112, R126, R127). -/
inductive Dwell where
  | soft
  | recover
  | drift
  deriving DecidableEq, Repr


/-- What the demodulator and correlators give a solution for one tracked signal (R166, R167): the channel, the pin time of a code epoch
in units of 2^-48 ns, the transmit time decoded for it as time of week in the same units, and the code-noise and multipath
variances in ps². -/
structure GnObs where
  chan : Fin 256
  pin : Nat
  tow : Nat
  codeVar : Nat
  mpVar : Nat
  deriving DecidableEq, Repr

/-- What a channel's 1 ms integration leaves in its record (R159, R183): C/N0 in 0.01 dB-Hz, code phase in 2^-16 chip, Doppler in mHz
and the multipath metric in ps. -/
structure GnTrack where
  cn0 : Nat
  code : Nat
  doppler : Int
  multipath : Nat
  deriving DecidableEq, Repr

/-- A satellite by SYS code and PRN (R153, R162). -/
structure Sat where
  sys : Fin 3
  prn : Nat
  deriving DecidableEq, Repr


/-- The resolved time of an event at an interval unit (R190, R191): its time in units of 2^-48 ns, its TCLK cycle and its calibrated bin
in units of 2^-6 bin. -/
structure Resolved where
  time : Nat
  cyc : Nat
  cbin : Nat
  deriving DecidableEq, Repr

/-- Where a frame's timestamp point lies in a port's stream (R243): the PMA word of lane 0, the symbol within it, and the offset δ of the lane
against lane 0, in units of 2^-48 ns. -/
structure WirePos where
  word : Nat
  sym : Nat
  delta : Int
  deriving DecidableEq, Repr

/-- The engines that request reservations (R247): PTP and NTP. -/
inductive Engine where
  | ptp
  | ntp
  deriving DecidableEq, Repr

/-- Who gives a key-store command (R353): the host, its arguments staged in the registers, or a service Pip by SEND, with KS_ARG0, KS_ARG1 and
the offset in its data store. -/
inductive KsFrom where
  | host
  | pip (k : Fin 28) (arg0 arg1 off : Nat)
  deriving DecidableEq, Repr

/-- The units that R359 tests: an AES core, a SHA-256 lane, the P-384 engine. -/
inductive CryptoUnit where
  | aes (k : Fin 8)
  | sha (k : Fin 8)
  | pk
  deriving DecidableEq, Repr

/-- The detectors of R362. -/
inductive Detector where
  | vdd
  | temp
  | clk
  | vbatLow
  deriving DecidableEq, Repr

/-- A Pip's number (R371). -/
abbrev PipNo := Fin 28

/-- A Pip register, p0 to p15 (R372). -/
abbrev PReg := Fin 16

/-- The causes of a Pip failure (R385). -/
inductive PipCause where
  | wdog
  | illegal
  | dataRange
  | parity
  deriving DecidableEq, Repr

/-- A message as it stands in a Pip's inbox (R379): the source code and the information bits [15:0] of its header word, and the words
after the header, at most three. -/
structure PipMsg where
  src : Nat
  info : Nat
  words : List Nat
  deriving DecidableEq, Repr

/-- An event that reaches the merge unit: one the model's own blocks have stamped, by its place among those on their way, or one given
with its fields (a source the commands do not show). `stamp` counts units of 2^-10 ns. -/
inductive Arriving where
  | queued (k : Nat)
  | given (stamp epoch source code payload cls : Nat) (conseq forced : Bool) (pkt : List Byte)
  deriving DecidableEq, Repr

/-- An overlay of a boot image (R58): its entries, as word 0, mask and value, and its seal delta. -/
structure OvlSection where
  entries : List (Nat × Nat × Nat)
  delta : Nat
  deriving DecidableEq, Repr

/-- The sections of a boot image (R508) as they lie in it: base set, Pip records (R388), overlays with their deltas and compatibility matrix, and
seal reference. The spec gives the sections and no layout for them but the Pip records'. -/
structure BootSections where
  baseSet : List (Nat × Word)
  pips : List (List Byte)
  overlays : List OvlSection
  compat : List Nat
  sealRef : Word
  deriving DecidableEq, Repr

/-- A boot image as it was read: its bytes, and its sections, none where a section is malformed. -/
structure BootImage where
  bytes : List Byte
  parts : Option BootSections
  deriving DecidableEq, Repr

/-- What main boot finds (R506, R507): the straps, the channels that trained, images A and B (none where the read failed), whether the
known-answer tests passed, the RTC count, and the milliseconds to READY. -/
structure BootInputs where
  role : Nat
  bootsrc : Nat
  ddr0 : Bool
  ddr1 : Bool
  imageA : Option BootImage
  imageB : Option BootImage
  selftest : Bool
  ms : Nat
  deriving DecidableEq, Repr

/-- Who waits for a replenishment (R103): the command unit of the key store, an attestation, the arbiter bus, the PTP calendar, a Pip, or a
command kept whole, by its place. -/
inductive Held where
  | keyStore
  | attest
  | arbiter
  | calendar
  | pip (k : Fin 28)
  | command (k : Nat)
  deriving DecidableEq, Repr


/-- A command or event of the OT8160: one constructor per row of the opcode table. -/
inductive Instr where
  /-- STALLED_REQUEST_RESUME (R103). A withheld request is presented again after the next replenishment. -/
  | stalledRequestResume (h : Held)
  /-- SEAL_SCAN_COMPLETE (R54). CV0 completes a seal scan, writes CFG_LAST_CRC and compares it if no window overlapped. -/
  | sealScanComplete (stale : List (Nat × Word))
  /-- ACQ_SEARCH (R158). An acquisition engine completes a search for one signal. -/
  | acqSearch (ant : Fin 2) (sat : Sat) (found : Option GnTrack)
  /-- OSNMA_VERIFY (R172). GN checks a TESLA key or tag of Galileo OSNMA. -/
  | osnmaVerify (prn : Nat) (iod : Nat) (isKey : Bool) (data : List Byte) (tag : List Byte)
  /-- NAV_RECORD (R161). A demodulated subframe goes to the host ring as a navigation record. -/
  | navRecord (ant : Fin 2) (band : Fin 2) (sat : Sat) (crcOk : Bool) (bits : Nat) (rx : Nat) (payload : List Byte)
  /-- HOST_TX_FRAME (R282). The device fetches a host transmit frame through EOP or drops it with ERR. -/
  | hostTxFrame (r : Fin 16) (readError : Bool)
  /-- HOST_RX_DELIVERY (R280). A host-bound frame is written whole to its receive ring or dropped. -/
  | hostRxDelivery
  /-- ANNOUNCE_RECEIVE (R291). A received Announce is qualified and compared under BMCA. -/
  | announceReceive (p : Fin 16) (bytes : List Byte)
  /-- MULTICAST_MESSAGE_DUE (R292). A multicast Announce or Sync interval falls due on a MASTER port. -/
  | multicastMessageDue (k : Fin 4) (p : Fin 16) (sync : Bool)
  /-- FOLLOW_UP (R295). A two-step Sync's egress stamp returns and its Follow_Up is sent. -/
  | followUp (p : Fin 16) (n t1 : Nat)
  /-- DELAY_REQ (R296). A received Delay_Req is answered with a Delay_Resp or discarded. -/
  | delayReq (p : Fin 16) (stamp : Option Nat) (bytes : List Byte)
  /-- PDELAY_REQ (R294). A received Pdelay_Req is answered one- or two-step. -/
  | pdelayReq (p : Fin 16) (stamp : Option Nat) (bytes : List Byte)
  /-- SIGNALING (R299). A Signaling message's unicast requests are granted or denied. -/
  | signaling (p : Fin 16) (bytes : List Byte)
  /-- CLIENT_SYNC (R313). A client instance receives Sync and passes a phase sample. -/
  | clientSync (client : Fin 2) (stamp : Option Nat) (bytes : List Byte)
  /-- CLIENT_FOLLOW_UP (R315). A two-step client instance receives Follow_Up, completing its Sync sample and resetting its Sync timeout. -/
  | clientFollowUp (client : Fin 2) (bytes : List Byte)
  /-- CLIENT_DELAY_RESP (R313). A client instance receives the Delay_Resp or Pdelay_Resp answering its request and updates meanPathDelay. -/
  | clientDelayResp (client : Fin 2) (t3 : Nat) (stamp : Option Nat) (bytes : List Byte)
  /-- CLIENT_GRANT (R313). A unicast client instance receives a Signaling message with GRANT_UNICAST_TRANSMISSION and records its grants and durations. -/
  | clientGrant (client : Fin 2) (bytes : List Byte)
  /-- NTP_REQUEST (R321). A received NTP datagram is checked and answered or discarded. -/
  | ntpRequest (p : Fin 16) (stamp : Option Nat) (bytes : List Byte)
  /-- MINT_ENTRY (R334). A mint-queue entry is processed and its cookies written. -/
  | mintEntry (readError : Bool)
  /-- MIRROR_SEND (R421). A queued mirroring record is sent to the standby. -/
  | mirrorSend
  /-- EXPORT_FRAME (R466). The journal sends an export frame to the host ring. -/
  | exportFrame
  /-- REGISTER_WRITE (R38). A write to a register without a row of its own acts as its access type states. -/
  | registerWrite (x : Access) (v : Word)
  /-- W1C_CLEAR (R43). A write of 1 clears a W1C bit unless hardware sets it in the same cycle, which increments RECUR.COUNT. -/
  | w1cClear (req : Requester) (ap : Aperture) (page : Fin 512) (v : Word) (hw : Nat)
  /-- RECUR_CLEAR (R43). Writing RECUR.CLR clears the page's collision count and LAST. -/
  | recurClear (req : Requester) (ap : Aperture) (page : Fin 512)
  /-- EVT_FORCE_WRITE (R43). A write to EVT_FORCE sets events as their hardware source would, raising the same interrupt and fault source. -/
  | evtForceWrite (req : Requester) (ap : Aperture) (page : Fin 512) (v : Word)
  /-- LOWER_WORD_READ (R41). A read of a 64-bit register's lower word latches the upper word of the same cycle for the requester. -/
  | lowerWordRead (x : Access)
  /-- LOWER_WORD_WRITE (R42). A lower-word write to a 64-bit register is held in the requester's staging word. -/
  | lowerWordWrite (x : Access) (v : Word)
  /-- UPPER_WORD_WRITE (R42). An upper-word write completes a 64-bit write atomically with the requester's staged lower word. -/
  | upperWordWrite (x : Access) (v : Word)
  /-- IND_ADDR_WRITE (R48). A write to IND_ADDR sets BUSY and starts reading the addressed word of the domain. -/
  | indAddrWrite (x : Access) (v : Word)
  /-- IND_DATA_READ (R48). A read of IND_DATA returns the word and advances the offset, starting the next read. -/
  | indDataRead (x : Access)
  /-- IND_DATA_WRITE (R48). A write of IND_DATA stores the word at the offset, sets BUSY and advances the offset. -/
  | indDataWrite (x : Access) (v : Word)
  /-- IND_WORD_COMPLETE (R48). An indirect read or store completes within its domain latency and BUSY clears. -/
  | indWordComplete (set : Fin 4)
  /-- IND_HOLD_CLAIM (R50). A Pip writes HOLD = 1 to claim set 2, succeeding if it is free. -/
  | indHoldClaim (k : PipNo) (step : BitVec 2)
  /-- IND_HOLD_RELEASE (R50). The holder writes HOLD = 0 to release set 2. -/
  | indHoldRelease (k : PipNo) (step : BitVec 2)
  /-- CFG_OPEN (R55). A requester opens a change window and becomes its owner. -/
  | cfgOpen (req : Requester) (ap : Aperture)
  /-- CFG_COMMIT (R56). The owner commits: COMMIT_BUSY is set, the shadow copied and a full scan started. -/
  | cfgCommit (req : Requester) (ap : Aperture)
  /-- CFG_ABANDON (R56). The owner abandons the window and every configuration word is reloaded from the shadow. -/
  | cfgAbandon (req : Requester) (ap : Aperture)
  /-- CFG_RESCAN (R56). CFG_CTL.RESCAN restarts the current seal scan from the first word. -/
  | cfgRescan (req : Requester) (ap : Aperture)
  /-- TIME_SAMPLE_READ (R64). A read of TC_NOW_FRAC samples the time and latches the other three words. -/
  | timeSampleRead (req : Requester) (ap : Aperture)
  /-- INCR_SW_WRITE (R66). A software increment write is staged for the next boundary, ignored while the loop is closed or refused out of range. -/
  | incrSwWrite (req : Requester) (ap : Aperture) (lo hi : Word)
  /-- SLEW_OFS_WRITE (R69). A write to TC_SLEW_OFS retargets or stops the slew from where time stands. -/
  | slewOfsWrite (req : Requester) (ap : Aperture) (lo hi : Word)
  /-- SLOPE_WRITE (R68). A write to TC_SLOPE is accepted within range or refused with INCR_RANGE. -/
  | slopeWrite (req : Requester) (ap : Aperture) (v : Word)
  /-- STEP_REQUEST (R71). TC_STEP_CTL.REQ requests a relative or absolute step for the next boundary. -/
  | stepRequest (req : Requester) (ap : Aperture) (absolute : Bool)
  /-- STEP_CANCEL (R71). TC_STEP_CTL.CANCEL withdraws a pending step. -/
  | stepCancel (req : Requester) (ap : Aperture)
  /-- UTC_ARM (R81). TC_UTC_CTL.ARM arms a pending UTC offset change if its checks pass. -/
  | utcArm (req : Requester) (ap : Aperture)
  /-- UTC_DISARM (R81). TC_UTC_CTL.DISARM disarms the pending UTC change. -/
  | utcDisarm (req : Requester) (ap : Aperture)
  /-- TRG_ARM (R85). An owner arms a trigger with its staged target and period. -/
  | trgArm (req : Requester) (ap : Aperture) (n : Fin 32)
  /-- TRG_DISARM (R84). An owner disarms a trigger. -/
  | trgDisarm (req : Requester) (ap : Aperture) (n : Fin 32)
  /-- TRIGGER_FIRE (R84). Time reaches an armed trigger's target and it fires, delivering the residue to its owner. -/
  | triggerFire (n : Fin 32)
  /-- CAPTURE_NOW (R88). TC_CAPn_CMD.NOW takes a software capture stamp. -/
  | captureNow (req : Requester) (ap : Aperture) (n : Fin 8)
  /-- CAPTURE_POP (R89). A read of TC_CAPn_POP removes the oldest capture and latches its words. -/
  | capturePop (req : Requester) (ap : Aperture) (n : Fin 8)
  /-- TXQ_POP (R92). A read of TC_TXQp_POP removes the oldest transmit time-stamp entry. -/
  | txqPop (req : Requester) (ap : Aperture) (p : Fin 16)
  /-- HOST_POST (R110). RS11_HCMD.POST gives the host's phase sample at its capture, or is rejected. -/
  | hostPost (req : Requester) (ap : Aperture)
  /-- SIGNAL_LOSS (R111). A slot's source loses its signal and the selector acts within 2 µs. -/
  | signalLoss (n : Fin 12)
  /-- HOLDOFF_EXPIRY (R112). RSn_HOLDOFF expires and the slot becomes DISQUALIFIED. -/
  | holdoffExpiry (n : Fin 12)
  /-- QUAL_TIMER_EXPIRY (R114). RSn_QUAL_T or RSn_WTR passes and the slot may become AVAILABLE. -/
  | qualTimerExpiry (n : Fin 12)
  /-- DWELL_EXPIRY (R126). A soft failure or recovery lasts RSn_DWELL and the slot enters or leaves DEGRADED. -/
  | dwellExpiry (n : Fin 12) (d : Dwell)
  /-- ACCEPT (R125). RSn_CMD.ACCEPT clears QUARANTINE at the next boundary. -/
  | accept (req : Requester) (ap : Aperture) (n : Fin 12)
  /-- DISQUALIFY (R112). RSn_CMD.DISQUALIFY disqualifies the slot with cause command. -/
  | disqualify (req : Requester) (ap : Aperture) (n : Fin 12)
  /-- REQUALIFY (R530). RSn_CMD.REQUALIFY returns a DISQUALIFIED slot to QUALIFYING. -/
  | requalify (req : Requester) (ap : Aperture) (n : Fin 12)
  /-- BW_WRITE (R121). A loop bandwidth write is taken at the next boundary or refused with BW_REFUSED. -/
  | bwWrite (req : Requester) (ap : Aperture) (outer : Bool) (v : Word)
  /-- MODEL_LOAD (R139). HO_CMD.LOAD copies the staged model into force or is refused. -/
  | modelLoad (req : Requester) (ap : Aperture)
  /-- FORGET (R138). HO_CMD.FORGET empties the learning set and clears MODEL_READY. -/
  | forget (req : Requester) (ap : Aperture)
  /-- RESEND (R142). HO_CMD.RESEND sends the UART command again to restore LINK_OK. -/
  | resend (req : Requester) (ap : Aperture)
  /-- UART_REPLY (R142). An acknowledgement line arrives from the oscillator. -/
  | uartReply (line : List Byte)
  /-- TEMP_READ (R143). HO reads the temperature sensor once per second. -/
  | tempRead (v : Option (BitVec 16))
  /-- GIF_LOST (R156). A GNSS sample interface is declared lost and its solution withdrawn. -/
  | gifLost (ant : Fin 2)
  /-- GIF_RETURN (R156). After 10 ms of clean clock the interface is OK again. -/
  | gifReturn (ant : Fin 2)
  /-- CHANNEL_INTEGRATION (R160). A channel starts a 1 ms integration if admitted, otherwise coasts. -/
  | channelIntegration (k : Fin 256) (x : GnTrack)
  /-- TRACK_ENTRY (R159). A channel enters TRACK after 200 ms of PULL_IN with carrier lock. -/
  | trackEntry (k : Fin 256)
  /-- COAST_EXPIRY (R156). A channel coasting longer than GN_COAST_MAX becomes FREE. -/
  | coastExpiry (k : Fin 256)
  /-- PRED_POST (R162). GN_PRED_CMD.POST stores or refuses a range-prediction segment. -/
  | predPost (req : Requester) (ap : Aperture)
  /-- SOLUTION_EPOCH (R166). At each 100 ms instant GN forms a time solution per antenna. -/
  | solutionEpoch (obs : List GnObs)
  /-- RAIM_BAR_EXPIRY (R168). An excluded satellite's GN_RAIM_BAR period ends. -/
  | raimBarExpiry (ant : Fin 2) (sat : Sat)
  /-- SOLUTION_TIMEOUT (R170). No VALID solution for GN_SOL_TMO withdraws validity. -/
  | solutionTimeout (ant : Fin 2)
  /-- LEAP_POST (R171). GN_LEAP_CMD.POST passes leap data to the time core. -/
  | leapPost (req : Requester) (ap : Aperture)
  /-- OSN_LOAD (R173). GN_OSN_CMD.LOAD loads the OSNMA root key. -/
  | osnLoad (req : Requester) (ap : Aperture)
  /-- OSN_CLEAR (R181). GN_OSN_CMD.CLEAR clears the OSNMA root. -/
  | osnClear (req : Requester) (ap : Aperture)
  /-- GNSS_CHANNEL_FAULT (R177). A channel parity or self-check failure fences it and raises GNSS_CHAN. -/
  | gnssChannelFault (k : Fin 256)
  /-- FE_XFER (R178). GN_FE_XFER starts a front-end SPI transfer or is dropped while BUSY. -/
  | feXfer (req : Requester) (ap : Aperture) (v : Word)
  /-- FE_XFER_DONE (R178). The front-end SPI transfer completes and BUSY clears. -/
  | feXferDone (bits : Nat)
  /-- TDC_EDGE (R189). An edge reaches a TDC channel and enters its FIFO or is lost. -/
  | tdcEdge (ch : Fin 48) (raw : Fin 1024) (tag : Nat)
  /-- INTERVAL_PAIRING (R191). An interval unit pairs a resolved stop with the latest earlier start. -/
  | intervalPairing (u : Fin 16) (ch : Fin 48) (stop : Resolved)
  /-- STALE_START (R190). A start unmatched for 100 µs or displaced is discarded. -/
  | staleStart (u : Fin 16)
  /-- CAL_PASS_COMPLETE (R199). A calibration pass ends and is accepted, pooled or rejected. -/
  | calPassComplete (ch : Fin 48) (hist : List Nat) (ring : List Nat) (pulse : Rat)
  /-- LIVE_CAL_START (R201). The sequencer routes a live channel's source to a spare to calibrate it. -/
  | liveCalStart (ch : Fin 48)
  /-- STALE_TABLE (R202). A live channel without a table for SH_CAL_AGE is marked STALE. -/
  | staleTable (ch : Fin 48)
  /-- OCAL (R204). SH_CMD.OCAL requests delay-line calibration for masked outputs. -/
  | ocal (req : Requester) (ap : Aperture)
  /-- DELAY_LINE_CAL (R204). Measurement of a squelched output's delay line ends with 64 KIND 9 records. -/
  | delayLineCal (out : Fin 16) (delays : List Nat)
  /-- OUTPUT_LIVE_CHECK (R204). The Shell checks one live output edge per second and publishes KIND 8. -/
  | outputLiveCheck (out : Fin 16) (interval : Int)
  /-- CHANNEL_FENCE (R207). A failing TDC channel is fenced and its source moved to a spare. -/
  | channelFence (ch : Fin 48)
  /-- MB_APPEND (R211). SH_MB_CMD.APPEND stages a part of a signed command. -/
  | mbAppend (req : Requester) (ap : Aperture)
  /-- MB_EXECUTE (R211). SH_MB_CMD.EXECUTE starts verifying the staged command. -/
  | mbExecute (req : Requester) (ap : Aperture)
  /-- MB_ABORT (R211). SH_MB_CMD.ABORT discards the staged parts. -/
  | mbAbort (req : Requester) (ap : Aperture)
  /-- SESSION_COMPLETE (R211). Verification and any commit end, RESULT is written and BUSY clears. -/
  | sessionComplete (storeFail : Bool)
  /-- SHELL_RESET (R218). VDD_SH valid or SHELL_RST_N release starts the Shell boot. -/
  | shellReset (hashOk : Bool)
  /-- ATT_REQ (R236). EB_ATT_CMD.REQ starts assembling an attestation statement. -/
  | attReq (req : Requester)
  /-- FRAME_RECEIVE (R242). A frame is received on a front port and stamped at the pins. -/
  | frameReceive (p : Fin 16) (bytes : List Byte) (pos : WirePos)
  /-- RESERVATION_REQUEST (R247). An engine requests a launch slot; the port grants T or refuses. -/
  | reservationRequest (p : Fin 16) (eng : Engine) (grid : List Nat)
  /-- FRAME_HANDOVER (R249). An engine hands a sealed frame to the port for its reservation. -/
  | frameHandover (p : Fin 16) (eng : Engine)
  /-- LAUNCH (R249). The frame crosses the pins at T. -/
  | launch (p : Fin 16) (pos : WirePos)
  /-- LAUNCH_MISS (R250). A reservation that cannot cross at T is discarded and counted. -/
  | launchMiss (p : Fin 16) (k : Nat)
  /-- TX_FRAME_START (R254). A queued frame's start block is committed to a grid instant. -/
  | txFrameStart (p : Fin 16) (x : Nat)
  /-- PAUSE_EXPIRY (R256). A pause interval ends. -/
  | pauseExpiry (p : Fin 16) (prio : Option (Fin 8))
  /-- LINK_DOWN (R258). A port declares link down and discards reservations and queued frames. -/
  | linkDown (p : Fin 16) (lockLost : Bool)
  /-- LINK_UP (R258). After 10 ms of lock the port declares link up. -/
  | linkUp (p : Fin 16)
  /-- PORT_HW (R259). A port hardware fault fences the port. -/
  | portHw (p : Fin 16)
  /-- PORT_RESTART (R259). PTp_CMD.RESTART reloads and restarts the port. -/
  | portRestart (req : Requester) (ap : Aperture) (p : Fin 16)
  /-- QUEUE_SERVE (R263). An egress port takes the head of its highest non-empty queue. -/
  | queueServe (p : Fin 20)
  /-- LAG_REBAL (R270). SW_LAG_CMD.REBAL requests a redeal of a group's buckets. -/
  | lagRebal (req : Requester) (ap : Aperture) (v : Word)
  /-- CUT_THROUGH_START (R271). After 128 B a qualifying frame starts on its egress port. -/
  | cutThroughStart (p : Fin 16) (head : List Byte) (pos : WirePos) (x : Nat)
  /-- MISSED_SYNC_EXPIRY (R274). A missed-Sync entry expires after 1 s. -/
  | missedSyncExpiry (p : Fin 16)
  /-- RING_TAIL_WRITE (R278). The host writes a ring's TAIL, giving descriptors to the device. -/
  | ringTailWrite (req : Requester) (ap : Aperture) (tx : Bool) (r : Fin 16) (v : Word)
  /-- RX_COMPLETION (R283). A receive ring signals completion by frame count or MOD_US. -/
  | rxCompletion (r : Fin 16)
  /-- SW_BUF (R284). A cell parity error drops or stomps its frame and raises SW_BUF. -/
  | swBuf (cellOf : Nat)
  /-- ANNOUNCE_RECEIPT_TIMEOUT (R291). No better foreign master qualified: a PASSIVE port returns to MASTER. -/
  | announceReceiptTimeout (k : Fin 4) (p : Fin 16)
  /-- PE_LANE (R312). A PTP lane fault fences the lane. -/
  | peLane (busy : Bool)
  /-- CLIENT_DELAY_REQ (R313). A client instance sends Delay_Req or Pdelay_Req at its interval. -/
  | clientDelayReq (client : Fin 2)
  /-- CLIENT_GRANT_RENEW (R313). A client instance renews a grant at half its duration. -/
  | clientGrantRenew (client : Fin 2) (typ : Fin 3)
  /-- CLIENT_TIMEOUT (R315). Announce or Sync timeout makes the client slot lose signal. -/
  | clientTimeout (client : Fin 2)
  /-- TABLE_QUERY (R318). A write to PE_TBL_QIDX reads a client-table entry. -/
  | tableQuery (req : Requester) (ap : Aperture) (v : Word)
  /-- TABLE_QUERY_DONE (R318). The queried entry's words become valid and BUSY clears. -/
  | tableQueryDone (ue : Bool)
  /-- MEM_UE (R32). An uncorrectable DRAM error raises MEM_UE. -/
  | memUe (addr : Nat)
  /-- MQ_TAIL_WRITE (R334). The host writes NE_MQ_TAIL, handing mint entries to the device. -/
  | mqTailWrite (req : Requester) (ap : Aperture) (v : Word)
  /-- ROTATE (R335). NE_ROT_CMD.ROTATE starts derivation of a new cookie generation. -/
  | rotate (req : Requester) (ap : Aperture)
  /-- GENERATION_RELEASE (R335). A VERIFY_ONLY generation is released after NE_GRACE. -/
  | generationRelease (newer : Bool)
  /-- NE_LANE (R341). An NTP lane fault fences the lane. -/
  | neLane (busy : Bool)
  /-- GENERATE (R353). Key-store command GENERATE creates a key in a new slot. -/
  | generate (f : KsFrom) (slot : Fin 128)
  /-- DERIVE (R356). Key-store command DERIVE computes HKDF into a new slot. -/
  | derive (f : KsFrom) (slot parent : Fin 128)
  /-- AGREE (R356). Key-store command AGREE derives a key by ECDH and HKDF. -/
  | agree (f : KsFrom) (slot parent : Fin 128)
  /-- SIGN (R353). Key-store command SIGN produces an ECDSA signature. -/
  | sign (f : KsFrom) (slot : Fin 128)
  /-- VERIFY (R353). Key-store command VERIFY checks a signature. -/
  | verify (f : KsFrom) (slot : Fin 128)
  /-- GETPUB (R353). Key-store command GETPUB returns a public key. -/
  | getpub (f : KsFrom) (slot : Fin 128)
  /-- WRAP_EXPORT (R353). Key-store command WRAP_EXPORT wraps an exportable key into a blob. -/
  | wrapExport (f : KsFrom) (slot parent : Fin 128)
  /-- WRAP_IMPORT (R353). Key-store command WRAP_IMPORT unwraps a blob into a new slot. -/
  | wrapImport (f : KsFrom) (slot parent : Fin 128)
  /-- INVALIDATE (R357). Key-store command INVALIDATE invalidates a slot and its descendants. -/
  | invalidate (f : KsFrom) (slot : Fin 128)
  /-- LC_TOKEN (R351). Key-store command LC_TOKEN verifies a life-cycle token. -/
  | lcToken (f : KsFrom)
  /-- PROVISION (R350). Key-store command PROVISION fuses the authority hash and generates the identity key. -/
  | provision (f : KsFrom)
  /-- ZEROISE (R363). Key-store command ZEROISE triggers a zeroisation. -/
  | zeroise (f : KsFrom)
  /-- CERT_LOAD (R355). Key-store command CERT_LOAD stages a part of the certificate chain. -/
  | certLoad (f : KsFrom)
  /-- ANCHOR_RECORD (R346). At each second boundary the Pit records the RTC and time pair. -/
  | anchorRecord (rtc : Nat)
  /-- VBAT_LOSS (R347). At power-up a damaged retention pattern is treated as a zeroisation. -/
  | vbatLoss (rtc : Nat)
  /-- TAMPER_LOOP (R361). Two mismatching loop samples are a tamper. -/
  | tamperLoop (loops : Fin 16) (rtc : Nat)
  /-- DETECTOR_TRIP (R362). A voltage, temperature, clock or VBAT detector fires. -/
  | detectorTrip (d : Detector) (rtc : Nat)
  /-- PERIODIC_SELF_TEST (R359). A core or lane runs its periodic known-answer test. -/
  | periodicSelfTest (u : CryptoUnit) (pass : Bool)
  /-- DRBG_RESEED (R360). The DRBG reseeds after 2^20 requests or 1 s, or halts. -/
  | drbgReseed (entropy : Bool)
  /-- NOP (R374). Pip instruction NOP. -/
  | nop (k : PipNo)
  /-- ADD (R374). Pip instruction ADD. -/
  | add (k : PipNo) (d a b : PReg)
  /-- SUB (R374). Pip instruction SUB. -/
  | sub (k : PipNo) (d a b : PReg)
  /-- AND (R374). Pip instruction AND. -/
  | and (k : PipNo) (d a b : PReg)
  /-- OR (R374). Pip instruction OR. -/
  | or (k : PipNo) (d a b : PReg)
  /-- XOR (R374). Pip instruction XOR. -/
  | xor (k : PipNo) (d a b : PReg)
  /-- SHL (R374). Pip instruction SHL. -/
  | shl (k : PipNo) (d a b : PReg)
  /-- SHR (R374). Pip instruction SHR. -/
  | shr (k : PipNo) (d a b : PReg)
  /-- SRA (R374). Pip instruction SRA. -/
  | sra (k : PipNo) (d a b : PReg)
  /-- MUL (R374). Pip instruction MUL. -/
  | mul (k : PipNo) (d a b : PReg)
  /-- SLT (R374). Pip instruction SLT. -/
  | slt (k : PipNo) (d a b : PReg)
  /-- SLTU (R374). Pip instruction SLTU. -/
  | sltu (k : PipNo) (d a b : PReg)
  /-- ADDI (R374). Pip instruction ADDI. -/
  | addi (k : PipNo) (d a : PReg) (imm : BitVec 18)
  /-- ANDI (R374). Pip instruction ANDI. -/
  | andi (k : PipNo) (d a : PReg) (imm : BitVec 18)
  /-- ORI (R374). Pip instruction ORI. -/
  | ori (k : PipNo) (d a : PReg) (imm : BitVec 18)
  /-- XORI (R374). Pip instruction XORI. -/
  | xori (k : PipNo) (d a : PReg) (imm : BitVec 18)
  /-- SHLI (R374). Pip instruction SHLI. -/
  | shli (k : PipNo) (d a : PReg) (imm : BitVec 18)
  /-- SHRI (R374). Pip instruction SHRI. -/
  | shri (k : PipNo) (d a : PReg) (imm : BitVec 18)
  /-- SRAI (R374). Pip instruction SRAI. -/
  | srai (k : PipNo) (d a : PReg) (imm : BitVec 18)
  /-- LUI (R374). Pip instruction LUI. -/
  | lui (k : PipNo) (d : PReg) (imm : BitVec 16)
  /-- LD (R374). Pip instruction LD loads a data word. -/
  | ld (k : PipNo) (d a : PReg) (imm : BitVec 18)
  /-- ST (R374). Pip instruction ST stores a data word. -/
  | st (k : PipNo) (d a : PReg) (imm : BitVec 18)
  /-- BEQ (R374). Pip instruction BEQ. -/
  | beq (k : PipNo) (a b : PReg) (t : BitVec 10)
  /-- BNE (R374). Pip instruction BNE. -/
  | bne (k : PipNo) (a b : PReg) (t : BitVec 10)
  /-- BLT (R374). Pip instruction BLT. -/
  | blt (k : PipNo) (a b : PReg) (t : BitVec 10)
  /-- BLTU (R374). Pip instruction BLTU. -/
  | bltu (k : PipNo) (a b : PReg) (t : BitVec 10)
  /-- JMP (R374). Pip instruction JMP. -/
  | jmp (k : PipNo) (t : BitVec 10)
  /-- CALL (R374). Pip instruction CALL. -/
  | call (k : PipNo) (t : BitVec 10)
  /-- RET (R374). Pip instruction RET. -/
  | ret (k : PipNo)
  /-- WAITT (R375). Pip instruction WAITT holds the Pip until the time view reaches a time. -/
  | waitt (k : PipNo) (a b : PReg)
  /-- WAITT_RESUME (R375). The time view reaches the WAITT operand and the Pip resumes. -/
  | waittResume (k : PipNo)
  /-- STAMP (R376). Pip instruction STAMP reads the time view or wheel position. -/
  | stamp (k : PipNo) (d : PReg) (m : BitVec 14)
  /-- TRIG (R377). Pip instruction TRIG arms or disarms a trigger. -/
  | trig (k : PipNo) (d a b : PReg) (m : BitVec 14)
  /-- EMIT (R378). Pip instruction EMIT drives an event line or output level. -/
  | emit (k : PipNo) (a : PReg) (m : BitVec 14)
  /-- SEND (R379). Pip instruction SEND delivers words to a destination. -/
  | send (k : PipNo) (d a : PReg) (m : BitVec 14)
  /-- RECV (R379). Pip instruction RECV takes the oldest inbox message or waits. -/
  | recv (k : PipNo) (d : PReg) (m : BitVec 14)
  /-- RECV_RESUME (R379). A message arrives for a Pip waiting in RECV. -/
  | recvResume (k : PipNo)
  /-- PEEK (R380). Pip instruction PEEK reads a register. -/
  | peek (k : PipNo) (d a b : PReg)
  /-- POKE (R380). Pip instruction POKE writes a register. -/
  | poke (k : PipNo) (d a b : PReg)
  /-- PEEK_POKE_DONE (R380). The register fabric answers a PEEK or POKE with status. -/
  | peekPokeDone (k : PipNo)
  /-- YIELD (R374). Pip instruction YIELD ends a watchdog interval and returns a verdict. -/
  | yield (k : PipNo)
  /-- PIP_WATCHDOG (R384). The watchdog count exceeds PPk_WDOG. -/
  | pipWatchdog (k : PipNo)
  /-- PIP_FAIL (R385). A Pip fails, raises PIP_FAIL and restarts or is fenced. -/
  | pipFail (k : PipNo) (c : PipCause)
  /-- PIP_RESTART (R387). PPk_CMD.RESTART restarts the Pip without counting a failure. -/
  | pipRestart (req : Requester) (ap : Aperture) (k : PipNo)
  /-- HOST_MBOX_SEND (R379). PPk_MBOX_CMD.SEND delivers host words to the Pip's inbox. -/
  | hostMboxSend (req : Requester) (ap : Aperture) (k : PipNo) (words : Fin 4)
  /-- OUTPUT_EDGE (R396). An output places its next edge with compensation and fine delay. -/
  | outputEdge (n : Fin 16)
  /-- OUTPUT_CFG_WRITE (R401). A mode or schedule change while live squelches the output with CFG. -/
  | outputCfgWrite (x : Access) (v : Word)
  /-- OUTPUT_CFG_APPLY (R401). The pending change is applied or refused at the second boundary. -/
  | outputCfgApply (n : Fin 16)
  /-- OUTPUT_COMP_WRITE (R397). A change of OUn_COMP while live enters the lag. -/
  | outputCompWrite (req : Requester) (ap : Aperture) (n : Fin 16) (v : Word)
  /-- OUTPUT_SLEW_DONE (R397). The output lag returns to zero. -/
  | outputSlewDone (n : Fin 16)
  /-- GRANT_EDGE (R409). An edge on GRANT_IN is accepted or ignored and advances the lease. -/
  | grantEdge (gapPs : Nat)
  /-- ARB_HEARTBEAT_LOSS (R412). The arbiter sees no HB edge for 2 µs and stops that grant. -/
  | arbHeartbeatLoss (b : Bool)
  /-- ARB_ELIGIBLE (R412). A member's heartbeat has run 10 ms and it becomes eligible. -/
  | arbEligible (b : Bool)
  /-- RELEASE_PATTERN_DETECT (R412). The arbiter recognises a release pattern and moves the grant. -/
  | releasePatternDetect (b : Bool)
  /-- LEASE_FENCE (R410). LS_CMD.FENCE puts the lease in FENCED. -/
  | leaseFence (req : Requester) (ap : Aperture)
  /-- RESYNC (R423). LS_CMD.RESYNC requests a mirror resync. -/
  | resync (req : Requester) (ap : Aperture)
  /-- CREWELL_RECEIVE (R419). A Crewell frame is received and acted on or discarded. -/
  | crewellReceive (bytes : List Byte)
  /-- PEER_HEALTH_LOST (R419). No HEALTH from a peer for 5 ms. -/
  | peerHealthLost (arb : Bool)
  /-- FEED_LOSS (R426). PF_DEB samples below LO declare a feed lost. -/
  | feedLoss (b : Bool) (samples : List (Fin 4096))
  /-- FEED_RETURN (R426). PF_DEB samples at or above OK declare a feed back. -/
  | feedReturn (b : Bool) (samples : List (Fin 4096))
  /-- FEED_PREDICT (R427). The fit predicts collapse of the last feed within PF_PRED_T. -/
  | feedPredict (b : Bool) (samples : List (Fin 4096))
  /-- USAUR_FRAME_RECEIVE (R435). A Usaur frame is checked and handled by type. -/
  | usaurFrameReceive (k : Fin 4) (bytes : List Byte)
  /-- TIME_FRAME_SEND (R437). A link sends a TIME frame at its rate. -/
  | timeFrameSend (k : Fin 4)
  /-- ULINK_DOWN (R433). A Usaur link is declared down. -/
  | ulinkDown (k : Fin 4) (lockLost : Bool)
  /-- ULINK_UP (R433). After 10 ms of lock a link is declared up. -/
  | ulinkUp (k : Fin 4)
  /-- LINK_HW (R433). A link hardware fault fences the link. -/
  | linkHw (k : Fin 4)
  /-- EVENT_ARRIVAL (R456). A stamped event reaches the merge unit. -/
  | eventArrival (e : Arriving)
  /-- HOST_EVENT (R462). JN_HEVT_CMD.GO writes a host event. -/
  | hostEvent (req : Requester) (ap : Aperture) (code : BitVec 10)
  /-- BLOCK_RESET_COMPLETE (R480). A block reset completes. -/
  | blockResetComplete (t : Fin 15)
  /-- SHADOW_CLOSE (R481). 2 µs after a block reset the shadow closes. -/
  | shadowClose (t : Fin 15)
  /-- SEVERITY_WINDOW_CLOSE (R478). A source's severity window closes. -/
  | severityWindowClose (src : Fin 27)
  /-- FC_FORCE (R474). A write to FC_FORCE raises source occurrences. -/
  | fcForce (req : Requester) (ap : Aperture) (v : Word)
  /-- FC_PEND_ACK (R477). Software acknowledges sources through FC_PEND. -/
  | fcPendAck (req : Requester) (ap : Aperture) (v : Word)
  /-- COUNTER_OVERFLOW (R490). A counter wraps, sets OVFj and may freeze the group. -/
  | counterOverflow (g : Fin 4) (j : Fin 16)
  /-- CV_GO (R494). CVn_CMD.GO starts a memory scan. -/
  | cvGo (req : Requester) (ap : Aperture) (n : Fin 4)
  /-- CV_ABORT (R494). CVn_CMD.ABORT stops a scan. -/
  | cvAbort (req : Requester) (ap : Aperture) (n : Fin 4)
  /-- CV_CTX_WRITE (R493). A write of CVn_CTX sets the running register unless BUSY. -/
  | cvCtxWrite (req : Requester) (ap : Aperture) (n : Fin 4) (v : Word)
  /-- CV_SCAN_COMPLETE (R494). A memory scan ends with RESULT or an error. -/
  | cvScanComplete (n : Fin 4) (ue : Option Nat)
  /-- MAIN_BOOT (R506). PORST_N release starts main boot. -/
  | mainBoot (b : BootInputs)
  /-- OSC_MEASURE (R500). The OSC_IN frequency measurement completes. -/
  | oscMeasure (hz : Nat)
  /-- IMG_DATA (R507). A write of SYS_IMG_DATA pushes an image word. -/
  | imgData (req : Requester) (v : Word)
  /-- IMG_GO (R507). SYS_IMG_CMD.GO starts boot from the pushed image. -/
  | imgGo (req : Requester) (parts : Option BootSections) (selftest : Bool) (ms : Nat)
  /-- STANDBY_REQUEST (R511). CK_PWR_CMD.REQ = 1 requests STANDBY. -/
  | standbyRequest (req : Requester) (ap : Aperture)
  /-- RUN_REQUEST (R511). CK_PWR_CMD.REQ = 0 returns to RUN. -/
  | runRequest (req : Requester) (ap : Aperture)
  /-- SLEEP_REQUEST (R512). CK_PWR_CMD.REQ = 2 prepares for SLEEP. -/
  | sleepRequest (req : Requester) (ap : Aperture) (rtc : Nat)
  /-- MSPI_TRANSACTION (R525). A management SPI transaction performs a register access. -/
  | mspiTransaction (bytes : List Byte)
  /-- SYSTEM_APLL_LOCK (R505). After SYSREF_IN returns, the System APLL declares lock on SLOCK_FLT, the reset held since CCLK loss ends and main boot starts afresh. -/
  | systemApllLock (b : BootInputs)
  /-- SHELL_RESET_ASSERT (R216). SHELL_RST_N is asserted or VDD_SH falls; the Shell stops, loses its tables, raises SHELL_LOST and may leave an interrupted commit. -/
  | shellResetAssert (fuseBlown : Bool)
  /-- SDREF_LOSS (R259). Loss of SDREF0 or SDREF1 raises the level source SDREF_LOSS and takes down every port and link of that bank. -/
  | sdrefLoss (bank : Fin 2)
  /-- SDREF_RETURN (R474). SDREF0 or SDREF1 runs again, so the SDREF_LOSS condition in FC_ACTIVE clears and the source can be acknowledged. -/
  | sdrefReturn (bank : Fin 2)
  /-- MARKER_TIMEOUT (R245). The latest PMA marker of a port direction becomes older than 2 × SH_PCLK_PER + 1 µs, clearing STAMP_RX_OK or STAMP_TX_OK and setting STAMP_LOST. -/
  | markerTimeout (p : Fin 16) (tx : Bool)
  /-- HEARTBEAT_EDGE (R412). An edge arrives on HB_A or HB_B at the arbiter, making the member live, timing its interval for eligibility and clearing HB_FAULT. -/
  | heartbeatEdge (b : Bool) (gapPs : Nat)
  /-- MI2C_TRANSACTION (R525). A management I²C transaction at address 0x2C performs a register read or write with requester class 1. -/
  | mi2cTransaction (bytes : List Byte)
  /-- FRAME_BOUNDARY (R29). The time core reaches a 1 ms boundary instant and the wheel raises the boundary, running the ordered boundary actions. -/
  | frameBoundary
  /-- BOUNDARY_SUPPRESSED (R94). A boundary instant reached less than 500,000 TCLK cycles after the previous raised boundary is suppressed and only SEAL is replenished. -/
  | boundarySuppressed
  /-- INTERIM_POINT (R97). During a backward-step extension a boundary instant replenishes allowances and opens a continuation block. -/
  | interimPoint
  /-- EVENT_SNAPSHOT (R18). Within 2 µs of a TIME_STATE, reference-state or phase-hit change the error budget issues a new snapshot. -/
  | eventSnapshot
  /-- TCLK_LOSS (R501). The Time APLL declares loss, TCLK is stopped and TCLK_LOSS is raised. -/
  | tclkLoss
  /-- CCLK_LOSS (R505). Loss of SYSREF_IN or System APLL lock gates CCLK and resets the chip. -/
  | cclkLoss
  /-- COMMIT_COMPLETE (R56). The commit scan ends and the references, DIRTY and window state are updated. -/
  | commitComplete
  /-- WINDOW_EXPIRY (R57). A window open for CFG_WIN_MAX frames closes without commit and one compared scan runs. -/
  | windowExpiry
  /-- SLEW_COMPLETE (R67). The slew adds its final remainder, sets SLEW_DONE and clears SLEW_ACTIVE. -/
  | slewComplete
  /-- UTC_APPLY (R82). At second E + 86,400 the pending offset becomes current and ARMED clears. -/
  | utcApply
  /-- LOCK_TIMER_EXPIRY (R123). The lock conditions have held for RS_LOCK_T and LOCKED is set. -/
  | lockTimerExpiry
  /-- AVERAGE_COMPLETE (R135). A 10 s interval of samples completes and its average is held for the guard time. -/
  | averageComplete
  /-- GUARD_EXPIRY (R135). A held average passes HO_GUARD and is admitted to the learning set. -/
  | guardExpiry
  /-- MODEL_REFIT (R136). HO refits the oscillator model every 10 s and reports coefficients and uncertainties. -/
  | modelRefit
  /-- DAC_INIT_WRITE (R141). Within 1 ms of STEER first becoming 1, HO writes HO_DAC_INIT once. -/
  | dacInitWrite
  /-- UART_COMMAND (R142). HO sends the UART frequency command from its template. -/
  | uartCommand
  /-- UART_TIMEOUT (R142). No reply within HO_UART_TMO: the command is resent or OSC_LINK is raised. -/
  | uartTimeout
  /-- ANCHOR_SET (R140). HO sets the drift-test anchor every HO_ANCHOR seconds. -/
  | anchorSet
  /-- ASTEP_STEP_REQUEST (R151). At b0 + 499 ms the selector requests the relative step. -/
  | astepStepRequest
  /-- ASTEP_RELEASE (R151). 500 ms after the step the ASTEP squelch is released and ASTEP_DONE set. -/
  | astepRelease
  /-- BURST_WINDOW (R176). A 100 ms burst-tracking window opens each second. -/
  | burstWindow
  /-- PUBLICATION (R192). The Shell drains an event, converts it and publishes a record. -/
  | publication
  /-- ALLOWANCE_TIMEOUT (R195). No allowance for 2 ms: the Shell calibrates at the floor and publishes nothing. -/
  | allowanceTimeout
  /-- SHELL_READY (R218). CAL_INIT ends and the Shell enters READY. -/
  | shellReady
  /-- SHELL_PIP_WDOG (R214). Shell Pip watchdog expiry restarts it or enters METRO_FAIL. -/
  | shellPipWdog
  /-- SHELL_LOST (R217). No KIND 4 record for two frames raises SHELL_LOST. -/
  | shellLost
  /-- HIT_HOLD_EXPIRY (R226). EB_HIT_HOLD passes and the HIT component ends. -/
  | hitHoldExpiry
  /-- ATT_COMPLETE (R236). The statement is signed and written to EB_ATT_BUF. -/
  | attComplete
  /-- CALENDAR_TICK (R303). At each calendar tick the engine walks the tick's client list. -/
  | calendarTick
  /-- PE_REQ_AGED (R307). A withheld PTP request older than PE_REQ_AGE is discarded. -/
  | peReqAged
  /-- SKETCH_PERIOD (R338). A sketch period ends and the sketches swap. -/
  | sketchPeriod
  /-- NE_REQ_AGED (R333). A withheld NTS request older than NE_REQ_AGE is discarded. -/
  | neReqAged
  /-- KS_COMMAND_DONE (R353). A key-store command completes and RESULT is written. -/
  | ksCommandDone
  /-- ENTROPY_FAIL (R360). A health test fails and ENTROPY is raised. -/
  | entropyFail
  /-- PENDING_TIMEOUT (R410). No second edge within 65 ns returns PENDING to NO_LEASE. -/
  | pendingTimeout
  /-- LEASE_EXPIRY (R410). 4 µs after the last accepted edge the lease expires. -/
  | leaseExpiry
  /-- GRANT_SILENCE (R411). No edge for 200 ns silences the holder's heartbeat. -/
  | grantSilence
  /-- COLD_BLANK_EXPIRY (R424). LS_COLD_BLANK passes and the lease permits transmission. -/
  | coldBlankExpiry
  /-- ARB_GRANT_START (R413). After its wait the arbiter starts a grant. -/
  | arbGrantStart
  /-- ARB_HEALTH_WAIT (R413). The 2 ms wait for HEALTH ends and the arbiter chooses. -/
  | arbHealthWait
  /-- LEASE_SWAP (R415). LS_CMD.SWAP starts a planned handover or is refused. -/
  | leaseSwap
  /-- CLAIM (R419). LS_CMD.CLAIM sends a CLAIM with reason operator. -/
  | claim
  /-- RELEASE_CUTOFF (R416). From t_r − 20 µs ports refuse reservations at or after t_r. -/
  | releaseCutoff
  /-- RELEASE_INSTANT (R416). At t_r the holder enters RELEASING and starts the release pattern. -/
  | releaseInstant
  /-- AB_COLLISION (R417). A collision on the arbiter bus starts a backoff. -/
  | abCollision
  /-- AB_BACKOFF_EXPIRY (R417). The backoff ends and transmission is retried or discarded. -/
  | abBackoffExpiry
  /-- LAST_GASP_FLUSH (R428). The staging flush ends and LG_DONE is set. -/
  | lastGaspFlush
  /-- MERGE_RELEASE (R456). The lowest-key event old enough is released. -/
  | mergeRelease
  /-- RING_WRITE (R465). A closed block is written to the DRAM ring. -/
  | ringWrite
  /-- SK_ABANDON (R467). An export incomplete at half-period is abandoned. -/
  | skAbandon
  /-- SAFE_STATE (R484). A collector mismatch or FC_SELF puts the device in the safe state. -/
  | safeState
  /-- PORST_ASSERT (R526). PORST_N goes low and the main chip enters reset. -/
  | porstAssert
  /-- TIME_APLL_LOCK (R503). The Time APLL declares lock. -/
  | timeApllLock
  /-- AUTO_STANDBY (R511). After 10 ms of NO_LEASE with AUTO_STBY the member enters STANDBY. -/
  | autoStandby
  /-- SLEEP_READY (R512). Preparation ends and SLEEP_READY is set. -/
  | sleepReady
  /-- BOUND_LIMIT_CROSSED (R238). The growing bound rises above EB_SVC_LIMIT mid-frame and EB_EVT.LIMIT is set at once. -/
  | boundLimitCrossed
  deriving DecidableEq, Repr

end Sys2Proof
end

