-- ==== Sys2Proof/Config.lean ====
section
/-! DEFINITION. What an implementation of the part fixes, and the free values: constants with no body, of which nothing can be proved. -/

namespace Sys2Proof.Config

/-- Where the spec states no rounding: whether the inexact quotient at this count of the free-value counter is rounded up. -/
opaque roundUp : Nat → Bool

/-- The device's unique identifier, word by word (SH_UID, "Device value"). -/
opaque deviceUid : Nat → BitVec 32

/-- The fused authority key hash, word by word (KS_AUTH_HASH, "Fuse value"). -/
opaque fusedAuthHash : Nat → BitVec 32

/-- What a write of an RSV bit other than the value last read does (R39): registers of the page that owns the word, as (offset, value),
from the page, the offset, the word held, the word written and the free-value counter. -/
opaque rsvEffect : Nat → Nat → BitVec 32 → BitVec 32 → Nat → List (Nat × BitVec 32)

/-- The event code of a journal event within its source (R453 gives the field's width, and no codes): from the source and the event. -/
opaque eventCode : Nat → String → BitVec 10

/-- The payload of a journal event for which the spec gives none (R453, "Event-specific"). -/
opaque eventPayload : String → Nat → BitVec 64

/-- How far the time view lies from time-core time at a reading (R25): 0 to 4 stand for −2 ns to +2 ns. -/
opaque viewError : Nat → Fin 5

/-- How many configuration words the seal scan in progress has read when its progress is looked at (R497): how far a scan is at an
instant depends on CCLK, which the model does not count. -/
opaque scanProgress : Nat → Nat

/-- The inner loop's law (R121): from RS_INNER_BW (mHz), the integrator, the residual e (2^-16 ns) and the free-value counter, the new
integrator and the whole increment correction, in units of 2^-48 ns. The spec gives the loop's type, damping and bandwidth, and no
arithmetic. -/
opaque innerLoop : Nat → Int → Int → Nat → Int × Int

/-- The inner loop under frequency assist (R118): as `innerLoop`, from the assist slot's RSn_FREQ in place of the residual. -/
opaque assistLoop : Nat → Int → Int → Nat → Int × Int

/-- The outer loop's law (R121): from RS_OUTER_BW (0.1 mHz), the inner loop's integrator (2^-48 ns) and the free-value counter, the
frequency change Δy asked for, in 10^-18. -/
opaque outerLoop : Nat → Int → Nat → Int

/-- RSn_FREQ of a time slot whose source gives no frequency of its own (R108 states no estimator), in 10^-12: from the slot, the phase
sample (2^-16 ns) and the free-value counter. -/
opaque slotFreq : Nat → Int → Nat → Int

/-- A coefficient or an uncertainty of a fit that the data do not determine (too few samples, or samples that do not spread): from the
number of samples, which value, and the free-value counter. -/
opaque fitOpen : Nat → Nat → Nat → Int

/-- Whether an OSNMA check passes (R172, R173): from the root in force (its words), whether it is a key check, the data and the tag. -/
opaque osnmaOk : List Nat → Bool → List (BitVec 8) → List (BitVec 8) → Bool

/-- SHA-384 of bytes (48 bytes), uninterpreted. -/
opaque sha384 : List (BitVec 8) → List (BitVec 8)

/-- Whether an ECDSA P-384 signature verifies: public key (x then y), message, signature (r then s). -/
opaque ecdsaVerify : List (BitVec 8) → List (BitVec 8) → List (BitVec 8) → Bool

/-- The fused hashes of the metrology verification keys (R184), by key index. -/
opaque metroKeyHash : Nat → List (BitVec 8)

/-- The Shell's nonce, word by word, at its n-th draw (R211, R221). -/
opaque shellNonce : Nat → Nat → BitVec 32

/-- Whether the Shell's ROM accepts a record's identifier and value (R208). -/
opaque lrpAccepts : Nat → List (BitVec 8) → Bool

/-- The image hash SH_FWHASH reports for the records held (R208), word by word. -/
opaque shellImageHash : List (Nat × List (BitVec 8)) → Nat → BitVec 32

/-- The pin delay of a source held in the records (R193), 2^-16 ns. -/
opaque pinDelay : List (Nat × List (BitVec 8)) → Nat → Int

/-- The loopback constant of an output held in the records (R204), 2^-16 ns. -/
opaque loopback : List (Nat × List (BitVec 8)) → Nat → Int

/-- The skew-tree constant of a channel held in the records (R198), in bins. -/
opaque treeConst : List (Nat × List (BitVec 8)) → Nat → Rat

/-- The limits that the records hold (R208): chi-square, cross-check (ps), path check (ps) and frame count. -/
opaque lrpLimits : List (Nat × List (BitVec 8)) → Nat × Nat × Nat × Nat

/-- Whether a set of records replaces the whole store (R215). -/
opaque lrpWhole : List (Nat × List (BitVec 8)) → Bool

/-- Whether a set of records changes the Shell Pip image (R211). -/
opaque lrpHasImage : List (Nat × List (BitVec 8)) → Bool

/-- The factory interpolator table (R208): calibrated bin, in 2^-6 bin, and bin width out of 2^20, by channel and raw bin. -/
opaque factoryBin : Nat → Nat → Fin 65536
opaque factoryWidth : Nat → Nat → Nat

/-- The expanded uncertainty of a publication's payload (R192 gives the field, and no value), 0.25 ps, by channel and free-value counter. -/
opaque pubUnc : Nat → Nat → BitVec 16

/-- CCLK cycles in one period of the spread profile at a setting of CK_SAPLL_CFG (R206; 40,000 with spread disabled). -/
opaque profileCycles : BitVec 32 → Nat

/-- RESULT of a session refused in METRO_FAIL (R215 refuses it, R221 gives no code for it), less one. -/
opaque metroRefusal : Nat → Fin 10

/-- Symbols per PMA word of a port mode (R243 names S_w, and gives no value). -/
opaque symbolsPerWord : Nat → Nat

/-- TTL that a SERVICE frame sets out with (R434 names the field, R447 its use, and no value): by link and free-value counter. -/
opaque serviceTtl : Nat → Nat → BitVec 8

/-- A byte that the DRBG or another random source gives (R360): by free-value counter and position. -/
opaque randomByte : Nat → Nat → BitVec 8

/-- HMAC-SHA-256 of a message under a key (32 bytes), uninterpreted. -/
opaque hmac256 : List (BitVec 8) → List (BitVec 8) → List (BitVec 8)

/-- The P-384 public key (x then y) of a private scalar; the ECDH x-coordinate of a private scalar and a peer's public key. -/
opaque p384Public : List (BitVec 8) → List (BitVec 8)
opaque p384Shared : List (BitVec 8) → List (BitVec 8) → List (BitVec 8)

/-- The ECDSA P-384 signature (r then s) of a digest under a private scalar, with the per-signature value drawn; and its verification
under a public key. -/
opaque ecdsaSign : List (BitVec 8) → List (BitVec 8) → List (BitVec 8) → List (BitVec 8)
opaque ecdsaCheck : List (BitVec 8) → List (BitVec 8) → List (BitVec 8) → Bool

/-- AES-SIV-CMAC under a key (16 or 32 bytes by the key's TYPE): sealing of a plaintext with associated data, giving synthetic IV and
ciphertext, and opening. -/
opaque sivSeal : List (BitVec 8) → List (List (BitVec 8)) → List (BitVec 8) → List (BitVec 8)
opaque sivOpen : List (BitVec 8) → List (List (BitVec 8)) → List (BitVec 8) → Option (List (BitVec 8))

/-- The result of WRAP_EXPORT for a slot that is not EXPORTABLE (R353 restricts the command, R354 gives no code for it), less one. -/
opaque exportRefusal : Nat → Fin 14

/-- The slots drawn for a backoff on the arbiter bus (R417), before reduction: by free-value counter. -/
opaque backoffDraw : Nat → Nat

/-- The 224 bytes of a last-gasp record's extension (R428 lists the content, and no layout): from the samples of A, those of B, and
time (2^-48 ns), TIME_STATE, bound (ps), lease state, epoch and cause in this order. -/
opaque gaspLayout : List Nat → List Nat → List Nat → List (BitVec 8)

/-- A front port's own MAC address, and its IPv4 and IPv6 addresses, for frames that answer none (the spec gives no register for them). -/
opaque portMac : Nat → BitVec 48
opaque portIp : Nat → Bool → List (BitVec 8)

/-- The MAC address of the next hop towards an IP address, from a port: no rule says how the PTP engine finds it. -/
opaque nextHop : Nat → List (BitVec 8) → BitVec 48

/-- TTL (0) and traffic class (1) of the PTP engine's IP packets: no rule gives them. -/
opaque ptpIpField : Nat → BitVec 8

/-- Whether profile 4 sends to 01-80-C2-00-00-0E and not to 01-1B-19-00-00-00: R289 permits both. -/
opaque g8275Link : Bool

/-- The way that a miss evicts from a full set of the client-state cache (R305 names no policy): by free-value counter. -/
opaque cacheVictim : Nat → Fin 8

/-- AES-GMAC-128 under a key, of an IV and a message (16 bytes), uninterpreted. -/
opaque gmac : List (BitVec 8) → List (BitVec 8) → List (BitVec 8) → List (BitVec 8)

/-- Which of the empty slots takes a new cookie generation (R335 names none): by free-value counter. -/
opaque genSlot : Nat → Nat

/-- The priority, in the switch core, of the frames that engines send (R263 says that they have one, and no value): by switch port. -/
opaque enginePrio : Nat → Fin 8

/-- What PE_CLi_MPD reads for a negative meanPathDelay, ps (R320 gives none). -/
opaque negativeDelay : Int → BitVec 32

/-- The bound that a clockAccuracy code with no stated limit stands for, ps (R314): by code. -/
opaque accuracyOther : Nat → Nat

/-- The grant duration that a client instance asks for, in seconds (R313 gives none). -/
opaque clientDuration : Nat → BitVec 32

/-- What the root dispersion reads while VALID is 0 and no bound is stated (R329). -/
opaque unsyncDispersion : Nat → BitVec 32

/-- The info under which a cookie generation is derived from the service master (R335 names HKDF, and no info). -/
opaque genInfo : Nat → List (BitVec 8)

/-- e × 2^64, rounded down, for the margin of R340. -/
def eulerQ64 : Nat := 50143449209799256682

/-- A word of a Pip's instruction store beyond the instructions that its image gives (R388 gives no content): by Pip and index. -/
opaque imemFill : Nat → Nat → BitVec 32

/-- The words of RECV's four that the message does not give (R379 names none): by free-value counter. -/
opaque inboxPad : Nat → BitVec 32

/-- Pip cycles until the fabric answers a PEEK or POKE (R380: within 200 ns): by free-value counter. -/
opaque fabricCycles : Nat → Fin 126

/-- The parity element of the IEEE 1344 extension (R395 gives no rule for it): of the data elements before it. -/
opaque irigParity : List Bool → Bool

/-- The IEEE 1344 time-quality code for a bound above 10 s (R395 gives none): by the bound in ps. -/
opaque timeQuality : Nat → Fin 16

/-- The image-key hash fused at manufacture (R508), 48 bytes. -/
opaque imageKeyHash : List (BitVec 8)

/-- Indirect domains that the spec describes no further (R46): the number of words of a domain, and a word of it before anything is stored. -/
opaque indSize : Nat → Nat
opaque indWord : Nat → Nat → BitVec 32

/-- What p1 holds when a frame that matched no rule is called for (R381 gives no rule number for it): by free-value counter. -/
opaque noRule : Nat → BitVec 32

/-- The sections of a pushed boot image, by its bytes: the spec gives the section types (R508) and no layout of the base set, the overlays or the
matrix. -/
opaque imageSections : List (BitVec 8) → Option BootSections

/-- What the known-answer tests of a boot from a pushed image give, and the milliseconds to READY: by free-value counter. -/
opaque selftestOk : Nat → Bool
opaque bootMs : Nat → Nat

/-- How the slots of an engine's lanes in service fall in categories 1 to 5 of R488 over a stretch of CCLK cycles (the rest are IDLE): by
free-value counter and category. -/
opaque slotSplit : Nat → Nat → Nat

end Sys2Proof.Config
end

