-- ==== Sys2Proof/Machine/Bits.lean ====
section
/-! DEFINITION. Bit fields, two's complement readings, saturation and the check-value arithmetic that every block uses. -/

namespace Sys2Proof.Machine

/-- The field of `width` bits of `n` that starts at bit `lo`. -/
def bitsOf (n lo width : Nat) : Nat := n / 2 ^ lo % 2 ^ width

/-- `n` with the field of `width` bits at `lo` replaced by `v` (`v` taken modulo the width). -/
def withBits (n lo width v : Nat) : Nat :=
  n - bitsOf n lo width * 2 ^ lo + v % 2 ^ width * 2 ^ lo

/-- Bit `k` of `n`. -/
def bitAt (n k : Nat) : Bool := n.testBit k

/-- `n` with bit `k` set. -/
def setBitAt (n k : Nat) : Nat := n ||| 2 ^ k

/-- `n` with bit `k` cleared. -/
def clearBitAt (n k : Nat) : Nat := if n.testBit k then n - 2 ^ k else n

/-- `n` with bit `k` made equal to `b`. -/
def putBitAt (n k : Nat) (b : Bool) : Nat := if b then setBitAt n k else clearBitAt n k

/-- The two's complement reading of the low `w` bits of `n`. -/
def signedOf (w n : Nat) : Int :=
  let m := n % 2 ^ w
  if m < 2 ^ (w - 1) then (m : Int) else (m : Int) - 2 ^ w

/-- The two's complement word of `w` bits that stands for `i` (modulo 2^w). -/
def wordOf (w : Nat) (i : Int) : Nat := (i % (2 ^ w : Int)).toNat

/-- `i` limited to what a two's complement word of `w` bits can hold. -/
def satSigned (w : Nat) (i : Int) : Int :=
  max (-(2 ^ (w - 1) : Int)) (min i (2 ^ (w - 1) - 1))

/-- `n` limited to what `w` bits can hold. -/
def satNat (w n : Nat) : Nat := min n (2 ^ w - 1)

/-- `a / b` rounded upward; 0 where `b` is 0. -/
def ceilDiv (a b : Nat) : Nat := if b = 0 then 0 else (a + b - 1) / b

/-- The value of `n` held between `lo` and `hi` (R528). -/
def clampNat (lo hi n : Nat) : Nat := max lo (min n hi)

/-- The value of `i` held between `lo` and `hi`. -/
def clampInt (lo hi i : Int) : Int := max lo (min i hi)

/-- The indexes below `n` whose bit is set in `m`, ascending. -/
def setBits (n m : Nat) : List Nat := (List.range n).filter (fun k => m.testBit k)

/-- The mask that has exactly the bits of `l`. -/
def maskOf (l : List Nat) : Nat := l.foldl setBitAt 0

/-- The number of set bits of `m` below bit `n`. -/
def popCount (n m : Nat) : Nat := (setBits n m).length

/-- The index of the lowest set bit of `m` below bit `n`. -/
def lowestBit (n m : Nat) : Option Nat := (setBits n m).head?

/-- The bytes of a value, least significant first. -/
def leBytes : Nat → Nat → List Byte
  | 0, _ => []
  | k + 1, v => BitVec.ofNat 8 v :: leBytes k (v / 256)

/-- The value of bytes, the first least significant. -/
def fromLe : List Byte → Nat
  | [] => 0
  | b :: r => b.toNat + 256 * fromLe r

/-- The bytes of a value, most significant first. -/
def beBytes (k v : Nat) : List Byte := (leBytes k v).reverse

/-- The value of bytes, the first most significant. -/
def fromBe (l : List Byte) : Nat := fromLe l.reverse

/-- The low `w` bits of `n` in reverse order. -/
def reflectBits : Nat → Nat → Nat
  | 0, _ => 0
  | w + 1, n => (n % 2) * 2 ^ w + reflectBits w (n / 2)

/-- One bit of a reflected CRC register of any width: shift right, and add the reflected polynomial when a one falls out. -/
def crcShift (poly r : Nat) : Nat := if r % 2 = 1 then (r / 2) ^^^ poly else r / 2

/-- `k` shifts of `crcShift`. -/
def crcShifts (poly : Nat) : Nat → Nat → Nat
  | 0, r => r
  | k + 1, r => crcShifts poly k (crcShift poly r)

/-- One byte through a reflected CRC register (least significant bit first). -/
def crcByte (poly r : Nat) (b : Byte) : Nat := crcShifts poly 8 (r ^^^ b.toNat)

/-- Bytes through a reflected CRC register. -/
def crcBytes (poly r : Nat) (l : List Byte) : Nat := l.foldl (crcByte poly) r

/-- The CRC-32C polynomial 0x1EDC_6F41 in reflected form (R53). -/
def crc32cPoly : Nat := 0x82F63B78

/-- CRC-32C with initial value 0xFFFF_FFFF and final inversion (R457). -/
def crc32c (l : List Byte) : Nat := crcBytes crc32cPoly 0xFFFFFFFF l ^^^ 0xFFFFFFFF

/-- The element of a list at `k`, or the default given. -/
def nth {α : Type} (d : α) (l : List α) (k : Nat) : α := l.getD k d

/-- The list with the element at `k` replaced by `f` of it. -/
def modAt {α : Type} (l : List α) (k : Nat) (f : α → α) : List α := l.modify k f

end Sys2Proof.Machine
end

