-- ==== Sys2Proof/Machine/RegMap.lean ====
section
/-! DEFINITION. The register map: one row per register (or run of registers) of the spec, page by page, with the access
masks of R38, the configuration class of R51, the secure marking of R35 and the value after a chip reset (R40).
The rows are written from the register tables and field tables of the chapters, and from the header table of R36. -/

namespace Sys2Proof.Machine

/-- One register, or a run of `count` registers `stride` bytes apart, of a page (R36, R38, R51). `rw`, `rwl`, `w1c`, `wo` and `rsv`
are the bits of each access type; every other bit is RO. `reset` lists the reset values along the run; the last one repeats. -/
structure RegRow where
  off : Nat
  count : Nat
  stride : Nat
  rw : Nat
  rwl : Nat
  w1c : Nat
  wo : Nat
  rsv : Nat
  cfg : Bool
  sec : Bool
  reset : List Nat
  deriving DecidableEq, Repr

/-- Page 0x000 (SYS). -/
def rowsSYS000 : List RegRow :=
  [⟨0x4, 1, 0x4, 0x0, 0x0, 0x0, 0x0, 0x0, false, false, [0x0]⟩,
   ⟨0x8, 1, 0x4, 0x10, 0x0, 0x0, 0x0, 0x0, true, false, [0x0]⟩,
   ⟨0xC, 1, 0x4, 0x0, 0x0, 0x0, 0x0, 0x0, false, false, [0x0]⟩,
   ⟨0x10, 1, 0x4, 0x0, 0x0, 0x0, 0x0, 0x0, false, false, [0x0]⟩,
   ⟨0x14, 1, 0x4, 0xFFFFFFFF, 0x0, 0x0, 0x0, 0x0, true, false, [0x0]⟩,
   ⟨0x18, 1, 0x4, 0x0, 0x0, 0x0, 0x0, 0x0, false, false, [0x0]⟩,
   ⟨0x1C, 1, 0x4, 0x0, 0xFFFFFFFF, 0x0, 0x0, 0x0, true, false, [0x0]⟩,
   ⟨0x20, 1, 0x4, 0x0, 0x0, 0x0, 0x80000000, 0x0, false, false, [0x0]⟩,
   ⟨0x24, 7, 0x4, 0x0, 0x0, 0x0, 0x0, 0xFFFFFFFF, true, false, [0x0]⟩,
   ⟨0x44, 1, 0x4, 0x0, 0x1, 0x0, 0x0, 0x0, false, false, [0x0]⟩,
   ⟨0x48, 1, 0x4, 0x0, 0x0, 0x0, 0x0, 0x0, false, false, [0x0]⟩,
   ⟨0x4C, 1, 0x4, 0x0, 0x0, 0x0, 0x0, 0x0, false, false, [0x0]⟩,
   ⟨0x50, 1, 0x4, 0x0, 0x0, 0x0, 0x0, 0x0, false, false, [0x0]⟩,
   ⟨0x54, 1, 0x4, 0x0, 0x0, 0x0, 0x0, 0x0, false, false, [0x0]⟩,
   ⟨0x58, 1, 0x4, 0x0, 0x0, 0x0, 0x0, 0x0, false, false, [0x0]⟩,
   ⟨0x5C, 1, 0x4, 0x0, 0x0, 0x0, 0x0, 0x0, false, false, [0x0]⟩,
   ⟨0x60, 1, 0x4, 0x0, 0x0, 0x0, 0xFFFFFFFF, 0x0, false, false, [0x0]⟩,
   ⟨0x64, 1, 0x4, 0x0, 0x0, 0x0, 0x1, 0x0, false, false, [0x0]⟩]

/-- Page 0x001 (CFG). -/
def rowsCFG001 : List RegRow :=
  [⟨0x4, 1, 0x4, 0x0, 0x0, 0x0, 0x0, 0x0, false, false, [0x0]⟩,
   ⟨0x8, 1, 0x4, 0x0, 0x0, 0x0, 0xF, 0xFFFFFFF0, true, false, [0x0]⟩,
   ⟨0xC, 1, 0x4, 0x0, 0x0, 0x0, 0x0, 0x0, false, false, [0x0]⟩,
   ⟨0x10, 1, 0x4, 0x0, 0x0, 0x7, 0x0, 0x0, false, false, [0x0]⟩,
   ⟨0x14, 1, 0x4, 0xFFFFFFFF, 0x0, 0x0, 0x0, 0x0, true, false, [0x0]⟩,
   ⟨0x18, 1, 0x4, 0x0, 0x0, 0x0, 0x7, 0x0, false, false, [0x0]⟩,
   ⟨0x1C, 1, 0x4, 0x0, 0xFFFFFFFF, 0x0, 0x0, 0x0, true, false, [0x0]⟩,
   ⟨0x20, 1, 0x4, 0x0, 0x0, 0x0, 0x80000000, 0x0, false, false, [0x0]⟩,
   ⟨0x24, 7, 0x4, 0x0, 0x0, 0x0, 0x0, 0xFFFFFFFF, true, false, [0x0]⟩,
   ⟨0x40, 1, 0x4, 0xFFFF, 0x0, 0x0, 0x0, 0x0, false, false, [0x0]⟩,
   ⟨0x44, 1, 0x4, 0x0, 0x0, 0x0, 0x0, 0x0, false, false, [0x0]⟩,
   ⟨0x48, 1, 0x4, 0x0, 0x0, 0x0, 0x0, 0x0, false, false, [0x0]⟩,
   ⟨0x4C, 1, 0x4, 0xFFFF, 0x0, 0x0, 0x0, 0x0, true, false, [0x3E8]⟩,
   ⟨0x50, 1, 0x4, 0x0, 0x0, 0x0, 0x0, 0x0, false, false, [0x4800]⟩,
   ⟨0x54, 1, 0x4, 0x0, 0x0, 0x0, 0x0, 0x0, false, false, [0x0]⟩,
   ⟨0x58, 1, 0x4, 0x0, 0x0, 0x0, 0x0, 0x0, false, false, [0x0]⟩,
   ⟨0x5C, 1, 0x4, 0x0, 0x0, 0x0, 0x0, 0x0, false, false, [0x0]⟩,
   ⟨0x60, 1, 0x4, 0x0, 0x0, 0x0, 0x0, 0x0, false, false, [0x0]⟩,
   ⟨0x64, 1, 0x4, 0x0, 0x0, 0x0, 0x0, 0x0, false, false, [0x0]⟩,
   ⟨0x80, 8, 0x4, 0x0, 0x0, 0x0, 0x0, 0x0, false, false, [0x0]⟩] ++
  [⟨0xC0, 16, 0x4, 0x0, 0x0, 0x0, 0x0, 0x0, false, false, [0x0]⟩]

/-- Page 0x002 (IND). -/
def rowsIND002 : List RegRow :=
  [⟨0x4, 1, 0x4, 0x0, 0x0, 0x0, 0x0, 0x0, false, false, [0x0]⟩,
   ⟨0x8, 1, 0x4, 0x0, 0x0, 0x0, 0x0, 0xFFFFFFFF, true, false, [0x0]⟩,
   ⟨0xC, 1, 0x4, 0x0, 0x0, 0x0, 0x0, 0x0, false, false, [0x0]⟩,
   ⟨0x10, 1, 0x4, 0x0, 0x0, 0x0, 0x0, 0x0, false, false, [0x0]⟩,
   ⟨0x14, 1, 0x4, 0xFFFFFFFF, 0x0, 0x0, 0x0, 0x0, true, false, [0x0]⟩,
   ⟨0x18, 1, 0x4, 0x0, 0x0, 0x0, 0x0, 0x0, false, false, [0x0]⟩,
   ⟨0x1C, 1, 0x4, 0x0, 0xFFFFFFFF, 0x0, 0x0, 0x0, true, false, [0x0]⟩,
   ⟨0x20, 1, 0x4, 0x0, 0x0, 0x0, 0x80000000, 0x0, false, false, [0x0]⟩,
   ⟨0x24, 7, 0x4, 0x0, 0x0, 0x0, 0x0, 0xFFFFFFFF, true, false, [0x0]⟩,
   ⟨0x40, 4, 0x10, 0xFFFFFFFF, 0x0, 0x0, 0x0, 0x0, false, false, [0x0]⟩,
   ⟨0x44, 4, 0x10, 0xFFFFFFFF, 0x0, 0x0, 0x0, 0x0, false, false, [0x0]⟩,
   ⟨0x48, 4, 0x10, 0x103, 0x0, 0x0, 0x0, 0x0, false, false, [0x0]⟩,
   ⟨0x4C, 4, 0x10, 0x0, 0x0, 0x2, 0x0, 0x0, false, false, [0x0, 0x0, 0xFF00, 0x0]⟩]

/-- Page 0x004 (TC). -/
def rowsTC004 : List RegRow :=
  [⟨0x4, 1, 0x4, 0x0, 0x0, 0x0, 0x0, 0x0, false, false, [0x0]⟩,
   ⟨0x8, 1, 0x4, 0x6, 0x0, 0x0, 0x0, 0xFFFFFFF9, true, false, [0x2]⟩,
   ⟨0xC, 1, 0x4, 0x0, 0x0, 0x0, 0x0, 0x0, false, false, [0x100]⟩,
   ⟨0x10, 1, 0x4, 0x0, 0x0, 0xFFFF, 0x0, 0x0, false, false, [0x0]⟩,
   ⟨0x14, 1, 0x4, 0xFFFFFFFF, 0x0, 0x0, 0x0, 0x0, true, false, [0x0]⟩,
   ⟨0x18, 1, 0x4, 0x0, 0x0, 0x0, 0xFFFF, 0x0, false, false, [0x0]⟩,
   ⟨0x1C, 1, 0x4, 0x0, 0xFFFFFFFF, 0x0, 0x0, 0x0, true, false, [0x0]⟩,
   ⟨0x20, 1, 0x4, 0x0, 0x0, 0x0, 0x80000000, 0x0, false, false, [0x0]⟩,
   ⟨0x24, 7, 0x4, 0x0, 0x0, 0x0, 0x0, 0xFFFFFFFF, true, false, [0x0]⟩,
   ⟨0x40, 1, 0x4, 0x0, 0x0, 0x0, 0x0, 0x0, false, false, [0x0]⟩,
   ⟨0x44, 1, 0x4, 0x0, 0x0, 0x0, 0x0, 0x0, false, false, [0x0]⟩,
   ⟨0x48, 1, 0x4, 0x0, 0x0, 0x0, 0x0, 0x0, false, false, [0x0]⟩,
   ⟨0x4C, 1, 0x4, 0x0, 0x0, 0x0, 0x0, 0x0, false, false, [0x0]⟩,
   ⟨0x50, 1, 0x4, 0x0, 0x0, 0x0, 0x0, 0x0, false, false, [0x0]⟩,
   ⟨0x54, 1, 0x4, 0x0, 0x0, 0x0, 0x0, 0x0, false, false, [0x10000]⟩,
   ⟨0x58, 1, 0x4, 0xFFFFFFFF, 0x0, 0x0, 0x0, 0x0, false, false, [0x0]⟩,
   ⟨0x5C, 1, 0x4, 0xFFFFFFFF, 0x0, 0x0, 0x0, 0x0, false, false, [0x10000]⟩,
   ⟨0x60, 1, 0x4, 0xFFFFFFFF, 0x0, 0x0, 0x0, 0x0, false, false, [0x0]⟩,
   ⟨0x64, 1, 0x4, 0xFFFFFFFF, 0x0, 0x0, 0x0, 0x0, false, false, [0x0]⟩,
   ⟨0x68, 1, 0x4, 0x7FFFFFF, 0x0, 0x0, 0x0, 0x0, true, false, [0x186A0]⟩] ++
  [⟨0x70, 1, 0x4, 0xFFFFFFFF, 0x0, 0x0, 0x0, 0x0, false, false, [0x0]⟩,
   ⟨0x74, 1, 0x4, 0x3FFFFFFF, 0x0, 0x0, 0x0, 0x0, false, false, [0x0]⟩,
   ⟨0x78, 1, 0x4, 0xFFFFFFFF, 0x0, 0x0, 0x0, 0x0, false, false, [0x0]⟩,
   ⟨0x7C, 1, 0x4, 0x8000FFFF, 0x0, 0x0, 0x0, 0x0, false, false, [0x0]⟩,
   ⟨0x80, 1, 0x4, 0x4, 0x0, 0x0, 0x3, 0xFFFFFFF8, false, false, [0x0]⟩,
   ⟨0x84, 1, 0x4, 0xFFFFFFFF, 0x0, 0x0, 0x0, 0x0, true, false, [0xF4240]⟩,
   ⟨0x88, 1, 0x4, 0xFFFF, 0x0, 0x0, 0x0, 0x0, true, false, [0xA]⟩,
   ⟨0x8C, 1, 0x4, 0x0, 0x0, 0x0, 0x0, 0x0, false, false, [0xCCCCCCCC]⟩,
   ⟨0x90, 1, 0x4, 0x0, 0x0, 0x0, 0x0, 0x0, false, false, [0xCCCC]⟩,
   ⟨0xA0, 1, 0x4, 0xFFFF, 0x0, 0x0, 0x0, 0x0, false, false, [0x0]⟩,
   ⟨0xA4, 1, 0x4, 0xFFFF, 0x0, 0x0, 0x0, 0x0, false, false, [0x0]⟩,
   ⟨0xA8, 1, 0x4, 0xFFFFFFFF, 0x0, 0x0, 0x0, 0x0, false, false, [0x0]⟩,
   ⟨0xAC, 1, 0x4, 0xFFFF, 0x0, 0x0, 0x0, 0x0, false, false, [0x0]⟩,
   ⟨0xB0, 1, 0x4, 0xFFFFF, 0x0, 0x0, 0x0, 0x0, true, false, [0x15180]⟩,
   ⟨0xB4, 1, 0x4, 0x0, 0x0, 0x0, 0x3, 0x0, false, false, [0x0]⟩,
   ⟨0xB8, 1, 0x4, 0x0, 0x0, 0x0, 0x0, 0x0, false, false, [0x0]⟩,
   ⟨0xC0, 1, 0x4, 0x0, 0x0, 0x0, 0x0, 0x0, false, false, [0x0]⟩]

/-- Page 0x005 (TC). -/
def rowsTC005 : List RegRow :=
  [⟨0x4, 1, 0x4, 0x0, 0x0, 0x0, 0x0, 0x0, false, false, [0x0]⟩,
   ⟨0x8, 1, 0x4, 0x0, 0x0, 0x0, 0x0, 0xFFFFFFFF, true, false, [0x0]⟩,
   ⟨0xC, 1, 0x4, 0x0, 0x0, 0x0, 0x0, 0x0, false, false, [0x0]⟩,
   ⟨0x10, 1, 0x4, 0x0, 0x0, 0x0, 0x0, 0x0, false, false, [0x0]⟩,
   ⟨0x14, 1, 0x4, 0xFFFFFFFF, 0x0, 0x0, 0x0, 0x0, true, false, [0x0]⟩,
   ⟨0x18, 1, 0x4, 0x0, 0x0, 0x0, 0x0, 0x0, false, false, [0x0]⟩,
   ⟨0x1C, 1, 0x4, 0x0, 0xFFFFFFFF, 0x0, 0x0, 0x0, true, false, [0x0]⟩,
   ⟨0x20, 1, 0x4, 0x0, 0x0, 0x0, 0x80000000, 0x0, false, false, [0x0]⟩,
   ⟨0x24, 7, 0x4, 0x0, 0x0, 0x0, 0x0, 0xFFFFFFFF, true, false, [0x0]⟩,
   ⟨0x40, 32, 0x20, 0xFF01, 0x0, 0x0, 0x0, 0xFFFF00FE, true, false, [0x0]⟩,
   ⟨0x44, 32, 0x20, 0x0, 0x0, 0x0, 0x3, 0x0, false, false, [0x0]⟩,
   ⟨0x48, 32, 0x20, 0x3FFFFFFF, 0x0, 0x0, 0x0, 0x0, false, false, [0x0]⟩,
   ⟨0x4C, 32, 0x20, 0xFFFFFFFF, 0x0, 0x0, 0x0, 0x0, false, false, [0x0]⟩,
   ⟨0x50, 32, 0x20, 0xFFFFFFFF, 0x0, 0x0, 0x0, 0x0, false, false, [0x0]⟩,
   ⟨0x54, 32, 0x20, 0x3FFFFFFF, 0x0, 0x0, 0x0, 0x0, false, false, [0x0]⟩,
   ⟨0x58, 32, 0x20, 0xFFFF, 0x0, 0x0, 0x0, 0x0, false, false, [0x0]⟩,
   ⟨0x5C, 32, 0x20, 0x0, 0x0, 0xE, 0x0, 0x0, false, false, [0x0]⟩]

/-- Page 0x006 (TC). -/
def rowsTC006 : List RegRow :=
  [⟨0x4, 1, 0x4, 0x0, 0x0, 0x0, 0x0, 0x0, false, false, [0x0]⟩,
   ⟨0x8, 1, 0x4, 0x0, 0x0, 0x0, 0x0, 0xFFFFFFFF, true, false, [0x0]⟩,
   ⟨0xC, 1, 0x4, 0x0, 0x0, 0x0, 0x0, 0x0, false, false, [0x0]⟩,
   ⟨0x10, 1, 0x4, 0x0, 0x0, 0x0, 0x0, 0x0, false, false, [0x0]⟩,
   ⟨0x14, 1, 0x4, 0xFFFFFFFF, 0x0, 0x0, 0x0, 0x0, true, false, [0x0]⟩,
   ⟨0x18, 1, 0x4, 0x0, 0x0, 0x0, 0x0, 0x0, false, false, [0x0]⟩,
   ⟨0x1C, 1, 0x4, 0x0, 0xFFFFFFFF, 0x0, 0x0, 0x0, true, false, [0x0]⟩,
   ⟨0x20, 1, 0x4, 0x0, 0x0, 0x0, 0x80000000, 0x0, false, false, [0x0]⟩,
   ⟨0x24, 7, 0x4, 0x0, 0x0, 0x0, 0x0, 0xFFFFFFFF, true, false, [0x0]⟩,
   ⟨0x40, 8, 0x20, 0x1F07, 0x0, 0x0, 0x0, 0x0, true, false, [0x0]⟩,
   ⟨0x44, 8, 0x20, 0x0, 0x0, 0x0, 0x1, 0x0, false, false, [0x0]⟩,
   ⟨0x48, 8, 0x20, 0x0, 0x0, 0x0, 0x0, 0x0, false, false, [0x0]⟩,
   ⟨0x4C, 8, 0x20, 0x0, 0x0, 0x0, 0x0, 0x0, false, false, [0x0]⟩,
   ⟨0x50, 8, 0x20, 0x0, 0x0, 0x0, 0x0, 0x0, false, false, [0x0]⟩,
   ⟨0x54, 8, 0x20, 0x0, 0x0, 0x0, 0x0, 0x0, false, false, [0x0]⟩]

/-- Page 0x007 (TC). -/
def rowsTC007 : List RegRow :=
  [⟨0x4, 1, 0x4, 0x0, 0x0, 0x0, 0x0, 0x0, false, false, [0x0]⟩,
   ⟨0x8, 1, 0x4, 0x0, 0x0, 0x0, 0x0, 0xFFFFFFFF, true, false, [0x0]⟩,
   ⟨0xC, 1, 0x4, 0x0, 0x0, 0x0, 0x0, 0x0, false, false, [0x0]⟩,
   ⟨0x10, 1, 0x4, 0x0, 0x0, 0x0, 0x0, 0x0, false, false, [0x0]⟩,
   ⟨0x14, 1, 0x4, 0xFFFFFFFF, 0x0, 0x0, 0x0, 0x0, true, false, [0x0]⟩,
   ⟨0x18, 1, 0x4, 0x0, 0x0, 0x0, 0x0, 0x0, false, false, [0x0]⟩,
   ⟨0x1C, 1, 0x4, 0x0, 0xFFFFFFFF, 0x0, 0x0, 0x0, true, false, [0x0]⟩,
   ⟨0x20, 1, 0x4, 0x0, 0x0, 0x0, 0x80000000, 0x0, false, false, [0x0]⟩,
   ⟨0x24, 7, 0x4, 0x0, 0x0, 0x0, 0x0, 0xFFFFFFFF, true, false, [0x0]⟩,
   ⟨0x40, 16, 0x10, 0x0, 0x0, 0x0, 0x0, 0x0, false, false, [0x0]⟩,
   ⟨0x44, 16, 0x10, 0x0, 0x0, 0x0, 0x0, 0x0, false, false, [0x0]⟩,
   ⟨0x48, 16, 0x10, 0x0, 0x0, 0x0, 0x0, 0x0, false, false, [0x0]⟩,
   ⟨0x4C, 16, 0x10, 0x0, 0x0, 0x0, 0x0, 0x0, false, false, [0x0]⟩,
   ⟨0x180, 16, 0x4, 0x0, 0x0, 0x0, 0x0, 0x0, false, false, [0x0]⟩]

/-- Page 0x008 (WHL). -/
def rowsWHL008 : List RegRow :=
  [⟨0x4, 1, 0x4, 0x0, 0x0, 0x0, 0x0, 0x0, false, false, [0x0]⟩,
   ⟨0x8, 1, 0x4, 0x0, 0x0, 0x0, 0x0, 0xFFFFFFFF, true, false, [0x0]⟩,
   ⟨0xC, 1, 0x4, 0x0, 0x0, 0x0, 0x0, 0x0, false, false, [0x0]⟩,
   ⟨0x10, 1, 0x4, 0x0, 0x0, 0x7F, 0x0, 0x0, false, false, [0x0]⟩,
   ⟨0x14, 1, 0x4, 0xFFFFFFFF, 0x0, 0x0, 0x0, 0x0, true, false, [0x0]⟩,
   ⟨0x18, 1, 0x4, 0x0, 0x0, 0x0, 0x7F, 0x0, false, false, [0x0]⟩,
   ⟨0x1C, 1, 0x4, 0x0, 0xFFFFFFFF, 0x0, 0x0, 0x0, true, false, [0x0]⟩,
   ⟨0x20, 1, 0x4, 0x0, 0x0, 0x0, 0x80000000, 0x0, false, false, [0x0]⟩,
   ⟨0x24, 7, 0x4, 0x0, 0x0, 0x0, 0x0, 0xFFFFFFFF, true, false, [0x0]⟩,
   ⟨0x40, 1, 0x4, 0x0, 0x0, 0x0, 0x0, 0x0, false, false, [0x0]⟩,
   ⟨0x44, 1, 0x4, 0x0, 0x0, 0x0, 0x0, 0x0, false, false, [0x0]⟩,
   ⟨0x48, 1, 0x4, 0x0, 0x0, 0x0, 0x0, 0x0, false, false, [0x0]⟩,
   ⟨0x4C, 1, 0x4, 0x0, 0x0, 0x0, 0x0, 0x0, false, false, [0x0]⟩,
   ⟨0x50, 1, 0x4, 0x0, 0x0, 0x0, 0x0, 0x0, false, false, [0x0]⟩,
   ⟨0x54, 1, 0x4, 0x0, 0x0, 0x0, 0x0, 0x0, false, false, [0x0]⟩,
   ⟨0x58, 1, 0x4, 0x0, 0x0, 0x0, 0x0, 0x0, false, false, [0x0]⟩,
   ⟨0x5C, 1, 0x4, 0x0, 0x0, 0x0, 0x0, 0x0, false, false, [0x48]⟩,
   ⟨0x60, 1, 0x4, 0xFFFFFFFF, 0x0, 0x0, 0x0, 0x0, true, false, [0x2710000]⟩,
   ⟨0x64, 1, 0x4, 0x0, 0x0, 0x0, 0x0, 0x0, false, false, [0x2710000]⟩,
   ⟨0x100, 15, 0x20, 0xFFFFFFFF, 0x0, 0x0, 0x0, 0x0, true, false, [0x4E20, 0x10000, 0xAAE60, 0x30D40, 0x8000, 0x10000, 0x186A0, 0x100, 0x1000, 0x2, 0x40000, 0x2D000, 0x1, 0x1000, 0x10]⟩] ++
  [⟨0x104, 15, 0x20, 0xFFFFFFFF, 0x0, 0x0, 0x0, 0x0, true, false, [0x30D40, 0x400000, 0x7A1200, 0x3D0900, 0x20000, 0x16E3600, 0x25F4CC, 0x200, 0x10000, 0x8, 0x800000, 0x4BE99, 0x20, 0x10000, 0x1000]⟩,
   ⟨0x108, 15, 0x20, 0x1, 0x0, 0x0, 0x0, 0x0, true, false, [0x0, 0x1, 0x1, 0x1, 0x1, 0x0, 0x0, 0x0, 0x0, 0x0, 0x0, 0x0, 0x0, 0x1, 0x0]⟩,
   ⟨0x10C, 15, 0x20, 0x0, 0x0, 0x0, 0x0, 0x0, false, false, [0x0]⟩,
   ⟨0x110, 15, 0x20, 0x0, 0x0, 0x0, 0x0, 0x0, false, false, [0x0]⟩,
   ⟨0x114, 15, 0x20, 0x0, 0x0, 0x0, 0x0, 0x0, false, false, [0x0]⟩,
   ⟨0x118, 15, 0x20, 0x0, 0x0, 0x0, 0x0, 0x0, false, false, [0x0]⟩,
   ⟨0x11C, 15, 0x20, 0x0, 0x0, 0x1, 0x0, 0x0, false, false, [0x0]⟩,
   ⟨0x2E0, 1, 0x4, 0x0, 0x0, 0x0, 0x0, 0x0, true, false, [0x0]⟩,
   ⟨0x2E4, 1, 0x4, 0x0, 0x0, 0x0, 0x0, 0x0, true, false, [0x0]⟩,
   ⟨0x2E8, 1, 0x4, 0x0, 0x0, 0x0, 0x0, 0x0, true, false, [0x0]⟩,
   ⟨0x2EC, 1, 0x4, 0x0, 0x0, 0x0, 0x0, 0x0, false, false, [0x0]⟩,
   ⟨0x2F0, 1, 0x4, 0x0, 0x0, 0x0, 0x0, 0x0, false, false, [0x0]⟩,
   ⟨0x2F4, 1, 0x4, 0x0, 0x0, 0x0, 0x0, 0x0, false, false, [0x0]⟩,
   ⟨0x2F8, 1, 0x4, 0x0, 0x0, 0x0, 0x0, 0x0, false, false, [0x0]⟩,
   ⟨0x2FC, 1, 0x4, 0x0, 0x0, 0x0, 0x0, 0x0, false, false, [0x0]⟩,
   ⟨0x300, 15, 0x8, 0x0, 0x0, 0x0, 0x0, 0x0, false, false, [0x4E20, 0x10000, 0xAAE60, 0x30D40, 0x8000, 0x10000, 0x186A0, 0x100, 0x1000, 0x2, 0x40000, 0x2D000, 0x1, 0x1000, 0x10]⟩,
   ⟨0x304, 15, 0x8, 0x0, 0x0, 0x0, 0x0, 0x0, false, false, [0x30D40, 0x400000, 0x7A1200, 0x3D0900, 0x20000, 0x16E3600, 0x25F4CC, 0x200, 0x10000, 0x8, 0x800000, 0x4BE99, 0x20, 0x10000, 0x1000]⟩,
   ⟨0x378, 1, 0x4, 0x0, 0x0, 0x0, 0x0, 0x0, false, false, [0x0]⟩,
   ⟨0x37C, 1, 0x4, 0x0, 0x0, 0x0, 0x0, 0x0, false, false, [0x0]⟩,
   ⟨0x400, 32, 0x10, 0x7FFFFFF, 0x0, 0x0, 0x0, 0x0, true, false, [0x0]⟩] ++
  [⟨0x404, 32, 0x10, 0x7FFFFFF, 0x0, 0x0, 0x0, 0x0, true, false, [0x0]⟩,
   ⟨0x408, 32, 0x10, 0x80FFFFFF, 0x0, 0x0, 0x0, 0x7F000000, true, false, [0x0]⟩,
   ⟨0x40C, 32, 0x10, 0x0, 0x0, 0x1, 0x0, 0x0, false, false, [0x0]⟩]

/-- Pages 0x010, 0x011, 0x016, 0x017 (RS). -/
def rowsRS010 : List RegRow :=
  [⟨0x4, 1, 0x4, 0x0, 0x0, 0x0, 0x0, 0x0, false, false, [0x0]⟩,
   ⟨0x8, 1, 0x4, 0x0, 0x0, 0x0, 0x0, 0xFFFFFFFF, true, false, [0x0]⟩,
   ⟨0xC, 1, 0x4, 0x0, 0x0, 0x0, 0x0, 0x0, false, false, [0x0]⟩,
   ⟨0x10, 1, 0x4, 0x0, 0x0, 0xFF, 0x0, 0x0, false, false, [0x0]⟩,
   ⟨0x14, 1, 0x4, 0xFFFFFFFF, 0x0, 0x0, 0x0, 0x0, true, false, [0x0]⟩,
   ⟨0x18, 1, 0x4, 0x0, 0x0, 0x0, 0xFF, 0x0, false, false, [0x0]⟩,
   ⟨0x1C, 1, 0x4, 0x0, 0xFFFFFFFF, 0x0, 0x0, 0x0, true, false, [0x0]⟩,
   ⟨0x20, 1, 0x4, 0x0, 0x0, 0x0, 0x80000000, 0x0, false, false, [0x0]⟩,
   ⟨0x24, 7, 0x4, 0x0, 0x0, 0x0, 0x0, 0xFFFFFFFF, true, false, [0x0]⟩,
   ⟨0x40, 1, 0x4, 0xFC0F01, 0x0, 0x0, 0x0, 0xFF03F0FE, true, false, [0x800]⟩,
   ⟨0x44, 1, 0x4, 0x0, 0x0, 0x0, 0x0, 0x0, false, false, [0x0]⟩,
   ⟨0x48, 1, 0x4, 0x0, 0x0, 0x0, 0x0, 0x0, false, false, [0x0]⟩,
   ⟨0x4C, 1, 0x4, 0x0, 0x0, 0x0, 0x0, 0x0, false, false, [0x0]⟩,
   ⟨0x50, 1, 0x4, 0x0, 0x0, 0x0, 0x0, 0x0, false, false, [0x0]⟩,
   ⟨0x54, 1, 0x4, 0x0, 0x0, 0x0, 0x0, 0x0, false, false, [0x0]⟩,
   ⟨0x58, 1, 0x4, 0x0, 0x0, 0x0, 0x0, 0x0, false, false, [0x0]⟩,
   ⟨0x5C, 1, 0x4, 0x0, 0x0, 0x0, 0x0, 0x0, false, false, [0x0]⟩,
   ⟨0x60, 1, 0x4, 0x0, 0x0, 0x0, 0x0, 0x0, false, false, [0x0]⟩,
   ⟨0x64, 1, 0x4, 0x0, 0x0, 0x0, 0x0, 0x0, false, false, [0x0]⟩,
   ⟨0x68, 1, 0x4, 0x0, 0x0, 0x0, 0x7, 0x0, false, false, [0x0]⟩] ++
  [⟨0x80, 1, 0x4, 0xFFFFF, 0x0, 0x0, 0x0, 0x0, true, false, [0x1388]⟩,
   ⟨0x84, 1, 0x4, 0xFFFFF, 0x0, 0x0, 0x0, 0x0, true, false, [0x2710]⟩,
   ⟨0x88, 1, 0x4, 0x3FFF, 0x0, 0x0, 0x0, 0x0, true, false, [0x1F4]⟩,
   ⟨0x8C, 1, 0x4, 0xFFFFFFFF, 0x0, 0x0, 0x0, 0x0, true, false, [0x1E8480]⟩,
   ⟨0x90, 1, 0x4, 0xFFFFFFFF, 0x0, 0x0, 0x0, 0x0, true, false, [0xC350]⟩,
   ⟨0x94, 1, 0x4, 0xFFFFFFFF, 0x0, 0x0, 0x0, 0x0, true, false, [0xF4240]⟩,
   ⟨0x98, 1, 0x4, 0xFFFFFFFF, 0x0, 0x0, 0x0, 0x0, true, false, [0x186A0]⟩,
   ⟨0x9C, 1, 0x4, 0xFFFFFFFF, 0x0, 0x0, 0x0, 0x0, true, false, [0xF4240]⟩,
   ⟨0xA0, 1, 0x4, 0xFFFF, 0x0, 0x0, 0x0, 0x0, true, false, [0x1E]⟩,
   ⟨0xA4, 1, 0x4, 0xFFFFFFFF, 0x0, 0x0, 0x0, 0x0, true, false, [0x3E8]⟩,
   ⟨0xA8, 1, 0x4, 0xFFFF, 0x0, 0x0, 0x0, 0x0, true, false, [0x12C]⟩,
   ⟨0xAC, 1, 0x4, 0xFFFFFFFF, 0x0, 0x0, 0x0, 0x0, true, false, [0xC350]⟩,
   ⟨0xB0, 1, 0x4, 0xFFFF, 0x0, 0x0, 0x0, 0x0, true, false, [0x3C]⟩,
   ⟨0xB4, 1, 0x4, 0xFFFFFFFF, 0x0, 0x0, 0x0, 0x0, true, false, [0x186A0]⟩]

/-- Pages 0x012, 0x013, 0x014, 0x015 (RS). -/
def rowsRS012 : List RegRow :=
  [⟨0x4, 1, 0x4, 0x0, 0x0, 0x0, 0x0, 0x0, false, false, [0x0]⟩,
   ⟨0x8, 1, 0x4, 0x0, 0x0, 0x0, 0x0, 0xFFFFFFFF, true, false, [0x0]⟩,
   ⟨0xC, 1, 0x4, 0x0, 0x0, 0x0, 0x0, 0x0, false, false, [0x0]⟩,
   ⟨0x10, 1, 0x4, 0x0, 0x0, 0xFF, 0x0, 0x0, false, false, [0x0]⟩,
   ⟨0x14, 1, 0x4, 0xFFFFFFFF, 0x0, 0x0, 0x0, 0x0, true, false, [0x0]⟩,
   ⟨0x18, 1, 0x4, 0x0, 0x0, 0x0, 0xFF, 0x0, false, false, [0x0]⟩,
   ⟨0x1C, 1, 0x4, 0x0, 0xFFFFFFFF, 0x0, 0x0, 0x0, true, false, [0x0]⟩,
   ⟨0x20, 1, 0x4, 0x0, 0x0, 0x0, 0x80000000, 0x0, false, false, [0x0]⟩,
   ⟨0x24, 7, 0x4, 0x0, 0x0, 0x0, 0x0, 0xFFFFFFFF, true, false, [0x0]⟩,
   ⟨0x40, 1, 0x4, 0xFC0F71, 0x0, 0x0, 0x0, 0xFF03F08E, true, false, [0x800]⟩,
   ⟨0x44, 1, 0x4, 0x0, 0x0, 0x0, 0x0, 0x0, false, false, [0x0]⟩,
   ⟨0x48, 1, 0x4, 0x0, 0x0, 0x0, 0x0, 0x0, false, false, [0x0]⟩,
   ⟨0x4C, 1, 0x4, 0x0, 0x0, 0x0, 0x0, 0x0, false, false, [0x0]⟩,
   ⟨0x50, 1, 0x4, 0x0, 0x0, 0x0, 0x0, 0x0, false, false, [0x0]⟩,
   ⟨0x54, 1, 0x4, 0x0, 0x0, 0x0, 0x0, 0x0, false, false, [0x0]⟩,
   ⟨0x58, 1, 0x4, 0x0, 0x0, 0x0, 0x0, 0x0, false, false, [0x0]⟩,
   ⟨0x5C, 1, 0x4, 0x0, 0x0, 0x0, 0x0, 0x0, false, false, [0x0]⟩,
   ⟨0x60, 1, 0x4, 0x0, 0x0, 0x0, 0x0, 0x0, false, false, [0x0]⟩,
   ⟨0x64, 1, 0x4, 0x0, 0x0, 0x0, 0x0, 0x0, false, false, [0x0]⟩,
   ⟨0x68, 1, 0x4, 0x0, 0x0, 0x0, 0x7, 0x0, false, false, [0x0]⟩] ++
  [⟨0x80, 1, 0x4, 0xFFFFF, 0x0, 0x0, 0x0, 0x0, true, false, [0x1388]⟩,
   ⟨0x84, 1, 0x4, 0xFFFFF, 0x0, 0x0, 0x0, 0x0, true, false, [0x2710]⟩,
   ⟨0x88, 1, 0x4, 0x3FFF, 0x0, 0x0, 0x0, 0x0, true, false, [0x1F4]⟩,
   ⟨0x8C, 1, 0x4, 0xFFFFFFFF, 0x0, 0x0, 0x0, 0x0, true, false, [0x1E8480]⟩,
   ⟨0x90, 1, 0x4, 0xFFFFFFFF, 0x0, 0x0, 0x0, 0x0, true, false, [0xC350]⟩,
   ⟨0x94, 1, 0x4, 0xFFFFFFFF, 0x0, 0x0, 0x0, 0x0, true, false, [0xF4240]⟩,
   ⟨0x98, 1, 0x4, 0xFFFFFFFF, 0x0, 0x0, 0x0, 0x0, true, false, [0x186A0]⟩,
   ⟨0x9C, 1, 0x4, 0xFFFFFFFF, 0x0, 0x0, 0x0, 0x0, true, false, [0xF4240]⟩,
   ⟨0xA0, 1, 0x4, 0xFFFF, 0x0, 0x0, 0x0, 0x0, true, false, [0x1E]⟩,
   ⟨0xA4, 1, 0x4, 0xFFFFFFFF, 0x0, 0x0, 0x0, 0x0, true, false, [0x3E8]⟩,
   ⟨0xA8, 1, 0x4, 0xFFFF, 0x0, 0x0, 0x0, 0x0, true, false, [0x12C]⟩,
   ⟨0xAC, 1, 0x4, 0xFFFFFFFF, 0x0, 0x0, 0x0, 0x0, true, false, [0xC350]⟩,
   ⟨0xB0, 1, 0x4, 0xFFFF, 0x0, 0x0, 0x0, 0x0, true, false, [0x3C]⟩,
   ⟨0xB4, 1, 0x4, 0xFFFFFFFF, 0x0, 0x0, 0x0, 0x0, true, false, [0x186A0]⟩]

/-- Pages 0x018, 0x019, 0x01A (RS). -/
def rowsRS018 : List RegRow :=
  [⟨0x4, 1, 0x4, 0x0, 0x0, 0x0, 0x0, 0x0, false, false, [0x0]⟩,
   ⟨0x8, 1, 0x4, 0x0, 0x0, 0x0, 0x0, 0xFFFFFFFF, true, false, [0x0]⟩,
   ⟨0xC, 1, 0x4, 0x0, 0x0, 0x0, 0x0, 0x0, false, false, [0x0]⟩,
   ⟨0x10, 1, 0x4, 0x0, 0x0, 0xFF, 0x0, 0x0, false, false, [0x0]⟩,
   ⟨0x14, 1, 0x4, 0xFFFFFFFF, 0x0, 0x0, 0x0, 0x0, true, false, [0x0]⟩,
   ⟨0x18, 1, 0x4, 0x0, 0x0, 0x0, 0xFF, 0x0, false, false, [0x0]⟩,
   ⟨0x1C, 1, 0x4, 0x0, 0xFFFFFFFF, 0x0, 0x0, 0x0, true, false, [0x0]⟩,
   ⟨0x20, 1, 0x4, 0x0, 0x0, 0x0, 0x80000000, 0x0, false, false, [0x0]⟩,
   ⟨0x24, 7, 0x4, 0x0, 0x0, 0x0, 0x0, 0xFFFFFFFF, true, false, [0x0]⟩,
   ⟨0x40, 1, 0x4, 0xFCFF01, 0x0, 0x0, 0x0, 0xFF0300FE, true, false, [0x800]⟩,
   ⟨0x44, 1, 0x4, 0x0, 0x0, 0x0, 0x0, 0x0, false, false, [0x0]⟩,
   ⟨0x48, 1, 0x4, 0x0, 0x0, 0x0, 0x0, 0x0, false, false, [0x0]⟩,
   ⟨0x4C, 1, 0x4, 0x0, 0x0, 0x0, 0x0, 0x0, false, false, [0x0]⟩,
   ⟨0x50, 1, 0x4, 0x0, 0x0, 0x0, 0x0, 0x0, false, false, [0x0]⟩,
   ⟨0x54, 1, 0x4, 0x0, 0x0, 0x0, 0x0, 0x0, false, false, [0x0]⟩,
   ⟨0x58, 1, 0x4, 0x0, 0x0, 0x0, 0x0, 0x0, false, false, [0x0]⟩,
   ⟨0x5C, 1, 0x4, 0x0, 0x0, 0x0, 0x0, 0x0, false, false, [0x0]⟩,
   ⟨0x60, 1, 0x4, 0x0, 0x0, 0x0, 0x0, 0x0, false, false, [0x0]⟩,
   ⟨0x64, 1, 0x4, 0x0, 0x0, 0x0, 0x0, 0x0, false, false, [0x0]⟩,
   ⟨0x68, 1, 0x4, 0x0, 0x0, 0x0, 0x7, 0x0, false, false, [0x0]⟩] ++
  [⟨0x80, 1, 0x4, 0xFFFFF, 0x0, 0x0, 0x0, 0x0, true, false, [0x1388]⟩,
   ⟨0x84, 1, 0x4, 0xFFFFF, 0x0, 0x0, 0x0, 0x0, true, false, [0x2710]⟩,
   ⟨0x88, 1, 0x4, 0x3FFF, 0x0, 0x0, 0x0, 0x0, true, false, [0x1F4]⟩,
   ⟨0x8C, 1, 0x4, 0xFFFFFFFF, 0x0, 0x0, 0x0, 0x0, true, false, [0x1E8480]⟩,
   ⟨0x90, 1, 0x4, 0xFFFFFFFF, 0x0, 0x0, 0x0, 0x0, true, false, [0xC350]⟩,
   ⟨0x94, 1, 0x4, 0xFFFFFFFF, 0x0, 0x0, 0x0, 0x0, true, false, [0xF4240]⟩,
   ⟨0x98, 1, 0x4, 0xFFFFFFFF, 0x0, 0x0, 0x0, 0x0, true, false, [0x186A0]⟩,
   ⟨0x9C, 1, 0x4, 0xFFFFFFFF, 0x0, 0x0, 0x0, 0x0, true, false, [0xF4240]⟩,
   ⟨0xA0, 1, 0x4, 0xFFFF, 0x0, 0x0, 0x0, 0x0, true, false, [0x1E]⟩,
   ⟨0xA4, 1, 0x4, 0xFFFFFFFF, 0x0, 0x0, 0x0, 0x0, true, false, [0x3E8]⟩,
   ⟨0xA8, 1, 0x4, 0xFFFF, 0x0, 0x0, 0x0, 0x0, true, false, [0x12C]⟩,
   ⟨0xAC, 1, 0x4, 0xFFFFFFFF, 0x0, 0x0, 0x0, 0x0, true, false, [0xC350]⟩,
   ⟨0xB0, 1, 0x4, 0xFFFF, 0x0, 0x0, 0x0, 0x0, true, false, [0x3C]⟩,
   ⟨0xB4, 1, 0x4, 0xFFFFFFFF, 0x0, 0x0, 0x0, 0x0, true, false, [0x186A0]⟩]

/-- Page 0x01B (RS). -/
def rowsRS01B : List RegRow :=
  [⟨0x4, 1, 0x4, 0x0, 0x0, 0x0, 0x0, 0x0, false, false, [0x0]⟩,
   ⟨0x8, 1, 0x4, 0x0, 0x0, 0x0, 0x0, 0xFFFFFFFF, true, false, [0x0]⟩,
   ⟨0xC, 1, 0x4, 0x0, 0x0, 0x0, 0x0, 0x0, false, false, [0x0]⟩,
   ⟨0x10, 1, 0x4, 0x0, 0x0, 0xFF, 0x0, 0x0, false, false, [0x0]⟩,
   ⟨0x14, 1, 0x4, 0xFFFFFFFF, 0x0, 0x0, 0x0, 0x0, true, false, [0x0]⟩,
   ⟨0x18, 1, 0x4, 0x0, 0x0, 0x0, 0xFF, 0x0, false, false, [0x0]⟩,
   ⟨0x1C, 1, 0x4, 0x0, 0xFFFFFFFF, 0x0, 0x0, 0x0, true, false, [0x0]⟩,
   ⟨0x20, 1, 0x4, 0x0, 0x0, 0x0, 0x80000000, 0x0, false, false, [0x0]⟩,
   ⟨0x24, 7, 0x4, 0x0, 0x0, 0x0, 0x0, 0xFFFFFFFF, true, false, [0x0]⟩,
   ⟨0x40, 1, 0x4, 0xFC0F01, 0x0, 0x0, 0x0, 0xFF03F0FE, true, false, [0x800]⟩,
   ⟨0x44, 1, 0x4, 0x0, 0x0, 0x0, 0x0, 0x0, false, false, [0x0]⟩,
   ⟨0x48, 1, 0x4, 0x0, 0x0, 0x0, 0x0, 0x0, false, false, [0x0]⟩,
   ⟨0x4C, 1, 0x4, 0x0, 0x0, 0x0, 0x0, 0x0, false, false, [0x0]⟩,
   ⟨0x50, 1, 0x4, 0x0, 0x0, 0x0, 0x0, 0x0, false, false, [0x0]⟩,
   ⟨0x54, 1, 0x4, 0x0, 0x0, 0x0, 0x0, 0x0, false, false, [0x0]⟩,
   ⟨0x58, 1, 0x4, 0x0, 0x0, 0x0, 0x0, 0x0, false, false, [0x0]⟩,
   ⟨0x5C, 1, 0x4, 0x0, 0x0, 0x0, 0x0, 0x0, false, false, [0x0]⟩,
   ⟨0x60, 1, 0x4, 0x0, 0x0, 0x0, 0x0, 0x0, false, false, [0x0]⟩,
   ⟨0x64, 1, 0x4, 0x0, 0x0, 0x0, 0x0, 0x0, false, false, [0x0]⟩,
   ⟨0x68, 1, 0x4, 0x0, 0x0, 0x0, 0x7, 0x0, false, false, [0x0]⟩] ++
  [⟨0x80, 1, 0x4, 0xFFFFF, 0x0, 0x0, 0x0, 0x0, true, false, [0x1388]⟩,
   ⟨0x84, 1, 0x4, 0xFFFFF, 0x0, 0x0, 0x0, 0x0, true, false, [0x2710]⟩,
   ⟨0x88, 1, 0x4, 0x3FFF, 0x0, 0x0, 0x0, 0x0, true, false, [0x1F4]⟩,
   ⟨0x8C, 1, 0x4, 0xFFFFFFFF, 0x0, 0x0, 0x0, 0x0, true, false, [0x1E8480]⟩,
   ⟨0x90, 1, 0x4, 0xFFFFFFFF, 0x0, 0x0, 0x0, 0x0, true, false, [0xC350]⟩,
   ⟨0x94, 1, 0x4, 0xFFFFFFFF, 0x0, 0x0, 0x0, 0x0, true, false, [0xF4240]⟩,
   ⟨0x98, 1, 0x4, 0xFFFFFFFF, 0x0, 0x0, 0x0, 0x0, true, false, [0x186A0]⟩,
   ⟨0x9C, 1, 0x4, 0xFFFFFFFF, 0x0, 0x0, 0x0, 0x0, true, false, [0xF4240]⟩,
   ⟨0xA0, 1, 0x4, 0xFFFF, 0x0, 0x0, 0x0, 0x0, true, false, [0x1E]⟩,
   ⟨0xA4, 1, 0x4, 0xFFFFFFFF, 0x0, 0x0, 0x0, 0x0, true, false, [0x3E8]⟩,
   ⟨0xA8, 1, 0x4, 0xFFFF, 0x0, 0x0, 0x0, 0x0, true, false, [0x12C]⟩,
   ⟨0xAC, 1, 0x4, 0xFFFFFFFF, 0x0, 0x0, 0x0, 0x0, true, false, [0xC350]⟩,
   ⟨0xB0, 1, 0x4, 0xFFFF, 0x0, 0x0, 0x0, 0x0, true, false, [0x3C]⟩,
   ⟨0xB4, 1, 0x4, 0xFFFFFFFF, 0x0, 0x0, 0x0, 0x0, true, false, [0x186A0]⟩,
   ⟨0xC0, 1, 0x4, 0xFFFFFFFF, 0x0, 0x0, 0x0, 0x0, false, false, [0x0]⟩,
   ⟨0xC4, 1, 0x4, 0xFFFFFFFF, 0x0, 0x0, 0x0, 0x0, false, false, [0x0]⟩,
   ⟨0xC8, 1, 0x4, 0xFFFFFFFF, 0x0, 0x0, 0x0, 0x0, false, false, [0x0]⟩,
   ⟨0xCC, 1, 0x4, 0x7, 0x0, 0x0, 0x0, 0x0, true, false, [0x0]⟩,
   ⟨0xD0, 1, 0x4, 0x0, 0x0, 0x0, 0x1, 0x0, false, false, [0x0]⟩,
   ⟨0xD4, 1, 0x4, 0xFFFF, 0x0, 0x0, 0x0, 0x0, true, false, [0x7D0]⟩]

/-- Page 0x01C (RS). -/
def rowsRS01C : List RegRow :=
  [⟨0x4, 1, 0x4, 0x0, 0x0, 0x0, 0x0, 0x0, false, false, [0x0]⟩,
   ⟨0x8, 1, 0x4, 0xF1F, 0x0, 0x0, 0x0, 0xFFFFF0E0, true, false, [0xC]⟩,
   ⟨0xC, 1, 0x4, 0x0, 0x0, 0x0, 0x0, 0x0, false, false, [0xF]⟩,
   ⟨0x10, 1, 0x4, 0x0, 0x0, 0x1FF, 0x0, 0x0, false, false, [0x0]⟩,
   ⟨0x14, 1, 0x4, 0xFFFFFFFF, 0x0, 0x0, 0x0, 0x0, true, false, [0x0]⟩,
   ⟨0x18, 1, 0x4, 0x0, 0x0, 0x0, 0x1FF, 0x0, false, false, [0x0]⟩,
   ⟨0x1C, 1, 0x4, 0x0, 0xFFFFFFFF, 0x0, 0x0, 0x0, true, false, [0x0]⟩,
   ⟨0x20, 1, 0x4, 0x0, 0x0, 0x0, 0x80000000, 0x0, false, false, [0x0]⟩,
   ⟨0x24, 7, 0x4, 0x0, 0x0, 0x0, 0x0, 0xFFFFFFFF, true, false, [0x0]⟩,
   ⟨0x40, 1, 0x4, 0x3FFF, 0x0, 0x0, 0x0, 0x0, true, false, [0x64]⟩,
   ⟨0x44, 1, 0x4, 0x7F, 0x0, 0x0, 0x0, 0x0, true, false, [0xA]⟩,
   ⟨0x48, 1, 0x4, 0xFFFFFFFF, 0x0, 0x0, 0x0, 0x0, true, false, [0x4E20]⟩,
   ⟨0x4C, 1, 0x4, 0xFFFFFFFF, 0x0, 0x0, 0x0, 0x0, true, false, [0x64]⟩,
   ⟨0x50, 1, 0x4, 0xFFFF, 0x0, 0x0, 0x0, 0x0, true, false, [0xA]⟩,
   ⟨0x54, 1, 0x4, 0x0, 0x0, 0x0, 0x0, 0x0, false, false, [0x0]⟩]

/-- Page 0x01D (RS). -/
def rowsRS01D : List RegRow :=
  [⟨0x4, 1, 0x4, 0x0, 0x0, 0x0, 0x0, 0x0, false, false, [0x0]⟩,
   ⟨0x8, 1, 0x4, 0x0, 0x0, 0x0, 0x0, 0xFFFFFFFF, true, false, [0x0]⟩,
   ⟨0xC, 1, 0x4, 0x0, 0x0, 0x0, 0x0, 0x0, false, false, [0x0]⟩,
   ⟨0x10, 1, 0x4, 0x0, 0x0, 0x0, 0x0, 0x0, false, false, [0x0]⟩,
   ⟨0x14, 1, 0x4, 0xFFFFFFFF, 0x0, 0x0, 0x0, 0x0, true, false, [0x0]⟩,
   ⟨0x18, 1, 0x4, 0x0, 0x0, 0x0, 0x0, 0x0, false, false, [0x0]⟩,
   ⟨0x1C, 1, 0x4, 0x0, 0xFFFFFFFF, 0x0, 0x0, 0x0, true, false, [0x0]⟩,
   ⟨0x20, 1, 0x4, 0x0, 0x0, 0x0, 0x80000000, 0x0, false, false, [0x0]⟩,
   ⟨0x24, 7, 0x4, 0x0, 0x0, 0x0, 0x0, 0xFFFFFFFF, true, false, [0x0]⟩,
   ⟨0x40, 16, 0x10, 0x0, 0x0, 0x0, 0x0, 0x0, false, false, [0x0]⟩,
   ⟨0x44, 16, 0x10, 0x0, 0x0, 0x0, 0x0, 0x0, false, false, [0x0]⟩,
   ⟨0x48, 16, 0x10, 0x0, 0x0, 0x0, 0x0, 0x0, false, false, [0x0]⟩,
   ⟨0x4C, 16, 0x10, 0x0, 0x0, 0x0, 0x0, 0x0, false, false, [0x0]⟩,
   ⟨0x140, 1, 0x4, 0x0, 0x0, 0x0, 0x0, 0x0, false, false, [0x0]⟩]

/-- Pages 0x01E, 0x01F, 0x035, 0x036, 0x037, 0x038, 0x039, 0x03A, 0x03B, 0x03C, 0x03D, 0x03E, 0x03F, 0x068, 0x07B, 0x100, 0x101, 0x102, 0x103 (RS). -/
def rowsRS01E : List RegRow :=
  [⟨0x4, 1, 0x4, 0x0, 0x0, 0x0, 0x0, 0x0, false, false, [0x0]⟩,
   ⟨0x8, 1, 0x4, 0x0, 0x0, 0x0, 0x0, 0xFFFFFFFF, true, false, [0x0]⟩,
   ⟨0xC, 1, 0x4, 0x0, 0x0, 0x0, 0x0, 0x0, false, false, [0x0]⟩,
   ⟨0x10, 1, 0x4, 0x0, 0x0, 0x0, 0x0, 0x0, false, false, [0x0]⟩,
   ⟨0x14, 1, 0x4, 0xFFFFFFFF, 0x0, 0x0, 0x0, 0x0, true, false, [0x0]⟩,
   ⟨0x18, 1, 0x4, 0x0, 0x0, 0x0, 0x0, 0x0, false, false, [0x0]⟩,
   ⟨0x1C, 1, 0x4, 0x0, 0xFFFFFFFF, 0x0, 0x0, 0x0, true, false, [0x0]⟩,
   ⟨0x20, 1, 0x4, 0x0, 0x0, 0x0, 0x80000000, 0x0, false, false, [0x0]⟩,
   ⟨0x24, 7, 0x4, 0x0, 0x0, 0x0, 0x0, 0xFFFFFFFF, true, false, [0x0]⟩]

/-- Page 0x020 (HO). -/
def rowsHO020 : List RegRow :=
  [⟨0x4, 1, 0x4, 0x0, 0x0, 0x0, 0x0, 0x0, false, false, [0x0]⟩,
   ⟨0x8, 1, 0x4, 0x3F, 0x0, 0x0, 0x0, 0xFFFFFFC0, true, false, [0x10]⟩,
   ⟨0xC, 1, 0x4, 0x0, 0x0, 0x0, 0x0, 0x0, false, false, [0x80]⟩,
   ⟨0x10, 1, 0x4, 0x0, 0x0, 0x7FF, 0x0, 0x0, false, false, [0x0]⟩,
   ⟨0x14, 1, 0x4, 0xFFFFFFFF, 0x0, 0x0, 0x0, 0x0, true, false, [0x0]⟩,
   ⟨0x18, 1, 0x4, 0x0, 0x0, 0x0, 0x7FF, 0x0, false, false, [0x0]⟩,
   ⟨0x1C, 1, 0x4, 0x0, 0xFFFFFFFF, 0x0, 0x0, 0x0, true, false, [0x0]⟩,
   ⟨0x20, 1, 0x4, 0x0, 0x0, 0x0, 0x80000000, 0x0, false, false, [0x0]⟩,
   ⟨0x24, 7, 0x4, 0x0, 0x0, 0x0, 0x0, 0xFFFFFFFF, true, false, [0x0]⟩,
   ⟨0x40, 1, 0x4, 0xFF01FE1F, 0x0, 0x0, 0x0, 0xFE01E0, true, false, [0xA]⟩,
   ⟨0x44, 1, 0x4, 0xFFFFF, 0x0, 0x0, 0x0, 0x0, true, false, [0x80000]⟩,
   ⟨0x48, 1, 0x4, 0xFFFFF, 0x0, 0x0, 0x0, 0x0, true, false, [0x0]⟩,
   ⟨0x4C, 1, 0x4, 0xFFFFF, 0x0, 0x0, 0x0, 0x0, true, false, [0xFFFFF]⟩,
   ⟨0x50, 1, 0x4, 0xFFFFF, 0x0, 0x0, 0x0, 0x0, true, false, [0x400]⟩,
   ⟨0x54, 1, 0x4, 0xFFFFFFFF, 0x0, 0x0, 0x0, 0x0, true, false, [0x0]⟩,
   ⟨0x58, 1, 0x4, 0x0, 0x0, 0x0, 0x0, 0x0, false, false, [0x0]⟩,
   ⟨0x60, 1, 0x4, 0xFFEFFFFF, 0x0, 0x0, 0x0, 0x100000, true, false, [0x1002580]⟩,
   ⟨0x64, 1, 0x4, 0xFFFFFFFF, 0x0, 0x0, 0x0, 0x0, true, false, [0x3E8]⟩,
   ⟨0x68, 8, 0x4, 0xFFFFFFFF, 0x0, 0x0, 0x0, 0x0, true, false, [0x0]⟩,
   ⟨0x88, 2, 0x4, 0xFFFFFFFF, 0x0, 0x0, 0x0, 0x0, true, false, [0x0]⟩] ++
  [⟨0x90, 1, 0x4, 0xFFFF, 0x0, 0x0, 0x0, 0x0, true, false, [0x1F4]⟩,
   ⟨0xA0, 1, 0x4, 0xFFFFFF7F, 0x0, 0x0, 0x0, 0x80, true, false, [0x800048]⟩,
   ⟨0xA4, 1, 0x4, 0xFFFFFFFF, 0x0, 0x0, 0x0, 0x0, true, false, [0x2710]⟩,
   ⟨0xB0, 1, 0x4, 0xFFF, 0x0, 0x0, 0x0, 0x0, true, false, [0xA8]⟩,
   ⟨0xB4, 1, 0x4, 0xFFF, 0x0, 0x0, 0x0, 0x0, true, false, [0x18]⟩,
   ⟨0xB8, 1, 0x4, 0xFFF, 0x0, 0x0, 0x0, 0x0, true, false, [0x3C]⟩,
   ⟨0xBC, 1, 0x4, 0x3FF, 0x0, 0x0, 0x0, 0x0, true, false, [0xA]⟩,
   ⟨0xC0, 1, 0x4, 0xFFFF, 0x0, 0x0, 0x0, 0x0, true, false, [0x3E8]⟩,
   ⟨0xC4, 1, 0x4, 0xFF, 0x0, 0x0, 0x0, 0x0, true, false, [0x1E]⟩,
   ⟨0xC8, 1, 0x4, 0xFFFF, 0x0, 0x0, 0x0, 0x0, true, false, [0x3E8]⟩,
   ⟨0xD0, 1, 0x4, 0xFFFFFFFF, 0x0, 0x0, 0x0, 0x0, true, false, [0x0]⟩,
   ⟨0xD4, 1, 0x4, 0xFFFFFFFF, 0x0, 0x0, 0x0, 0x0, true, false, [0x0]⟩,
   ⟨0xD8, 1, 0x4, 0xFFFFFFFF, 0x0, 0x0, 0x0, 0x0, true, false, [0x0]⟩,
   ⟨0xDC, 1, 0x4, 0xFFFFFFFF, 0x0, 0x0, 0x0, 0x0, true, false, [0x0]⟩,
   ⟨0xE0, 1, 0x4, 0xFFFFFFFF, 0x0, 0x0, 0x0, 0x0, true, false, [0x0]⟩,
   ⟨0xE4, 1, 0x4, 0xFFFFFFFF, 0x0, 0x0, 0x0, 0x0, true, false, [0x0]⟩,
   ⟨0xE8, 1, 0x4, 0xFFFFFFFF, 0x0, 0x0, 0x0, 0x0, true, false, [0x0]⟩,
   ⟨0xEC, 1, 0x4, 0xFFFFFFFF, 0x0, 0x0, 0x0, 0x0, true, false, [0x2710]⟩,
   ⟨0xF0, 1, 0x4, 0xFFFFFFFF, 0x0, 0x0, 0x0, 0x0, true, false, [0x3E8]⟩,
   ⟨0x100, 1, 0x4, 0x0, 0x0, 0x0, 0x0, 0x0, false, false, [0x0]⟩] ++
  [⟨0x104, 1, 0x4, 0x0, 0x0, 0x0, 0x0, 0x0, false, false, [0x0]⟩,
   ⟨0x108, 1, 0x4, 0x0, 0x0, 0x0, 0x0, 0x0, false, false, [0x0]⟩,
   ⟨0x110, 1, 0x4, 0xFFFFFFFF, 0x0, 0x0, 0x0, 0x0, false, false, [0x0]⟩,
   ⟨0x114, 1, 0x4, 0xFFFFFFFF, 0x0, 0x0, 0x0, 0x0, false, false, [0x0]⟩,
   ⟨0x118, 1, 0x4, 0xFFFFFFFF, 0x0, 0x0, 0x0, 0x0, false, false, [0x0]⟩,
   ⟨0x11C, 1, 0x4, 0x0, 0x0, 0x0, 0x7, 0x0, false, false, [0x0]⟩,
   ⟨0x120, 1, 0x4, 0x0, 0x0, 0x0, 0x0, 0x0, false, false, [0x0]⟩,
   ⟨0x124, 1, 0x4, 0x0, 0x0, 0x0, 0x0, 0x0, false, false, [0x0]⟩,
   ⟨0x128, 1, 0x4, 0x0, 0x0, 0x0, 0x0, 0x0, false, false, [0x0]⟩,
   ⟨0x12C, 1, 0x4, 0x0, 0x0, 0x0, 0x0, 0x0, false, false, [0x0]⟩,
   ⟨0x130, 1, 0x4, 0x0, 0x0, 0x0, 0x0, 0x0, false, false, [0x0]⟩,
   ⟨0x134, 1, 0x4, 0x0, 0x0, 0x0, 0x0, 0x0, false, false, [0x0]⟩,
   ⟨0x138, 1, 0x4, 0x0, 0x0, 0x0, 0x0, 0x0, false, false, [0x0]⟩,
   ⟨0x13C, 1, 0x4, 0x0, 0x0, 0x0, 0x0, 0x0, false, false, [0x0]⟩,
   ⟨0x140, 1, 0x4, 0x0, 0x0, 0x0, 0x0, 0x0, false, false, [0x0]⟩,
   ⟨0x144, 1, 0x4, 0x0, 0x0, 0x0, 0x0, 0x0, false, false, [0x0]⟩,
   ⟨0x148, 1, 0x4, 0x0, 0x0, 0x0, 0x0, 0x0, false, false, [0x0]⟩,
   ⟨0x14C, 1, 0x4, 0x0, 0x0, 0x0, 0x0, 0x0, false, false, [0x0]⟩]

/-- Page 0x030 (GN). -/
def rowsGN030 : List RegRow :=
  [⟨0x4, 1, 0x4, 0x0, 0x0, 0x0, 0x0, 0x0, false, false, [0x100]⟩,
   ⟨0x8, 1, 0x4, 0xF, 0x0, 0x0, 0x0, 0xFFFFFFF0, true, false, [0x0]⟩,
   ⟨0xC, 1, 0x4, 0x0, 0x0, 0x0, 0x0, 0x0, false, false, [0x0]⟩,
   ⟨0x10, 1, 0x4, 0x0, 0x0, 0x1F, 0x0, 0x0, false, false, [0x0]⟩,
   ⟨0x14, 1, 0x4, 0xFFFFFFFF, 0x0, 0x0, 0x0, 0x0, true, false, [0x0]⟩,
   ⟨0x18, 1, 0x4, 0x0, 0x0, 0x0, 0x1F, 0x0, false, false, [0x0]⟩,
   ⟨0x1C, 1, 0x4, 0x0, 0xFFFFFFFF, 0x0, 0x0, 0x0, true, false, [0x0]⟩,
   ⟨0x20, 1, 0x4, 0x0, 0x0, 0x0, 0x80000000, 0x0, false, false, [0x0]⟩,
   ⟨0x24, 7, 0x4, 0x0, 0x0, 0x0, 0x0, 0xFFFFFFFF, true, false, [0x0]⟩,
   ⟨0x40, 1, 0x4, 0xF7737, 0x0, 0x0, 0x0, 0xFFF088C8, true, false, [0x37]⟩,
   ⟨0x44, 1, 0x4, 0x13, 0x0, 0x0, 0x0, 0x0, true, false, [0x1]⟩,
   ⟨0x48, 1, 0x4, 0xFFFFFFFF, 0x0, 0x0, 0x0, 0x0, true, false, [0x1]⟩,
   ⟨0x4C, 1, 0x4, 0xFFFFFFFF, 0x0, 0x0, 0x0, 0x0, true, false, [0x0]⟩,
   ⟨0x50, 1, 0x4, 0xFFFFFFFF, 0x0, 0x0, 0x0, 0x0, true, false, [0x0]⟩,
   ⟨0x54, 1, 0x4, 0xFFFFFFFF, 0x0, 0x0, 0x0, 0x0, true, false, [0x0]⟩,
   ⟨0x58, 1, 0x4, 0xFFFFFFFF, 0x0, 0x0, 0x0, 0x0, true, false, [0x0]⟩,
   ⟨0x60, 1, 0x4, 0x3F, 0x0, 0x0, 0x0, 0x0, true, false, [0x4]⟩,
   ⟨0x64, 1, 0x4, 0xFFFF, 0x0, 0x0, 0x0, 0x0, true, false, [0x1C2]⟩,
   ⟨0x68, 1, 0x4, 0x7, 0x0, 0x0, 0x0, 0x0, true, false, [0x2]⟩,
   ⟨0x6C, 1, 0x4, 0xFFFF, 0x0, 0x0, 0x0, 0x0, true, false, [0x258]⟩] ++
  [⟨0x70, 1, 0x4, 0xFF, 0x0, 0x0, 0x0, 0x0, true, false, [0x32]⟩,
   ⟨0x74, 1, 0x4, 0xFFFF, 0x0, 0x0, 0x0, 0x0, true, false, [0xBB8]⟩,
   ⟨0x78, 1, 0x4, 0x7F, 0x0, 0x0, 0x0, 0x0, true, false, [0xA]⟩,
   ⟨0x7C, 1, 0x4, 0xFFFF, 0x0, 0x0, 0x0, 0x0, true, false, [0x320A]⟩,
   ⟨0x80, 1, 0x4, 0x3FF, 0x0, 0x0, 0x0, 0x0, true, false, [0x64]⟩,
   ⟨0x84, 1, 0x4, 0xFFFF, 0x0, 0x0, 0x0, 0x0, true, false, [0x3E8]⟩,
   ⟨0x88, 1, 0x4, 0x3FF, 0x0, 0x0, 0x0, 0x0, true, false, [0x0]⟩,
   ⟨0x8C, 1, 0x4, 0x3FFF, 0x0, 0x0, 0x0, 0x0, true, false, [0x1F4]⟩,
   ⟨0x90, 1, 0x4, 0x3F, 0x0, 0x0, 0x0, 0x0, true, false, [0x2]⟩,
   ⟨0x94, 1, 0x4, 0xFFFFFFFF, 0x0, 0x0, 0x0, 0x0, true, false, [0x3A98]⟩,
   ⟨0x98, 1, 0x4, 0xFFFF, 0x0, 0x0, 0x0, 0x0, true, false, [0x5DC]⟩,
   ⟨0x9C, 1, 0x4, 0xFF, 0x0, 0x0, 0x0, 0x0, true, false, [0xF]⟩,
   ⟨0xC0, 1, 0x4, 0x0, 0x0, 0x0, 0x0, 0x0, false, false, [0x0]⟩,
   ⟨0xC4, 1, 0x4, 0x0, 0x0, 0x0, 0x0, 0x0, false, false, [0x0]⟩]

/-- Page 0x031 (GN). -/
def rowsGN031 : List RegRow :=
  [⟨0x4, 1, 0x4, 0x0, 0x0, 0x0, 0x0, 0x0, false, false, [0x0]⟩,
   ⟨0x8, 1, 0x4, 0x0, 0x0, 0x0, 0x0, 0xFFFFFFFF, true, false, [0x0]⟩,
   ⟨0xC, 1, 0x4, 0x0, 0x0, 0x0, 0x0, 0x0, false, false, [0x0]⟩,
   ⟨0x10, 1, 0x4, 0x0, 0x0, 0x0, 0x0, 0x0, false, false, [0x0]⟩,
   ⟨0x14, 1, 0x4, 0xFFFFFFFF, 0x0, 0x0, 0x0, 0x0, true, false, [0x0]⟩,
   ⟨0x18, 1, 0x4, 0x0, 0x0, 0x0, 0x0, 0x0, false, false, [0x0]⟩,
   ⟨0x1C, 1, 0x4, 0x0, 0xFFFFFFFF, 0x0, 0x0, 0x0, true, false, [0x0]⟩,
   ⟨0x20, 1, 0x4, 0x0, 0x0, 0x0, 0x80000000, 0x0, false, false, [0x0]⟩,
   ⟨0x24, 7, 0x4, 0x0, 0x0, 0x0, 0x0, 0xFFFFFFFF, true, false, [0x0]⟩,
   ⟨0x40, 16, 0x4, 0xFFFFFFFF, 0x0, 0x0, 0x0, 0x0, false, false, [0x0]⟩,
   ⟨0x80, 1, 0x4, 0x0, 0x0, 0x0, 0x1, 0x0, false, false, [0x0]⟩,
   ⟨0x84, 1, 0x4, 0x0, 0x0, 0x2, 0x0, 0x0, false, false, [0x0]⟩,
   ⟨0x88, 1, 0x4, 0x0, 0x0, 0x0, 0x0, 0x0, false, false, [0x0]⟩,
   ⟨0xA0, 1, 0x4, 0xFFFFFFFF, 0x0, 0x0, 0x0, 0x0, true, false, [0x0]⟩,
   ⟨0xA4, 1, 0x4, 0xFFFFFFFF, 0x0, 0x0, 0x0, 0x0, true, false, [0x0]⟩,
   ⟨0xA8, 1, 0x4, 0xFFFFFFFF, 0x0, 0x0, 0x0, 0x0, true, false, [0x0]⟩,
   ⟨0xAC, 1, 0x4, 0xFFFF, 0x0, 0x0, 0x0, 0x0, true, false, [0x0]⟩,
   ⟨0xB0, 1, 0x4, 0xFFFFFFFF, 0x0, 0x0, 0x0, 0x0, true, false, [0x0]⟩,
   ⟨0xC0, 1, 0x4, 0xFFFF, 0x0, 0x0, 0x0, 0x0, false, false, [0x0]⟩,
   ⟨0xC4, 1, 0x4, 0xFFFF, 0x0, 0x0, 0x0, 0x0, false, false, [0x0]⟩] ++
  [⟨0xC8, 1, 0x4, 0xFFFFFFFF, 0x0, 0x0, 0x0, 0x0, false, false, [0x0]⟩,
   ⟨0xCC, 1, 0x4, 0xFFFF, 0x0, 0x0, 0x0, 0x0, false, false, [0x0]⟩,
   ⟨0xD0, 1, 0x4, 0x0, 0x0, 0x0, 0x1, 0x0, false, false, [0x0]⟩,
   ⟨0x100, 8, 0x4, 0xFFFFFFFF, 0x0, 0x0, 0x0, 0x0, false, true, [0x0]⟩,
   ⟨0x120, 1, 0x4, 0x3F1FF3, 0x0, 0x0, 0x0, 0x0, true, true, [0x0]⟩,
   ⟨0x124, 1, 0x4, 0xFFFFFFFF, 0x0, 0x0, 0x0, 0x0, false, true, [0x0]⟩,
   ⟨0x128, 1, 0x4, 0x0, 0x0, 0x0, 0x3, 0x0, false, true, [0x0]⟩]

/-- Pages 0x032, 0x033 (GN). -/
def rowsGN032 : List RegRow :=
  [⟨0x4, 1, 0x4, 0x0, 0x0, 0x0, 0x0, 0x0, false, false, [0x0]⟩,
   ⟨0x8, 1, 0x4, 0x0, 0x0, 0x0, 0x0, 0xFFFFFFFF, true, false, [0x0]⟩,
   ⟨0xC, 1, 0x4, 0x0, 0x0, 0x0, 0x0, 0x0, false, false, [0x0]⟩,
   ⟨0x10, 1, 0x4, 0x0, 0x0, 0x0, 0x0, 0x0, false, false, [0x0]⟩,
   ⟨0x14, 1, 0x4, 0xFFFFFFFF, 0x0, 0x0, 0x0, 0x0, true, false, [0x0]⟩,
   ⟨0x18, 1, 0x4, 0x0, 0x0, 0x0, 0x0, 0x0, false, false, [0x0]⟩,
   ⟨0x1C, 1, 0x4, 0x0, 0xFFFFFFFF, 0x0, 0x0, 0x0, true, false, [0x0]⟩,
   ⟨0x20, 1, 0x4, 0x0, 0x0, 0x0, 0x80000000, 0x0, false, false, [0x0]⟩,
   ⟨0x24, 7, 0x4, 0x0, 0x0, 0x0, 0x0, 0xFFFFFFFF, true, false, [0x0]⟩,
   ⟨0x40, 1, 0x4, 0xFFFFFFFF, 0x0, 0x0, 0x0, 0x0, true, false, [0x0]⟩,
   ⟨0x44, 1, 0x4, 0xFFFFFFFF, 0x0, 0x0, 0x0, 0x0, true, false, [0x0]⟩,
   ⟨0x48, 1, 0x4, 0xFFFFFFFF, 0x0, 0x0, 0x0, 0x0, true, false, [0x0]⟩,
   ⟨0x4C, 1, 0x4, 0xFFFFFFFF, 0x0, 0x0, 0x0, 0x0, true, false, [0x0]⟩,
   ⟨0x50, 1, 0x4, 0xFFFFFFFF, 0x0, 0x0, 0x0, 0x0, true, false, [0x0]⟩,
   ⟨0x80, 1, 0x4, 0x0, 0x0, 0x0, 0x0, 0x0, false, false, [0x0]⟩,
   ⟨0x84, 1, 0x4, 0x0, 0x0, 0x0, 0x0, 0x0, false, false, [0x0]⟩,
   ⟨0x88, 1, 0x4, 0x0, 0x0, 0x0, 0x0, 0x0, false, false, [0x0]⟩,
   ⟨0x8C, 1, 0x4, 0x0, 0x0, 0x0, 0x0, 0x0, false, false, [0x0]⟩,
   ⟨0x90, 1, 0x4, 0x0, 0x0, 0x0, 0x0, 0x0, false, false, [0x0]⟩,
   ⟨0x94, 1, 0x4, 0x0, 0x0, 0x0, 0x0, 0x0, false, false, [0x0]⟩] ++
  [⟨0x98, 1, 0x4, 0x0, 0x0, 0x0, 0x0, 0x0, false, false, [0x0]⟩]

/-- Page 0x034 (GN). -/
def rowsGN034 : List RegRow :=
  [⟨0x4, 1, 0x4, 0x0, 0x0, 0x0, 0x0, 0x0, false, false, [0x0]⟩,
   ⟨0x8, 1, 0x4, 0x0, 0x0, 0x0, 0x0, 0xFFFFFFFF, true, false, [0x0]⟩,
   ⟨0xC, 1, 0x4, 0x0, 0x0, 0x0, 0x0, 0x0, false, false, [0x0]⟩,
   ⟨0x10, 1, 0x4, 0x0, 0x0, 0x0, 0x0, 0x0, false, false, [0x0]⟩,
   ⟨0x14, 1, 0x4, 0xFFFFFFFF, 0x0, 0x0, 0x0, 0x0, true, false, [0x0]⟩,
   ⟨0x18, 1, 0x4, 0x0, 0x0, 0x0, 0x0, 0x0, false, false, [0x0]⟩,
   ⟨0x1C, 1, 0x4, 0x0, 0xFFFFFFFF, 0x0, 0x0, 0x0, true, false, [0x0]⟩,
   ⟨0x20, 1, 0x4, 0x0, 0x0, 0x0, 0x80000000, 0x0, false, false, [0x0]⟩,
   ⟨0x24, 7, 0x4, 0x0, 0x0, 0x0, 0x0, 0xFFFFFFFF, true, false, [0x0]⟩,
   ⟨0x40, 1, 0x4, 0x31F, 0x0, 0x0, 0x0, 0x0, true, false, [0x5]⟩,
   ⟨0x44, 1, 0x4, 0x0, 0x0, 0x0, 0xBFFFFFFF, 0x0, false, false, [0x0]⟩,
   ⟨0x48, 1, 0x4, 0xFF, 0x0, 0x0, 0x0, 0x0, false, false, [0x0]⟩,
   ⟨0x4C, 1, 0x4, 0x0, 0x0, 0x0, 0x0, 0x0, false, false, [0x0]⟩,
   ⟨0x50, 1, 0x4, 0x0, 0x0, 0x0, 0x0, 0x0, false, false, [0x0]⟩,
   ⟨0x60, 1, 0x4, 0x0, 0x0, 0x0, 0x0, 0x0, false, false, [0x0]⟩,
   ⟨0x64, 1, 0x4, 0x0, 0x0, 0x0, 0x0, 0x0, false, false, [0x0]⟩,
   ⟨0x68, 1, 0x4, 0x0, 0x0, 0x0, 0x0, 0x0, false, false, [0x0]⟩,
   ⟨0x6C, 1, 0x4, 0x0, 0x0, 0x0, 0x0, 0x0, false, false, [0x0]⟩]

/-- Page 0x040 (SH). -/
def rowsSH040 : List RegRow :=
  [⟨0x4, 1, 0x4, 0x0, 0x0, 0x0, 0x0, 0x0, false, false, [0x430]⟩,
   ⟨0x8, 1, 0x4, 0xF, 0x0, 0x0, 0x0, 0xFFFFFFF0, true, false, [0xC]⟩,
   ⟨0xC, 1, 0x4, 0x0, 0x0, 0x0, 0x0, 0x0, false, false, [0x2000]⟩,
   ⟨0x10, 1, 0x4, 0x0, 0x0, 0x7FF, 0x0, 0x0, false, false, [0x0]⟩,
   ⟨0x14, 1, 0x4, 0xFFFFFFFF, 0x0, 0x0, 0x0, 0x0, true, false, [0x0]⟩,
   ⟨0x18, 1, 0x4, 0x0, 0x0, 0x0, 0x7FF, 0x0, false, false, [0x0]⟩,
   ⟨0x1C, 1, 0x4, 0x0, 0xFFFFFFFF, 0x0, 0x0, 0x0, true, false, [0x0]⟩,
   ⟨0x20, 1, 0x4, 0x0, 0x0, 0x0, 0x80000000, 0x0, false, false, [0x0]⟩,
   ⟨0x24, 7, 0x4, 0x0, 0x0, 0x0, 0x0, 0xFFFFFFFF, true, false, [0x0]⟩,
   ⟨0x40, 4, 0x4, 0xF, 0x0, 0x0, 0x0, 0x0, true, false, [0x0]⟩,
   ⟨0x50, 4, 0x4, 0xFFFFFFFF, 0x0, 0x0, 0x0, 0x0, true, false, [0x0]⟩,
   ⟨0x60, 1, 0x4, 0x1F, 0x0, 0x0, 0x0, 0x0, true, false, [0x12]⟩,
   ⟨0x64, 1, 0x4, 0xFFFF, 0x0, 0x0, 0x0, 0x0, true, false, [0x258]⟩,
   ⟨0x68, 1, 0x4, 0xFF, 0x0, 0x0, 0x0, 0x0, true, false, [0x10]⟩,
   ⟨0x6C, 1, 0x4, 0xFFFFFF, 0x0, 0x0, 0x0, 0x0, true, false, [0x2710]⟩,
   ⟨0x70, 1, 0x4, 0xFFFF, 0x0, 0x0, 0x0, 0x0, true, false, [0x40]⟩,
   ⟨0x74, 1, 0x4, 0xFFFFFFFF, 0x0, 0x0, 0x0, 0x0, true, false, [0x0]⟩,
   ⟨0x78, 1, 0x4, 0xF, 0x0, 0x0, 0x0, 0x0, true, false, [0x0]⟩,
   ⟨0x7C, 1, 0x4, 0xFFFF, 0x0, 0x0, 0x0, 0x0, true, false, [0x0]⟩,
   ⟨0x80, 1, 0x4, 0x0, 0x0, 0x0, 0x1, 0x0, false, false, [0x0]⟩] ++
  [⟨0x100, 4, 0x4, 0x0, 0x0, 0x0, 0x0, 0x0, false, false, [0x0]⟩,
   ⟨0x120, 12, 0x4, 0x0, 0x0, 0x0, 0x0, 0x0, false, false, [0x0]⟩,
   ⟨0x150, 12, 0x4, 0x0, 0x0, 0x0, 0x0, 0x0, false, false, [0x0]⟩,
   ⟨0x180, 1, 0x4, 0x0, 0x0, 0x0, 0x0, 0x0, false, false, [0x0]⟩,
   ⟨0x184, 1, 0x4, 0x0, 0x0, 0x0, 0x0, 0x0, false, false, [0x0]⟩,
   ⟨0x188, 1, 0x4, 0x0, 0x0, 0x0, 0x0, 0x0, false, false, [0x0]⟩,
   ⟨0x18C, 1, 0x4, 0x0, 0x0, 0x0, 0x0, 0x0, false, false, [0x0]⟩,
   ⟨0x190, 1, 0x4, 0x0, 0x0, 0x0, 0x0, 0x0, false, false, [0x0]⟩]

/-- Page 0x041 (SH). -/
def rowsSH041 : List RegRow :=
  [⟨0x4, 1, 0x4, 0x0, 0x0, 0x0, 0x0, 0x0, false, false, [0x0]⟩,
   ⟨0x8, 1, 0x4, 0x0, 0x0, 0x0, 0x0, 0xFFFFFFFF, true, false, [0x0]⟩,
   ⟨0xC, 1, 0x4, 0x0, 0x0, 0x0, 0x0, 0x0, false, false, [0x0]⟩,
   ⟨0x10, 1, 0x4, 0x0, 0x0, 0x0, 0x0, 0x0, false, false, [0x0]⟩,
   ⟨0x14, 1, 0x4, 0xFFFFFFFF, 0x0, 0x0, 0x0, 0x0, true, false, [0x0]⟩,
   ⟨0x18, 1, 0x4, 0x0, 0x0, 0x0, 0x0, 0x0, false, false, [0x0]⟩,
   ⟨0x1C, 1, 0x4, 0x0, 0xFFFFFFFF, 0x0, 0x0, 0x0, true, false, [0x0]⟩,
   ⟨0x20, 1, 0x4, 0x0, 0x0, 0x0, 0x80000000, 0x0, false, false, [0x0]⟩,
   ⟨0x24, 7, 0x4, 0x0, 0x0, 0x0, 0x0, 0xFFFFFFFF, true, false, [0x0]⟩,
   ⟨0x40, 576, 0x4, 0x0, 0x0, 0x0, 0x0, 0x0, false, false, [0x0]⟩,
   ⟨0xA00, 48, 0x10, 0x0, 0x0, 0x0, 0x0, 0x0, false, false, [0x0]⟩,
   ⟨0xA04, 48, 0x10, 0x0, 0x0, 0x0, 0x0, 0x0, false, false, [0x0]⟩,
   ⟨0xA08, 48, 0x10, 0x0, 0x0, 0x0, 0x0, 0x0, false, false, [0x0]⟩,
   ⟨0xA0C, 48, 0x10, 0x0, 0x0, 0x0, 0x0, 0x0, false, false, [0x0]⟩]

/-- Page 0x042 (SH). -/
def rowsSH042 : List RegRow :=
  [⟨0x4, 1, 0x4, 0x0, 0x0, 0x0, 0x0, 0x0, false, false, [0x0]⟩,
   ⟨0x8, 1, 0x4, 0x0, 0x0, 0x0, 0x0, 0xFFFFFFFF, true, false, [0x0]⟩,
   ⟨0xC, 1, 0x4, 0x0, 0x0, 0x0, 0x0, 0x0, false, false, [0x0]⟩,
   ⟨0x10, 1, 0x4, 0x0, 0x0, 0x0, 0x0, 0x0, false, false, [0x0]⟩,
   ⟨0x14, 1, 0x4, 0xFFFFFFFF, 0x0, 0x0, 0x0, 0x0, true, false, [0x0]⟩,
   ⟨0x18, 1, 0x4, 0x0, 0x0, 0x0, 0x0, 0x0, false, false, [0x0]⟩,
   ⟨0x1C, 1, 0x4, 0x0, 0xFFFFFFFF, 0x0, 0x0, 0x0, true, false, [0x0]⟩,
   ⟨0x20, 1, 0x4, 0x0, 0x0, 0x0, 0x80000000, 0x0, false, false, [0x0]⟩,
   ⟨0x24, 7, 0x4, 0x0, 0x0, 0x0, 0x0, 0xFFFFFFFF, true, false, [0x0]⟩,
   ⟨0x40, 1, 0x4, 0x0, 0x0, 0x0, 0x7, 0x0, false, false, [0x0]⟩,
   ⟨0x44, 1, 0x4, 0xFFF, 0x0, 0x0, 0x0, 0x0, false, false, [0x0]⟩,
   ⟨0x48, 1, 0x4, 0x0, 0x0, 0x0, 0x0, 0x0, false, false, [0x0]⟩,
   ⟨0x50, 4, 0x4, 0x0, 0x0, 0x0, 0x0, 0x0, false, false, [0x0]⟩]

/-- Page 0x043 (SH). -/
def rowsSH043 : List RegRow :=
  [⟨0x4, 1, 0x4, 0x0, 0x0, 0x0, 0x0, 0x0, false, false, [0x0]⟩,
   ⟨0x8, 1, 0x4, 0x0, 0x0, 0x0, 0x0, 0xFFFFFFFF, true, false, [0x0]⟩,
   ⟨0xC, 1, 0x4, 0x0, 0x0, 0x0, 0x0, 0x0, false, false, [0x0]⟩,
   ⟨0x10, 1, 0x4, 0x0, 0x0, 0x0, 0x0, 0x0, false, false, [0x0]⟩,
   ⟨0x14, 1, 0x4, 0xFFFFFFFF, 0x0, 0x0, 0x0, 0x0, true, false, [0x0]⟩,
   ⟨0x18, 1, 0x4, 0x0, 0x0, 0x0, 0x0, 0x0, false, false, [0x0]⟩,
   ⟨0x1C, 1, 0x4, 0x0, 0xFFFFFFFF, 0x0, 0x0, 0x0, true, false, [0x0]⟩,
   ⟨0x20, 1, 0x4, 0x0, 0x0, 0x0, 0x80000000, 0x0, false, false, [0x0]⟩,
   ⟨0x24, 7, 0x4, 0x0, 0x0, 0x0, 0x0, 0xFFFFFFFF, true, false, [0x0]⟩,
   ⟨0x40, 1008, 0x4, 0xFFFFFFFF, 0x0, 0x0, 0x0, 0x0, false, false, [0x0]⟩]

/-- Page 0x048 (EB). -/
def rowsEB048 : List RegRow :=
  [⟨0x4, 1, 0x4, 0x0, 0x0, 0x0, 0x0, 0x0, false, false, [0x0]⟩,
   ⟨0x8, 1, 0x4, 0x6, 0x0, 0x0, 0x0, 0xFFFFFFF9, true, false, [0x4]⟩,
   ⟨0xC, 1, 0x4, 0x0, 0x0, 0x0, 0x0, 0x0, false, false, [0x0]⟩,
   ⟨0x10, 1, 0x4, 0x0, 0x0, 0x3F, 0x0, 0x0, false, false, [0x0]⟩,
   ⟨0x14, 1, 0x4, 0xFFFFFFFF, 0x0, 0x0, 0x0, 0x0, true, false, [0x0]⟩,
   ⟨0x18, 1, 0x4, 0x0, 0x0, 0x0, 0x3F, 0x0, false, false, [0x0]⟩,
   ⟨0x1C, 1, 0x4, 0x0, 0xFFFFFFFF, 0x0, 0x0, 0x0, true, false, [0x0]⟩,
   ⟨0x20, 1, 0x4, 0x0, 0x0, 0x0, 0x80000000, 0x0, false, false, [0x0]⟩,
   ⟨0x24, 7, 0x4, 0x0, 0x0, 0x0, 0x0, 0xFFFFFFFF, true, false, [0x0]⟩,
   ⟨0x40, 1, 0x4, 0xFFFFFFFF, 0x0, 0x0, 0x0, 0x0, true, false, [0x3E8]⟩,
   ⟨0x44, 1, 0x4, 0xFFFFFFFF, 0x0, 0x0, 0x0, 0x0, true, false, [0x2710]⟩,
   ⟨0x48, 1, 0x4, 0xFFFF, 0x0, 0x0, 0x0, 0x0, true, false, [0x3E8]⟩,
   ⟨0x4C, 1, 0x4, 0xFFFFFFFF, 0x0, 0x0, 0x0, 0x0, true, false, [0x4E20]⟩,
   ⟨0x50, 1, 0x4, 0xFFFFFFFF, 0x0, 0x0, 0x0, 0x0, true, false, [0x14]⟩,
   ⟨0x54, 1, 0x4, 0xFFFFFFFF, 0x0, 0x0, 0x0, 0x0, true, false, [0x64]⟩,
   ⟨0x58, 1, 0x4, 0xFFFFFFFF, 0x0, 0x0, 0x0, 0x0, true, false, [0x3E8]⟩,
   ⟨0x5C, 1, 0x4, 0xFFFF, 0x0, 0x0, 0x0, 0x0, true, false, [0x3C]⟩,
   ⟨0x60, 1, 0x4, 0xFFFFFFFF, 0x0, 0x0, 0x0, 0x0, true, false, [0x2FAF080]⟩,
   ⟨0x64, 1, 0x4, 0xFFFFFFFF, 0x0, 0x0, 0x0, 0x0, true, false, [0x0]⟩,
   ⟨0x68, 1, 0x4, 0xFFFFFFFF, 0x0, 0x0, 0x0, 0x0, true, false, [0x32]⟩] ++
  [⟨0x6C, 1, 0x4, 0xFFFFFFFF, 0x0, 0x0, 0x0, 0x0, true, false, [0x3E8]⟩,
   ⟨0x70, 6, 0x4, 0x11FFF, 0x0, 0x0, 0x0, 0xFFFEE000, true, false, [0x110F8, 0x107, 0x106, 0x107, 0x234, 0x234]⟩,
   ⟨0x88, 1, 0x4, 0xFFFF, 0x0, 0x0, 0x0, 0x0, true, false, [0x0]⟩,
   ⟨0x8C, 1, 0x4, 0x7F, 0x0, 0x0, 0x0, 0x0, true, false, [0x0]⟩,
   ⟨0xC0, 1, 0x4, 0x0, 0x0, 0x0, 0x0, 0x0, false, false, [0x0]⟩,
   ⟨0xC4, 1, 0x4, 0x0, 0x0, 0x0, 0x0, 0x0, false, false, [0x0]⟩,
   ⟨0xC8, 1, 0x4, 0x0, 0x0, 0x0, 0x0, 0x0, false, false, [0x0]⟩,
   ⟨0xCC, 1, 0x4, 0x0, 0x0, 0x0, 0x0, 0x0, false, false, [0x0]⟩,
   ⟨0xD0, 1, 0x4, 0x0, 0x0, 0x0, 0x0, 0x0, false, false, [0x0]⟩,
   ⟨0xD4, 1, 0x4, 0x0, 0x0, 0x0, 0x0, 0x0, false, false, [0x0]⟩,
   ⟨0xD8, 1, 0x4, 0x0, 0x0, 0x0, 0x0, 0x0, false, false, [0x0]⟩,
   ⟨0xDC, 1, 0x4, 0x0, 0x0, 0x0, 0x0, 0x0, false, false, [0x0]⟩,
   ⟨0x100, 11, 0x4, 0x0, 0x0, 0x0, 0x0, 0x0, false, false, [0x0]⟩,
   ⟨0x140, 16, 0x4, 0x0, 0x0, 0x0, 0x0, 0x0, false, false, [0x3E8]⟩,
   ⟨0x180, 1, 0x4, 0x0, 0x0, 0x0, 0x0, 0x0, false, false, [0x4A7EC2]⟩,
   ⟨0x200, 8, 0x4, 0xFFFFFFFF, 0x0, 0x0, 0x0, 0x0, false, false, [0x0]⟩,
   ⟨0x220, 1, 0x4, 0x0, 0x0, 0x0, 0x1, 0x0, false, false, [0x0]⟩,
   ⟨0x224, 1, 0x4, 0x0, 0x0, 0x0, 0x0, 0x0, false, false, [0x0]⟩,
   ⟨0x228, 1, 0x4, 0x3F, 0x0, 0x0, 0x0, 0x0, false, false, [0x0]⟩,
   ⟨0x400, 256, 0x4, 0x0, 0x0, 0x0, 0x0, 0x0, false, false, [0x0]⟩]

/-- Pages 0x050, 0x051, 0x052, 0x053, 0x054, 0x055, 0x056, 0x057, 0x058, 0x059, 0x05A, 0x05B, 0x05C, 0x05D, 0x05E, 0x05F (PT). -/
def rowsPT050 : List RegRow :=
  [⟨0x4, 1, 0x4, 0x0, 0x0, 0x0, 0x0, 0x0, false, false, [0x0]⟩,
   ⟨0x8, 1, 0x4, 0x7, 0x0, 0x0, 0x0, 0xFFFFFFF8, true, false, [0x4]⟩,
   ⟨0xC, 1, 0x4, 0x0, 0x0, 0x0, 0x0, 0x0, false, false, [0x0]⟩,
   ⟨0x10, 1, 0x4, 0x0, 0x0, 0x3FFF, 0x0, 0x0, false, false, [0x0]⟩,
   ⟨0x14, 1, 0x4, 0xFFFFFFFF, 0x0, 0x0, 0x0, 0x0, true, false, [0x0]⟩,
   ⟨0x18, 1, 0x4, 0x0, 0x0, 0x0, 0x3FFF, 0x0, false, false, [0x0]⟩,
   ⟨0x1C, 1, 0x4, 0x0, 0xFFFFFFFF, 0x0, 0x0, 0x0, true, false, [0x0]⟩,
   ⟨0x20, 1, 0x4, 0x0, 0x0, 0x0, 0x80000000, 0x0, false, false, [0x0]⟩,
   ⟨0x24, 7, 0x4, 0x0, 0x0, 0x0, 0x0, 0xFFFFFFFF, true, false, [0x0]⟩,
   ⟨0x40, 1, 0x4, 0xFF0011F, 0x0, 0x0, 0x0, 0xF00FFEE0, true, false, [0x0]⟩,
   ⟨0x44, 1, 0x4, 0x3FFF, 0x0, 0x0, 0x0, 0x0, true, false, [0x5F2]⟩,
   ⟨0x48, 1, 0x4, 0x703, 0x0, 0x0, 0x0, 0xFFFFF8FC, true, false, [0x700]⟩,
   ⟨0x4C, 1, 0x4, 0x77FFF, 0x0, 0x0, 0x0, 0xFFF88000, true, false, [0x1]⟩,
   ⟨0x50, 1, 0x4, 0xFFFFFFFF, 0x0, 0x0, 0x0, 0x0, true, false, [0x0]⟩,
   ⟨0x54, 1, 0x4, 0xFFFFFFFF, 0x0, 0x0, 0x0, 0x0, true, false, [0x0]⟩,
   ⟨0x58, 1, 0x4, 0xFFFFFFFF, 0x0, 0x0, 0x0, 0x0, true, false, [0x0]⟩,
   ⟨0x5C, 1, 0x4, 0xFFF, 0x0, 0x0, 0x0, 0x0, true, false, [0x4B0]⟩,
   ⟨0x60, 1, 0x4, 0xFFFF, 0x0, 0x0, 0x0, 0x0, true, false, [0x7D0]⟩,
   ⟨0x64, 1, 0x4, 0xFFFF, 0x0, 0x0, 0x0, 0x0, true, false, [0xA]⟩,
   ⟨0x80, 1, 0x4, 0x0, 0x0, 0x0, 0x1, 0x0, false, false, [0x0]⟩] ++
  [⟨0x84, 1, 0x4, 0x0, 0x0, 0x0, 0x0, 0x0, false, false, [0x0]⟩,
   ⟨0x88, 1, 0x4, 0x0, 0x0, 0x0, 0x0, 0x0, false, false, [0x0]⟩,
   ⟨0x8C, 1, 0x4, 0x0, 0x0, 0x0, 0x0, 0x0, false, false, [0x0]⟩,
   ⟨0xC0, 1, 0x4, 0x0, 0x0, 0x0, 0x0, 0x0, false, false, [0x0]⟩,
   ⟨0xC4, 1, 0x4, 0x0, 0x0, 0x0, 0x0, 0x0, false, false, [0x0]⟩,
   ⟨0xC8, 1, 0x4, 0x0, 0x0, 0x0, 0x0, 0x0, false, false, [0x0]⟩,
   ⟨0xCC, 1, 0x4, 0x0, 0x0, 0x0, 0x0, 0x0, false, false, [0x0]⟩,
   ⟨0xD0, 1, 0x4, 0x0, 0x0, 0x0, 0x0, 0x0, false, false, [0x0]⟩,
   ⟨0xD4, 1, 0x4, 0x0, 0x0, 0x0, 0x0, 0x0, false, false, [0x0]⟩,
   ⟨0xD8, 1, 0x4, 0x0, 0x0, 0x0, 0x0, 0x0, false, false, [0x0]⟩,
   ⟨0xDC, 1, 0x4, 0x0, 0x0, 0x0, 0x0, 0x0, false, false, [0x0]⟩,
   ⟨0xE0, 1, 0x4, 0x0, 0x0, 0x0, 0x0, 0x0, false, false, [0x0]⟩,
   ⟨0xE4, 1, 0x4, 0x0, 0x0, 0x0, 0x0, 0x0, false, false, [0x0]⟩,
   ⟨0xE8, 1, 0x4, 0x0, 0x0, 0x0, 0x0, 0x0, false, false, [0x0]⟩,
   ⟨0xEC, 1, 0x4, 0x0, 0x0, 0x0, 0x0, 0x0, false, false, [0x0]⟩,
   ⟨0xF0, 1, 0x4, 0x0, 0x0, 0x0, 0x0, 0x0, false, false, [0x0]⟩,
   ⟨0xF4, 1, 0x4, 0x0, 0x0, 0x0, 0x0, 0x0, false, false, [0x0]⟩,
   ⟨0xF8, 1, 0x4, 0x0, 0x0, 0x0, 0x0, 0x0, false, false, [0x0]⟩,
   ⟨0xFC, 1, 0x4, 0x0, 0x0, 0x0, 0x0, 0x0, false, false, [0x0]⟩,
   ⟨0x100, 1, 0x4, 0x0, 0x0, 0x0, 0x0, 0x0, false, false, [0x0]⟩] ++
  [⟨0x104, 1, 0x4, 0x0, 0x0, 0x0, 0x0, 0x0, false, false, [0x0]⟩,
   ⟨0x108, 1, 0x4, 0x0, 0x0, 0x0, 0x0, 0x0, false, false, [0x0]⟩]

/-- Page 0x060 (SW). -/
def rowsSW060 : List RegRow :=
  [⟨0x4, 1, 0x4, 0x0, 0x0, 0x0, 0x0, 0x0, false, false, [0x0]⟩,
   ⟨0x8, 1, 0x4, 0x7, 0x0, 0x0, 0x0, 0xFFFFFFF8, true, false, [0x2]⟩,
   ⟨0xC, 1, 0x4, 0x0, 0x0, 0x0, 0x0, 0x0, false, false, [0x0]⟩,
   ⟨0x10, 1, 0x4, 0x0, 0x0, 0x7, 0x0, 0x0, false, false, [0x0]⟩,
   ⟨0x14, 1, 0x4, 0xFFFFFFFF, 0x0, 0x0, 0x0, 0x0, true, false, [0x0]⟩,
   ⟨0x18, 1, 0x4, 0x0, 0x0, 0x0, 0x7, 0x0, false, false, [0x0]⟩,
   ⟨0x1C, 1, 0x4, 0x0, 0xFFFFFFFF, 0x0, 0x0, 0x0, true, false, [0x0]⟩,
   ⟨0x20, 1, 0x4, 0x0, 0x0, 0x0, 0x80000000, 0x0, false, false, [0x0]⟩,
   ⟨0x24, 7, 0x4, 0x0, 0x0, 0x0, 0x0, 0xFFFFFFFF, true, false, [0x0]⟩,
   ⟨0x40, 1, 0x4, 0x3FFF, 0x0, 0x0, 0x0, 0x0, true, false, [0xC8]⟩,
   ⟨0x44, 1, 0x4, 0xFFFF, 0x0, 0x0, 0x0, 0x0, true, false, [0x0]⟩,
   ⟨0x48, 1, 0x4, 0x0, 0x0, 0x0, 0x0, 0x0, false, false, [0x0]⟩,
   ⟨0x4C, 1, 0x4, 0x0, 0x0, 0x0, 0x0, 0x0, false, false, [0x0]⟩,
   ⟨0x50, 1, 0x4, 0x0, 0x0, 0x0, 0x0, 0x0, false, false, [0x16C00]⟩,
   ⟨0x54, 1, 0x4, 0x0, 0x0, 0x0, 0x107, 0x0, false, false, [0x0]⟩,
   ⟨0x80, 20, 0x4, 0xFFFFFFFF, 0x0, 0x0, 0x0, 0x0, true, false, [0x33333333]⟩,
   ⟨0x100, 20, 0x4, 0x1FFFF, 0x0, 0x0, 0x0, 0x0, true, false, [0x100]⟩,
   ⟨0x180, 8, 0x4, 0x8000FFFF, 0x0, 0x0, 0x0, 0x0, true, false, [0x0]⟩]

/-- Page 0x061 (SW). -/
def rowsSW061 : List RegRow :=
  [⟨0x4, 1, 0x4, 0x0, 0x0, 0x0, 0x0, 0x0, false, false, [0x0]⟩,
   ⟨0x8, 1, 0x4, 0x0, 0x0, 0x0, 0x0, 0xFFFFFFFF, true, false, [0x0]⟩,
   ⟨0xC, 1, 0x4, 0x0, 0x0, 0x0, 0x0, 0x0, false, false, [0x0]⟩,
   ⟨0x10, 1, 0x4, 0x0, 0x0, 0x0, 0x0, 0x0, false, false, [0x0]⟩,
   ⟨0x14, 1, 0x4, 0xFFFFFFFF, 0x0, 0x0, 0x0, 0x0, true, false, [0x0]⟩,
   ⟨0x18, 1, 0x4, 0x0, 0x0, 0x0, 0x0, 0x0, false, false, [0x0]⟩,
   ⟨0x1C, 1, 0x4, 0x0, 0xFFFFFFFF, 0x0, 0x0, 0x0, true, false, [0x0]⟩,
   ⟨0x20, 1, 0x4, 0x0, 0x0, 0x0, 0x80000000, 0x0, false, false, [0x0]⟩,
   ⟨0x24, 7, 0x4, 0x0, 0x0, 0x0, 0x0, 0xFFFFFFFF, true, false, [0x0]⟩,
   ⟨0x40, 20, 0x20, 0x0, 0x0, 0x0, 0x0, 0x0, false, false, [0x0]⟩,
   ⟨0x44, 20, 0x20, 0x0, 0x0, 0x0, 0x0, 0x0, false, false, [0x0]⟩,
   ⟨0x48, 20, 0x20, 0x0, 0x0, 0x0, 0x0, 0x0, false, false, [0x0]⟩,
   ⟨0x4C, 20, 0x20, 0x0, 0x0, 0x0, 0x0, 0x0, false, false, [0x0]⟩,
   ⟨0x50, 20, 0x20, 0x0, 0x0, 0x0, 0x0, 0x0, false, false, [0x0]⟩,
   ⟨0x54, 20, 0x20, 0x0, 0x0, 0x0, 0x0, 0x0, false, false, [0x0]⟩,
   ⟨0x58, 20, 0x20, 0x0, 0x0, 0x0, 0x0, 0x0, false, false, [0x0]⟩,
   ⟨0x5C, 20, 0x20, 0x0, 0x0, 0x0, 0x0, 0x0, false, false, [0x0]⟩,
   ⟨0x400, 256, 0x4, 0x0, 0x0, 0x0, 0x0, 0x0, false, false, [0x0]⟩]

/-- Pages 0x062, 0x063 (SW). -/
def rowsSW062 : List RegRow :=
  [⟨0x4, 1, 0x4, 0x0, 0x0, 0x0, 0x0, 0x0, false, false, [0x0]⟩,
   ⟨0x8, 1, 0x4, 0x0, 0x0, 0x0, 0x0, 0xFFFFFFFF, true, false, [0x0]⟩,
   ⟨0xC, 1, 0x4, 0x0, 0x0, 0x0, 0x0, 0x0, false, false, [0x0]⟩,
   ⟨0x10, 1, 0x4, 0x0, 0x0, 0x0, 0x0, 0x0, false, false, [0x0]⟩,
   ⟨0x14, 1, 0x4, 0xFFFFFFFF, 0x0, 0x0, 0x0, 0x0, true, false, [0x0]⟩,
   ⟨0x18, 1, 0x4, 0x0, 0x0, 0x0, 0x0, 0x0, false, false, [0x0]⟩,
   ⟨0x1C, 1, 0x4, 0x0, 0xFFFFFFFF, 0x0, 0x0, 0x0, true, false, [0x0]⟩,
   ⟨0x20, 1, 0x4, 0x0, 0x0, 0x0, 0x80000000, 0x0, false, false, [0x0]⟩,
   ⟨0x24, 7, 0x4, 0x0, 0x0, 0x0, 0x0, 0xFFFFFFFF, true, false, [0x0]⟩,
   ⟨0x40, 16, 0x20, 0xFFFFF000, 0x0, 0x0, 0x0, 0x0, true, false, [0x0]⟩,
   ⟨0x44, 16, 0x20, 0xFFFFFFFF, 0x0, 0x0, 0x0, 0x0, true, false, [0x0]⟩,
   ⟨0x48, 16, 0x20, 0xFFFF1F01, 0x0, 0x0, 0x0, 0xE0FE, true, false, [0x600]⟩,
   ⟨0x4C, 16, 0x20, 0x0, 0x0, 0x0, 0x0, 0x0, false, false, [0x0]⟩,
   ⟨0x50, 16, 0x20, 0xFFFF, 0x0, 0x0, 0x0, 0x0, false, false, [0x0]⟩,
   ⟨0x54, 16, 0x20, 0x0, 0x0, 0x0, 0x0, 0x0, false, false, [0x0]⟩,
   ⟨0x58, 16, 0x20, 0x0, 0x0, 0x0, 0x0, 0x0, false, false, [0x0]⟩]

/-- Page 0x070 (PE). -/
def rowsPE070 : List RegRow :=
  [⟨0x4, 1, 0x4, 0x0, 0x0, 0x0, 0x0, 0x0, false, false, [0x8]⟩,
   ⟨0x8, 1, 0x4, 0x3, 0x0, 0x0, 0x0, 0xFFFFFFFC, true, false, [0x0]⟩,
   ⟨0xC, 1, 0x4, 0x0, 0x0, 0x0, 0x0, 0x0, false, false, [0x0]⟩,
   ⟨0x10, 1, 0x4, 0x0, 0x0, 0x1F, 0x0, 0x0, false, false, [0x0]⟩,
   ⟨0x14, 1, 0x4, 0xFFFFFFFF, 0x0, 0x0, 0x0, 0x0, true, false, [0x0]⟩,
   ⟨0x18, 1, 0x4, 0x0, 0x0, 0x0, 0x1F, 0x0, false, false, [0x0]⟩,
   ⟨0x1C, 1, 0x4, 0x0, 0xFFFFFFFF, 0x0, 0x0, 0x0, true, false, [0x0]⟩,
   ⟨0x20, 1, 0x4, 0x0, 0x0, 0x0, 0x80000000, 0x0, false, false, [0x0]⟩,
   ⟨0x24, 7, 0x4, 0x0, 0x0, 0x0, 0x0, 0xFFFFFFFF, true, false, [0x0]⟩,
   ⟨0x40, 1, 0x4, 0xFFFFFFFF, 0x0, 0x0, 0x0, 0x0, true, false, [0x0]⟩,
   ⟨0x44, 1, 0x4, 0xFFFFFFFF, 0x0, 0x0, 0x0, 0x0, true, false, [0x0]⟩,
   ⟨0x48, 1, 0x4, 0xFFFFFFFF, 0x0, 0x0, 0x0, 0x0, true, false, [0xFFFF8080]⟩,
   ⟨0x4C, 1, 0x4, 0xFFFFFFFF, 0x0, 0x0, 0x0, 0x0, true, false, [0xA012C]⟩,
   ⟨0x50, 1, 0x4, 0xFFFFFFFF, 0x0, 0x0, 0x0, 0x0, true, false, [0x3D09000]⟩,
   ⟨0x54, 1, 0x4, 0xFFFF, 0x0, 0x0, 0x0, 0x0, true, false, [0x3E8]⟩,
   ⟨0x58, 1, 0x4, 0xFFFFFFFF, 0x0, 0x0, 0x0, 0x0, true, false, [0xF4240]⟩,
   ⟨0x80, 1, 0x4, 0x0, 0x0, 0x0, 0x0, 0x0, false, false, [0x0]⟩,
   ⟨0x84, 1, 0x4, 0x0, 0x0, 0x0, 0x0, 0x0, false, false, [0x0]⟩,
   ⟨0x88, 1, 0x4, 0x0, 0x0, 0x0, 0x0, 0x0, false, false, [0x0]⟩,
   ⟨0x8C, 1, 0x4, 0x0, 0x0, 0x0, 0x0, 0x0, false, false, [0x0]⟩] ++
  [⟨0x90, 1, 0x4, 0x0, 0x0, 0x0, 0x0, 0x0, false, false, [0x0]⟩,
   ⟨0x94, 1, 0x4, 0x0, 0x0, 0x0, 0x0, 0x0, false, false, [0x0]⟩,
   ⟨0x98, 1, 0x4, 0x0, 0x0, 0x0, 0x0, 0x0, false, false, [0x0]⟩,
   ⟨0x9C, 1, 0x4, 0x0, 0x0, 0x0, 0x0, 0x0, false, false, [0x0]⟩,
   ⟨0xA0, 1, 0x4, 0x0, 0x0, 0x0, 0x0, 0x0, false, false, [0x0]⟩,
   ⟨0xA4, 1, 0x4, 0x0, 0x0, 0x0, 0x0, 0x0, false, false, [0x0]⟩,
   ⟨0xA8, 1, 0x4, 0x0, 0x0, 0x0, 0x0, 0x0, false, false, [0x0]⟩,
   ⟨0xAC, 1, 0x4, 0x0, 0x0, 0x0, 0x0, 0x0, false, false, [0x0]⟩,
   ⟨0xB0, 1, 0x4, 0x0, 0x0, 0x0, 0x0, 0x0, false, false, [0x0]⟩,
   ⟨0x100, 16, 0x20, 0xFFE0FFFF, 0x0, 0x0, 0x0, 0x1F0000, true, false, [0x0]⟩,
   ⟨0x104, 16, 0x20, 0xFFFFFFFF, 0x0, 0x0, 0x0, 0x0, true, false, [0x0]⟩,
   ⟨0x108, 16, 0x20, 0xFFFFFFFF, 0x0, 0x0, 0x0, 0x0, true, false, [0x3000000]⟩,
   ⟨0x10C, 16, 0x20, 0xFFFF, 0x0, 0x0, 0x0, 0x0, true, false, [0x4F9]⟩,
   ⟨0x110, 16, 0x20, 0xFFFF0F, 0x0, 0x0, 0x0, 0x0, true, false, [0x800000]⟩,
   ⟨0x114, 16, 0x20, 0x0, 0x0, 0x0, 0x0, 0x0, false, false, [0x0]⟩,
   ⟨0x118, 16, 0x20, 0x0, 0x0, 0x0, 0x0, 0x0, false, false, [0x0]⟩]

/-- Page 0x071 (PE). -/
def rowsPE071 : List RegRow :=
  [⟨0x4, 1, 0x4, 0x0, 0x0, 0x0, 0x0, 0x0, false, false, [0x0]⟩,
   ⟨0x8, 1, 0x4, 0x0, 0x0, 0x0, 0x0, 0xFFFFFFFF, true, false, [0x0]⟩,
   ⟨0xC, 1, 0x4, 0x0, 0x0, 0x0, 0x0, 0x0, false, false, [0x0]⟩,
   ⟨0x10, 1, 0x4, 0x0, 0x0, 0x0, 0x0, 0x0, false, false, [0x0]⟩,
   ⟨0x14, 1, 0x4, 0xFFFFFFFF, 0x0, 0x0, 0x0, 0x0, true, false, [0x0]⟩,
   ⟨0x18, 1, 0x4, 0x0, 0x0, 0x0, 0x0, 0x0, false, false, [0x0]⟩,
   ⟨0x1C, 1, 0x4, 0x0, 0xFFFFFFFF, 0x0, 0x0, 0x0, true, false, [0x0]⟩,
   ⟨0x20, 1, 0x4, 0x0, 0x0, 0x0, 0x80000000, 0x0, false, false, [0x0]⟩,
   ⟨0x24, 7, 0x4, 0x0, 0x0, 0x0, 0x0, 0xFFFFFFFF, true, false, [0x0]⟩,
   ⟨0x40, 1, 0x4, 0xFC000000, 0x0, 0x0, 0x0, 0x0, true, false, [0x0]⟩,
   ⟨0x44, 1, 0x4, 0xFFFFFFFF, 0x0, 0x0, 0x0, 0x0, true, false, [0x0]⟩,
   ⟨0x48, 1, 0x4, 0x0, 0x0, 0x0, 0x0, 0x0, false, false, [0x0]⟩,
   ⟨0x4C, 1, 0x4, 0x0, 0x0, 0x0, 0x0, 0x0, false, false, [0x0]⟩,
   ⟨0x50, 1, 0x4, 0x0, 0x0, 0x0, 0x0, 0x0, false, false, [0x0]⟩,
   ⟨0x54, 1, 0x4, 0x0, 0x0, 0x0, 0x0, 0x0, false, false, [0x0]⟩,
   ⟨0x58, 1, 0x4, 0x0, 0x0, 0x0, 0x0, 0x0, false, false, [0x0]⟩,
   ⟨0x60, 1, 0x4, 0xFFFFF, 0x0, 0x0, 0x0, 0x0, false, false, [0x0]⟩,
   ⟨0x64, 1, 0x4, 0x0, 0x0, 0x0, 0x0, 0x0, false, false, [0x0]⟩,
   ⟨0x80, 16, 0x4, 0x0, 0x0, 0x0, 0x0, 0x0, false, false, [0x0]⟩]

/-- Page 0x072 (PE). -/
def rowsPE072 : List RegRow :=
  [⟨0x4, 1, 0x4, 0x0, 0x0, 0x0, 0x0, 0x0, false, false, [0x0]⟩,
   ⟨0x8, 1, 0x4, 0x0, 0x0, 0x0, 0x0, 0xFFFFFFFF, true, false, [0x0]⟩,
   ⟨0xC, 1, 0x4, 0x0, 0x0, 0x0, 0x0, 0x0, false, false, [0x0]⟩,
   ⟨0x10, 1, 0x4, 0x0, 0x0, 0x0, 0x0, 0x0, false, false, [0x0]⟩,
   ⟨0x14, 1, 0x4, 0xFFFFFFFF, 0x0, 0x0, 0x0, 0x0, true, false, [0x0]⟩,
   ⟨0x18, 1, 0x4, 0x0, 0x0, 0x0, 0x0, 0x0, false, false, [0x0]⟩,
   ⟨0x1C, 1, 0x4, 0x0, 0xFFFFFFFF, 0x0, 0x0, 0x0, true, false, [0x0]⟩,
   ⟨0x20, 1, 0x4, 0x0, 0x0, 0x0, 0x80000000, 0x0, false, false, [0x0]⟩,
   ⟨0x24, 7, 0x4, 0x0, 0x0, 0x0, 0x0, 0xFFFFFFFF, true, false, [0x0]⟩,
   ⟨0x40, 256, 0xC, 0xE0007F7F, 0x0, 0x0, 0x0, 0x0, true, true, [0x0]⟩,
   ⟨0x44, 256, 0xC, 0xFFFFFFFF, 0x0, 0x0, 0x0, 0x0, true, true, [0x0]⟩,
   ⟨0x48, 256, 0xC, 0xFFFFFFFF, 0x0, 0x0, 0x0, 0x0, true, true, [0x0]⟩]

/-- Page 0x073 (PE). -/
def rowsPE073 : List RegRow :=
  [⟨0x4, 1, 0x4, 0x0, 0x0, 0x0, 0x0, 0x0, false, false, [0x0]⟩,
   ⟨0x8, 1, 0x4, 0x0, 0x0, 0x0, 0x0, 0xFFFFFFFF, true, false, [0x0]⟩,
   ⟨0xC, 1, 0x4, 0x0, 0x0, 0x0, 0x0, 0x0, false, false, [0x0]⟩,
   ⟨0x10, 1, 0x4, 0x0, 0x0, 0x0, 0x0, 0x0, false, false, [0x0]⟩,
   ⟨0x14, 1, 0x4, 0xFFFFFFFF, 0x0, 0x0, 0x0, 0x0, true, false, [0x0]⟩,
   ⟨0x18, 1, 0x4, 0x0, 0x0, 0x0, 0x0, 0x0, false, false, [0x0]⟩,
   ⟨0x1C, 1, 0x4, 0x0, 0xFFFFFFFF, 0x0, 0x0, 0x0, true, false, [0x0]⟩,
   ⟨0x20, 1, 0x4, 0x0, 0x0, 0x0, 0x80000000, 0x0, false, false, [0x0]⟩,
   ⟨0x24, 7, 0x4, 0x0, 0x0, 0x0, 0x0, 0xFFFFFFFF, true, false, [0x0]⟩,
   ⟨0x40, 2, 0x80, 0xFFCFFFFF, 0x0, 0x0, 0x0, 0x0, true, false, [0x400000]⟩,
   ⟨0x44, 2, 0x80, 0xFFFFFFFF, 0x0, 0x0, 0x0, 0x0, true, false, [0x0]⟩,
   ⟨0x48, 2, 0x80, 0xFFFFFFFF, 0x0, 0x0, 0x0, 0x0, true, false, [0x0]⟩,
   ⟨0x4C, 2, 0x80, 0xFFFFFFFF, 0x0, 0x0, 0x0, 0x0, true, false, [0x0]⟩,
   ⟨0x50, 2, 0x80, 0xFFFFFFFF, 0x0, 0x0, 0x0, 0x0, true, false, [0x0]⟩,
   ⟨0x54, 2, 0x80, 0xFFFFFFFF, 0x0, 0x0, 0x0, 0x0, true, false, [0x3000000]⟩,
   ⟨0x58, 2, 0x80, 0xFFFF, 0x0, 0x0, 0x0, 0x0, true, false, [0x703]⟩,
   ⟨0x5C, 2, 0x80, 0xFFFFFFFF, 0x0, 0x0, 0x0, 0x0, true, false, [0x3E8]⟩,
   ⟨0x60, 2, 0x80, 0xFFFFFFFF, 0x0, 0x0, 0x0, 0x0, true, false, [0xF4240]⟩,
   ⟨0x80, 2, 0x80, 0x0, 0x0, 0x0, 0x0, 0x0, false, false, [0x0]⟩,
   ⟨0x84, 2, 0x80, 0x0, 0x0, 0x0, 0x0, 0x0, false, false, [0x0]⟩] ++
  [⟨0x88, 2, 0x80, 0x0, 0x0, 0x0, 0x0, 0x0, false, false, [0x0]⟩,
   ⟨0x8C, 2, 0x80, 0x0, 0x0, 0x0, 0x0, 0x0, false, false, [0x0]⟩,
   ⟨0x90, 2, 0x80, 0x0, 0x0, 0x0, 0x0, 0x0, false, false, [0x0]⟩,
   ⟨0x94, 2, 0x80, 0x0, 0x0, 0x0, 0x0, 0x0, false, false, [0x0]⟩,
   ⟨0x98, 2, 0x80, 0x0, 0x0, 0x0, 0x0, 0x0, false, false, [0x0]⟩,
   ⟨0x9C, 2, 0x80, 0x0, 0x0, 0x0, 0x0, 0x0, false, false, [0x0]⟩]

/-- Page 0x078 (NE). -/
def rowsNE078 : List RegRow :=
  [⟨0x4, 1, 0x4, 0x0, 0x0, 0x0, 0x0, 0x0, false, false, [0xC]⟩,
   ⟨0x8, 1, 0x4, 0x3F, 0x0, 0x0, 0x0, 0xFFFFFFC0, true, false, [0x24]⟩,
   ⟨0xC, 1, 0x4, 0x0, 0x0, 0x0, 0x0, 0x0, false, false, [0x0]⟩,
   ⟨0x10, 1, 0x4, 0x0, 0x0, 0x1F, 0x0, 0x0, false, false, [0x0]⟩,
   ⟨0x14, 1, 0x4, 0xFFFFFFFF, 0x0, 0x0, 0x0, 0x0, true, false, [0x0]⟩,
   ⟨0x18, 1, 0x4, 0x0, 0x0, 0x0, 0x1F, 0x0, false, false, [0x0]⟩,
   ⟨0x1C, 1, 0x4, 0x0, 0xFFFFFFFF, 0x0, 0x0, 0x0, true, false, [0x0]⟩,
   ⟨0x20, 1, 0x4, 0x0, 0x0, 0x0, 0x80000000, 0x0, false, false, [0x0]⟩,
   ⟨0x24, 7, 0x4, 0x0, 0x0, 0x0, 0x0, 0xFFFFFFFF, true, false, [0x0]⟩,
   ⟨0x40, 4, 0x4, 0xFFFFFFFF, 0x0, 0x0, 0x0, 0x0, true, false, [0x0]⟩,
   ⟨0x50, 16, 0x4, 0xFFFFFFFF, 0x0, 0x0, 0x0, 0x0, true, false, [0x0]⟩,
   ⟨0x90, 1, 0x4, 0xFF, 0x0, 0x0, 0x0, 0x0, true, false, [0x0]⟩,
   ⟨0x94, 1, 0x4, 0xFFFFFFFF, 0x0, 0x0, 0x0, 0x0, true, false, [0xF4240]⟩,
   ⟨0x98, 1, 0x4, 0xFFFF, 0x0, 0x0, 0x0, 0x0, true, false, [0xFA0]⟩,
   ⟨0x9C, 1, 0x4, 0xFFFF, 0x0, 0x0, 0x0, 0x0, true, false, [0x1104]⟩,
   ⟨0xA0, 1, 0x4, 0x3FFF, 0x0, 0x0, 0x0, 0x0, true, false, [0x2E40]⟩,
   ⟨0xA4, 1, 0x4, 0xFFFFFFFF, 0x0, 0x0, 0x0, 0x0, true, false, [0x0]⟩,
   ⟨0xA8, 1, 0x4, 0x7FF, 0x0, 0x0, 0x0, 0x0, true, false, [0x4B0]⟩,
   ⟨0xAC, 1, 0x4, 0xFFFF, 0x0, 0x0, 0x0, 0x0, true, false, [0x3E8]⟩,
   ⟨0xC0, 1, 0x4, 0x0, 0x0, 0x0, 0x0, 0x0, false, false, [0x0]⟩] ++
  [⟨0xC4, 1, 0x4, 0x0, 0x0, 0x0, 0x0, 0x0, false, false, [0x0]⟩,
   ⟨0xC8, 1, 0x4, 0x0, 0x0, 0x0, 0x0, 0x0, false, false, [0x0]⟩,
   ⟨0xCC, 1, 0x4, 0x0, 0x0, 0x0, 0x0, 0x0, false, false, [0x0]⟩,
   ⟨0xD0, 1, 0x4, 0x0, 0x0, 0x0, 0x0, 0x0, false, false, [0x0]⟩,
   ⟨0xD4, 1, 0x4, 0x0, 0x0, 0x0, 0x0, 0x0, false, false, [0x0]⟩,
   ⟨0xD8, 1, 0x4, 0x0, 0x0, 0x0, 0x0, 0x0, false, false, [0x0]⟩,
   ⟨0xDC, 1, 0x4, 0x0, 0x0, 0x0, 0x0, 0x0, false, false, [0x0]⟩,
   ⟨0xE0, 1, 0x4, 0x0, 0x0, 0x0, 0x0, 0x0, false, false, [0x0]⟩,
   ⟨0xE4, 1, 0x4, 0x0, 0x0, 0x0, 0x0, 0x0, false, false, [0x0]⟩,
   ⟨0xE8, 1, 0x4, 0x0, 0x0, 0x0, 0x0, 0x0, false, false, [0x0]⟩,
   ⟨0xEC, 1, 0x4, 0x0, 0x0, 0x0, 0x0, 0x0, false, false, [0x0]⟩,
   ⟨0xF0, 1, 0x4, 0x0, 0x0, 0x0, 0x0, 0x0, false, false, [0x0]⟩,
   ⟨0xF4, 1, 0x4, 0x0, 0x0, 0x0, 0x0, 0x0, false, false, [0x0]⟩,
   ⟨0xF8, 1, 0x4, 0x0, 0x0, 0x0, 0x0, 0x0, false, false, [0x0]⟩,
   ⟨0xFC, 1, 0x4, 0x0, 0x0, 0x0, 0x0, 0x0, false, false, [0x0]⟩,
   ⟨0x100, 1, 0x4, 0x0, 0x0, 0x0, 0x0, 0x0, false, false, [0x0]⟩,
   ⟨0x104, 1, 0x4, 0x0, 0x0, 0x0, 0x0, 0x0, false, false, [0x0]⟩,
   ⟨0x108, 1, 0x4, 0x0, 0x0, 0x0, 0x0, 0x0, false, false, [0x0]⟩,
   ⟨0x10C, 1, 0x4, 0x0, 0x0, 0x0, 0x0, 0x0, false, false, [0x0]⟩,
   ⟨0x110, 1, 0x4, 0x0, 0x0, 0x0, 0x0, 0x0, false, false, [0x0]⟩] ++
  [⟨0x114, 1, 0x4, 0x0, 0x0, 0x0, 0x0, 0x0, false, false, [0x0]⟩]

/-- Page 0x079 (NE). -/
def rowsNE079 : List RegRow :=
  [⟨0x4, 1, 0x4, 0x0, 0x0, 0x0, 0x0, 0x0, false, false, [0x0]⟩,
   ⟨0x8, 1, 0x4, 0x0, 0x0, 0x0, 0x0, 0xFFFFFFFF, true, false, [0x0]⟩,
   ⟨0xC, 1, 0x4, 0x0, 0x0, 0x0, 0x0, 0x0, false, false, [0x0]⟩,
   ⟨0x10, 1, 0x4, 0x0, 0x0, 0x0, 0x0, 0x0, false, false, [0x0]⟩,
   ⟨0x14, 1, 0x4, 0xFFFFFFFF, 0x0, 0x0, 0x0, 0x0, true, false, [0x0]⟩,
   ⟨0x18, 1, 0x4, 0x0, 0x0, 0x0, 0x0, 0x0, false, false, [0x0]⟩,
   ⟨0x1C, 1, 0x4, 0x0, 0xFFFFFFFF, 0x0, 0x0, 0x0, true, false, [0x0]⟩,
   ⟨0x20, 1, 0x4, 0x0, 0x0, 0x0, 0x80000000, 0x0, false, false, [0x0]⟩,
   ⟨0x24, 7, 0x4, 0x0, 0x0, 0x0, 0x0, 0xFFFFFFFF, true, false, [0x0]⟩,
   ⟨0x40, 1, 0x4, 0x0, 0x0, 0x0, 0x0, 0x0, false, false, [0x0]⟩,
   ⟨0x44, 1, 0x4, 0x0, 0x0, 0x0, 0x0, 0x0, false, false, [0x0]⟩,
   ⟨0x48, 1, 0x4, 0x0, 0x0, 0x0, 0x0, 0x0, false, false, [0x0]⟩,
   ⟨0x4C, 1, 0x4, 0xFFFFFFFF, 0x0, 0x0, 0x0, 0x0, true, true, [0x2A300]⟩,
   ⟨0x50, 1, 0x4, 0x0, 0x0, 0x0, 0x1, 0x0, false, true, [0x0]⟩,
   ⟨0x60, 1, 0x4, 0xFFFFF000, 0x0, 0x0, 0x0, 0x0, true, false, [0x0]⟩,
   ⟨0x64, 1, 0x4, 0xFFFFFFFF, 0x0, 0x0, 0x0, 0x0, true, false, [0x0]⟩,
   ⟨0x68, 1, 0x4, 0x8000000F, 0x0, 0x0, 0x0, 0x0, true, false, [0x4]⟩,
   ⟨0x6C, 1, 0x4, 0x0, 0x0, 0x0, 0x0, 0x0, false, false, [0x0]⟩,
   ⟨0x70, 1, 0x4, 0xFFF, 0x0, 0x0, 0x0, 0x0, false, false, [0x0]⟩,
   ⟨0x74, 1, 0x4, 0x0, 0x0, 0x0, 0x0, 0x0, false, false, [0x0]⟩] ++
  [⟨0x78, 1, 0x4, 0x0, 0x0, 0x0, 0x0, 0x0, false, false, [0x0]⟩]

/-- Page 0x07A (NE). -/
def rowsNE07A : List RegRow :=
  [⟨0x4, 1, 0x4, 0x0, 0x0, 0x0, 0x0, 0x0, false, false, [0x0]⟩,
   ⟨0x8, 1, 0x4, 0x0, 0x0, 0x0, 0x0, 0xFFFFFFFF, true, false, [0x0]⟩,
   ⟨0xC, 1, 0x4, 0x0, 0x0, 0x0, 0x0, 0x0, false, false, [0x0]⟩,
   ⟨0x10, 1, 0x4, 0x0, 0x0, 0x0, 0x0, 0x0, false, false, [0x0]⟩,
   ⟨0x14, 1, 0x4, 0xFFFFFFFF, 0x0, 0x0, 0x0, 0x0, true, false, [0x0]⟩,
   ⟨0x18, 1, 0x4, 0x0, 0x0, 0x0, 0x0, 0x0, false, false, [0x0]⟩,
   ⟨0x1C, 1, 0x4, 0x0, 0xFFFFFFFF, 0x0, 0x0, 0x0, true, false, [0x0]⟩,
   ⟨0x20, 1, 0x4, 0x0, 0x0, 0x0, 0x80000000, 0x0, false, false, [0x0]⟩,
   ⟨0x24, 7, 0x4, 0x0, 0x0, 0x0, 0x0, 0xFFFFFFFF, true, false, [0x0]⟩,
   ⟨0x40, 1, 0x4, 0xFF, 0x0, 0x0, 0x0, 0x0, true, false, [0x40]⟩,
   ⟨0x44, 1, 0x4, 0xFFFF, 0x0, 0x0, 0x0, 0x0, true, false, [0x3E8]⟩,
   ⟨0x48, 1, 0x4, 0xFFFFFFFF, 0x0, 0x0, 0x0, 0x0, true, false, [0x800]⟩,
   ⟨0x4C, 1, 0x4, 0xFFFFFFFF, 0x0, 0x0, 0x0, 0x0, true, false, [0x2000]⟩,
   ⟨0x50, 1, 0x4, 0xFFE00000, 0x0, 0x0, 0x0, 0x0, true, false, [0x0]⟩,
   ⟨0x54, 1, 0x4, 0xFFFFFFFF, 0x0, 0x0, 0x0, 0x0, true, false, [0x0]⟩,
   ⟨0x80, 1, 0x4, 0x0, 0x0, 0x0, 0x0, 0x0, false, false, [0x0]⟩,
   ⟨0x84, 1, 0x4, 0x0, 0x0, 0x0, 0x0, 0x0, false, false, [0x0]⟩,
   ⟨0x88, 1, 0x4, 0x0, 0x0, 0x0, 0x0, 0x0, false, false, [0x0]⟩]

/-- Page 0x080 (KS). -/
def rowsKS080 : List RegRow :=
  [⟨0x4, 1, 0x4, 0x0, 0x0, 0x0, 0x0, 0x0, false, false, [0x188]⟩,
   ⟨0x8, 1, 0x4, 0x0, 0x0, 0x0, 0x0, 0xFFFFFFFF, true, false, [0x0]⟩,
   ⟨0xC, 1, 0x4, 0x0, 0x0, 0x0, 0x0, 0x0, false, false, [0x0]⟩,
   ⟨0x10, 1, 0x4, 0x0, 0x0, 0xF, 0x0, 0x0, false, false, [0x0]⟩,
   ⟨0x14, 1, 0x4, 0xFFFFFFFF, 0x0, 0x0, 0x0, 0x0, true, false, [0x0]⟩,
   ⟨0x18, 1, 0x4, 0x0, 0x0, 0x0, 0xF, 0x0, false, false, [0x0]⟩,
   ⟨0x1C, 1, 0x4, 0x0, 0xFFFFFFFF, 0x0, 0x0, 0x0, true, false, [0x0]⟩,
   ⟨0x20, 1, 0x4, 0x0, 0x0, 0x0, 0x80000000, 0x0, false, false, [0x0]⟩,
   ⟨0x24, 7, 0x4, 0x0, 0x0, 0x0, 0x0, 0xFFFFFFFF, true, false, [0x0]⟩,
   ⟨0x40, 1, 0x4, 0x0, 0x0, 0x0, 0x0, 0x0, false, false, [0x0]⟩,
   ⟨0x44, 1, 0x4, 0x0, 0x0, 0x0, 0x807F7FFF, 0x0, false, true, [0x0]⟩,
   ⟨0x48, 1, 0x4, 0xFFFFFFFF, 0x0, 0x0, 0x0, 0x0, false, true, [0x0]⟩,
   ⟨0x4C, 1, 0x4, 0x87FFFFFF, 0x0, 0x0, 0x0, 0x0, false, true, [0x0]⟩,
   ⟨0x50, 1, 0x4, 0x0, 0x0, 0x0, 0x0, 0x0, false, false, [0x0]⟩,
   ⟨0x60, 4, 0x4, 0x0, 0x0, 0x0, 0x0, 0x0, false, false, [0x0]⟩,
   ⟨0x80, 12, 0x4, 0x0, 0x0, 0x0, 0x0, 0x0, false, false, [0x0]⟩,
   ⟨0xC0, 1, 0x4, 0x0, 0x0, 0x0, 0x0, 0x0, false, false, [0x0]⟩,
   ⟨0xC4, 1, 0x4, 0x0, 0x0, 0x0, 0x0, 0x0, false, false, [0x0]⟩,
   ⟨0xC8, 1, 0x4, 0x0, 0x0, 0x0, 0x0, 0x0, false, false, [0x0]⟩,
   ⟨0xCC, 1, 0x4, 0x0, 0x0, 0x0, 0x0, 0x0, false, false, [0x0]⟩]

/-- Page 0x081 (KS). -/
def rowsKS081 : List RegRow :=
  [⟨0x4, 1, 0x4, 0x0, 0x0, 0x0, 0x0, 0x0, false, false, [0x0]⟩,
   ⟨0x8, 1, 0x4, 0x0, 0x0, 0x0, 0x0, 0xFFFFFFFF, true, false, [0x0]⟩,
   ⟨0xC, 1, 0x4, 0x0, 0x0, 0x0, 0x0, 0x0, false, false, [0x0]⟩,
   ⟨0x10, 1, 0x4, 0x0, 0x0, 0x0, 0x0, 0x0, false, false, [0x0]⟩,
   ⟨0x14, 1, 0x4, 0xFFFFFFFF, 0x0, 0x0, 0x0, 0x0, true, false, [0x0]⟩,
   ⟨0x18, 1, 0x4, 0x0, 0x0, 0x0, 0x0, 0x0, false, false, [0x0]⟩,
   ⟨0x1C, 1, 0x4, 0x0, 0xFFFFFFFF, 0x0, 0x0, 0x0, true, false, [0x0]⟩,
   ⟨0x20, 1, 0x4, 0x0, 0x0, 0x0, 0x80000000, 0x0, false, false, [0x0]⟩,
   ⟨0x24, 7, 0x4, 0x0, 0x0, 0x0, 0x0, 0xFFFFFFFF, true, false, [0x0]⟩,
   ⟨0x40, 128, 0x10, 0x0, 0x0, 0x0, 0x0, 0x0, false, false, [0x0]⟩,
   ⟨0x44, 128, 0x10, 0x0, 0x0, 0x0, 0x0, 0x0, false, false, [0x8000]⟩,
   ⟨0xC00, 256, 0x4, 0xFFFFFFFF, 0x0, 0x0, 0x0, 0x0, false, true, [0x0]⟩]

/-- Page 0x088 (TP). -/
def rowsTP088 : List RegRow :=
  [⟨0x4, 1, 0x4, 0x0, 0x0, 0x0, 0x0, 0x0, false, false, [0x0]⟩,
   ⟨0x8, 1, 0x4, 0x0, 0x0, 0x0, 0x0, 0xFFFFFFFF, true, true, [0x0]⟩,
   ⟨0xC, 1, 0x4, 0x0, 0x0, 0x0, 0x0, 0x0, false, false, [0x0]⟩,
   ⟨0x10, 1, 0x4, 0x0, 0x0, 0xF, 0x0, 0x0, false, true, [0x0]⟩,
   ⟨0x14, 1, 0x4, 0xFFFFFFFF, 0x0, 0x0, 0x0, 0x0, true, true, [0x0]⟩,
   ⟨0x18, 1, 0x4, 0x0, 0x0, 0x0, 0xF, 0x0, false, true, [0x0]⟩,
   ⟨0x1C, 1, 0x4, 0x0, 0xFFFFFFFF, 0x0, 0x0, 0x0, true, true, [0x0]⟩,
   ⟨0x20, 1, 0x4, 0x0, 0x0, 0x0, 0x80000000, 0x0, false, true, [0x0]⟩,
   ⟨0x24, 7, 0x4, 0x0, 0x0, 0x0, 0x0, 0xFFFFFFFF, true, true, [0x0]⟩,
   ⟨0x40, 1, 0x4, 0xFF, 0x0, 0x0, 0x0, 0x0, false, true, [0x0]⟩,
   ⟨0x44, 1, 0x4, 0xFFFFFFFF, 0x0, 0x0, 0x0, 0x0, false, true, [0x0]⟩,
   ⟨0x48, 1, 0x4, 0x0, 0x0, 0x0, 0x0, 0x0, false, true, [0x0]⟩,
   ⟨0x4C, 1, 0x4, 0x0, 0x0, 0x0, 0x0, 0x0, false, true, [0x0]⟩,
   ⟨0x50, 1, 0x4, 0x0, 0x0, 0x0, 0x0, 0x0, false, true, [0x0]⟩,
   ⟨0x54, 1, 0x4, 0x0, 0x0, 0x0, 0x0, 0x0, false, true, [0x0]⟩,
   ⟨0x58, 1, 0x4, 0x0, 0x0, 0x0, 0x0, 0x0, false, true, [0x0]⟩,
   ⟨0x60, 1, 0x4, 0x0, 0x0, 0x0, 0x0, 0x0, false, true, [0x0]⟩]

/-- Pages 0x090, 0x091, 0x092, 0x093, 0x094, 0x095, 0x096, 0x097, 0x098, 0x099, 0x09A, 0x09B, 0x09C, 0x09D, 0x09E, 0x09F (OU). -/
def rowsOU090 : List RegRow :=
  [⟨0x4, 1, 0x4, 0x0, 0x0, 0x0, 0x0, 0x0, false, false, [0x0]⟩,
   ⟨0x8, 1, 0x4, 0x7, 0x0, 0x0, 0x0, 0xFFFFFFF8, true, false, [0x0]⟩,
   ⟨0xC, 1, 0x4, 0x0, 0x0, 0x0, 0x0, 0x0, false, false, [0x2]⟩,
   ⟨0x10, 1, 0x4, 0x0, 0x0, 0x7F, 0x0, 0x0, false, false, [0x0]⟩,
   ⟨0x14, 1, 0x4, 0xFFFFFFFF, 0x0, 0x0, 0x0, 0x0, true, false, [0x0]⟩,
   ⟨0x18, 1, 0x4, 0x0, 0x0, 0x0, 0x7F, 0x0, false, false, [0x0]⟩,
   ⟨0x1C, 1, 0x4, 0x0, 0xFFFFFFFF, 0x0, 0x0, 0x0, true, false, [0x0]⟩,
   ⟨0x20, 1, 0x4, 0x0, 0x0, 0x0, 0x80000000, 0x0, false, false, [0x0]⟩,
   ⟨0x24, 7, 0x4, 0x0, 0x0, 0x0, 0x0, 0xFFFFFFFF, true, false, [0x0]⟩,
   ⟨0x40, 1, 0x4, 0x1F1377, 0x0, 0x0, 0x0, 0xFFE0EC88, true, false, [0x70200]⟩,
   ⟨0x44, 1, 0x4, 0xFFFF, 0x0, 0x0, 0x0, 0x0, true, false, [0x1]⟩,
   ⟨0x48, 1, 0x4, 0x3FFFFFFF, 0x0, 0x0, 0x0, 0x0, true, false, [0x0]⟩,
   ⟨0x4C, 1, 0x4, 0x3FFFFFFF, 0x0, 0x0, 0x0, 0x0, true, false, [0x989680]⟩,
   ⟨0x50, 1, 0x4, 0x3FFFFFFF, 0x0, 0x0, 0x0, 0x0, true, false, [0x0]⟩,
   ⟨0x54, 1, 0x4, 0x1FFFFFF, 0x0, 0x0, 0x0, 0x0, true, false, [0x64]⟩,
   ⟨0x58, 1, 0x4, 0xFFFFFFFF, 0x0, 0x0, 0x0, 0x0, true, false, [0x0]⟩,
   ⟨0x5C, 1, 0x4, 0xFFFFF, 0x0, 0x0, 0x0, 0x0, true, false, [0x2710]⟩,
   ⟨0x60, 1, 0x4, 0xFFFFFFFF, 0x0, 0x0, 0x0, 0x0, true, false, [0x0]⟩,
   ⟨0x64, 1, 0x4, 0x7F1F, 0x0, 0x0, 0x0, 0xFFFF80E0, true, false, [0x8]⟩,
   ⟨0x68, 1, 0x4, 0xFFFF, 0x0, 0x0, 0x0, 0x0, true, false, [0x32]⟩] ++
  [⟨0x80, 1, 0x4, 0x0, 0x0, 0x0, 0x0, 0x0, false, false, [0x1007]⟩,
   ⟨0x84, 1, 0x4, 0x0, 0x0, 0x0, 0x0, 0x0, false, false, [0x0]⟩,
   ⟨0x88, 1, 0x4, 0x0, 0x0, 0x0, 0x0, 0x0, false, false, [0x0]⟩,
   ⟨0x8C, 1, 0x4, 0x0, 0x0, 0x0, 0x0, 0x0, false, false, [0x0]⟩,
   ⟨0x90, 1, 0x4, 0x0, 0x0, 0x0, 0x0, 0x0, false, false, [0x0]⟩]

/-- Pages 0x0A0, 0x0A1, 0x0A2, 0x0A3, 0x0A4, 0x0A5, 0x0A6, 0x0A7 (PP). -/
def rowsPP0A0 : List RegRow :=
  [⟨0x4, 1, 0x4, 0x0, 0x0, 0x0, 0x0, 0x0, false, false, [0x0]⟩,
   ⟨0x8, 1, 0x4, 0x0, 0x0, 0x0, 0x0, 0xFFFFFFFF, true, false, [0x0]⟩,
   ⟨0xC, 1, 0x4, 0x0, 0x0, 0x0, 0x0, 0x0, false, false, [0x0]⟩,
   ⟨0x10, 1, 0x4, 0x0, 0x0, 0x1F, 0x0, 0x0, false, false, [0x0]⟩,
   ⟨0x14, 1, 0x4, 0xFFFFFFFF, 0x0, 0x0, 0x0, 0x0, true, false, [0x0]⟩,
   ⟨0x18, 1, 0x4, 0x0, 0x0, 0x0, 0x1F, 0x0, false, false, [0x0]⟩,
   ⟨0x1C, 1, 0x4, 0x0, 0xFFFFFFFF, 0x0, 0x0, 0x0, true, false, [0x0]⟩,
   ⟨0x20, 1, 0x4, 0x0, 0x0, 0x0, 0x80000000, 0x0, false, false, [0x0]⟩,
   ⟨0x24, 7, 0x4, 0x0, 0x0, 0x0, 0x0, 0xFFFFFFFF, true, false, [0x0]⟩,
   ⟨0x40, 1, 0x4, 0x70F, 0x0, 0x0, 0x0, 0xFFFFF8F0, true, false, [0x0]⟩,
   ⟨0x44, 1, 0x4, 0x0, 0xFFFF, 0x0, 0x0, 0x0, false, false, [0x1000]⟩,
   ⟨0x48, 1, 0x4, 0xFFFFF, 0x0, 0x0, 0x0, 0x0, true, false, [0x98968]⟩,
   ⟨0x4C, 1, 0x4, 0x0, 0xFFFFFFFF, 0x0, 0x0, 0x0, false, false, [0x0]⟩,
   ⟨0x50, 8, 0x4, 0x0, 0xC1FF01FF, 0x0, 0x0, 0x0, false, false, [0x0]⟩,
   ⟨0x70, 1, 0x4, 0x0, 0x0, 0x0, 0x0, 0x0, false, false, [0x0]⟩,
   ⟨0x80, 1, 0x4, 0x0, 0x0, 0x0, 0x1, 0x0, false, false, [0x0]⟩,
   ⟨0x84, 1, 0x4, 0x0, 0x0, 0x0, 0x0, 0x0, false, false, [0x0]⟩,
   ⟨0x88, 1, 0x4, 0x0, 0x0, 0x0, 0x0, 0x0, false, false, [0x0]⟩,
   ⟨0x8C, 1, 0x4, 0x0, 0x0, 0x0, 0x0, 0x0, false, false, [0x0]⟩,
   ⟨0x90, 1, 0x4, 0x0, 0x0, 0x0, 0x0, 0x0, false, false, [0x0]⟩] ++
  [⟨0x94, 1, 0x4, 0x0, 0x0, 0x0, 0x0, 0x0, false, false, [0x0]⟩,
   ⟨0x98, 1, 0x4, 0x0, 0x0, 0x0, 0x0, 0x0, false, false, [0x0]⟩,
   ⟨0x9C, 1, 0x4, 0x0, 0x0, 0x0, 0x0, 0x0, false, false, [0x0]⟩,
   ⟨0xA0, 4, 0x4, 0xFFFFFFFF, 0x0, 0x0, 0x0, 0x0, false, false, [0x0]⟩,
   ⟨0xB0, 1, 0x4, 0x0, 0x0, 0x0, 0x103, 0x0, false, false, [0x0]⟩,
   ⟨0x400, 64, 0x10, 0xB000FFFF, 0x0, 0x0, 0x0, 0x0, true, false, [0x0]⟩,
   ⟨0x404, 64, 0x10, 0x8F7FFFFF, 0x0, 0x0, 0x0, 0x0, true, false, [0x0]⟩,
   ⟨0x408, 64, 0x10, 0xFFFFFFFF, 0x0, 0x0, 0x0, 0x0, true, false, [0x0]⟩,
   ⟨0x40C, 64, 0x10, 0xFFFFF, 0x0, 0x0, 0x0, 0x0, true, false, [0x0]⟩]

/-- Pages 0x0A8, 0x0A9, 0x0AA, 0x0AB, 0x0AC, 0x0AD, 0x0AE, 0x0AF, 0x0B0, 0x0B1, 0x0B2, 0x0B3, 0x0B4, 0x0B5, 0x0B6, 0x0B7, 0x0B8, 0x0B9, 0x0BA, 0x0BB (PP). -/
def rowsPP0A8 : List RegRow :=
  [⟨0x4, 1, 0x4, 0x0, 0x0, 0x0, 0x0, 0x0, false, false, [0x0]⟩,
   ⟨0x8, 1, 0x4, 0x0, 0x0, 0x0, 0x0, 0xFFFFFFFF, true, false, [0x0]⟩,
   ⟨0xC, 1, 0x4, 0x0, 0x0, 0x0, 0x0, 0x0, false, false, [0x0]⟩,
   ⟨0x10, 1, 0x4, 0x0, 0x0, 0x1F, 0x0, 0x0, false, false, [0x0]⟩,
   ⟨0x14, 1, 0x4, 0xFFFFFFFF, 0x0, 0x0, 0x0, 0x0, true, false, [0x0]⟩,
   ⟨0x18, 1, 0x4, 0x0, 0x0, 0x0, 0x1F, 0x0, false, false, [0x0]⟩,
   ⟨0x1C, 1, 0x4, 0x0, 0xFFFFFFFF, 0x0, 0x0, 0x0, true, false, [0x0]⟩,
   ⟨0x20, 1, 0x4, 0x0, 0x0, 0x0, 0x80000000, 0x0, false, false, [0x0]⟩,
   ⟨0x24, 7, 0x4, 0x0, 0x0, 0x0, 0x0, 0xFFFFFFFF, true, false, [0x0]⟩,
   ⟨0x40, 1, 0x4, 0x70F, 0x0, 0x0, 0x0, 0xFFFFF8F0, true, false, [0x0]⟩,
   ⟨0x44, 1, 0x4, 0x0, 0xFFFF, 0x0, 0x0, 0x0, false, false, [0x1000]⟩,
   ⟨0x48, 1, 0x4, 0xFFFFF, 0x0, 0x0, 0x0, 0x0, true, false, [0x98968]⟩,
   ⟨0x4C, 1, 0x4, 0x0, 0xFFFFFFFF, 0x0, 0x0, 0x0, false, false, [0x0]⟩,
   ⟨0x50, 8, 0x4, 0x0, 0xC1FF01FF, 0x0, 0x0, 0x0, false, false, [0x0]⟩,
   ⟨0x70, 1, 0x4, 0x0, 0x0, 0x0, 0x0, 0x0, false, false, [0x0]⟩,
   ⟨0x80, 1, 0x4, 0x0, 0x0, 0x0, 0x1, 0x0, false, false, [0x0]⟩,
   ⟨0x84, 1, 0x4, 0x0, 0x0, 0x0, 0x0, 0x0, false, false, [0x0]⟩,
   ⟨0x88, 1, 0x4, 0x0, 0x0, 0x0, 0x0, 0x0, false, false, [0x0]⟩,
   ⟨0x8C, 1, 0x4, 0x0, 0x0, 0x0, 0x0, 0x0, false, false, [0x0]⟩,
   ⟨0x90, 1, 0x4, 0x0, 0x0, 0x0, 0x0, 0x0, false, false, [0x0]⟩] ++
  [⟨0x94, 1, 0x4, 0x0, 0x0, 0x0, 0x0, 0x0, false, false, [0x0]⟩,
   ⟨0x98, 1, 0x4, 0x0, 0x0, 0x0, 0x0, 0x0, false, false, [0x0]⟩,
   ⟨0x9C, 1, 0x4, 0x0, 0x0, 0x0, 0x0, 0x0, false, false, [0x0]⟩,
   ⟨0xA0, 4, 0x4, 0xFFFFFFFF, 0x0, 0x0, 0x0, 0x0, false, false, [0x0]⟩,
   ⟨0xB0, 1, 0x4, 0x0, 0x0, 0x0, 0x103, 0x0, false, false, [0x0]⟩]

/-- Page 0x0C0 (LS). -/
def rowsLS0C0 : List RegRow :=
  [⟨0x4, 1, 0x4, 0x0, 0x0, 0x0, 0x0, 0x0, false, false, [0x0]⟩,
   ⟨0x8, 1, 0x4, 0x3, 0x0, 0x0, 0x0, 0xFFFFFFFC, true, false, [0x0]⟩,
   ⟨0xC, 1, 0x4, 0x0, 0x0, 0x0, 0x0, 0x0, false, false, [0x0]⟩,
   ⟨0x10, 1, 0x4, 0x0, 0x0, 0x7FF, 0x0, 0x0, false, false, [0x0]⟩,
   ⟨0x14, 1, 0x4, 0xFFFFFFFF, 0x0, 0x0, 0x0, 0x0, true, false, [0x0]⟩,
   ⟨0x18, 1, 0x4, 0x0, 0x0, 0x0, 0x7FF, 0x0, false, false, [0x0]⟩,
   ⟨0x1C, 1, 0x4, 0x0, 0xFFFFFFFF, 0x0, 0x0, 0x0, true, false, [0x0]⟩,
   ⟨0x20, 1, 0x4, 0x0, 0x0, 0x0, 0x80000000, 0x0, false, false, [0x0]⟩,
   ⟨0x24, 7, 0x4, 0x0, 0x0, 0x0, 0x0, 0xFFFFFFFF, true, false, [0x0]⟩,
   ⟨0x40, 1, 0x4, 0xF7, 0x0, 0x0, 0x0, 0xFFFFFF08, true, false, [0x67]⟩,
   ⟨0x44, 1, 0x4, 0xFFFF, 0x0, 0x0, 0x0, 0x0, true, false, [0x0]⟩,
   ⟨0x48, 1, 0x4, 0x3FF, 0x0, 0x0, 0x0, 0x0, true, false, [0x1F4]⟩,
   ⟨0x4C, 1, 0x4, 0xFFFF, 0x0, 0x0, 0x0, 0x0, true, false, [0xA]⟩,
   ⟨0x50, 1, 0x4, 0xFFFF, 0x0, 0x0, 0x0, 0x0, true, false, [0x64]⟩,
   ⟨0x54, 1, 0x4, 0xFFFF, 0x0, 0x0, 0x0, 0x0, true, false, [0x3E8]⟩,
   ⟨0x58, 1, 0x4, 0xFFFF, 0x0, 0x0, 0x0, 0x0, true, false, [0x0]⟩,
   ⟨0x5C, 1, 0x4, 0x3, 0x0, 0x0, 0x0, 0x0, true, false, [0x0]⟩,
   ⟨0x80, 1, 0x4, 0x0, 0x0, 0x0, 0xF, 0x0, false, false, [0x0]⟩,
   ⟨0x84, 1, 0x4, 0x0, 0x0, 0x0, 0x0, 0x0, false, false, [0x0]⟩,
   ⟨0x88, 1, 0x4, 0x0, 0x0, 0x0, 0x0, 0x0, false, false, [0x0]⟩] ++
  [⟨0x8C, 1, 0x4, 0x0, 0x0, 0x0, 0x0, 0x0, false, false, [0x0]⟩,
   ⟨0x90, 1, 0x4, 0x0, 0x0, 0x0, 0x0, 0x0, false, false, [0x0]⟩,
   ⟨0x94, 1, 0x4, 0x0, 0x0, 0x0, 0x0, 0x0, false, false, [0x0]⟩,
   ⟨0x98, 1, 0x4, 0x0, 0x0, 0x0, 0x0, 0x0, false, false, [0x0]⟩,
   ⟨0x9C, 1, 0x4, 0x0, 0x0, 0x0, 0x0, 0x0, false, false, [0x0]⟩]

/-- Page 0x0C1 (PF). -/
def rowsPF0C1 : List RegRow :=
  [⟨0x4, 1, 0x4, 0x0, 0x0, 0x0, 0x0, 0x0, false, false, [0x0]⟩,
   ⟨0x8, 1, 0x4, 0xF, 0x0, 0x0, 0x0, 0xFFFFFFF0, true, false, [0x0]⟩,
   ⟨0xC, 1, 0x4, 0x0, 0x0, 0x0, 0x0, 0x0, false, false, [0x0]⟩,
   ⟨0x10, 1, 0x4, 0x0, 0x0, 0x7F, 0x0, 0x0, false, false, [0x0]⟩,
   ⟨0x14, 1, 0x4, 0xFFFFFFFF, 0x0, 0x0, 0x0, 0x0, true, false, [0x0]⟩,
   ⟨0x18, 1, 0x4, 0x0, 0x0, 0x0, 0x7F, 0x0, false, false, [0x0]⟩,
   ⟨0x1C, 1, 0x4, 0x0, 0xFFFFFFFF, 0x0, 0x0, 0x0, true, false, [0x0]⟩,
   ⟨0x20, 1, 0x4, 0x0, 0x0, 0x0, 0x80000000, 0x0, false, false, [0x0]⟩,
   ⟨0x24, 7, 0x4, 0x0, 0x0, 0x0, 0x0, 0xFFFFFFFF, true, false, [0x0]⟩,
   ⟨0x40, 1, 0x4, 0xFFFFFFFF, 0x0, 0x0, 0x0, 0x0, true, false, [0xA00]⟩,
   ⟨0x44, 1, 0x4, 0xFFFFFFFF, 0x0, 0x0, 0x0, 0x0, true, false, [0xB00]⟩,
   ⟨0x48, 1, 0x4, 0xFFFFFFFF, 0x0, 0x0, 0x0, 0x0, true, false, [0xA00]⟩,
   ⟨0x4C, 1, 0x4, 0xFFFFFFFF, 0x0, 0x0, 0x0, 0x0, true, false, [0xB00]⟩,
   ⟨0x50, 1, 0x4, 0xFF, 0x0, 0x0, 0x0, 0x0, true, false, [0x10]⟩,
   ⟨0x54, 1, 0x4, 0xFFFF, 0x0, 0x0, 0x0, 0x0, true, false, [0x3E8]⟩,
   ⟨0x80, 1, 0x4, 0x0, 0x0, 0x0, 0x0, 0x0, false, false, [0x0]⟩,
   ⟨0x84, 1, 0x4, 0x0, 0x0, 0x0, 0x0, 0x0, false, false, [0x0]⟩,
   ⟨0x88, 1, 0x4, 0x0, 0x0, 0x0, 0x0, 0x0, false, false, [0x0]⟩]

/-- Page 0x0C2 (AB). -/
def rowsAB0C2 : List RegRow :=
  [⟨0x4, 1, 0x4, 0x0, 0x0, 0x0, 0x0, 0x0, false, false, [0x0]⟩,
   ⟨0x8, 1, 0x4, 0x7, 0x0, 0x0, 0x0, 0xFFFFFFF8, true, false, [0x0]⟩,
   ⟨0xC, 1, 0x4, 0x0, 0x0, 0x0, 0x0, 0x0, false, false, [0x0]⟩,
   ⟨0x10, 1, 0x4, 0x0, 0x0, 0x3, 0x0, 0x0, false, false, [0x0]⟩,
   ⟨0x14, 1, 0x4, 0xFFFFFFFF, 0x0, 0x0, 0x0, 0x0, true, false, [0x0]⟩,
   ⟨0x18, 1, 0x4, 0x0, 0x0, 0x0, 0x3, 0x0, false, false, [0x0]⟩,
   ⟨0x1C, 1, 0x4, 0x0, 0xFFFFFFFF, 0x0, 0x0, 0x0, true, false, [0x0]⟩,
   ⟨0x20, 1, 0x4, 0x0, 0x0, 0x0, 0x80000000, 0x0, false, false, [0x0]⟩,
   ⟨0x24, 7, 0x4, 0x0, 0x0, 0x0, 0x0, 0xFFFFFFFF, true, false, [0x0]⟩,
   ⟨0x40, 1, 0x4, 0xFFFF, 0x0, 0x0, 0x0, 0x0, true, false, [0x0]⟩,
   ⟨0x44, 1, 0x4, 0xFFFFFFFF, 0x0, 0x0, 0x0, 0x0, true, false, [0x0]⟩,
   ⟨0x48, 1, 0x4, 0xFFFF, 0x0, 0x0, 0x0, 0x0, true, false, [0x300]⟩,
   ⟨0x4C, 1, 0x4, 0x7F, 0x0, 0x0, 0x0, 0x0, true, false, [0x0]⟩,
   ⟨0x80, 1, 0x4, 0x0, 0x0, 0x0, 0x0, 0x0, false, false, [0x0]⟩,
   ⟨0x84, 1, 0x4, 0x0, 0x0, 0x0, 0x0, 0x0, false, false, [0x0]⟩,
   ⟨0x88, 1, 0x4, 0x0, 0x0, 0x0, 0x0, 0x0, false, false, [0x0]⟩,
   ⟨0x8C, 1, 0x4, 0x0, 0x0, 0x0, 0x0, 0x0, false, false, [0x0]⟩,
   ⟨0x90, 1, 0x4, 0x0, 0x0, 0x0, 0x0, 0x0, false, false, [0x0]⟩]

/-- Page 0x0C8 (UL). -/
def rowsUL0C8 : List RegRow :=
  [⟨0x4, 1, 0x4, 0x0, 0x0, 0x0, 0x0, 0x0, false, false, [0x0]⟩,
   ⟨0x8, 1, 0x4, 0x1, 0x0, 0x0, 0x0, 0xFFFFFFFE, true, false, [0x0]⟩,
   ⟨0xC, 1, 0x4, 0x0, 0x0, 0x0, 0x0, 0x0, false, false, [0x0]⟩,
   ⟨0x10, 1, 0x4, 0x0, 0x0, 0x31F, 0x0, 0x0, false, false, [0x0]⟩,
   ⟨0x14, 1, 0x4, 0xFFFFFFFF, 0x0, 0x0, 0x0, 0x0, true, false, [0x0]⟩,
   ⟨0x18, 1, 0x4, 0x0, 0x0, 0x0, 0x31F, 0x0, false, false, [0x0]⟩,
   ⟨0x1C, 1, 0x4, 0x0, 0xFFFFFFFF, 0x0, 0x0, 0x0, true, false, [0x0]⟩,
   ⟨0x20, 1, 0x4, 0x0, 0x0, 0x0, 0x80000000, 0x0, false, false, [0x0]⟩,
   ⟨0x24, 7, 0x4, 0x0, 0x0, 0x0, 0x0, 0xFFFFFFFF, true, false, [0x0]⟩,
   ⟨0x40, 1, 0x4, 0xF03, 0x0, 0x0, 0x0, 0xFFFFF0FC, true, false, [0x500]⟩,
   ⟨0x44, 1, 0x4, 0xFFFFFFFF, 0x0, 0x0, 0x0, 0x0, true, false, [0x0]⟩,
   ⟨0x48, 1, 0x4, 0xFFFFFFFF, 0x0, 0x0, 0x0, 0x0, true, false, [0x0]⟩,
   ⟨0x4C, 1, 0x4, 0xFFFFFFFF, 0x0, 0x0, 0x0, 0x0, true, false, [0x64]⟩,
   ⟨0x80, 1, 0x4, 0x0, 0x0, 0x0, 0x0, 0x0, false, false, [0x0]⟩,
   ⟨0x84, 1, 0x4, 0x0, 0x0, 0x0, 0x0, 0x0, false, false, [0x0]⟩,
   ⟨0x88, 1, 0x4, 0x0, 0x0, 0x0, 0x0, 0x0, false, false, [0x0]⟩,
   ⟨0x8C, 1, 0x4, 0x0, 0x0, 0x0, 0x0, 0x0, false, false, [0x0]⟩,
   ⟨0x90, 1, 0x4, 0x0, 0x0, 0x0, 0x0, 0x0, false, false, [0x0]⟩,
   ⟨0x94, 1, 0x4, 0x0, 0x0, 0x0, 0x0, 0x0, false, false, [0x0]⟩,
   ⟨0x98, 1, 0x4, 0x0, 0x0, 0x0, 0x0, 0x0, false, false, [0x0]⟩] ++
  [⟨0x9C, 1, 0x4, 0x0, 0x0, 0x0, 0x0, 0x0, false, false, [0x0]⟩,
   ⟨0xA0, 1, 0x4, 0x0, 0x0, 0x0, 0x0, 0x0, false, false, [0x0]⟩,
   ⟨0xC0, 1, 0x4, 0x0, 0x0, 0x0, 0x0, 0x0, false, false, [0x0]⟩,
   ⟨0xC4, 1, 0x4, 0x0, 0x0, 0x0, 0x0, 0x0, false, false, [0x0]⟩,
   ⟨0xC8, 1, 0x4, 0x0, 0x0, 0x0, 0x0, 0x0, false, false, [0x0]⟩,
   ⟨0xCC, 1, 0x4, 0x0, 0x0, 0x0, 0x0, 0x0, false, false, [0x0]⟩,
   ⟨0xD0, 1, 0x4, 0x0, 0x0, 0x0, 0x0, 0x0, false, false, [0x0]⟩,
   ⟨0xD4, 1, 0x4, 0x0, 0x0, 0x0, 0x0, 0x0, false, false, [0x0]⟩,
   ⟨0x200, 1, 0x4, 0xFFF, 0x0, 0x0, 0x0, 0x0, true, false, [0x0]⟩,
   ⟨0x204, 1, 0x4, 0xFF01, 0x0, 0x0, 0x0, 0x0, true, false, [0x1000]⟩,
   ⟨0x208, 1, 0x4, 0x0, 0x0, 0x0, 0x0, 0x0, false, false, [0xF0]⟩,
   ⟨0x20C, 1, 0x4, 0x0, 0x0, 0x0, 0x0, 0x0, false, false, [0x0]⟩,
   ⟨0x400, 128, 0x4, 0x1FF, 0x0, 0x0, 0x0, 0x0, false, false, [0xFC]⟩]

/-- Pages 0x0C9, 0x0CA, 0x0CB (UL). -/
def rowsUL0C9 : List RegRow :=
  [⟨0x4, 1, 0x4, 0x0, 0x0, 0x0, 0x0, 0x0, false, false, [0x0]⟩,
   ⟨0x8, 1, 0x4, 0x1, 0x0, 0x0, 0x0, 0xFFFFFFFE, true, false, [0x0]⟩,
   ⟨0xC, 1, 0x4, 0x0, 0x0, 0x0, 0x0, 0x0, false, false, [0x0]⟩,
   ⟨0x10, 1, 0x4, 0x0, 0x0, 0x31F, 0x0, 0x0, false, false, [0x0]⟩,
   ⟨0x14, 1, 0x4, 0xFFFFFFFF, 0x0, 0x0, 0x0, 0x0, true, false, [0x0]⟩,
   ⟨0x18, 1, 0x4, 0x0, 0x0, 0x0, 0x31F, 0x0, false, false, [0x0]⟩,
   ⟨0x1C, 1, 0x4, 0x0, 0xFFFFFFFF, 0x0, 0x0, 0x0, true, false, [0x0]⟩,
   ⟨0x20, 1, 0x4, 0x0, 0x0, 0x0, 0x80000000, 0x0, false, false, [0x0]⟩,
   ⟨0x24, 7, 0x4, 0x0, 0x0, 0x0, 0x0, 0xFFFFFFFF, true, false, [0x0]⟩,
   ⟨0x40, 1, 0x4, 0xF03, 0x0, 0x0, 0x0, 0xFFFFF0FC, true, false, [0x500]⟩,
   ⟨0x44, 1, 0x4, 0xFFFFFFFF, 0x0, 0x0, 0x0, 0x0, true, false, [0x0]⟩,
   ⟨0x48, 1, 0x4, 0xFFFFFFFF, 0x0, 0x0, 0x0, 0x0, true, false, [0x0]⟩,
   ⟨0x4C, 1, 0x4, 0xFFFFFFFF, 0x0, 0x0, 0x0, 0x0, true, false, [0x64]⟩,
   ⟨0x80, 1, 0x4, 0x0, 0x0, 0x0, 0x0, 0x0, false, false, [0x0]⟩,
   ⟨0x84, 1, 0x4, 0x0, 0x0, 0x0, 0x0, 0x0, false, false, [0x0]⟩,
   ⟨0x88, 1, 0x4, 0x0, 0x0, 0x0, 0x0, 0x0, false, false, [0x0]⟩,
   ⟨0x8C, 1, 0x4, 0x0, 0x0, 0x0, 0x0, 0x0, false, false, [0x0]⟩,
   ⟨0x90, 1, 0x4, 0x0, 0x0, 0x0, 0x0, 0x0, false, false, [0x0]⟩,
   ⟨0x94, 1, 0x4, 0x0, 0x0, 0x0, 0x0, 0x0, false, false, [0x0]⟩,
   ⟨0x98, 1, 0x4, 0x0, 0x0, 0x0, 0x0, 0x0, false, false, [0x0]⟩] ++
  [⟨0x9C, 1, 0x4, 0x0, 0x0, 0x0, 0x0, 0x0, false, false, [0x0]⟩,
   ⟨0xA0, 1, 0x4, 0x0, 0x0, 0x0, 0x0, 0x0, false, false, [0x0]⟩,
   ⟨0xC0, 1, 0x4, 0x0, 0x0, 0x0, 0x0, 0x0, false, false, [0x0]⟩,
   ⟨0xC4, 1, 0x4, 0x0, 0x0, 0x0, 0x0, 0x0, false, false, [0x0]⟩,
   ⟨0xC8, 1, 0x4, 0x0, 0x0, 0x0, 0x0, 0x0, false, false, [0x0]⟩,
   ⟨0xCC, 1, 0x4, 0x0, 0x0, 0x0, 0x0, 0x0, false, false, [0x0]⟩,
   ⟨0xD0, 1, 0x4, 0x0, 0x0, 0x0, 0x0, 0x0, false, false, [0x0]⟩,
   ⟨0xD4, 1, 0x4, 0x0, 0x0, 0x0, 0x0, 0x0, false, false, [0x0]⟩]

/-- Page 0x0D0 (JN). -/
def rowsJN0D0 : List RegRow :=
  [⟨0x4, 1, 0x4, 0x0, 0x0, 0x0, 0x0, 0x0, false, false, [0x0]⟩,
   ⟨0x8, 1, 0x4, 0x7, 0x0, 0x0, 0x0, 0xFFFFFFF8, true, false, [0x4]⟩,
   ⟨0xC, 1, 0x4, 0x0, 0x0, 0x0, 0x0, 0x0, false, false, [0x0]⟩,
   ⟨0x10, 1, 0x4, 0x0, 0x0, 0x1F, 0x0, 0x0, false, false, [0x0]⟩,
   ⟨0x14, 1, 0x4, 0xFFFFFFFF, 0x0, 0x0, 0x0, 0x0, true, false, [0x0]⟩,
   ⟨0x18, 1, 0x4, 0x0, 0x0, 0x0, 0x1F, 0x0, false, false, [0x0]⟩,
   ⟨0x1C, 1, 0x4, 0x0, 0xFFFFFFFF, 0x0, 0x0, 0x0, true, false, [0x0]⟩,
   ⟨0x20, 1, 0x4, 0x0, 0x0, 0x0, 0x80000000, 0x0, false, false, [0x0]⟩,
   ⟨0x24, 7, 0x4, 0x0, 0x0, 0x0, 0x0, 0xFFFFFFFF, true, false, [0x0]⟩,
   ⟨0x40, 1, 0x4, 0x3, 0x0, 0x0, 0x0, 0x0, false, false, [0x0]⟩,
   ⟨0x44, 1, 0x4, 0x7, 0x0, 0x0, 0x0, 0x0, true, false, [0x2]⟩,
   ⟨0x48, 1, 0x4, 0x0, 0x0, 0x0, 0x0, 0x0, false, false, [0x0]⟩,
   ⟨0x4C, 1, 0x4, 0x0, 0x0, 0x0, 0x0, 0x0, false, false, [0x0]⟩,
   ⟨0x50, 1, 0x4, 0x0, 0x0, 0x0, 0x0, 0x0, false, false, [0x0]⟩,
   ⟨0x54, 1, 0x4, 0x0, 0x0, 0x0, 0x0, 0x0, false, false, [0x0]⟩,
   ⟨0x58, 1, 0x4, 0x0, 0x0, 0x0, 0x0, 0x0, false, false, [0x0]⟩,
   ⟨0x60, 1, 0x4, 0xFFFFFFFF, 0x0, 0x0, 0x0, 0x0, false, false, [0x0]⟩,
   ⟨0x64, 1, 0x4, 0xFFFFFFFF, 0x0, 0x0, 0x0, 0x0, false, false, [0x0]⟩,
   ⟨0x68, 1, 0x4, 0x0, 0x0, 0x0, 0x800003FF, 0x0, false, false, [0x0]⟩]

/-- Page 0x0D1 (JN). -/
def rowsJN0D1 : List RegRow :=
  [⟨0x4, 1, 0x4, 0x0, 0x0, 0x0, 0x0, 0x0, false, false, [0x0]⟩,
   ⟨0x8, 1, 0x4, 0x0, 0x0, 0x0, 0x0, 0xFFFFFFFF, true, false, [0x0]⟩,
   ⟨0xC, 1, 0x4, 0x0, 0x0, 0x0, 0x0, 0x0, false, false, [0x0]⟩,
   ⟨0x10, 1, 0x4, 0x0, 0x0, 0x0, 0x0, 0x0, false, false, [0x0]⟩,
   ⟨0x14, 1, 0x4, 0xFFFFFFFF, 0x0, 0x0, 0x0, 0x0, true, false, [0x0]⟩,
   ⟨0x18, 1, 0x4, 0x0, 0x0, 0x0, 0x0, 0x0, false, false, [0x0]⟩,
   ⟨0x1C, 1, 0x4, 0x0, 0xFFFFFFFF, 0x0, 0x0, 0x0, true, false, [0x0]⟩,
   ⟨0x20, 1, 0x4, 0x0, 0x0, 0x0, 0x80000000, 0x0, false, false, [0x0]⟩,
   ⟨0x24, 7, 0x4, 0x0, 0x0, 0x0, 0x0, 0xFFFFFFFF, true, false, [0x0]⟩,
   ⟨0x40, 1, 0x4, 0xF0000000, 0x0, 0x0, 0x0, 0x0, true, false, [0x0]⟩,
   ⟨0x44, 1, 0x4, 0xFFFFFFFF, 0x0, 0x0, 0x0, 0x0, true, false, [0x0]⟩,
   ⟨0x48, 1, 0x4, 0x3F, 0x0, 0x0, 0x0, 0x0, true, false, [0x1]⟩,
   ⟨0x50, 1, 0x4, 0x0, 0x0, 0x0, 0x0, 0x0, false, false, [0x0]⟩,
   ⟨0x54, 1, 0x4, 0x0, 0x0, 0x0, 0x0, 0x0, false, false, [0x0]⟩,
   ⟨0x58, 1, 0x4, 0x0, 0x0, 0x0, 0x0, 0x0, false, false, [0x0]⟩,
   ⟨0x5C, 1, 0x4, 0x0, 0x0, 0x0, 0x0, 0x0, false, false, [0x0]⟩,
   ⟨0x60, 1, 0x4, 0x0, 0x0, 0x0, 0x0, 0x0, false, false, [0x0]⟩,
   ⟨0x64, 1, 0x4, 0x0, 0x0, 0x0, 0x0, 0x0, false, false, [0x0]⟩,
   ⟨0x68, 1, 0x4, 0x8000000F, 0x0, 0x0, 0x0, 0x0, true, false, [0x0]⟩,
   ⟨0x6C, 1, 0x4, 0x0, 0x0, 0x0, 0x0, 0x0, false, false, [0x0]⟩] ++
  [⟨0x70, 1, 0x4, 0x0, 0x0, 0x0, 0x0, 0x0, false, false, [0x0]⟩]

/-- Page 0x0D2 (JN). -/
def rowsJN0D2 : List RegRow :=
  [⟨0x4, 1, 0x4, 0x0, 0x0, 0x0, 0x0, 0x0, false, false, [0x0]⟩,
   ⟨0x8, 1, 0x4, 0x0, 0x0, 0x0, 0x0, 0xFFFFFFFF, true, false, [0x0]⟩,
   ⟨0xC, 1, 0x4, 0x0, 0x0, 0x0, 0x0, 0x0, false, false, [0x0]⟩,
   ⟨0x10, 1, 0x4, 0x0, 0x0, 0x0, 0x0, 0x0, false, false, [0x0]⟩,
   ⟨0x14, 1, 0x4, 0xFFFFFFFF, 0x0, 0x0, 0x0, 0x0, true, false, [0x0]⟩,
   ⟨0x18, 1, 0x4, 0x0, 0x0, 0x0, 0x0, 0x0, false, false, [0x0]⟩,
   ⟨0x1C, 1, 0x4, 0x0, 0xFFFFFFFF, 0x0, 0x0, 0x0, true, false, [0x0]⟩,
   ⟨0x20, 1, 0x4, 0x0, 0x0, 0x0, 0x80000000, 0x0, false, false, [0x0]⟩,
   ⟨0x24, 7, 0x4, 0x0, 0x0, 0x0, 0x0, 0xFFFFFFFF, true, false, [0x0]⟩,
   ⟨0x40, 1, 0x4, 0x3, 0x0, 0x0, 0x0, 0x0, true, false, [0x0]⟩,
   ⟨0x44, 1, 0x4, 0x0, 0x0, 0x0, 0x0, 0x0, false, false, [0x0]⟩,
   ⟨0x48, 1, 0x4, 0x0, 0x0, 0x0, 0x0, 0x0, false, false, [0x0]⟩,
   ⟨0x4C, 1, 0x4, 0x0, 0x0, 0x0, 0x0, 0x0, false, false, [0x0]⟩]

/-- Page 0x0D3 (JN). -/
def rowsJN0D3 : List RegRow :=
  [⟨0x4, 1, 0x4, 0x0, 0x0, 0x0, 0x0, 0x0, false, false, [0x0]⟩,
   ⟨0x8, 1, 0x4, 0x0, 0x0, 0x0, 0x0, 0xFFFFFFFF, true, false, [0x0]⟩,
   ⟨0xC, 1, 0x4, 0x0, 0x0, 0x0, 0x0, 0x0, false, false, [0x0]⟩,
   ⟨0x10, 1, 0x4, 0x0, 0x0, 0x0, 0x0, 0x0, false, false, [0x0]⟩,
   ⟨0x14, 1, 0x4, 0xFFFFFFFF, 0x0, 0x0, 0x0, 0x0, true, false, [0x0]⟩,
   ⟨0x18, 1, 0x4, 0x0, 0x0, 0x0, 0x0, 0x0, false, false, [0x0]⟩,
   ⟨0x1C, 1, 0x4, 0x0, 0xFFFFFFFF, 0x0, 0x0, 0x0, true, false, [0x0]⟩,
   ⟨0x20, 1, 0x4, 0x0, 0x0, 0x0, 0x80000000, 0x0, false, false, [0x0]⟩,
   ⟨0x24, 7, 0x4, 0x0, 0x0, 0x0, 0x0, 0xFFFFFFFF, true, false, [0x0]⟩,
   ⟨0x40, 1, 0x4, 0x0, 0x0, 0x0, 0x0, 0xFFFFFFF0, true, false, [0x1]⟩,
   ⟨0x44, 1, 0x4, 0x0, 0x0, 0x0, 0x0, 0xFFFFFFF0, true, false, [0x1]⟩,
   ⟨0x48, 1, 0x4, 0x0, 0x0, 0x0, 0x0, 0xFFFFFFF0, true, false, [0x1]⟩,
   ⟨0x4C, 1, 0x4, 0x0, 0x0, 0x0, 0x0, 0xFFFFFFF0, true, false, [0x1]⟩,
   ⟨0x50, 1, 0x4, 0xD, 0x0, 0x0, 0x0, 0xFFFFFFF0, true, false, [0x5]⟩,
   ⟨0x54, 1, 0x4, 0xD, 0x0, 0x0, 0x0, 0xFFFFFFF0, true, false, [0x5]⟩,
   ⟨0x58, 1, 0x4, 0xD, 0x0, 0x0, 0x0, 0xFFFFFFF0, true, false, [0x4]⟩,
   ⟨0x5C, 1, 0x4, 0xF, 0x0, 0x0, 0x0, 0xFFFFFFF0, true, false, [0x5]⟩,
   ⟨0x60, 1, 0x4, 0xF, 0x0, 0x0, 0x0, 0xFFFFFFF0, true, false, [0x4]⟩,
   ⟨0x64, 1, 0x4, 0xF, 0x0, 0x0, 0x0, 0xFFFFFFF0, true, false, [0x4]⟩,
   ⟨0x68, 1, 0x4, 0x0, 0x0, 0x0, 0x0, 0xFFFFFFF0, true, false, [0x1]⟩] ++
  [⟨0x6C, 1, 0x4, 0xD, 0x0, 0x0, 0x0, 0xFFFFFFF0, true, false, [0x5]⟩,
   ⟨0x70, 1, 0x4, 0x1, 0x0, 0x0, 0x0, 0xFFFFFFF0, true, false, [0x1]⟩,
   ⟨0x74, 1, 0x4, 0xD, 0x0, 0x0, 0x0, 0xFFFFFFF0, true, false, [0x5]⟩,
   ⟨0x78, 1, 0x4, 0x0, 0x0, 0x0, 0x0, 0xFFFFFFF0, true, false, [0x1]⟩,
   ⟨0x7C, 1, 0x4, 0x0, 0x0, 0x0, 0x0, 0xFFFFFFF0, true, false, [0x1]⟩]

/-- Page 0x0D8 (FC). -/
def rowsFC0D8 : List RegRow :=
  [⟨0x4, 1, 0x4, 0x0, 0x0, 0x0, 0x0, 0x0, false, false, [0x0]⟩,
   ⟨0x8, 1, 0x4, 0x1, 0x0, 0x0, 0x0, 0xFFFFFFFE, true, false, [0x0]⟩,
   ⟨0xC, 1, 0x4, 0x0, 0x0, 0x0, 0x0, 0x0, false, false, [0x0]⟩,
   ⟨0x10, 1, 0x4, 0x0, 0x0, 0xF, 0x0, 0x0, false, false, [0x0]⟩,
   ⟨0x14, 1, 0x4, 0xFFFFFFFF, 0x0, 0x0, 0x0, 0x0, true, false, [0x0]⟩,
   ⟨0x18, 1, 0x4, 0x0, 0x0, 0x0, 0xF, 0x0, false, false, [0x0]⟩,
   ⟨0x1C, 1, 0x4, 0x0, 0xFFFFFFFF, 0x0, 0x0, 0x0, true, false, [0x0]⟩,
   ⟨0x20, 1, 0x4, 0x0, 0x0, 0x0, 0x80000000, 0x0, false, false, [0x0]⟩,
   ⟨0x24, 7, 0x4, 0x0, 0x0, 0x0, 0x0, 0xFFFFFFFF, true, false, [0x0]⟩,
   ⟨0x40, 1, 0x4, 0x0, 0x0, 0xFFFFFFFF, 0x0, 0x0, false, false, [0x0]⟩,
   ⟨0x44, 1, 0x4, 0x0, 0x0, 0x0, 0x0, 0x0, false, false, [0x0]⟩,
   ⟨0x48, 1, 0x4, 0x0, 0x0, 0x0, 0x0, 0x0, false, false, [0x0]⟩,
   ⟨0x4C, 1, 0x4, 0x0, 0x0, 0x0, 0xFFFFFFFF, 0x0, false, true, [0x0]⟩,
   ⟨0x50, 1, 0x4, 0x0, 0x0, 0x0, 0x0, 0x0, false, false, [0x0]⟩,
   ⟨0x54, 1, 0x4, 0x0, 0x0, 0x80000000, 0x0, 0x0, false, false, [0x0]⟩,
   ⟨0x60, 12, 0x4, 0x70, 0x0, 0x0, 0x0, 0x0, true, false, [0x40]⟩,
   ⟨0x100, 1, 0x4, 0x0, 0x0, 0x0, 0x0, 0x0, true, false, [0xFF0000]⟩,
   ⟨0x104, 28, 0x10, 0xFFFF, 0x0, 0x0, 0x0, 0x0, true, false, [0x0, 0x3E8, 0x3E8, 0x0, 0x0, 0x0, 0x0, 0x0, 0x0, 0x0, 0xEA60, 0x0, 0x0, 0x0, 0xEA60, 0x0, 0x3E8, 0x0, 0x0, 0x0, 0x0, 0x0, 0x0, 0x0, 0x3E8, 0x3E8, 0x0, 0x0]⟩,
   ⟨0x108, 28, 0x10, 0x0, 0x0, 0x0, 0x0, 0x0, false, false, [0x0]⟩,
   ⟨0x10C, 28, 0x10, 0x0, 0x0, 0x0, 0x0, 0x0, false, false, [0x0]⟩] ++
  [⟨0x110, 27, 0x10, 0xFF3F3F, 0x0, 0x0, 0x0, 0xFF00C0C0, true, false, [0x100120, 0x30B2A, 0xFF0929, 0xFF0929, 0xFF0121, 0xFF0121, 0xFF0A2A, 0xFF0A2A, 0xFF0A2A, 0x20221, 0xFF0121, 0xFF0121, 0xFF0121, 0x40221, 0xFF0121, 0x80321, 0xFF0121, 0xFF0121, 0xFF0121, 0xFF0121, 0xFF0121, 0xFF0A2A, 0xFF0A2A, 0x20221, 0x100A21, 0xFF0A2A, 0x0]⟩,
   ⟨0x300, 16, 0x4, 0xFFFF, 0x0, 0x0, 0x0, 0x0, true, false, [0x7FFE, 0x0, 0x2098, 0x0, 0x20, 0x340, 0x0, 0x0, 0x0, 0x0, 0x300, 0x0, 0x368, 0x0, 0x0, 0x0]⟩]

/-- Pages 0x0E0, 0x0E1, 0x0E2, 0x0E3 (PC). -/
def rowsPC0E0 : List RegRow :=
  [⟨0x4, 1, 0x4, 0x0, 0x0, 0x0, 0x0, 0x0, false, false, [0x0]⟩,
   ⟨0x8, 1, 0x4, 0x0, 0x0, 0x0, 0x0, 0xFFFFFFFF, true, false, [0x0]⟩,
   ⟨0xC, 1, 0x4, 0x0, 0x0, 0x0, 0x0, 0x0, false, false, [0x0]⟩,
   ⟨0x10, 1, 0x4, 0x0, 0x0, 0x3FF, 0x0, 0x0, false, false, [0x0]⟩,
   ⟨0x14, 1, 0x4, 0xFFFFFFFF, 0x0, 0x0, 0x0, 0x0, true, false, [0x0]⟩,
   ⟨0x18, 1, 0x4, 0x0, 0x0, 0x0, 0x3FF, 0x0, false, false, [0x0]⟩,
   ⟨0x1C, 1, 0x4, 0x0, 0xFFFFFFFF, 0x0, 0x0, 0x0, true, false, [0x0]⟩,
   ⟨0x20, 1, 0x4, 0x0, 0x0, 0x0, 0x80000000, 0x0, false, false, [0x0]⟩,
   ⟨0x24, 7, 0x4, 0x0, 0x0, 0x0, 0x0, 0xFFFFFFFF, true, false, [0x0]⟩,
   ⟨0x40, 1, 0x4, 0x7, 0x0, 0x0, 0x0, 0x0, false, false, [0x0]⟩,
   ⟨0x48, 1, 0x4, 0x0, 0x0, 0x0, 0x0, 0x0, false, false, [0x0]⟩,
   ⟨0x4C, 1, 0x4, 0x0, 0x0, 0x0, 0x0, 0x0, false, false, [0x0]⟩,
   ⟨0x80, 8, 0x10, 0xFFFFFFF, 0x0, 0x0, 0x0, 0x0, false, false, [0x0]⟩,
   ⟨0x84, 8, 0x10, 0xFFFFFFFF, 0x0, 0x0, 0x0, 0x0, false, false, [0x0]⟩,
   ⟨0x88, 8, 0x10, 0xFFFFFFFF, 0x0, 0x0, 0x0, 0x0, false, false, [0x0]⟩,
   ⟨0x8C, 8, 0x10, 0xFFFF, 0x0, 0x0, 0x0, 0x0, false, false, [0x0]⟩]

/-- Page 0x0E8 (CV). -/
def rowsCV0E8 : List RegRow :=
  [⟨0x4, 1, 0x4, 0x0, 0x0, 0x0, 0x0, 0x0, false, false, [0x0]⟩,
   ⟨0x8, 1, 0x4, 0x0, 0x0, 0x0, 0x0, 0xFFFFFFFF, true, false, [0x0]⟩,
   ⟨0xC, 1, 0x4, 0x0, 0x0, 0x0, 0x0, 0x0, false, false, [0x0]⟩,
   ⟨0x10, 1, 0x4, 0x0, 0x0, 0xF, 0x0, 0x0, false, false, [0x0]⟩,
   ⟨0x14, 1, 0x4, 0xFFFFFFFF, 0x0, 0x0, 0x0, 0x0, true, false, [0x0]⟩,
   ⟨0x18, 1, 0x4, 0x0, 0x0, 0x0, 0xF, 0x0, false, false, [0x0]⟩,
   ⟨0x1C, 1, 0x4, 0x0, 0xFFFFFFFF, 0x0, 0x0, 0x0, true, false, [0x0]⟩,
   ⟨0x20, 1, 0x4, 0x0, 0x0, 0x0, 0x80000000, 0x0, false, false, [0x0]⟩,
   ⟨0x24, 7, 0x4, 0x0, 0x0, 0x0, 0x0, 0xFFFFFFFF, true, false, [0x0]⟩,
   ⟨0x40, 1, 0x4, 0x0, 0x0, 0x0, 0x0, 0x0, false, false, [0x1EDC6F41]⟩,
   ⟨0x44, 1, 0x4, 0x0, 0x0, 0x0, 0x0, 0x0, false, false, [0x0]⟩,
   ⟨0x48, 1, 0x4, 0x0, 0x0, 0x0, 0x0, 0x0, false, false, [0x0]⟩,
   ⟨0x4C, 1, 0x4, 0x0, 0x0, 0x0, 0x0, 0x0, false, false, [0x33]⟩,
   ⟨0x50, 1, 0x4, 0x0, 0x0, 0x0, 0x0, 0x0, false, false, [0x0]⟩,
   ⟨0x54, 1, 0x4, 0x0, 0x0, 0x0, 0x0, 0x0, false, false, [0x0]⟩,
   ⟨0x58, 1, 0x4, 0x0, 0x0, 0x0, 0x0, 0x0, false, false, [0x0]⟩,
   ⟨0x5C, 1, 0x4, 0x0, 0x0, 0x0, 0x0, 0x0, false, false, [0x0]⟩,
   ⟨0x60, 1, 0x4, 0x0, 0x0, 0x0, 0x0, 0x0, false, false, [0x0]⟩,
   ⟨0x64, 1, 0x4, 0x0, 0x0, 0x0, 0x0, 0x0, false, false, [0x0]⟩,
   ⟨0x68, 1, 0x4, 0x0, 0x0, 0x0, 0x0, 0x0, false, false, [0x0]⟩] ++
  [⟨0x6C, 1, 0x4, 0x0, 0x0, 0x0, 0x0, 0x0, false, false, [0x0]⟩]

/-- Pages 0x0E9, 0x0EA, 0x0EB (CV). -/
def rowsCV0E9 : List RegRow :=
  [⟨0x4, 1, 0x4, 0x0, 0x0, 0x0, 0x0, 0x0, false, false, [0x0]⟩,
   ⟨0x8, 1, 0x4, 0x0, 0x0, 0x0, 0x0, 0xFFFFFFFF, true, false, [0x0]⟩,
   ⟨0xC, 1, 0x4, 0x0, 0x0, 0x0, 0x0, 0x0, false, false, [0x0]⟩,
   ⟨0x10, 1, 0x4, 0x0, 0x0, 0xF, 0x0, 0x0, false, false, [0x0]⟩,
   ⟨0x14, 1, 0x4, 0xFFFFFFFF, 0x0, 0x0, 0x0, 0x0, true, false, [0x0]⟩,
   ⟨0x18, 1, 0x4, 0x0, 0x0, 0x0, 0xF, 0x0, false, false, [0x0]⟩,
   ⟨0x1C, 1, 0x4, 0x0, 0xFFFFFFFF, 0x0, 0x0, 0x0, true, false, [0x0]⟩,
   ⟨0x20, 1, 0x4, 0x0, 0x0, 0x0, 0x80000000, 0x0, false, false, [0x0]⟩,
   ⟨0x24, 7, 0x4, 0x0, 0x0, 0x0, 0x0, 0xFFFFFFFF, true, false, [0x0]⟩,
   ⟨0x40, 1, 0x4, 0xFFFFFFFF, 0x0, 0x0, 0x0, 0x0, false, false, [0x1EDC6F41]⟩,
   ⟨0x44, 1, 0x4, 0xFFFFFFFF, 0x0, 0x0, 0x0, 0x0, false, false, [0xFFFFFFFF]⟩,
   ⟨0x48, 1, 0x4, 0xFFFFFFFF, 0x0, 0x0, 0x0, 0x0, false, false, [0xFFFFFFFF]⟩,
   ⟨0x4C, 1, 0x4, 0xF373, 0x0, 0x0, 0x0, 0xFFFF0C8C, false, false, [0x32]⟩,
   ⟨0x50, 1, 0x4, 0xFFFFFFFF, 0x0, 0x0, 0x0, 0x0, false, false, [0x0]⟩,
   ⟨0x54, 1, 0x4, 0xFFFFFFFF, 0x0, 0x0, 0x0, 0x0, false, false, [0x0]⟩,
   ⟨0x58, 1, 0x4, 0xFFFFFFFF, 0x0, 0x0, 0x0, 0x0, false, false, [0x0]⟩,
   ⟨0x5C, 1, 0x4, 0x0, 0x0, 0x0, 0x3, 0x0, false, false, [0x0]⟩,
   ⟨0x60, 1, 0x4, 0xFFFFFFFF, 0x0, 0x0, 0x0, 0x0, false, false, [0x0]⟩,
   ⟨0x64, 1, 0x4, 0x0, 0x0, 0x0, 0x0, 0x0, false, false, [0x0]⟩,
   ⟨0x68, 1, 0x4, 0x0, 0x0, 0x0, 0x0, 0x0, false, false, [0x0]⟩] ++
  [⟨0x6C, 1, 0x4, 0x0, 0x0, 0x0, 0x0, 0x0, false, false, [0x0]⟩]

/-- Page 0x0F0 (CK). -/
def rowsCK0F0 : List RegRow :=
  [⟨0x4, 1, 0x4, 0x0, 0x0, 0x0, 0x0, 0x0, false, false, [0x0]⟩,
   ⟨0x8, 1, 0x4, 0x0, 0x0, 0x0, 0x0, 0xFFFFFFFF, true, false, [0x0]⟩,
   ⟨0xC, 1, 0x4, 0x0, 0x0, 0x0, 0x0, 0x0, false, false, [0x0]⟩,
   ⟨0x10, 1, 0x4, 0x0, 0x0, 0x1F, 0x0, 0x0, false, false, [0x0]⟩,
   ⟨0x14, 1, 0x4, 0xFFFFFFFF, 0x0, 0x0, 0x0, 0x0, true, false, [0x0]⟩,
   ⟨0x18, 1, 0x4, 0x0, 0x0, 0x0, 0x1F, 0x0, false, false, [0x0]⟩,
   ⟨0x1C, 1, 0x4, 0x0, 0xFFFFFFFF, 0x0, 0x0, 0x0, true, false, [0x0]⟩,
   ⟨0x20, 1, 0x4, 0x0, 0x0, 0x0, 0x80000000, 0x0, false, false, [0x0]⟩,
   ⟨0x24, 7, 0x4, 0x0, 0x0, 0x0, 0x0, 0xFFFFFFFF, true, false, [0x0]⟩,
   ⟨0x40, 1, 0x4, 0x0, 0xF3, 0x0, 0x0, 0xFFFFFF0C, false, false, [0x0]⟩,
   ⟨0x44, 1, 0x4, 0x1, 0x0, 0x0, 0x0, 0x0, true, false, [0x0]⟩,
   ⟨0x48, 1, 0x4, 0x0, 0x0, 0x0, 0x3, 0x0, false, false, [0x0]⟩,
   ⟨0x4C, 1, 0x4, 0x0, 0x0, 0x0, 0x0, 0x0, false, false, [0x0]⟩,
   ⟨0x50, 1, 0x4, 0x0, 0x0, 0x0, 0x0, 0x0, false, false, [0x0]⟩]

/-- The register rows of a page of the page index (R37), without its ID word; no rows for a page that is absent (R33). -/
def pageRows (page : Nat) : List RegRow :=
  if page == 0x0 then rowsSYS000
  else if page == 0x1 then rowsCFG001
  else if page == 0x2 then rowsIND002
  else if page == 0x4 then rowsTC004
  else if page == 0x5 then rowsTC005
  else if page == 0x6 then rowsTC006
  else if page == 0x7 then rowsTC007
  else if page == 0x8 then rowsWHL008
  else if (0x10 ≤ page && page ≤ 0x11) || (0x16 ≤ page && page ≤ 0x17) then rowsRS010
  else if (0x12 ≤ page && page ≤ 0x15) then rowsRS012
  else if (0x18 ≤ page && page ≤ 0x1A) then rowsRS018
  else if page == 0x1B then rowsRS01B
  else if page == 0x1C then rowsRS01C
  else if page == 0x1D then rowsRS01D
  else if (0x1E ≤ page && page ≤ 0x1F) || (0x35 ≤ page && page ≤ 0x3F) || page == 0x68 || page == 0x7B || (0x100 ≤ page && page ≤ 0x103) then rowsRS01E
  else if page == 0x20 then rowsHO020
  else if page == 0x30 then rowsGN030
  else if page == 0x31 then rowsGN031
  else if (0x32 ≤ page && page ≤ 0x33) then rowsGN032
  else if page == 0x34 then rowsGN034
  else if page == 0x40 then rowsSH040
  else if page == 0x41 then rowsSH041
  else if page == 0x42 then rowsSH042
  else if page == 0x43 then rowsSH043
  else if page == 0x48 then rowsEB048
  else if (0x50 ≤ page && page ≤ 0x5F) then rowsPT050
  else if page == 0x60 then rowsSW060
  else if page == 0x61 then rowsSW061
  else if (0x62 ≤ page && page ≤ 0x63) then rowsSW062
  else if page == 0x70 then rowsPE070
  else if page == 0x71 then rowsPE071
  else if page == 0x72 then rowsPE072
  else if page == 0x73 then rowsPE073
  else if page == 0x78 then rowsNE078
  else if page == 0x79 then rowsNE079
  else if page == 0x7A then rowsNE07A
  else if page == 0x80 then rowsKS080
  else if page == 0x81 then rowsKS081
  else if page == 0x88 then rowsTP088
  else if (0x90 ≤ page && page ≤ 0x9F) then rowsOU090
  else if (0xA0 ≤ page && page ≤ 0xA7) then rowsPP0A0
  else if (0xA8 ≤ page && page ≤ 0xBB) then rowsPP0A8
  else if page == 0xC0 then rowsLS0C0
  else if page == 0xC1 then rowsPF0C1
  else if page == 0xC2 then rowsAB0C2
  else if page == 0xC8 then rowsUL0C8
  else if (0xC9 ≤ page && page ≤ 0xCB) then rowsUL0C9
  else if page == 0xD0 then rowsJN0D0
  else if page == 0xD1 then rowsJN0D1
  else if page == 0xD2 then rowsJN0D2
  else if page == 0xD3 then rowsJN0D3
  else if page == 0xD8 then rowsFC0D8
  else if (0xE0 ≤ page && page ≤ 0xE3) then rowsPC0E0
  else if page == 0xE8 then rowsCV0E8
  else if (0xE9 ≤ page && page ≤ 0xEB) then rowsCV0E9
  else if page == 0xF0 then rowsCK0F0
  else []

/-- The blocks of the page index (R37): first page, last page, type code. -/
def pageBlocks : List (Nat × Nat × Nat) :=
  [(0x0, 0x0, 0x1), (0x1, 0x1, 0x2), (0x2, 0x2, 0x3), (0x4, 0x7, 0x4), (0x8, 0x8, 0x5), (0x10, 0x1F, 0x6),
   (0x20, 0x20, 0x7), (0x30, 0x3F, 0x8), (0x40, 0x43, 0x9), (0x48, 0x48, 0xA), (0x50, 0x5F, 0xB), (0x60, 0x63, 0xC),
   (0x68, 0x68, 0xD), (0x70, 0x73, 0xE), (0x78, 0x7B, 0xF), (0x80, 0x81, 0x10), (0x88, 0x88, 0x11), (0x90, 0x9F, 0x12),
   (0xA0, 0xBB, 0x13), (0xC0, 0xC0, 0x14), (0xC1, 0xC1, 0x15), (0xC2, 0xC2, 0x16), (0xC8, 0xCB, 0x17), (0xD0, 0xD3, 0x18),
   (0xD8, 0xD8, 0x19), (0xE0, 0xE3, 0x1A), (0xE8, 0xEB, 0x1B), (0xF0, 0xF0, 0x1C), (0x100, 0x103, 0x1D)]

end Sys2Proof.Machine
end

