-- ==== Sys2Proof/Machine/RegNames.lean ====
section
/-! DEFINITION. The address of every register the spec names (page × 0x1000 + offset), under the spec's own name, and the place of every
named field in its register. A register of a repeated page takes the page's index first, a register of a repeated run its index in the run. -/

namespace Sys2Proof.Machine

/-- A field: the register's address, the lowest bit and the width. -/
structure Fld where
  addr : Nat
  lo : Nat
  width : Nat
  deriving DecidableEq, Repr

abbrev Reg.SYS_ID : Nat := 0x0
abbrev Reg.SYS_CAP : Nat := 0x4
abbrev Reg.SYS_CTL : Nat := 0x8
abbrev Reg.SYS_STAT : Nat := 0xC
abbrev Reg.SYS_EVT : Nat := 0x10
abbrev Reg.SYS_EVT_EN : Nat := 0x14
abbrev Reg.SYS_EVT_FORCE : Nat := 0x18
abbrev Reg.SYS_LOCK : Nat := 0x1C
abbrev Reg.SYS_RECUR : Nat := 0x20
abbrev Reg.CFG_ID : Nat := 0x1000
abbrev Reg.CFG_CAP : Nat := 0x1004
abbrev Reg.CFG_CTL : Nat := 0x1008
abbrev Reg.CFG_STAT : Nat := 0x100C
abbrev Reg.CFG_EVT : Nat := 0x1010
abbrev Reg.CFG_EVT_EN : Nat := 0x1014
abbrev Reg.CFG_EVT_FORCE : Nat := 0x1018
abbrev Reg.CFG_LOCK : Nat := 0x101C
abbrev Reg.CFG_RECUR : Nat := 0x1020
abbrev Reg.TC_ID : Nat := 0x4000
abbrev Reg.TC_CAP : Nat := 0x4004
abbrev Reg.TC_CTL : Nat := 0x4008
abbrev Reg.TC_STAT : Nat := 0x400C
abbrev Reg.TC_EVT : Nat := 0x4010
abbrev Reg.TC_EVT_EN : Nat := 0x4014
abbrev Reg.TC_EVT_FORCE : Nat := 0x4018
abbrev Reg.TC_LOCK : Nat := 0x401C
abbrev Reg.TC_RECUR : Nat := 0x4020
abbrev Reg.WHL_ID : Nat := 0x8000
abbrev Reg.WHL_CAP : Nat := 0x8004
abbrev Reg.WHL_CTL : Nat := 0x8008
abbrev Reg.WHL_STAT : Nat := 0x800C
abbrev Reg.WHL_EVT : Nat := 0x8010
abbrev Reg.WHL_EVT_EN : Nat := 0x8014
abbrev Reg.WHL_EVT_FORCE : Nat := 0x8018
abbrev Reg.WHL_LOCK : Nat := 0x801C
abbrev Reg.WHL_RECUR : Nat := 0x8020
abbrev Reg.RSn_ID (p : Nat) : Nat := 0x10000 + p * 0x1000
abbrev Reg.RSn_CAP (p : Nat) : Nat := 0x10004 + p * 0x1000
abbrev Reg.RSn_CTL (p : Nat) : Nat := 0x10008 + p * 0x1000
abbrev Reg.RSn_STAT (p : Nat) : Nat := 0x1000C + p * 0x1000
abbrev Reg.RSn_EVT (p : Nat) : Nat := 0x10010 + p * 0x1000
abbrev Reg.RSn_EVT_EN (p : Nat) : Nat := 0x10014 + p * 0x1000
abbrev Reg.RSn_EVT_FORCE (p : Nat) : Nat := 0x10018 + p * 0x1000
abbrev Reg.RSn_LOCK (p : Nat) : Nat := 0x1001C + p * 0x1000
abbrev Reg.RSn_RECUR (p : Nat) : Nat := 0x10020 + p * 0x1000
abbrev Reg.RS_ID : Nat := 0x1C000
abbrev Reg.RS_CAP : Nat := 0x1C004
abbrev Reg.RS_CTL : Nat := 0x1C008
abbrev Reg.RS_STAT : Nat := 0x1C00C
abbrev Reg.RS_EVT : Nat := 0x1C010
abbrev Reg.RS_EVT_EN : Nat := 0x1C014
abbrev Reg.RS_EVT_FORCE : Nat := 0x1C018
abbrev Reg.RS_LOCK : Nat := 0x1C01C
abbrev Reg.RS_RECUR : Nat := 0x1C020
abbrev Reg.HO_ID : Nat := 0x20000
abbrev Reg.HO_CAP : Nat := 0x20004
abbrev Reg.HO_CTL : Nat := 0x20008
abbrev Reg.HO_STAT : Nat := 0x2000C
abbrev Reg.HO_EVT : Nat := 0x20010
abbrev Reg.HO_EVT_EN : Nat := 0x20014
abbrev Reg.HO_EVT_FORCE : Nat := 0x20018
abbrev Reg.HO_LOCK : Nat := 0x2001C
abbrev Reg.HO_RECUR : Nat := 0x20020
abbrev Reg.GN_ID : Nat := 0x30000
abbrev Reg.GN_CAP : Nat := 0x30004
abbrev Reg.GN_CTL : Nat := 0x30008
abbrev Reg.GN_STAT : Nat := 0x3000C
abbrev Reg.GN_EVT : Nat := 0x30010
abbrev Reg.GN_EVT_EN : Nat := 0x30014
abbrev Reg.GN_EVT_FORCE : Nat := 0x30018
abbrev Reg.GN_LOCK : Nat := 0x3001C
abbrev Reg.GN_RECUR : Nat := 0x30020
abbrev Reg.SH_ID : Nat := 0x40000
abbrev Reg.SH_CAP : Nat := 0x40004
abbrev Reg.SH_CTL : Nat := 0x40008
abbrev Reg.SH_STAT : Nat := 0x4000C
abbrev Reg.SH_EVT : Nat := 0x40010
abbrev Reg.SH_EVT_EN : Nat := 0x40014
abbrev Reg.SH_EVT_FORCE : Nat := 0x40018
abbrev Reg.SH_LOCK : Nat := 0x4001C
abbrev Reg.SH_RECUR : Nat := 0x40020
abbrev Reg.EB_ID : Nat := 0x48000
abbrev Reg.EB_CAP : Nat := 0x48004
abbrev Reg.EB_CTL : Nat := 0x48008
abbrev Reg.EB_STAT : Nat := 0x4800C
abbrev Reg.EB_EVT : Nat := 0x48010
abbrev Reg.EB_EVT_EN : Nat := 0x48014
abbrev Reg.EB_EVT_FORCE : Nat := 0x48018
abbrev Reg.EB_LOCK : Nat := 0x4801C
abbrev Reg.EB_RECUR : Nat := 0x48020
abbrev Reg.PTp_ID (p : Nat) : Nat := 0x50000 + p * 0x1000
abbrev Reg.PTp_CAP (p : Nat) : Nat := 0x50004 + p * 0x1000
abbrev Reg.PTp_CTL (p : Nat) : Nat := 0x50008 + p * 0x1000
abbrev Reg.PTp_STAT (p : Nat) : Nat := 0x5000C + p * 0x1000
abbrev Reg.PTp_EVT (p : Nat) : Nat := 0x50010 + p * 0x1000
abbrev Reg.PTp_EVT_EN (p : Nat) : Nat := 0x50014 + p * 0x1000
abbrev Reg.PTp_EVT_FORCE (p : Nat) : Nat := 0x50018 + p * 0x1000
abbrev Reg.PTp_LOCK (p : Nat) : Nat := 0x5001C + p * 0x1000
abbrev Reg.PTp_RECUR (p : Nat) : Nat := 0x50020 + p * 0x1000
abbrev Reg.SW_ID : Nat := 0x60000
abbrev Reg.SW_CAP : Nat := 0x60004
abbrev Reg.SW_CTL : Nat := 0x60008
abbrev Reg.SW_STAT : Nat := 0x6000C
abbrev Reg.SW_EVT : Nat := 0x60010
abbrev Reg.SW_EVT_EN : Nat := 0x60014
abbrev Reg.SW_EVT_FORCE : Nat := 0x60018
abbrev Reg.SW_LOCK : Nat := 0x6001C
abbrev Reg.SW_RECUR : Nat := 0x60020
abbrev Reg.PE_ID : Nat := 0x70000
abbrev Reg.PE_CAP : Nat := 0x70004
abbrev Reg.PE_CTL : Nat := 0x70008
abbrev Reg.PE_STAT : Nat := 0x7000C
abbrev Reg.PE_EVT : Nat := 0x70010
abbrev Reg.PE_EVT_EN : Nat := 0x70014
abbrev Reg.PE_EVT_FORCE : Nat := 0x70018
abbrev Reg.PE_LOCK : Nat := 0x7001C
abbrev Reg.PE_RECUR : Nat := 0x70020
abbrev Reg.NE_ID : Nat := 0x78000
abbrev Reg.NE_CAP : Nat := 0x78004
abbrev Reg.NE_CTL : Nat := 0x78008
abbrev Reg.NE_STAT : Nat := 0x7800C
abbrev Reg.NE_EVT : Nat := 0x78010
abbrev Reg.NE_EVT_EN : Nat := 0x78014
abbrev Reg.NE_EVT_FORCE : Nat := 0x78018
abbrev Reg.NE_LOCK : Nat := 0x7801C
abbrev Reg.NE_RECUR : Nat := 0x78020
abbrev Reg.KS_ID : Nat := 0x80000
abbrev Reg.KS_CAP : Nat := 0x80004
abbrev Reg.KS_CTL : Nat := 0x80008
abbrev Reg.KS_STAT : Nat := 0x8000C
abbrev Reg.KS_EVT : Nat := 0x80010
abbrev Reg.KS_EVT_EN : Nat := 0x80014
abbrev Reg.KS_EVT_FORCE : Nat := 0x80018
abbrev Reg.KS_LOCK : Nat := 0x8001C
abbrev Reg.KS_RECUR : Nat := 0x80020
abbrev Reg.TP_ID : Nat := 0x88000
abbrev Reg.TP_CAP : Nat := 0x88004
abbrev Reg.TP_CTL : Nat := 0x88008
abbrev Reg.TP_STAT : Nat := 0x8800C
abbrev Reg.TP_EVT : Nat := 0x88010
abbrev Reg.TP_EVT_EN : Nat := 0x88014
abbrev Reg.TP_EVT_FORCE : Nat := 0x88018
abbrev Reg.TP_LOCK : Nat := 0x8801C
abbrev Reg.TP_RECUR : Nat := 0x88020
abbrev Reg.PPk_ID (p : Nat) : Nat := 0xA0000 + p * 0x1000
abbrev Reg.PPk_CAP (p : Nat) : Nat := 0xA0004 + p * 0x1000
abbrev Reg.PPk_CTL (p : Nat) : Nat := 0xA0008 + p * 0x1000
abbrev Reg.PPk_STAT (p : Nat) : Nat := 0xA000C + p * 0x1000
abbrev Reg.PPk_EVT (p : Nat) : Nat := 0xA0010 + p * 0x1000
abbrev Reg.PPk_EVT_EN (p : Nat) : Nat := 0xA0014 + p * 0x1000
abbrev Reg.PPk_EVT_FORCE (p : Nat) : Nat := 0xA0018 + p * 0x1000
abbrev Reg.PPk_LOCK (p : Nat) : Nat := 0xA001C + p * 0x1000
abbrev Reg.PPk_RECUR (p : Nat) : Nat := 0xA0020 + p * 0x1000
abbrev Reg.OUn_ID (p : Nat) : Nat := 0x90000 + p * 0x1000
abbrev Reg.OUn_CAP (p : Nat) : Nat := 0x90004 + p * 0x1000
abbrev Reg.OUn_CTL (p : Nat) : Nat := 0x90008 + p * 0x1000
abbrev Reg.OUn_STAT (p : Nat) : Nat := 0x9000C + p * 0x1000
abbrev Reg.OUn_EVT (p : Nat) : Nat := 0x90010 + p * 0x1000
abbrev Reg.OUn_EVT_EN (p : Nat) : Nat := 0x90014 + p * 0x1000
abbrev Reg.OUn_EVT_FORCE (p : Nat) : Nat := 0x90018 + p * 0x1000
abbrev Reg.OUn_LOCK (p : Nat) : Nat := 0x9001C + p * 0x1000
abbrev Reg.OUn_RECUR (p : Nat) : Nat := 0x90020 + p * 0x1000
abbrev Reg.LS_ID : Nat := 0xC0000
abbrev Reg.LS_CAP : Nat := 0xC0004
abbrev Reg.LS_CTL : Nat := 0xC0008
abbrev Reg.LS_STAT : Nat := 0xC000C
abbrev Reg.LS_EVT : Nat := 0xC0010
abbrev Reg.LS_EVT_EN : Nat := 0xC0014
abbrev Reg.LS_EVT_FORCE : Nat := 0xC0018
abbrev Reg.LS_LOCK : Nat := 0xC001C
abbrev Reg.LS_RECUR : Nat := 0xC0020
abbrev Reg.PF_ID : Nat := 0xC1000
abbrev Reg.PF_CAP : Nat := 0xC1004
abbrev Reg.PF_CTL : Nat := 0xC1008
abbrev Reg.PF_STAT : Nat := 0xC100C
abbrev Reg.PF_EVT : Nat := 0xC1010
abbrev Reg.PF_EVT_EN : Nat := 0xC1014
abbrev Reg.PF_EVT_FORCE : Nat := 0xC1018
abbrev Reg.PF_LOCK : Nat := 0xC101C
abbrev Reg.PF_RECUR : Nat := 0xC1020
abbrev Reg.AB_ID : Nat := 0xC2000
abbrev Reg.AB_CAP : Nat := 0xC2004
abbrev Reg.AB_CTL : Nat := 0xC2008
abbrev Reg.AB_STAT : Nat := 0xC200C
abbrev Reg.AB_EVT : Nat := 0xC2010
abbrev Reg.AB_EVT_EN : Nat := 0xC2014
abbrev Reg.AB_EVT_FORCE : Nat := 0xC2018
abbrev Reg.AB_LOCK : Nat := 0xC201C
abbrev Reg.AB_RECUR : Nat := 0xC2020
abbrev Reg.ULk_ID (p : Nat) : Nat := 0xC8000 + p * 0x1000
abbrev Reg.ULk_CAP (p : Nat) : Nat := 0xC8004 + p * 0x1000
abbrev Reg.ULk_CTL (p : Nat) : Nat := 0xC8008 + p * 0x1000
abbrev Reg.ULk_STAT (p : Nat) : Nat := 0xC800C + p * 0x1000
abbrev Reg.ULk_EVT (p : Nat) : Nat := 0xC8010 + p * 0x1000
abbrev Reg.ULk_EVT_EN (p : Nat) : Nat := 0xC8014 + p * 0x1000
abbrev Reg.ULk_EVT_FORCE (p : Nat) : Nat := 0xC8018 + p * 0x1000
abbrev Reg.ULk_LOCK (p : Nat) : Nat := 0xC801C + p * 0x1000
abbrev Reg.ULk_RECUR (p : Nat) : Nat := 0xC8020 + p * 0x1000
abbrev Reg.JN_ID : Nat := 0xD0000
abbrev Reg.JN_CAP : Nat := 0xD0004
abbrev Reg.JN_CTL : Nat := 0xD0008
abbrev Reg.JN_STAT : Nat := 0xD000C
abbrev Reg.JN_EVT : Nat := 0xD0010
abbrev Reg.JN_EVT_EN : Nat := 0xD0014
abbrev Reg.JN_EVT_FORCE : Nat := 0xD0018
abbrev Reg.JN_LOCK : Nat := 0xD001C
abbrev Reg.JN_RECUR : Nat := 0xD0020
abbrev Reg.FC_ID : Nat := 0xD8000
abbrev Reg.FC_CAP : Nat := 0xD8004
abbrev Reg.FC_CTL : Nat := 0xD8008
abbrev Reg.FC_STAT : Nat := 0xD800C
abbrev Reg.FC_EVT : Nat := 0xD8010
abbrev Reg.FC_EVT_EN : Nat := 0xD8014
abbrev Reg.FC_EVT_FORCE : Nat := 0xD8018
abbrev Reg.FC_LOCK : Nat := 0xD801C
abbrev Reg.FC_RECUR : Nat := 0xD8020
abbrev Reg.PCg_ID (p : Nat) : Nat := 0xE0000 + p * 0x1000
abbrev Reg.PCg_CAP (p : Nat) : Nat := 0xE0004 + p * 0x1000
abbrev Reg.PCg_CTL (p : Nat) : Nat := 0xE0008 + p * 0x1000
abbrev Reg.PCg_STAT (p : Nat) : Nat := 0xE000C + p * 0x1000
abbrev Reg.PCg_EVT (p : Nat) : Nat := 0xE0010 + p * 0x1000
abbrev Reg.PCg_EVT_EN (p : Nat) : Nat := 0xE0014 + p * 0x1000
abbrev Reg.PCg_EVT_FORCE (p : Nat) : Nat := 0xE0018 + p * 0x1000
abbrev Reg.PCg_LOCK (p : Nat) : Nat := 0xE001C + p * 0x1000
abbrev Reg.PCg_RECUR (p : Nat) : Nat := 0xE0020 + p * 0x1000
abbrev Reg.CVn_ID (p : Nat) : Nat := 0xE8000 + p * 0x1000
abbrev Reg.CVn_CAP (p : Nat) : Nat := 0xE8004 + p * 0x1000
abbrev Reg.CVn_CTL (p : Nat) : Nat := 0xE8008 + p * 0x1000
abbrev Reg.CVn_STAT (p : Nat) : Nat := 0xE800C + p * 0x1000
abbrev Reg.CVn_EVT (p : Nat) : Nat := 0xE8010 + p * 0x1000
abbrev Reg.CVn_EVT_EN (p : Nat) : Nat := 0xE8014 + p * 0x1000
abbrev Reg.CVn_EVT_FORCE (p : Nat) : Nat := 0xE8018 + p * 0x1000
abbrev Reg.CVn_LOCK (p : Nat) : Nat := 0xE801C + p * 0x1000
abbrev Reg.CVn_RECUR (p : Nat) : Nat := 0xE8020 + p * 0x1000
abbrev Reg.CK_ID : Nat := 0xF0000
abbrev Reg.CK_CAP : Nat := 0xF0004
abbrev Reg.CK_CTL : Nat := 0xF0008
abbrev Reg.CK_STAT : Nat := 0xF000C
abbrev Reg.CK_EVT : Nat := 0xF0010
abbrev Reg.CK_EVT_EN : Nat := 0xF0014
abbrev Reg.CK_EVT_FORCE : Nat := 0xF0018
abbrev Reg.CK_LOCK : Nat := 0xF001C
abbrev Reg.CK_RECUR : Nat := 0xF0020
abbrev Reg.CFG_OVL_REQ : Nat := 0x1040
abbrev Reg.CFG_OVL_ACT : Nat := 0x1044
abbrev Reg.CFG_OVL_LOADED : Nat := 0x1048
abbrev Reg.CFG_WIN_MAX : Nat := 0x104C
abbrev Reg.CFG_SEAL_LEN : Nat := 0x1050
abbrev Reg.CFG_BASE_REF : Nat := 0x1054
abbrev Reg.CFG_RUN_REF : Nat := 0x1058
abbrev Reg.CFG_EXP_REF : Nat := 0x105C
abbrev Reg.CFG_LAST_CRC : Nat := 0x1060
abbrev Reg.CFG_SCAN_CNT : Nat := 0x1064
abbrev Reg.CFG_OVL_INCOMPAT (i : Nat) : Nat := 0x1080 + i * 0x4
abbrev Reg.CFG_DELTA (i : Nat) : Nat := 0x10C0 + i * 0x4
abbrev Reg.TC_NOW_FRAC : Nat := 0x4040
abbrev Reg.TC_NOW_NS : Nat := 0x4044
abbrev Reg.TC_NOW_SECL : Nat := 0x4048
abbrev Reg.TC_NOW_SECH : Nat := 0x404C
abbrev Reg.TC_INCR_L : Nat := 0x4050
abbrev Reg.TC_INCR_H : Nat := 0x4054
abbrev Reg.TC_INCR_SW_L : Nat := 0x4058
abbrev Reg.TC_INCR_SW_H : Nat := 0x405C
abbrev Reg.TC_SLEW_OFS_L : Nat := 0x4060
abbrev Reg.TC_SLEW_OFS_H : Nat := 0x4064
abbrev Reg.TC_SLOPE : Nat := 0x4068
abbrev Reg.TC_STEP_FRAC : Nat := 0x4070
abbrev Reg.TC_STEP_NS : Nat := 0x4074
abbrev Reg.TC_STEP_SECL : Nat := 0x4078
abbrev Reg.TC_STEP_SECH : Nat := 0x407C
abbrev Reg.TC_STEP_CTL : Nat := 0x4080
abbrev Reg.TC_SET_BOUND : Nat := 0x4084
abbrev Reg.TC_BRIDGE_HOLD : Nat := 0x4088
abbrev Reg.TC_RATIO_L : Nat := 0x408C
abbrev Reg.TC_RATIO_H : Nat := 0x4090
abbrev Reg.TC_UTC_CUR : Nat := 0x40A0
abbrev Reg.TC_UTC_PEND : Nat := 0x40A4
abbrev Reg.TC_UTC_EFF_L : Nat := 0x40A8
abbrev Reg.TC_UTC_EFF_H : Nat := 0x40AC
abbrev Reg.TC_UTC_ANN : Nat := 0x40B0
abbrev Reg.TC_UTC_CTL : Nat := 0x40B4
abbrev Reg.TC_UTC_STAT : Nat := 0x40B8
abbrev Reg.TC_STATE : Nat := 0x40C0
abbrev Reg.TRGn_CFG (i : Nat) : Nat := 0x5040 + i * 0x20
abbrev Reg.TRGn_CMD (i : Nat) : Nat := 0x5044 + i * 0x20
abbrev Reg.TRGn_T_NS (i : Nat) : Nat := 0x5048 + i * 0x20
abbrev Reg.TRGn_T_SECL (i : Nat) : Nat := 0x504C + i * 0x20
abbrev Reg.TRGn_T_SECH (i : Nat) : Nat := 0x5050 + i * 0x20
abbrev Reg.TRGn_PER_NS (i : Nat) : Nat := 0x5054 + i * 0x20
abbrev Reg.TRGn_PER_S (i : Nat) : Nat := 0x5058 + i * 0x20
abbrev Reg.TRGn_STAT (i : Nat) : Nat := 0x505C + i * 0x20
abbrev Reg.TC_CAPn_CFG (i : Nat) : Nat := 0x6040 + i * 0x20
abbrev Reg.TC_CAPn_CMD (i : Nat) : Nat := 0x6044 + i * 0x20
abbrev Reg.TC_CAPn_POP (i : Nat) : Nat := 0x6048 + i * 0x20
abbrev Reg.TC_CAPn_FRAC (i : Nat) : Nat := 0x604C + i * 0x20
abbrev Reg.TC_CAPn_NS (i : Nat) : Nat := 0x6050 + i * 0x20
abbrev Reg.TC_CAPn_SECL (i : Nat) : Nat := 0x6054 + i * 0x20
abbrev Reg.TC_TXQp_POP (i : Nat) : Nat := 0x7040 + i * 0x10
abbrev Reg.TC_TXQp_NS (i : Nat) : Nat := 0x7044 + i * 0x10
abbrev Reg.TC_TXQp_SECL (i : Nat) : Nat := 0x7048 + i * 0x10
abbrev Reg.TC_TXQp_FRAC (i : Nat) : Nat := 0x704C + i * 0x10
abbrev Reg.TC_TXQ_DROPp (i : Nat) : Nat := 0x7180 + i * 0x4
abbrev Reg.WHL_SEQ_L : Nat := 0x8040
abbrev Reg.WHL_SEQ_H : Nat := 0x8044
abbrev Reg.WHL_POS : Nat := 0x8048
abbrev Reg.WHL_SKIPPED : Nat := 0x804C
abbrev Reg.WHL_MERGED : Nat := 0x8050
abbrev Reg.WHL_INTERIM : Nat := 0x8054
abbrev Reg.WHL_LEN : Nat := 0x8058
abbrev Reg.WHL_SCALE : Nat := 0x805C
abbrev Reg.WHL_GRP_DRAM : Nat := 0x8060
abbrev Reg.WHL_GRP_DRAM_IF : Nat := 0x8064
abbrev Reg.WHLn_FLOOR (i : Nat) : Nat := 0x8100 + i * 0x20
abbrev Reg.WHLn_CEIL (i : Nat) : Nat := 0x8104 + i * 0x20
abbrev Reg.WHLn_CFG (i : Nat) : Nat := 0x8108 + i * 0x20
abbrev Reg.WHLn_USED (i : Nat) : Nat := 0x810C + i * 0x20
abbrev Reg.WHLn_BORROWED (i : Nat) : Nat := 0x8110 + i * 0x20
abbrev Reg.WHLn_LENT (i : Nat) : Nat := 0x8114 + i * 0x20
abbrev Reg.WHLn_STALLS (i : Nat) : Nat := 0x8118 + i * 0x20
abbrev Reg.WHLn_STAT (i : Nat) : Nat := 0x811C + i * 0x20
abbrev Reg.WHLn_FLOOR_IF (i : Nat) : Nat := 0x8300 + i * 0x8
abbrev Reg.WHLn_CEIL_IF (i : Nat) : Nat := 0x8304 + i * 0x8
abbrev Reg.WHL_SCHk_PER (i : Nat) : Nat := 0x8400 + i * 0x10
abbrev Reg.WHL_SCHk_PHASE (i : Nat) : Nat := 0x8404 + i * 0x10
abbrev Reg.WHL_SCHk_ACT (i : Nat) : Nat := 0x8408 + i * 0x10
abbrev Reg.WHL_SCHk_STAT (i : Nat) : Nat := 0x840C + i * 0x10
abbrev Reg.RSn_CFG (p : Nat) : Nat := 0x10040 + p * 0x1000
abbrev Reg.RSn_STATE (p : Nat) : Nat := 0x10044 + p * 0x1000
abbrev Reg.RSn_PHASE_L (p : Nat) : Nat := 0x10048 + p * 0x1000
abbrev Reg.RSn_PHASE_H (p : Nat) : Nat := 0x1004C + p * 0x1000
abbrev Reg.RSn_FREQ (p : Nat) : Nat := 0x10050 + p * 0x1000
abbrev Reg.RSn_BOUND (p : Nat) : Nat := 0x10054 + p * 0x1000
abbrev Reg.RSn_DEV_MED (p : Nat) : Nat := 0x10058 + p * 0x1000
abbrev Reg.RSn_DEV_MOD (p : Nat) : Nat := 0x1005C + p * 0x1000
abbrev Reg.RSn_DRATE (p : Nat) : Nat := 0x10060 + p * 0x1000
abbrev Reg.RSn_TIMER (p : Nat) : Nat := 0x10064 + p * 0x1000
abbrev Reg.RSn_CMD (p : Nat) : Nat := 0x10068 + p * 0x1000
abbrev Reg.RSn_QUAL_T (p : Nat) : Nat := 0x10080 + p * 0x1000
abbrev Reg.RSn_WTR (p : Nat) : Nat := 0x10084 + p * 0x1000
abbrev Reg.RSn_HOLDOFF (p : Nat) : Nat := 0x10088 + p * 0x1000
abbrev Reg.RSn_FTOL (p : Nat) : Nat := 0x1008C + p * 0x1000
abbrev Reg.RSn_QJIT (p : Nat) : Nat := 0x10090 + p * 0x1000
abbrev Reg.RSn_BMAX (p : Nat) : Nat := 0x10094 + p * 0x1000
abbrev Reg.RSn_SOFT (p : Nat) : Nat := 0x10098 + p * 0x1000
abbrev Reg.RSn_HARD (p : Nat) : Nat := 0x1009C + p * 0x1000
abbrev Reg.RSn_DWELL (p : Nat) : Nat := 0x100A0 + p * 0x1000
abbrev Reg.RSn_DRATE_THR (p : Nat) : Nat := 0x100A4 + p * 0x1000
abbrev Reg.RSn_DRATE_WIN (p : Nat) : Nat := 0x100A8 + p * 0x1000
abbrev Reg.RSn_PHIT_THR (p : Nat) : Nat := 0x100AC + p * 0x1000
abbrev Reg.RSn_QUAR_T (p : Nat) : Nat := 0x100B0 + p * 0x1000
abbrev Reg.RSn_AGREE (p : Nat) : Nat := 0x100B4 + p * 0x1000
abbrev Reg.RS11_HOFS_L : Nat := 0x1B0C0
abbrev Reg.RS11_HOFS_H : Nat := 0x1B0C4
abbrev Reg.RS11_HBOUND : Nat := 0x1B0C8
abbrev Reg.RS11_HCAP : Nat := 0x1B0CC
abbrev Reg.RS11_HCMD : Nat := 0x1B0D0
abbrev Reg.RS11_HTIMEOUT : Nat := 0x1B0D4
abbrev Reg.RS_INNER_BW : Nat := 0x1C040
abbrev Reg.RS_OUTER_BW : Nat := 0x1C044
abbrev Reg.RS_LOCK_PHASE : Nat := 0x1C048
abbrev Reg.RS_LOCK_FREQ : Nat := 0x1C04C
abbrev Reg.RS_LOCK_T : Nat := 0x1C050
abbrev Reg.RS_SWITCHES : Nat := 0x1C054
abbrev Reg.RS_LOGk_W0 (i : Nat) : Nat := 0x1D040 + i * 0x10
abbrev Reg.RS_LOGk_SECL (i : Nat) : Nat := 0x1D044 + i * 0x10
abbrev Reg.RS_LOGk_NS (i : Nat) : Nat := 0x1D048 + i * 0x10
abbrev Reg.RS_LOGk_PULL (i : Nat) : Nat := 0x1D04C + i * 0x10
abbrev Reg.HO_DAC_CFG : Nat := 0x20040
abbrev Reg.HO_DAC_INIT : Nat := 0x20044
abbrev Reg.HO_DAC_MIN : Nat := 0x20048
abbrev Reg.HO_DAC_MAX : Nat := 0x2004C
abbrev Reg.HO_DAC_STEP : Nat := 0x20050
abbrev Reg.HO_DAC_GAIN : Nat := 0x20054
abbrev Reg.HO_DAC_NOW : Nat := 0x20058
abbrev Reg.HO_UART_CFG : Nat := 0x20060
abbrev Reg.HO_UART_UNIT : Nat := 0x20064
abbrev Reg.HO_UART_TPL (i : Nat) : Nat := 0x20068 + i * 0x4
abbrev Reg.HO_UART_ACK (i : Nat) : Nat := 0x20088 + i * 0x4
abbrev Reg.HO_UART_TMO : Nat := 0x20090
abbrev Reg.HO_TEMP_CFG : Nat := 0x200A0
abbrev Reg.HO_TEMP_SPAN : Nat := 0x200A4
abbrev Reg.HO_LEARN_WIN : Nat := 0x200B0
abbrev Reg.HO_LEARN_MIN : Nat := 0x200B4
abbrev Reg.HO_ENTRY_AVG : Nat := 0x200B8
abbrev Reg.HO_GUARD : Nat := 0x200BC
abbrev Reg.HO_RAMP : Nat := 0x200C0
abbrev Reg.HO_COVER : Nat := 0x200C4
abbrev Reg.HO_ANCHOR : Nat := 0x200C8
abbrev Reg.HO_UY_SPEC : Nat := 0x200D0
abbrev Reg.HO_UA_SPEC : Nat := 0x200D4
abbrev Reg.HO_UC_SPEC : Nat := 0x200D8
abbrev Reg.HO_UY_FLOOR : Nat := 0x200DC
abbrev Reg.HO_UA_FLOOR : Nat := 0x200E0
abbrev Reg.HO_UC_FLOOR : Nat := 0x200E4
abbrev Reg.HO_NOISE : Nat := 0x200E8
abbrev Reg.HO_ASSIST_UY : Nat := 0x200EC
abbrev Reg.HO_ASTEP_MIN : Nat := 0x200F0
abbrev Reg.HO_Y0 : Nat := 0x20100
abbrev Reg.HO_AGE : Nat := 0x20104
abbrev Reg.HO_TCO : Nat := 0x20108
abbrev Reg.HO_LD_Y0 : Nat := 0x20110
abbrev Reg.HO_LD_AGE : Nat := 0x20114
abbrev Reg.HO_LD_TCO : Nat := 0x20118
abbrev Reg.HO_CMD : Nat := 0x2011C
abbrev Reg.HO_UY : Nat := 0x20120
abbrev Reg.HO_UA : Nat := 0x20124
abbrev Reg.HO_UC : Nat := 0x20128
abbrev Reg.HO_TEMP_NOW : Nat := 0x2012C
abbrev Reg.HO_TAU : Nat := 0x20130
abbrev Reg.HO_GROWTH : Nat := 0x20134
abbrev Reg.HO_RATE : Nat := 0x20138
abbrev Reg.HO_RET_ERR : Nat := 0x2013C
abbrev Reg.HO_RET_BOUND : Nat := 0x20140
abbrev Reg.HO_PRED_U : Nat := 0x20144
abbrev Reg.HO_SAMPLES : Nat := 0x20148
abbrev Reg.HO_GROWTH_S : Nat := 0x2014C
abbrev Reg.GN_CFG : Nat := 0x30040
abbrev Reg.GN_GIFA_CFG : Nat := 0x30044
abbrev Reg.GN_GIFB_CFG : Nat := 0x30048
abbrev Reg.GN_GIFA_IFU : Nat := 0x3004C
abbrev Reg.GN_GIFA_IFL : Nat := 0x30050
abbrev Reg.GN_GIFB_IFU : Nat := 0x30054
abbrev Reg.GN_GIFB_IFL : Nat := 0x30058
abbrev Reg.GN_MIN_SV : Nat := 0x30060
abbrev Reg.GN_RAIM_K : Nat := 0x30064
abbrev Reg.GN_RAIM_MAXEX : Nat := 0x30068
abbrev Reg.GN_RAIM_BAR : Nat := 0x3006C
abbrev Reg.GN_BK : Nat := 0x30070
abbrev Reg.GN_CN0_MIN : Nat := 0x30074
abbrev Reg.GN_ELEV_MIN : Nat := 0x30078
abbrev Reg.GN_CORR_SP : Nat := 0x3007C
abbrev Reg.GN_PLL_BW : Nat := 0x30080
abbrev Reg.GN_COAST_MAX : Nat := 0x30084
abbrev Reg.GN_BURST_PH : Nat := 0x30088
abbrev Reg.GN_SAT_MAX : Nat := 0x3008C
abbrev Reg.GN_OSNMA_MIN : Nat := 0x30090
abbrev Reg.GN_IONO_SF : Nat := 0x30094
abbrev Reg.GN_SOL_TMO : Nat := 0x30098
abbrev Reg.GN_OSN_TSYNC : Nat := 0x3009C
abbrev Reg.GN_COAST_CNT : Nat := 0x300C0
abbrev Reg.GN_TRACKING : Nat := 0x300C4
abbrev Reg.GN_PRED_W (i : Nat) : Nat := 0x31040 + i * 0x4
abbrev Reg.GN_PRED_CMD : Nat := 0x31080
abbrev Reg.GN_PRED_STAT : Nat := 0x31084
abbrev Reg.GN_PRED_REJ : Nat := 0x31088
abbrev Reg.GN_UTC_A0 : Nat := 0x310A0
abbrev Reg.GN_UTC_A1 : Nat := 0x310A4
abbrev Reg.GN_UTC_TOT_L : Nat := 0x310A8
abbrev Reg.GN_UTC_TOT_H : Nat := 0x310AC
abbrev Reg.GN_UTC_U : Nat := 0x310B0
abbrev Reg.GN_LEAP_CUR : Nat := 0x310C0
abbrev Reg.GN_LEAP_PEND : Nat := 0x310C4
abbrev Reg.GN_LEAP_EFF_L : Nat := 0x310C8
abbrev Reg.GN_LEAP_EFF_H : Nat := 0x310CC
abbrev Reg.GN_LEAP_CMD : Nat := 0x310D0
abbrev Reg.GN_OSN_KROOT (i : Nat) : Nat := 0x31100 + i * 0x4
abbrev Reg.GN_OSN_CFG : Nat := 0x31120
abbrev Reg.GN_OSN_T_L : Nat := 0x31124
abbrev Reg.GN_OSN_CMD : Nat := 0x31128
abbrev Reg.GN_ANTa_CABLE_U (p : Nat) : Nat := 0x32040 + p * 0x1000
abbrev Reg.GN_ANTa_CABLE_L (p : Nat) : Nat := 0x32044 + p * 0x1000
abbrev Reg.GN_ANTa_FE_U (p : Nat) : Nat := 0x32048 + p * 0x1000
abbrev Reg.GN_ANTa_FE_L (p : Nat) : Nat := 0x3204C + p * 0x1000
abbrev Reg.GN_ANTa_DLY_UNC (p : Nat) : Nat := 0x32050 + p * 0x1000
abbrev Reg.GN_ANTa_X_L (p : Nat) : Nat := 0x32080 + p * 0x1000
abbrev Reg.GN_ANTa_X_H (p : Nat) : Nat := 0x32084 + p * 0x1000
abbrev Reg.GN_ANTa_B (p : Nat) : Nat := 0x32088 + p * 0x1000
abbrev Reg.GN_ANTa_SIGMA (p : Nat) : Nat := 0x3208C + p * 0x1000
abbrev Reg.GN_ANTa_SOL (p : Nat) : Nat := 0x32090 + p * 0x1000
abbrev Reg.GN_ANTa_Q (p : Nat) : Nat := 0x32094 + p * 0x1000
abbrev Reg.GN_ANTa_COVER (p : Nat) : Nat := 0x32098 + p * 0x1000
abbrev Reg.GN_FE_CFG : Nat := 0x34040
abbrev Reg.GN_FE_XFER : Nat := 0x34044
abbrev Reg.GN_FE_WR : Nat := 0x34048
abbrev Reg.GN_FE_RD : Nat := 0x3404C
abbrev Reg.GN_FE_STAT : Nat := 0x34050
abbrev Reg.GN_SATCNT_AU : Nat := 0x34060
abbrev Reg.GN_SATCNT_AL : Nat := 0x34064
abbrev Reg.GN_SATCNT_BU : Nat := 0x34068
abbrev Reg.GN_SATCNT_BL : Nat := 0x3406C
abbrev Reg.SH_REFINn_CFG (i : Nat) : Nat := 0x40040 + i * 0x4
abbrev Reg.SH_REFINn_FNOM (i : Nat) : Nat := 0x40050 + i * 0x4
abbrev Reg.SH_CAL_N : Nat := 0x40060
abbrev Reg.SH_CAL_AGE : Nat := 0x40064
abbrev Reg.SH_PCLK_PER : Nat := 0x40068
abbrev Reg.SH_PCHK_RATE : Nat := 0x4006C
abbrev Reg.SH_LINK_PUB : Nat := 0x40070
abbrev Reg.SH_PORT_EN : Nat := 0x40074
abbrev Reg.SH_LINK_EN : Nat := 0x40078
abbrev Reg.SH_OCAL_MASK : Nat := 0x4007C
abbrev Reg.SH_CMD : Nat := 0x40080
abbrev Reg.SH_UID (i : Nat) : Nat := 0x40100 + i * 0x4
abbrev Reg.SH_FWHASH (i : Nat) : Nat := 0x40120 + i * 0x4
abbrev Reg.SH_LRPHASH (i : Nat) : Nat := 0x40150 + i * 0x4
abbrev Reg.SH_PUB_DROP : Nat := 0x40180
abbrev Reg.SH_CAL_PASSES : Nat := 0x40184
abbrev Reg.SH_CAL_REJ : Nat := 0x40188
abbrev Reg.SH_SEQ_L : Nat := 0x4018C
abbrev Reg.SH_SEQ_H : Nat := 0x40190
abbrev Reg.SHc_COLLIDE (i : Nat) : Nat := 0x41A00 + i * 0x10
abbrev Reg.SHc_FIFO_OVF (i : Nat) : Nat := 0x41A04 + i * 0x10
abbrev Reg.SHc_ORPHAN (i : Nat) : Nat := 0x41A08 + i * 0x10
abbrev Reg.SHc_STALE_START (i : Nat) : Nat := 0x41A0C + i * 0x10
abbrev Reg.SH_MB_CMD : Nat := 0x42040
abbrev Reg.SH_MB_LEN : Nat := 0x42044
abbrev Reg.SH_MB_STAT : Nat := 0x42048
abbrev Reg.SH_NONCE (i : Nat) : Nat := 0x42050 + i * 0x4
abbrev Reg.EB_SVC_LIMIT : Nat := 0x48040
abbrev Reg.EB_REVOKE_STEP : Nat := 0x48044
abbrev Reg.EB_RES_WIN : Nat := 0x48048
abbrev Reg.EB_TRACK_G : Nat := 0x4804C
abbrev Reg.EB_SHELL_BASE : Nat := 0x48050
abbrev Reg.EB_STALE_ADD : Nat := 0x48054
abbrev Reg.EB_UNCAL_ADD : Nat := 0x48058
abbrev Reg.EB_HIT_HOLD : Nat := 0x4805C
abbrev Reg.EB_BRIDGE_RATE : Nat := 0x48060
abbrev Reg.EB_UNSEALED_ADD : Nat := 0x48064
abbrev Reg.EB_PORT_FLOOR : Nat := 0x48068
abbrev Reg.EB_PORT_NOCHK : Nat := 0x4806C
abbrev Reg.EB_MAP (i : Nat) : Nat := 0x48070 + i * 0x4
abbrev Reg.EB_NTP_EFTYPE : Nat := 0x48088
abbrev Reg.EB_ATT_KEY : Nat := 0x4808C
abbrev Reg.EB_BOUND_L : Nat := 0x480C0
abbrev Reg.EB_BOUND_H : Nat := 0x480C4
abbrev Reg.EB_T0_NS : Nat := 0x480C8
abbrev Reg.EB_T0_SECL : Nat := 0x480CC
abbrev Reg.EB_T0_SECH : Nat := 0x480D0
abbrev Reg.EB_G : Nat := 0x480D4
abbrev Reg.EB_GEN : Nat := 0x480D8
abbrev Reg.EB_REVOKES : Nat := 0x480DC
abbrev Reg.EB_COMP (i : Nat) : Nat := 0x48100 + i * 0x4
abbrev Reg.EB_PORTK (i : Nat) : Nat := 0x48140 + i * 0x4
abbrev Reg.EB_ORG_ID : Nat := 0x48180
abbrev Reg.EB_ATT_NONCE (i : Nat) : Nat := 0x48200 + i * 0x4
abbrev Reg.EB_ATT_CMD : Nat := 0x48220
abbrev Reg.EB_ATT_STAT : Nat := 0x48224
abbrev Reg.EB_ATT_NLEN : Nat := 0x48228
abbrev Reg.EB_ATT_BUF (i : Nat) : Nat := 0x48400 + i * 0x4
abbrev Reg.PTp_MODE (p : Nat) : Nat := 0x50040 + p * 0x1000
abbrev Reg.PTp_MAXLEN (p : Nat) : Nat := 0x50044 + p * 0x1000
abbrev Reg.PTp_FC (p : Nat) : Nat := 0x50048 + p * 0x1000
abbrev Reg.PTp_VLAN (p : Nat) : Nat := 0x5004C + p * 0x1000
abbrev Reg.PTp_RX_EXT (p : Nat) : Nat := 0x50050 + p * 0x1000
abbrev Reg.PTp_TX_EXT (p : Nat) : Nat := 0x50054 + p * 0x1000
abbrev Reg.PTp_ASYM (p : Nat) : Nat := 0x50058 + p * 0x1000
abbrev Reg.PTp_LAUNCH_MIN (p : Nat) : Nat := 0x5005C + p * 0x1000
abbrev Reg.PTp_RES_WIN (p : Nat) : Nat := 0x50060 + p * 0x1000
abbrev Reg.PTp_LAUNCH_TOL (p : Nat) : Nat := 0x50064 + p * 0x1000
abbrev Reg.PTp_CMD (p : Nat) : Nat := 0x50080 + p * 0x1000
abbrev Reg.PTp_BLOCK_PER (p : Nat) : Nat := 0x50084 + p * 0x1000
abbrev Reg.PTp_SLOT_DLY (p : Nat) : Nat := 0x50088 + p * 0x1000
abbrev Reg.PTp_RES_OUT (p : Nat) : Nat := 0x5008C + p * 0x1000
abbrev Reg.PTp_RX_FRAMES_L (p : Nat) : Nat := 0x500C0 + p * 0x1000
abbrev Reg.PTp_RX_FRAMES_H (p : Nat) : Nat := 0x500C4 + p * 0x1000
abbrev Reg.PTp_TX_FRAMES_L (p : Nat) : Nat := 0x500C8 + p * 0x1000
abbrev Reg.PTp_TX_FRAMES_H (p : Nat) : Nat := 0x500CC + p * 0x1000
abbrev Reg.PTp_RUNT (p : Nat) : Nat := 0x500D0 + p * 0x1000
abbrev Reg.PTp_OVERSIZE (p : Nat) : Nat := 0x500D4 + p * 0x1000
abbrev Reg.PTp_FCS_ERR (p : Nat) : Nat := 0x500D8 + p * 0x1000
abbrev Reg.PTp_TX_DROP (p : Nat) : Nat := 0x500DC + p * 0x1000
abbrev Reg.PTp_CTRL_RX (p : Nat) : Nat := 0x500E0 + p * 0x1000
abbrev Reg.PTp_LAUNCHED (p : Nat) : Nat := 0x500E4 + p * 0x1000
abbrev Reg.PTp_MISS_LATE (p : Nat) : Nat := 0x500E8 + p * 0x1000
abbrev Reg.PTp_MISS_LENGTH (p : Nat) : Nat := 0x500EC + p * 0x1000
abbrev Reg.PTp_MISS_PAUSE (p : Nat) : Nat := 0x500F0 + p * 0x1000
abbrev Reg.PTp_MISS_LINK (p : Nat) : Nat := 0x500F4 + p * 0x1000
abbrev Reg.PTp_MISS_GATE (p : Nat) : Nat := 0x500F8 + p * 0x1000
abbrev Reg.PTp_REVOKED (p : Nat) : Nat := 0x500FC + p * 0x1000
abbrev Reg.PTp_RESID_CNT (p : Nat) : Nat := 0x50100 + p * 0x1000
abbrev Reg.PTp_RES_REFUSED (p : Nat) : Nat := 0x50104 + p * 0x1000
abbrev Reg.PTp_MISS_AGE (p : Nat) : Nat := 0x50108 + p * 0x1000
abbrev Reg.SW_AGE : Nat := 0x60040
abbrev Reg.SW_CT_PORTS : Nat := 0x60044
abbrev Reg.SW_NODEST : Nat := 0x60048
abbrev Reg.SW_USED : Nat := 0x6004C
abbrev Reg.SW_FREE : Nat := 0x60050
abbrev Reg.SW_LAG_CMD : Nat := 0x60054
abbrev Reg.SW_QCFGp (i : Nat) : Nat := 0x60080 + i * 0x4
abbrev Reg.SW_MINp (i : Nat) : Nat := 0x60100 + i * 0x4
abbrev Reg.SW_LAGg (i : Nat) : Nat := 0x60180 + i * 0x4
abbrev Reg.SW_DROPp (i : Nat) : Nat := 0x61040 + i * 0x20
abbrev Reg.SW_AGEDp (i : Nat) : Nat := 0x61044 + i * 0x20
abbrev Reg.SW_MC_DROPp (i : Nat) : Nat := 0x61048 + i * 0x20
abbrev Reg.SW_STOMPp (i : Nat) : Nat := 0x6104C + i * 0x20
abbrev Reg.SW_FU_SUPPp (i : Nat) : Nat := 0x61050 + i * 0x20
abbrev Reg.SW_DOWN_DROPp (i : Nat) : Nat := 0x61054 + i * 0x20
abbrev Reg.SW_TC_CORRp (i : Nat) : Nat := 0x61058 + i * 0x20
abbrev Reg.SW_TC_DROPp (i : Nat) : Nat := 0x6105C + i * 0x20
abbrev Reg.SW_RXr_BASE_L (i : Nat) : Nat := 0x62040 + i * 0x20
abbrev Reg.SW_TXr_BASE_L (i : Nat) : Nat := 0x63040 + i * 0x20
abbrev Reg.SW_RXr_BASE_H (i : Nat) : Nat := 0x62044 + i * 0x20
abbrev Reg.SW_TXr_BASE_H (i : Nat) : Nat := 0x63044 + i * 0x20
abbrev Reg.SW_RXr_CFG (i : Nat) : Nat := 0x62048 + i * 0x20
abbrev Reg.SW_TXr_CFG (i : Nat) : Nat := 0x63048 + i * 0x20
abbrev Reg.SW_RXr_HEAD (i : Nat) : Nat := 0x6204C + i * 0x20
abbrev Reg.SW_TXr_HEAD (i : Nat) : Nat := 0x6304C + i * 0x20
abbrev Reg.SW_RXr_TAIL (i : Nat) : Nat := 0x62050 + i * 0x20
abbrev Reg.SW_TXr_TAIL (i : Nat) : Nat := 0x63050 + i * 0x20
abbrev Reg.SW_RXr_FRAMES (i : Nat) : Nat := 0x62054 + i * 0x20
abbrev Reg.SW_TXr_FRAMES (i : Nat) : Nat := 0x63054 + i * 0x20
abbrev Reg.SW_RXr_NOBUF (i : Nat) : Nat := 0x62058 + i * 0x20
abbrev Reg.SW_TXr_BAD (i : Nat) : Nat := 0x63058 + i * 0x20
abbrev Reg.PE_CLOCK_ID_H : Nat := 0x70040
abbrev Reg.PE_CLOCK_ID_L : Nat := 0x70044
abbrev Reg.PE_DS : Nat := 0x70048
abbrev Reg.PE_GRANT : Nat := 0x7004C
abbrev Reg.PE_RATE_MAX : Nat := 0x70050
abbrev Reg.PE_REQ_AGE : Nat := 0x70054
abbrev Reg.PE_MC_DREQ_MAX : Nat := 0x70058
abbrev Reg.PE_TX_L : Nat := 0x70080
abbrev Reg.PE_TX_H : Nat := 0x70084
abbrev Reg.PE_RX_L : Nat := 0x70088
abbrev Reg.PE_RX_H : Nat := 0x7008C
abbrev Reg.PE_DENY : Nat := 0x70090
abbrev Reg.PE_AUTH_FAIL : Nat := 0x70094
abbrev Reg.PE_NOAUTH_DROP : Nat := 0x70098
abbrev Reg.PE_KEY_DISCARD : Nat := 0x7009C
abbrev Reg.PE_LANE_LOST : Nat := 0x700A0
abbrev Reg.PE_REQ_AGED : Nat := 0x700A4
abbrev Reg.PE_NO_CLIENT : Nat := 0x700A8
abbrev Reg.PE_RATE_DROP : Nat := 0x700AC
abbrev Reg.PE_NO_STAMP : Nat := 0x700B0
abbrev Reg.PE_SVCk_CFG (i : Nat) : Nat := 0x70100 + i * 0x20
abbrev Reg.PE_SVCk_PORTS (i : Nat) : Nat := 0x70104 + i * 0x20
abbrev Reg.PE_SVCk_INTV (i : Nat) : Nat := 0x70108 + i * 0x20
abbrev Reg.PE_SVCk_ULIM (i : Nat) : Nat := 0x7010C + i * 0x20
abbrev Reg.PE_SVCk_SDO (i : Nat) : Nat := 0x70110 + i * 0x20
abbrev Reg.PE_SVCk_PSTATE (i : Nat) : Nat := 0x70114 + i * 0x20
abbrev Reg.PE_SVCk_CLIENTS (i : Nat) : Nat := 0x70118 + i * 0x20
abbrev Reg.PE_TBL_BASE_L : Nat := 0x71040
abbrev Reg.PE_TBL_BASE_H : Nat := 0x71044
abbrev Reg.PE_TBL_USED : Nat := 0x71048
abbrev Reg.PE_TBL_COMMIT : Nat := 0x7104C
abbrev Reg.PE_CACHE_HIT : Nat := 0x71050
abbrev Reg.PE_CACHE_MISS : Nat := 0x71054
abbrev Reg.PE_PROBE_MAX : Nat := 0x71058
abbrev Reg.PE_TBL_QIDX : Nat := 0x71060
abbrev Reg.PE_TBL_QSTAT : Nat := 0x71064
abbrev Reg.PE_TBL_QW (i : Nat) : Nat := 0x71080 + i * 0x4
abbrev Reg.PE_SPs_CFG (i : Nat) : Nat := 0x72040 + i * 0xC
abbrev Reg.PE_SPs_KID (i : Nat) : Nat := 0x72044 + i * 0xC
abbrev Reg.PE_SPs_PKID (i : Nat) : Nat := 0x72048 + i * 0xC
abbrev Reg.PE_CLi_CFG (i : Nat) : Nat := 0x73040 + i * 0x80
abbrev Reg.PE_CLi_MADDR0 (i : Nat) : Nat := 0x73044 + i * 0x80
abbrev Reg.PE_CLi_MADDR1 (i : Nat) : Nat := 0x73048 + i * 0x80
abbrev Reg.PE_CLi_MADDR2 (i : Nat) : Nat := 0x7304C + i * 0x80
abbrev Reg.PE_CLi_MADDR3 (i : Nat) : Nat := 0x73050 + i * 0x80
abbrev Reg.PE_CLi_INTV (i : Nat) : Nat := 0x73054 + i * 0x80
abbrev Reg.PE_CLi_TMO (i : Nat) : Nat := 0x73058 + i * 0x80
abbrev Reg.PE_CLi_LOCAL (i : Nat) : Nat := 0x7305C + i * 0x80
abbrev Reg.PE_CLi_ACC_UNK (i : Nat) : Nat := 0x73060 + i * 0x80
abbrev Reg.PE_CLi_STAT (i : Nat) : Nat := 0x73080 + i * 0x80
abbrev Reg.PE_CLi_OFS_L (i : Nat) : Nat := 0x73084 + i * 0x80
abbrev Reg.PE_CLi_OFS_H (i : Nat) : Nat := 0x73088 + i * 0x80
abbrev Reg.PE_CLi_MPD (i : Nat) : Nat := 0x7308C + i * 0x80
abbrev Reg.PE_CLi_UPB_L (i : Nat) : Nat := 0x73090 + i * 0x80
abbrev Reg.PE_CLi_UPB_H (i : Nat) : Nat := 0x73094 + i * 0x80
abbrev Reg.PE_CLi_GMID_H (i : Nat) : Nat := 0x73098 + i * 0x80
abbrev Reg.PE_CLi_GMID_L (i : Nat) : Nat := 0x7309C + i * 0x80
abbrev Reg.NE_ADDR4_ (i : Nat) : Nat := 0x78040 + i * 0x4
abbrev Reg.NE_ADDR6_ (i : Nat) : Nat := 0x78050 + i * 0x4
abbrev Reg.NE_ADDR_EN : Nat := 0x78090
abbrev Reg.NE_MAX_BOUND : Nat := 0x78094
abbrev Reg.NE_LEAD : Nat := 0x78098
abbrev Reg.NE_POLL : Nat := 0x7809C
abbrev Reg.NE_TXCFG : Nat := 0x780A0
abbrev Reg.NE_REFID2 : Nat := 0x780A4
abbrev Reg.NE_MAXLEN : Nat := 0x780A8
abbrev Reg.NE_REQ_AGE : Nat := 0x780AC
abbrev Reg.NE_RX_L : Nat := 0x780C0
abbrev Reg.NE_RX_H : Nat := 0x780C4
abbrev Reg.NE_TX_L : Nat := 0x780C8
abbrev Reg.NE_TX_H : Nat := 0x780CC
abbrev Reg.NE_OFF_DROP : Nat := 0x780D0
abbrev Reg.NE_ADDR_DROP : Nat := 0x780D4
abbrev Reg.NE_NO_STAMP : Nat := 0x780D8
abbrev Reg.NE_FMT_DROP : Nat := 0x780DC
abbrev Reg.NE_MODE_DROP : Nat := 0x780E0
abbrev Reg.NE_AUTH_FAIL : Nat := 0x780E4
abbrev Reg.NE_NAK : Nat := 0x780E8
abbrev Reg.NE_NTS_HALT_DROP : Nat := 0x780EC
abbrev Reg.NE_KOD : Nat := 0x780F0
abbrev Reg.NE_RATE_DROP_CNT : Nat := 0x780F4
abbrev Reg.NE_RATE_SKIP : Nat := 0x780F8
abbrev Reg.NE_RES_REFUSED : Nat := 0x780FC
abbrev Reg.NE_LAUNCH_LOST : Nat := 0x78100
abbrev Reg.NE_KEY_DISCARD : Nat := 0x78104
abbrev Reg.NE_LANE_LOST : Nat := 0x78108
abbrev Reg.NE_REQ_AGED : Nat := 0x7810C
abbrev Reg.NE_TAMPER_DROP : Nat := 0x78110
abbrev Reg.NE_UNSYNC : Nat := 0x78114
abbrev Reg.NE_GEN_CUR : Nat := 0x79040
abbrev Reg.NE_GEN_VO0 : Nat := 0x79044
abbrev Reg.NE_GEN_VO1 : Nat := 0x79048
abbrev Reg.NE_GRACE : Nat := 0x7904C
abbrev Reg.NE_ROT_CMD : Nat := 0x79050
abbrev Reg.NE_MQ_BASE_L : Nat := 0x79060
abbrev Reg.NE_MQ_BASE_H : Nat := 0x79064
abbrev Reg.NE_MQ_CFG : Nat := 0x79068
abbrev Reg.NE_MQ_HEAD : Nat := 0x7906C
abbrev Reg.NE_MQ_TAIL : Nat := 0x79070
abbrev Reg.NE_MQ_DONE : Nat := 0x79074
abbrev Reg.NE_MQ_ERR : Nat := 0x79078
abbrev Reg.NE_RATE_CFG : Nat := 0x7A040
abbrev Reg.NE_SK_PER : Nat := 0x7A044
abbrev Reg.NE_RATE_LIM : Nat := 0x7A048
abbrev Reg.NE_RATE_DROP : Nat := 0x7A04C
abbrev Reg.NE_SK_BASE_L : Nat := 0x7A050
abbrev Reg.NE_SK_BASE_H : Nat := 0x7A054
abbrev Reg.NE_SK_N : Nat := 0x7A080
abbrev Reg.NE_SK_EPS : Nat := 0x7A084
abbrev Reg.NE_SK_STAT : Nat := 0x7A088
abbrev Reg.KS_LC : Nat := 0x80040
abbrev Reg.KS_CMD : Nat := 0x80044
abbrev Reg.KS_ARG0 : Nat := 0x80048
abbrev Reg.KS_ARG1 : Nat := 0x8004C
abbrev Reg.KS_RESULT : Nat := 0x80050
abbrev Reg.KS_NONCE (i : Nat) : Nat := 0x80060 + i * 0x4
abbrev Reg.KS_AUTH_HASH (i : Nat) : Nat := 0x80080 + i * 0x4
abbrev Reg.KS_DISCARD : Nat := 0x800C0
abbrev Reg.KS_ABORTED : Nat := 0x800C4
abbrev Reg.KS_REFUSED : Nat := 0x800C8
abbrev Reg.KS_RNG_REFUSED : Nat := 0x800CC
abbrev Reg.TP_LOOP_CFG : Nat := 0x88040
abbrev Reg.TP_DET_CFG : Nat := 0x88044
abbrev Reg.TP_RTC_L : Nat := 0x88048
abbrev Reg.TP_RTC_H : Nat := 0x8804C
abbrev Reg.TP_ANCHOR_RTC_L : Nat := 0x88050
abbrev Reg.TP_ANCHOR_RTC_H : Nat := 0x88054
abbrev Reg.TP_ANCHOR_S : Nat := 0x88058
abbrev Reg.TP_LOG_IDX : Nat := 0x88060
abbrev Reg.PPk_CFG (p : Nat) : Nat := 0xA0040 + p * 0x1000
abbrev Reg.PPk_WDOG (p : Nat) : Nat := 0xA0044 + p * 0x1000
abbrev Reg.PPk_CEIL (p : Nat) : Nat := 0xA0048 + p * 0x1000
abbrev Reg.PPk_EMIT (p : Nat) : Nat := 0xA004C + p * 0x1000
abbrev Reg.PPk_ACL (p : Nat) (i : Nat) : Nat := 0xA0050 + p * 0x1000 + i * 0x4
abbrev Reg.PPk_IMG (p : Nat) : Nat := 0xA0070 + p * 0x1000
abbrev Reg.PPk_CMD (p : Nat) : Nat := 0xA0080 + p * 0x1000
abbrev Reg.PPk_PC (p : Nat) : Nat := 0xA0084 + p * 0x1000
abbrev Reg.PPk_CYC (p : Nat) : Nat := 0xA0088 + p * 0x1000
abbrev Reg.PPk_STALLS (p : Nat) : Nat := 0xA008C + p * 0x1000
abbrev Reg.PPk_FAILS (p : Nat) : Nat := 0xA0090 + p * 0x1000
abbrev Reg.PPk_LASTFAIL (p : Nat) : Nat := 0xA0094 + p * 0x1000
abbrev Reg.PPk_INBOX_OVF (p : Nat) : Nat := 0xA0098 + p * 0x1000
abbrev Reg.PPk_CLS_DROP (p : Nat) : Nat := 0xA009C + p * 0x1000
abbrev Reg.PPk_MBOX (p : Nat) (i : Nat) : Nat := 0xA00A0 + p * 0x1000 + i * 0x4
abbrev Reg.PPk_MBOX_CMD (p : Nat) : Nat := 0xA00B0 + p * 0x1000
abbrev Reg.PPk_RULEj_KEY (p : Nat) (i : Nat) : Nat := 0xA0400 + p * 0x1000 + i * 0x10
abbrev Reg.PPk_RULEj_ACT (p : Nat) (i : Nat) : Nat := 0xA0404 + p * 0x1000 + i * 0x10
abbrev Reg.PPk_RULEj_CODE (p : Nat) (i : Nat) : Nat := 0xA0408 + p * 0x1000 + i * 0x10
abbrev Reg.PPk_RULEj_FB (p : Nat) (i : Nat) : Nat := 0xA040C + p * 0x1000 + i * 0x10
abbrev Reg.OUn_CFG (p : Nat) : Nat := 0x90040 + p * 0x1000
abbrev Reg.OUn_PER_S (p : Nat) : Nat := 0x90044 + p * 0x1000
abbrev Reg.OUn_PER_NS (p : Nat) : Nat := 0x90048 + p * 0x1000
abbrev Reg.OUn_WIDTH (p : Nat) : Nat := 0x9004C + p * 0x1000
abbrev Reg.OUn_PHASE (p : Nat) : Nat := 0x90050 + p * 0x1000
abbrev Reg.OUn_FDIV (p : Nat) : Nat := 0x90054 + p * 0x1000
abbrev Reg.OUn_COMP (p : Nat) : Nat := 0x90058 + p * 0x1000
abbrev Reg.OUn_SLEW (p : Nat) : Nat := 0x9005C + p * 0x1000
abbrev Reg.OUn_BMAX (p : Nat) : Nat := 0x90060 + p * 0x1000
abbrev Reg.OUn_IRIG (p : Nat) : Nat := 0x90064 + p * 0x1000
abbrev Reg.OUn_CHK_LIM (p : Nat) : Nat := 0x90068 + p * 0x1000
abbrev Reg.OUn_SQ (p : Nat) : Nat := 0x90080 + p * 0x1000
abbrev Reg.OUn_LAG (p : Nat) : Nat := 0x90084 + p * 0x1000
abbrev Reg.OUn_CHK (p : Nat) : Nat := 0x90088 + p * 0x1000
abbrev Reg.OUn_CHK_FAIL (p : Nat) : Nat := 0x9008C + p * 0x1000
abbrev Reg.OUn_EDGES (p : Nat) : Nat := 0x90090 + p * 0x1000
abbrev Reg.LS_CFG : Nat := 0xC0040
abbrev Reg.LS_PAIR_ID : Nat := 0xC0044
abbrev Reg.LS_PH_OFS : Nat := 0xC0048
abbrev Reg.LS_SWAP_MIN : Nat := 0xC004C
abbrev Reg.LS_LAG_MAX : Nat := 0xC0050
abbrev Reg.LS_COLD_BLANK : Nat := 0xC0054
abbrev Reg.LS_OVL_MIRROR : Nat := 0xC0058
abbrev Reg.LS_ARB_CFG : Nat := 0xC005C
abbrev Reg.LS_CMD : Nat := 0xC0080
abbrev Reg.LS_EPOCH : Nat := 0xC0084
abbrev Reg.LS_MIRROR_LAG : Nat := 0xC0088
abbrev Reg.LS_TAKEOVERS : Nat := 0xC008C
abbrev Reg.LS_EXPIRIES : Nat := 0xC0090
abbrev Reg.LS_GRANT_GAPS : Nat := 0xC0094
abbrev Reg.LS_ARB_STAT : Nat := 0xC0098
abbrev Reg.LS_ARB_SWAPS : Nat := 0xC009C
abbrev Reg.PF_FEEDA_LO : Nat := 0xC1040
abbrev Reg.PF_FEEDA_OK : Nat := 0xC1044
abbrev Reg.PF_FEEDB_LO : Nat := 0xC1048
abbrev Reg.PF_FEEDB_OK : Nat := 0xC104C
abbrev Reg.PF_DEB : Nat := 0xC1050
abbrev Reg.PF_PRED_T : Nat := 0xC1054
abbrev Reg.PF_FEEDA_NOW : Nat := 0xC1080
abbrev Reg.PF_FEEDB_NOW : Nat := 0xC1084
abbrev Reg.PF_LG_CNT : Nat := 0xC1088
abbrev Reg.AB_MAC_H : Nat := 0xC2040
abbrev Reg.AB_MAC_L : Nat := 0xC2044
abbrev Reg.AB_PLCA : Nat := 0xC2048
abbrev Reg.AB_KEY : Nat := 0xC204C
abbrev Reg.AB_TX : Nat := 0xC2080
abbrev Reg.AB_RX : Nat := 0xC2084
abbrev Reg.AB_COLL : Nat := 0xC2088
abbrev Reg.AB_EXCESS : Nat := 0xC208C
abbrev Reg.AB_BAD : Nat := 0xC2090
abbrev Reg.ULk_CFG (p : Nat) : Nat := 0xC8040 + p * 0x1000
abbrev Reg.ULk_ASYM (p : Nat) : Nat := 0xC8044 + p * 0x1000
abbrev Reg.ULk_ASYM_UNC (p : Nat) : Nat := 0xC8048 + p * 0x1000
abbrev Reg.ULk_HOP_ADD (p : Nat) : Nat := 0xC804C + p * 0x1000
abbrev Reg.ULk_DELAY (p : Nat) : Nat := 0xC8080 + p * 0x1000
abbrev Reg.ULk_OFS_L (p : Nat) : Nat := 0xC8084 + p * 0x1000
abbrev Reg.ULk_OFS_H (p : Nat) : Nat := 0xC8088 + p * 0x1000
abbrev Reg.ULk_RESID (p : Nat) : Nat := 0xC808C + p * 0x1000
abbrev Reg.ULk_PEER (p : Nat) : Nat := 0xC8090 + p * 0x1000
abbrev Reg.ULk_PEER_ROOT (p : Nat) : Nat := 0xC8094 + p * 0x1000
abbrev Reg.ULk_UPB_L (p : Nat) : Nat := 0xC8098 + p * 0x1000
abbrev Reg.ULk_UPB_H (p : Nat) : Nat := 0xC809C + p * 0x1000
abbrev Reg.ULk_TXPATH (p : Nat) : Nat := 0xC80A0 + p * 0x1000
abbrev Reg.ULk_CRC_ERR (p : Nat) : Nat := 0xC80C0 + p * 0x1000
abbrev Reg.ULk_BAD (p : Nat) : Nat := 0xC80C4 + p * 0x1000
abbrev Reg.ULk_MISSED (p : Nat) : Nat := 0xC80C8 + p * 0x1000
abbrev Reg.ULk_TTL_DROP (p : Nat) : Nat := 0xC80CC + p * 0x1000
abbrev Reg.ULk_TX_FRAMES (p : Nat) : Nat := 0xC80D0 + p * 0x1000
abbrev Reg.ULk_RX_FRAMES (p : Nat) : Nat := 0xC80D4 + p * 0x1000
abbrev Reg.UL_NODE : Nat := 0xC8200
abbrev Reg.UL_FAB_CFG : Nat := 0xC8204
abbrev Reg.UL_TREE : Nat := 0xC8208
abbrev Reg.UL_TREE_CHG : Nat := 0xC820C
abbrev Reg.UL_ROUTEe (i : Nat) : Nat := 0xC8400 + i * 0x4
abbrev Reg.JN_MODE : Nat := 0xD0040
abbrev Reg.JN_PKT_LEN : Nat := 0xD0044
abbrev Reg.JN_STAGE_USED : Nat := 0xD0048
abbrev Reg.JN_LOST : Nat := 0xD004C
abbrev Reg.JN_LATE : Nat := 0xD0050
abbrev Reg.JN_RECORDS_L : Nat := 0xD0054
abbrev Reg.JN_RECORDS_H : Nat := 0xD0058
abbrev Reg.JN_HEVT_P_L : Nat := 0xD0060
abbrev Reg.JN_HEVT_P_H : Nat := 0xD0064
abbrev Reg.JN_HEVT_CMD : Nat := 0xD0068
abbrev Reg.JN_RING_BASE_L : Nat := 0xD1040
abbrev Reg.JN_RING_BASE_H : Nat := 0xD1044
abbrev Reg.JN_RING_SIZE : Nat := 0xD1048
abbrev Reg.JN_WR_L : Nat := 0xD1050
abbrev Reg.JN_WR_H : Nat := 0xD1054
abbrev Reg.JN_OLDEST_L : Nat := 0xD1058
abbrev Reg.JN_OLDEST_H : Nat := 0xD105C
abbrev Reg.JN_EXP_L : Nat := 0xD1060
abbrev Reg.JN_EXP_H : Nat := 0xD1064
abbrev Reg.JN_EXP_CFG : Nat := 0xD1068
abbrev Reg.JN_EXP_SKIP : Nat := 0xD106C
abbrev Reg.JN_DAMAGED : Nat := 0xD1070
abbrev Reg.JN_STAT_CFG : Nat := 0xD2040
abbrev Reg.JN_HLL_EST : Nat := 0xD2044
abbrev Reg.JN_HLL_PER : Nat := 0xD2048
abbrev Reg.JN_SK_ABANDON : Nat := 0xD204C
abbrev Reg.FC_PEND : Nat := 0xD8040
abbrev Reg.FC_ACTIVE : Nat := 0xD8044
abbrev Reg.FC_SEVERE : Nat := 0xD8048
abbrev Reg.FC_FORCE : Nat := 0xD804C
abbrev Reg.FC_SHADOW : Nat := 0xD8050
abbrev Reg.FC_RST_CAUSE : Nat := 0xD8054
abbrev Reg.FC_CLASSc (i : Nat) : Nat := 0xD8060 + i * 0x4
abbrev Reg.FC_SRCs_CFG (i : Nat) : Nat := 0xD8100 + i * 0x10
abbrev Reg.FC_SRCs_WIN (i : Nat) : Nat := 0xD8104 + i * 0x10
abbrev Reg.FC_SRCs_CNT (i : Nat) : Nat := 0xD8108 + i * 0x10
abbrev Reg.FC_SRCs_CONSEQ (i : Nat) : Nat := 0xD810C + i * 0x10
abbrev Reg.FC_DEPt (i : Nat) : Nat := 0xD8300 + i * 0x4
abbrev Reg.PCg_RUN (p : Nat) : Nat := 0xE0040 + p * 0x1000
abbrev Reg.PCg_CYC_L (p : Nat) : Nat := 0xE0048 + p * 0x1000
abbrev Reg.PCg_CYC_H (p : Nat) : Nat := 0xE004C + p * 0x1000
abbrev Reg.PCg_SELj (p : Nat) (i : Nat) : Nat := 0xE0080 + p * 0x1000 + i * 0x10
abbrev Reg.PCg_THRj (p : Nat) (i : Nat) : Nat := 0xE0084 + p * 0x1000 + i * 0x10
abbrev Reg.PCg_CNTj_L (p : Nat) (i : Nat) : Nat := 0xE0088 + p * 0x1000 + i * 0x10
abbrev Reg.PCg_CNTj_H (p : Nat) (i : Nat) : Nat := 0xE008C + p * 0x1000 + i * 0x10
abbrev Reg.CVn_POLY (p : Nat) : Nat := 0xE8040 + p * 0x1000
abbrev Reg.CVn_INIT (p : Nat) : Nat := 0xE8044 + p * 0x1000
abbrev Reg.CVn_XOROUT (p : Nat) : Nat := 0xE8048 + p * 0x1000
abbrev Reg.CVn_CFG (p : Nat) : Nat := 0xE804C + p * 0x1000
abbrev Reg.CVn_START_L (p : Nat) : Nat := 0xE8050 + p * 0x1000
abbrev Reg.CVn_START_H (p : Nat) : Nat := 0xE8054 + p * 0x1000
abbrev Reg.CVn_LEN (p : Nat) : Nat := 0xE8058 + p * 0x1000
abbrev Reg.CVn_CMD (p : Nat) : Nat := 0xE805C + p * 0x1000
abbrev Reg.CVn_CTX (p : Nat) : Nat := 0xE8060 + p * 0x1000
abbrev Reg.CVn_RESULT (p : Nat) : Nat := 0xE8064 + p * 0x1000
abbrev Reg.CVn_DONE_BYTES (p : Nat) : Nat := 0xE8068 + p * 0x1000
abbrev Reg.CVn_MISMATCH (p : Nat) : Nat := 0xE806C + p * 0x1000
abbrev Reg.SYS_BOOT : Nat := 0x54
abbrev Reg.SYS_BOOT_MS : Nat := 0x58
abbrev Reg.SYS_IMG_VER : Nat := 0x5C
abbrev Reg.SYS_IMG_DATA : Nat := 0x60
abbrev Reg.SYS_IMG_CMD : Nat := 0x64
abbrev Reg.CK_SAPLL_CFG : Nat := 0xF0040
abbrev Reg.CK_PWR_CFG : Nat := 0xF0044
abbrev Reg.CK_PWR_CMD : Nat := 0xF0048
abbrev Reg.CK_OSC_MEAS : Nat := 0xF004C
abbrev Reg.CK_TLOCK_LOSS : Nat := 0xF0050
abbrev Reg.SYS_SECURE_EN : Nat := 0x44
abbrev Reg.SYS_LOCKLOG : Nat := 0x48
abbrev Reg.SYS_LOCKCNT : Nat := 0x4C
abbrev Reg.SYS_BADACC : Nat := 0x50
abbrev Reg.IND_ADDR (i : Nat) : Nat := 0x2040 + i * 0x10
abbrev Reg.IND_DATA (i : Nat) : Nat := 0x2044 + i * 0x10
abbrev Reg.IND_CTL (i : Nat) : Nat := 0x2048 + i * 0x10
abbrev Reg.IND_STAT (i : Nat) : Nat := 0x204C + i * 0x10
abbrev Reg.RS_LOG_IDX : Nat := 0x1D140
abbrev Reg.SH_REC (i : Nat) : Nat := 0x41040 + i * 0x4
abbrev Reg.SH_MB_BUF (i : Nat) : Nat := 0x43040 + i * 0x4
abbrev Reg.SW_LAG_BUCKET (i : Nat) : Nat := 0x61400 + i * 0x4
abbrev Reg.KS_SLOTs_ATTR0 (i : Nat) : Nat := 0x81040 + i * 0x10
abbrev Reg.KS_SLOTs_ATTR1 (i : Nat) : Nat := 0x81044 + i * 0x10
abbrev Reg.KS_BUF (i : Nat) : Nat := 0x81C00 + i * 0x4
abbrev Reg.JN_CLSc (i : Nat) : Nat := 0xD3040 + i * 0x4

abbrev Fld.CFG_CTL_RESCAN : Fld := ⟨Reg.CFG_CTL, 3, 1⟩
abbrev Fld.CFG_CTL_ABANDON : Fld := ⟨Reg.CFG_CTL, 2, 1⟩
abbrev Fld.CFG_CTL_COMMIT : Fld := ⟨Reg.CFG_CTL, 1, 1⟩
abbrev Fld.CFG_CTL_OPEN : Fld := ⟨Reg.CFG_CTL, 0, 1⟩
abbrev Fld.CFG_STAT_OWNER_REQ : Fld := ⟨Reg.CFG_STAT, 12, 2⟩
abbrev Fld.CFG_STAT_OWNER_PIP : Fld := ⟨Reg.CFG_STAT, 7, 5⟩
abbrev Fld.CFG_STAT_SEAL_OK : Fld := ⟨Reg.CFG_STAT, 3, 1⟩
abbrev Fld.CFG_STAT_DIRTY : Fld := ⟨Reg.CFG_STAT, 2, 1⟩
abbrev Fld.CFG_STAT_COMMIT_BUSY : Fld := ⟨Reg.CFG_STAT, 1, 1⟩
abbrev Fld.CFG_STAT_WIN_OPEN : Fld := ⟨Reg.CFG_STAT, 0, 1⟩
abbrev Fld.CFG_OVL_LOADED_BAD : Fld := ⟨Reg.CFG_OVL_LOADED, 16, 16⟩
abbrev Fld.CFG_OVL_LOADED_PRESENT : Fld := ⟨Reg.CFG_OVL_LOADED, 0, 16⟩
abbrev Fld.CFG_EVT_SEAL_FAIL : Fld := ⟨Reg.CFG_EVT, 2, 1⟩
abbrev Fld.CFG_EVT_OVL_REFUSED : Fld := ⟨Reg.CFG_EVT, 1, 1⟩
abbrev Fld.CFG_EVT_OVL_OVERLAP : Fld := ⟨Reg.CFG_EVT, 0, 1⟩
abbrev Fld.TC_CTL_UTC_AUTO : Fld := ⟨Reg.TC_CTL, 2, 1⟩
abbrev Fld.TC_CTL_DEGRADE_EN : Fld := ⟨Reg.TC_CTL, 1, 1⟩
abbrev Fld.TC_STAT_TXQ_NE : Fld := ⟨Reg.TC_STAT, 16, 16⟩
abbrev Fld.TC_STAT_RATIO_NOM : Fld := ⟨Reg.TC_STAT, 8, 1⟩
abbrev Fld.TC_STAT_TCLK_OK : Fld := ⟨Reg.TC_STAT, 7, 1⟩
abbrev Fld.TC_STAT_UTC_ARMED : Fld := ⟨Reg.TC_STAT, 6, 1⟩
abbrev Fld.TC_STAT_STEP_PENDING : Fld := ⟨Reg.TC_STAT, 5, 1⟩
abbrev Fld.TC_STAT_SLEW_ACTIVE : Fld := ⟨Reg.TC_STAT, 4, 1⟩
abbrev Fld.TC_STAT_LOOP : Fld := ⟨Reg.TC_STAT, 3, 1⟩
abbrev Fld.TC_STAT_STATE : Fld := ⟨Reg.TC_STAT, 0, 3⟩
abbrev Fld.TC_EVT_SLEW_DONE : Fld := ⟨Reg.TC_EVT, 15, 1⟩
abbrev Fld.TC_EVT_SLEW_IGNORED : Fld := ⟨Reg.TC_EVT, 14, 1⟩
abbrev Fld.TC_EVT_TXQ_READY : Fld := ⟨Reg.TC_EVT, 13, 1⟩
abbrev Fld.TC_EVT_TXQ_OVF : Fld := ⟨Reg.TC_EVT, 12, 1⟩
abbrev Fld.TC_EVT_CAP_OVF : Fld := ⟨Reg.TC_EVT, 11, 1⟩
abbrev Fld.TC_EVT_TRG_DENIED : Fld := ⟨Reg.TC_EVT, 10, 1⟩
abbrev Fld.TC_EVT_TRG_MISSED : Fld := ⟨Reg.TC_EVT, 9, 1⟩
abbrev Fld.TC_EVT_BRIDGE_EXIT : Fld := ⟨Reg.TC_EVT, 8, 1⟩
abbrev Fld.TC_EVT_BRIDGE_ENTER : Fld := ⟨Reg.TC_EVT, 7, 1⟩
abbrev Fld.TC_EVT_UTC_REFUSED : Fld := ⟨Reg.TC_EVT, 6, 1⟩
abbrev Fld.TC_EVT_UTC_APPLIED : Fld := ⟨Reg.TC_EVT, 5, 1⟩
abbrev Fld.TC_EVT_INCR_IGNORED : Fld := ⟨Reg.TC_EVT, 4, 1⟩
abbrev Fld.TC_EVT_INCR_RANGE : Fld := ⟨Reg.TC_EVT, 3, 1⟩
abbrev Fld.TC_EVT_STEP_REFUSED : Fld := ⟨Reg.TC_EVT, 2, 1⟩
abbrev Fld.TC_EVT_STEP_DONE : Fld := ⟨Reg.TC_EVT, 1, 1⟩
abbrev Fld.TC_EVT_STATE_CHG : Fld := ⟨Reg.TC_EVT, 0, 1⟩
abbrev Fld.TC_STEP_CTL_MODE : Fld := ⟨Reg.TC_STEP_CTL, 2, 1⟩
abbrev Fld.TC_STEP_CTL_CANCEL : Fld := ⟨Reg.TC_STEP_CTL, 1, 1⟩
abbrev Fld.TC_STEP_CTL_REQ : Fld := ⟨Reg.TC_STEP_CTL, 0, 1⟩
abbrev Fld.TC_UTC_STAT_LI : Fld := ⟨Reg.TC_UTC_STAT, 20, 2⟩
abbrev Fld.TC_UTC_STAT_INSERTED : Fld := ⟨Reg.TC_UTC_STAT, 19, 1⟩
abbrev Fld.TC_UTC_STAT_LEAP_SOON : Fld := ⟨Reg.TC_UTC_STAT, 18, 1⟩
abbrev Fld.TC_UTC_STAT_ARMED : Fld := ⟨Reg.TC_UTC_STAT, 17, 1⟩
abbrev Fld.TC_UTC_STAT_NOW : Fld := ⟨Reg.TC_UTC_STAT, 0, 16⟩
abbrev Fld.TC_STATE_CHANGES : Fld := ⟨Reg.TC_STATE, 16, 16⟩
abbrev Fld.TC_STATE_PREV : Fld := ⟨Reg.TC_STATE, 4, 3⟩
abbrev Fld.TC_STATE_STATE : Fld := ⟨Reg.TC_STATE, 0, 3⟩
abbrev Fld.TRGn_CFG_OWNER (i : Nat) : Fld := ⟨Reg.TRGn_CFG i, 8, 8⟩
abbrev Fld.TRGn_CFG_MODE (i : Nat) : Fld := ⟨Reg.TRGn_CFG i, 0, 1⟩
abbrev Fld.TRGn_STAT_FIRES (i : Nat) : Fld := ⟨Reg.TRGn_STAT i, 8, 24⟩
abbrev Fld.TRGn_STAT_BRIDGE (i : Nat) : Fld := ⟨Reg.TRGn_STAT i, 3, 1⟩
abbrev Fld.TRGn_STAT_SKIPPED (i : Nat) : Fld := ⟨Reg.TRGn_STAT i, 2, 1⟩
abbrev Fld.TRGn_STAT_MISSED (i : Nat) : Fld := ⟨Reg.TRGn_STAT i, 1, 1⟩
abbrev Fld.TRGn_STAT_ARMED (i : Nat) : Fld := ⟨Reg.TRGn_STAT i, 0, 1⟩
abbrev Fld.WHL_STAT_BRIDGE_TIMED : Fld := ⟨Reg.WHL_STAT, 2, 1⟩
abbrev Fld.WHL_STAT_EXTENDED : Fld := ⟨Reg.WHL_STAT, 1, 1⟩
abbrev Fld.WHL_STAT_RUNNING : Fld := ⟨Reg.WHL_STAT, 0, 1⟩
abbrev Fld.WHL_EVT_SCHED_LATE : Fld := ⟨Reg.WHL_EVT, 6, 1⟩
abbrev Fld.WHL_EVT_RESCALE : Fld := ⟨Reg.WHL_EVT, 5, 1⟩
abbrev Fld.WHL_EVT_EXTEND : Fld := ⟨Reg.WHL_EVT, 4, 1⟩
abbrev Fld.WHL_EVT_MERGE : Fld := ⟨Reg.WHL_EVT, 3, 1⟩
abbrev Fld.WHL_EVT_SKIP : Fld := ⟨Reg.WHL_EVT, 2, 1⟩
abbrev Fld.WHL_EVT_STALL : Fld := ⟨Reg.WHL_EVT, 1, 1⟩
abbrev Fld.WHL_EVT_BUDGET_REFUSED : Fld := ⟨Reg.WHL_EVT, 0, 1⟩
abbrev Fld.WHLn_STAT_SCALED (i : Nat) : Fld := ⟨Reg.WHLn_STAT i, 2, 1⟩
abbrev Fld.WHLn_STAT_STALLED (i : Nat) : Fld := ⟨Reg.WHLn_STAT i, 1, 1⟩
abbrev Fld.WHLn_STAT_REFUSED (i : Nat) : Fld := ⟨Reg.WHLn_STAT i, 0, 1⟩
abbrev Fld.WHL_SCHk_ACT_EN (i : Nat) : Fld := ⟨Reg.WHL_SCHk_ACT i, 31, 1⟩
abbrev Fld.WHL_SCHk_ACT_CLASS (i : Nat) : Fld := ⟨Reg.WHL_SCHk_ACT i, 20, 4⟩
abbrev Fld.WHL_SCHk_ACT_TARGET (i : Nat) : Fld := ⟨Reg.WHL_SCHk_ACT i, 16, 4⟩
abbrev Fld.WHL_SCHk_ACT_CODE (i : Nat) : Fld := ⟨Reg.WHL_SCHk_ACT i, 0, 16⟩
abbrev Fld.WHL_SCHk_STAT_RUNS (i : Nat) : Fld := ⟨Reg.WHL_SCHk_STAT i, 16, 16⟩
abbrev Fld.WHL_SCHk_STAT_LATE_RUN (i : Nat) : Fld := ⟨Reg.WHL_SCHk_STAT i, 0, 1⟩
abbrev Fld.RSn_CFG_LABEL_SLOT (p : Nat) : Fld := ⟨Reg.RSn_CFG p, 20, 4⟩
abbrev Fld.RSn_CFG_LABEL_EN (p : Nat) : Fld := ⟨Reg.RSn_CFG p, 19, 1⟩
abbrev Fld.RSn_CFG_DRATE_ACT (p : Nat) : Fld := ⟨Reg.RSn_CFG p, 18, 1⟩
abbrev Fld.RSn_CFG_SRC (p : Nat) : Fld := ⟨Reg.RSn_CFG p, 12, 4⟩
abbrev Fld.RSn_CFG_PRIO (p : Nat) : Fld := ⟨Reg.RSn_CFG p, 8, 4⟩
abbrev Fld.RSn_CFG_KIND (p : Nat) : Fld := ⟨Reg.RSn_CFG p, 4, 3⟩
abbrev Fld.RSn_CFG_EN (p : Nat) : Fld := ⟨Reg.RSn_CFG p, 0, 1⟩
abbrev Fld.RSn_STATE_CHANGES (p : Nat) : Fld := ⟨Reg.RSn_STATE p, 16, 16⟩
abbrev Fld.RSn_STATE_DQ_CAUSE (p : Nat) : Fld := ⟨Reg.RSn_STATE p, 10, 3⟩
abbrev Fld.RSn_STATE_IN_USE (p : Nat) : Fld := ⟨Reg.RSn_STATE p, 9, 1⟩
abbrev Fld.RSn_STATE_QUARANTINE (p : Nat) : Fld := ⟨Reg.RSn_STATE p, 8, 1⟩
abbrev Fld.RSn_STATE_PREV (p : Nat) : Fld := ⟨Reg.RSn_STATE p, 4, 3⟩
abbrev Fld.RSn_STATE_STATE (p : Nat) : Fld := ⟨Reg.RSn_STATE p, 0, 3⟩
abbrev Fld.RSn_EVT_STATE_CHG (p : Nat) : Fld := ⟨Reg.RSn_EVT p, 7, 1⟩
abbrev Fld.RSn_EVT_DRIFT_RATE (p : Nat) : Fld := ⟨Reg.RSn_EVT p, 6, 1⟩
abbrev Fld.RSn_EVT_LOST_SIGNAL (p : Nat) : Fld := ⟨Reg.RSn_EVT p, 5, 1⟩
abbrev Fld.RSn_EVT_FREQ_OOT (p : Nat) : Fld := ⟨Reg.RSn_EVT p, 4, 1⟩
abbrev Fld.RSn_EVT_PHASE_HIT (p : Nat) : Fld := ⟨Reg.RSn_EVT p, 3, 1⟩
abbrev Fld.RSn_EVT_WAS_DISQUALIFIED (p : Nat) : Fld := ⟨Reg.RSn_EVT p, 2, 1⟩
abbrev Fld.RSn_EVT_WAS_DEGRADED (p : Nat) : Fld := ⟨Reg.RSn_EVT p, 1, 1⟩
abbrev Fld.RSn_EVT_WAS_SELECTED (p : Nat) : Fld := ⟨Reg.RSn_EVT p, 0, 1⟩
abbrev Fld.RS_CTL_FORCE_SLOT : Fld := ⟨Reg.RS_CTL, 8, 4⟩
abbrev Fld.RS_CTL_FORCE : Fld := ⟨Reg.RS_CTL, 4, 1⟩
abbrev Fld.RS_CTL_FASSIST_EN : Fld := ⟨Reg.RS_CTL, 3, 1⟩
abbrev Fld.RS_CTL_REVERTIVE : Fld := ⟨Reg.RS_CTL, 2, 1⟩
abbrev Fld.RS_CTL_OUTER : Fld := ⟨Reg.RS_CTL, 1, 1⟩
abbrev Fld.RS_CTL_LOOP : Fld := ⟨Reg.RS_CTL, 0, 1⟩
abbrev Fld.RS_STAT_OUTER_CLOSED : Fld := ⟨Reg.RS_STAT, 13, 1⟩
abbrev Fld.RS_STAT_INNER_CLOSED : Fld := ⟨Reg.RS_STAT, 12, 1⟩
abbrev Fld.RS_STAT_FASSIST_SLOT : Fld := ⟨Reg.RS_STAT, 8, 4⟩
abbrev Fld.RS_STAT_SINGLE : Fld := ⟨Reg.RS_STAT, 7, 1⟩
abbrev Fld.RS_STAT_FASSIST : Fld := ⟨Reg.RS_STAT, 6, 1⟩
abbrev Fld.RS_STAT_PULL : Fld := ⟨Reg.RS_STAT, 5, 1⟩
abbrev Fld.RS_STAT_LOCKED : Fld := ⟨Reg.RS_STAT, 4, 1⟩
abbrev Fld.RS_STAT_SEL : Fld := ⟨Reg.RS_STAT, 0, 4⟩
abbrev Fld.RS_EVT_BW_REFUSED : Fld := ⟨Reg.RS_EVT, 8, 1⟩
abbrev Fld.RS_EVT_CMD_IGNORED : Fld := ⟨Reg.RS_EVT, 7, 1⟩
abbrev Fld.RS_EVT_HOST_REJECT : Fld := ⟨Reg.RS_EVT, 6, 1⟩
abbrev Fld.RS_EVT_FASSIST_CHG : Fld := ⟨Reg.RS_EVT, 5, 1⟩
abbrev Fld.RS_EVT_FORCE_FAIL : Fld := ⟨Reg.RS_EVT, 4, 1⟩
abbrev Fld.RS_EVT_LOCK_CHG : Fld := ⟨Reg.RS_EVT, 3, 1⟩
abbrev Fld.RS_EVT_NO_SEL : Fld := ⟨Reg.RS_EVT, 2, 1⟩
abbrev Fld.RS_EVT_RETARGET : Fld := ⟨Reg.RS_EVT, 1, 1⟩
abbrev Fld.RS_EVT_SWITCH : Fld := ⟨Reg.RS_EVT, 0, 1⟩
abbrev Fld.HO_CTL_ASTEP_EN : Fld := ⟨Reg.HO_CTL, 5, 1⟩
abbrev Fld.HO_CTL_LEARN_EN : Fld := ⟨Reg.HO_CTL, 4, 1⟩
abbrev Fld.HO_CTL_MODEL_SRC : Fld := ⟨Reg.HO_CTL, 3, 1⟩
abbrev Fld.HO_CTL_TEMP_EN : Fld := ⟨Reg.HO_CTL, 2, 1⟩
abbrev Fld.HO_CTL_STEER : Fld := ⟨Reg.HO_CTL, 0, 2⟩
abbrev Fld.HO_STAT_LINK_OK : Fld := ⟨Reg.HO_STAT, 7, 1⟩
abbrev Fld.HO_STAT_ASTEP_BUSY : Fld := ⟨Reg.HO_STAT, 6, 1⟩
abbrev Fld.HO_STAT_ASSIST : Fld := ⟨Reg.HO_STAT, 5, 1⟩
abbrev Fld.HO_STAT_TEMP_OK : Fld := ⟨Reg.HO_STAT, 4, 1⟩
abbrev Fld.HO_STAT_MODEL_READY : Fld := ⟨Reg.HO_STAT, 3, 1⟩
abbrev Fld.HO_STAT_CMD_HOLD : Fld := ⟨Reg.HO_STAT, 2, 1⟩
abbrev Fld.HO_STAT_RAMP : Fld := ⟨Reg.HO_STAT, 1, 1⟩
abbrev Fld.HO_STAT_HO_ACTIVE : Fld := ⟨Reg.HO_STAT, 0, 1⟩
abbrev Fld.HO_EVT_LOAD_REFUSED : Fld := ⟨Reg.HO_EVT, 10, 1⟩
abbrev Fld.HO_EVT_ASTEP_CANCEL : Fld := ⟨Reg.HO_EVT, 9, 1⟩
abbrev Fld.HO_EVT_ASTEP_DONE : Fld := ⟨Reg.HO_EVT, 8, 1⟩
abbrev Fld.HO_EVT_RET_BEYOND : Fld := ⟨Reg.HO_EVT, 7, 1⟩
abbrev Fld.HO_EVT_TEMP_FAIL : Fld := ⟨Reg.HO_EVT, 6, 1⟩
abbrev Fld.HO_EVT_OSC_TMO : Fld := ⟨Reg.HO_EVT, 5, 1⟩
abbrev Fld.HO_EVT_CMD_CLAMP : Fld := ⟨Reg.HO_EVT, 4, 1⟩
abbrev Fld.HO_EVT_MODEL_RANGE : Fld := ⟨Reg.HO_EVT, 3, 1⟩
abbrev Fld.HO_EVT_MODEL_READY : Fld := ⟨Reg.HO_EVT, 2, 1⟩
abbrev Fld.HO_EVT_EXIT : Fld := ⟨Reg.HO_EVT, 1, 1⟩
abbrev Fld.HO_EVT_ENTER : Fld := ⟨Reg.HO_EVT, 0, 1⟩
abbrev Fld.HO_DAC_CFG_PREFIX : Fld := ⟨Reg.HO_DAC_CFG, 24, 8⟩
abbrev Fld.HO_DAC_CFG_TWOS : Fld := ⟨Reg.HO_DAC_CFG, 16, 1⟩
abbrev Fld.HO_DAC_CFG_SHIFT : Fld := ⟨Reg.HO_DAC_CFG, 12, 4⟩
abbrev Fld.HO_DAC_CFG_LEN32 : Fld := ⟨Reg.HO_DAC_CFG, 11, 1⟩
abbrev Fld.HO_DAC_CFG_CPHA : Fld := ⟨Reg.HO_DAC_CFG, 10, 1⟩
abbrev Fld.HO_DAC_CFG_CPOL : Fld := ⟨Reg.HO_DAC_CFG, 9, 1⟩
abbrev Fld.HO_DAC_CFG_FREQ : Fld := ⟨Reg.HO_DAC_CFG, 0, 5⟩
abbrev Fld.HO_UART_CFG_PER : Fld := ⟨Reg.HO_UART_CFG, 24, 8⟩
abbrev Fld.HO_UART_CFG_STOP2 : Fld := ⟨Reg.HO_UART_CFG, 23, 1⟩
abbrev Fld.HO_UART_CFG_PAR_ODD : Fld := ⟨Reg.HO_UART_CFG, 22, 1⟩
abbrev Fld.HO_UART_CFG_PAR_EN : Fld := ⟨Reg.HO_UART_CFG, 21, 1⟩
abbrev Fld.HO_UART_CFG_BAUD : Fld := ⟨Reg.HO_UART_CFG, 0, 20⟩
abbrev Fld.HO_TEMP_CFG_SCALE : Fld := ⟨Reg.HO_TEMP_CFG, 16, 16⟩
abbrev Fld.HO_TEMP_CFG_PTR : Fld := ⟨Reg.HO_TEMP_CFG, 8, 8⟩
abbrev Fld.HO_TEMP_CFG_ADDR : Fld := ⟨Reg.HO_TEMP_CFG, 0, 7⟩
abbrev Fld.GN_CTL_ANTB_EN : Fld := ⟨Reg.GN_CTL, 3, 1⟩
abbrev Fld.GN_CTL_ANTA_EN : Fld := ⟨Reg.GN_CTL, 2, 1⟩
abbrev Fld.GN_CTL_BURST : Fld := ⟨Reg.GN_CTL, 1, 1⟩
abbrev Fld.GN_CTL_EN : Fld := ⟨Reg.GN_CTL, 0, 1⟩
abbrev Fld.GN_CAP_CHANNELS : Fld := ⟨Reg.GN_CAP, 0, 9⟩
abbrev Fld.GN_CFG_NAV_RING : Fld := ⟨Reg.GN_CFG, 16, 4⟩
abbrev Fld.GN_CFG_DISC : Fld := ⟨Reg.GN_CFG, 14, 1⟩
abbrev Fld.GN_CFG_OSNMA : Fld := ⟨Reg.GN_CFG, 12, 2⟩
abbrev Fld.GN_CFG_SF_USE : Fld := ⟨Reg.GN_CFG, 10, 1⟩
abbrev Fld.GN_CFG_TREF : Fld := ⟨Reg.GN_CFG, 8, 2⟩
abbrev Fld.GN_CFG_BAND_EN : Fld := ⟨Reg.GN_CFG, 4, 2⟩
abbrev Fld.GN_CFG_SYS_EN : Fld := ⟨Reg.GN_CFG, 0, 3⟩
abbrev Fld.GN_STAT_INTFB : Fld := ⟨Reg.GN_STAT, 5, 1⟩
abbrev Fld.GN_STAT_INTFA : Fld := ⟨Reg.GN_STAT, 4, 1⟩
abbrev Fld.GN_STAT_OSN_ROOT : Fld := ⟨Reg.GN_STAT, 3, 1⟩
abbrev Fld.GN_STAT_BURST_ACT : Fld := ⟨Reg.GN_STAT, 2, 1⟩
abbrev Fld.GN_STAT_GIFB_OK : Fld := ⟨Reg.GN_STAT, 1, 1⟩
abbrev Fld.GN_STAT_GIFA_OK : Fld := ⟨Reg.GN_STAT, 0, 1⟩
abbrev Fld.GN_EVT_OSN_FAIL : Fld := ⟨Reg.GN_EVT, 4, 1⟩
abbrev Fld.GN_EVT_RAIM_EXCL : Fld := ⟨Reg.GN_EVT, 3, 1⟩
abbrev Fld.GN_EVT_CHAN_FENCE : Fld := ⟨Reg.GN_EVT, 2, 1⟩
abbrev Fld.GN_EVT_INTF : Fld := ⟨Reg.GN_EVT, 1, 1⟩
abbrev Fld.GN_EVT_GIF_LOST : Fld := ⟨Reg.GN_EVT, 0, 1⟩
abbrev Fld.SH_CTL_PCHK_EN : Fld := ⟨Reg.SH_CTL, 3, 1⟩
abbrev Fld.SH_CTL_CAL_PAR : Fld := ⟨Reg.SH_CTL, 0, 3⟩
abbrev Fld.SH_STAT_SEAL : Fld := ⟨Reg.SH_STAT, 14, 7⟩
abbrev Fld.SH_STAT_SPARES_LEFT : Fld := ⟨Reg.SH_STAT, 11, 3⟩
abbrev Fld.SH_STAT_SPARES_FREE : Fld := ⟨Reg.SH_STAT, 8, 3⟩
abbrev Fld.SH_STAT_STALE : Fld := ⟨Reg.SH_STAT, 7, 1⟩
abbrev Fld.SH_STAT_PIP_PENDING : Fld := ⟨Reg.SH_STAT, 6, 1⟩
abbrev Fld.SH_STAT_SEAL_GAP : Fld := ⟨Reg.SH_STAT, 5, 1⟩
abbrev Fld.SH_STAT_UNSEALED : Fld := ⟨Reg.SH_STAT, 4, 1⟩
abbrev Fld.SH_STAT_TCLK_SEEN : Fld := ⟨Reg.SH_STAT, 3, 1⟩
abbrev Fld.SH_STAT_STATE : Fld := ⟨Reg.SH_STAT, 0, 3⟩
abbrev Fld.SH_EVT_MB_REJ : Fld := ⟨Reg.SH_EVT, 10, 1⟩
abbrev Fld.SH_EVT_STALE : Fld := ⟨Reg.SH_EVT, 9, 1⟩
abbrev Fld.SH_EVT_SEAL_GAP : Fld := ⟨Reg.SH_EVT, 8, 1⟩
abbrev Fld.SH_EVT_XCHK : Fld := ⟨Reg.SH_EVT, 7, 1⟩
abbrev Fld.SH_EVT_PATH_CHK : Fld := ⟨Reg.SH_EVT, 6, 1⟩
abbrev Fld.SH_EVT_COALESCE : Fld := ⟨Reg.SH_EVT, 5, 1⟩
abbrev Fld.SH_EVT_CMD_DONE : Fld := ⟨Reg.SH_EVT, 4, 1⟩
abbrev Fld.SH_EVT_RESTART : Fld := ⟨Reg.SH_EVT, 3, 1⟩
abbrev Fld.SH_EVT_CAL_REJECT : Fld := ⟨Reg.SH_EVT, 2, 1⟩
abbrev Fld.SH_EVT_FENCE : Fld := ⟨Reg.SH_EVT, 1, 1⟩
abbrev Fld.SH_EVT_CFG_REFUSED : Fld := ⟨Reg.SH_EVT, 0, 1⟩
abbrev Fld.SH_CAP_UNITS : Fld := ⟨Reg.SH_CAP, 6, 5⟩
abbrev Fld.SH_CAP_CHANNELS : Fld := ⟨Reg.SH_CAP, 0, 6⟩
abbrev Fld.EB_CTL_ATT_EN : Fld := ⟨Reg.EB_CTL, 2, 1⟩
abbrev Fld.EB_CTL_TLV_EN : Fld := ⟨Reg.EB_CTL, 1, 1⟩
abbrev Fld.EB_STAT_OVER_LIMIT : Fld := ⟨Reg.EB_STAT, 8, 1⟩
abbrev Fld.EB_STAT_UNSEALED : Fld := ⟨Reg.EB_STAT, 7, 1⟩
abbrev Fld.EB_STAT_SAT : Fld := ⟨Reg.EB_STAT, 6, 1⟩
abbrev Fld.EB_STAT_BRIDGE : Fld := ⟨Reg.EB_STAT, 5, 1⟩
abbrev Fld.EB_STAT_HOLD : Fld := ⟨Reg.EB_STAT, 4, 1⟩
abbrev Fld.EB_STAT_VALID : Fld := ⟨Reg.EB_STAT, 3, 1⟩
abbrev Fld.EB_STAT_STATE : Fld := ⟨Reg.EB_STAT, 0, 3⟩
abbrev Fld.EB_EVT_UNSEALED : Fld := ⟨Reg.EB_EVT, 5, 1⟩
abbrev Fld.EB_EVT_ATT_REFUSED : Fld := ⟨Reg.EB_EVT, 4, 1⟩
abbrev Fld.EB_EVT_ATT_DONE : Fld := ⟨Reg.EB_EVT, 3, 1⟩
abbrev Fld.EB_EVT_LIMIT : Fld := ⟨Reg.EB_EVT, 2, 1⟩
abbrev Fld.EB_EVT_SAT : Fld := ⟨Reg.EB_EVT, 1, 1⟩
abbrev Fld.EB_EVT_REVOKE : Fld := ⟨Reg.EB_EVT, 0, 1⟩
abbrev Fld.EB_MAP_LI3 (i : Nat) : Fld := ⟨Reg.EB_MAP i, 16, 1⟩
abbrev Fld.EB_MAP_STRATUM (i : Nat) : Fld := ⟨Reg.EB_MAP i, 8, 5⟩
abbrev Fld.EB_MAP_CLASS (i : Nat) : Fld := ⟨Reg.EB_MAP i, 0, 8⟩
abbrev Fld.EB_ATT_STAT_LEN : Fld := ⟨Reg.EB_ATT_STAT, 16, 11⟩
abbrev Fld.EB_ATT_STAT_RESULT : Fld := ⟨Reg.EB_ATT_STAT, 4, 4⟩
abbrev Fld.EB_ATT_STAT_BUSY : Fld := ⟨Reg.EB_ATT_STAT, 0, 1⟩
abbrev Fld.PTp_CTL_TXPAD (p : Nat) : Fld := ⟨Reg.PTp_CTL p, 2, 1⟩
abbrev Fld.PTp_CTL_TX_EN (p : Nat) : Fld := ⟨Reg.PTp_CTL p, 1, 1⟩
abbrev Fld.PTp_CTL_RX_EN (p : Nat) : Fld := ⟨Reg.PTp_CTL p, 0, 1⟩
abbrev Fld.PTp_STAT_PFC_PAUSED (p : Nat) : Fld := ⟨Reg.PTp_STAT p, 16, 8⟩
abbrev Fld.PTp_STAT_ABSORBED (p : Nat) : Fld := ⟨Reg.PTp_STAT p, 9, 1⟩
abbrev Fld.PTp_STAT_FENCED (p : Nat) : Fld := ⟨Reg.PTp_STAT p, 8, 1⟩
abbrev Fld.PTp_STAT_PAUSED (p : Nat) : Fld := ⟨Reg.PTp_STAT p, 7, 1⟩
abbrev Fld.PTp_STAT_TX_GATE (p : Nat) : Fld := ⟨Reg.PTp_STAT p, 6, 1⟩
abbrev Fld.PTp_STAT_GRID_OK (p : Nat) : Fld := ⟨Reg.PTp_STAT p, 5, 1⟩
abbrev Fld.PTp_STAT_STAMP_TX_OK (p : Nat) : Fld := ⟨Reg.PTp_STAT p, 4, 1⟩
abbrev Fld.PTp_STAT_STAMP_RX_OK (p : Nat) : Fld := ⟨Reg.PTp_STAT p, 3, 1⟩
abbrev Fld.PTp_STAT_TRAINED (p : Nat) : Fld := ⟨Reg.PTp_STAT p, 2, 1⟩
abbrev Fld.PTp_STAT_PCS_LOCK (p : Nat) : Fld := ⟨Reg.PTp_STAT p, 1, 1⟩
abbrev Fld.PTp_STAT_LINK (p : Nat) : Fld := ⟨Reg.PTp_STAT p, 0, 1⟩
abbrev Fld.PTp_EVT_FENCED (p : Nat) : Fld := ⟨Reg.PTp_EVT p, 13, 1⟩
abbrev Fld.PTp_EVT_MODE_REFUSED (p : Nat) : Fld := ⟨Reg.PTp_EVT p, 12, 1⟩
abbrev Fld.PTp_EVT_PAUSE_RX (p : Nat) : Fld := ⟨Reg.PTp_EVT p, 11, 1⟩
abbrev Fld.PTp_EVT_TX_DROP (p : Nat) : Fld := ⟨Reg.PTp_EVT p, 10, 1⟩
abbrev Fld.PTp_EVT_FCS_ERR (p : Nat) : Fld := ⟨Reg.PTp_EVT p, 9, 1⟩
abbrev Fld.PTp_EVT_OVERSIZE (p : Nat) : Fld := ⟨Reg.PTp_EVT p, 8, 1⟩
abbrev Fld.PTp_EVT_RUNT (p : Nat) : Fld := ⟨Reg.PTp_EVT p, 7, 1⟩
abbrev Fld.PTp_EVT_RES_REFUSED (p : Nat) : Fld := ⟨Reg.PTp_EVT p, 6, 1⟩
abbrev Fld.PTp_EVT_RESID (p : Nat) : Fld := ⟨Reg.PTp_EVT p, 5, 1⟩
abbrev Fld.PTp_EVT_REVOKED (p : Nat) : Fld := ⟨Reg.PTp_EVT p, 4, 1⟩
abbrev Fld.PTp_EVT_LAUNCH_MISS (p : Nat) : Fld := ⟨Reg.PTp_EVT p, 3, 1⟩
abbrev Fld.PTp_EVT_STAMP_LOST (p : Nat) : Fld := ⟨Reg.PTp_EVT p, 2, 1⟩
abbrev Fld.PTp_EVT_LINK_DOWN (p : Nat) : Fld := ⟨Reg.PTp_EVT p, 1, 1⟩
abbrev Fld.PTp_EVT_LINK_UP (p : Nat) : Fld := ⟨Reg.PTp_EVT p, 0, 1⟩
abbrev Fld.PTp_MODE_TX_INV (p : Nat) : Fld := ⟨Reg.PTp_MODE p, 24, 4⟩
abbrev Fld.PTp_MODE_RX_INV (p : Nat) : Fld := ⟨Reg.PTp_MODE p, 20, 4⟩
abbrev Fld.PTp_MODE_LTRAIN (p : Nat) : Fld := ⟨Reg.PTp_MODE p, 8, 1⟩
abbrev Fld.PTp_MODE_RSFEC (p : Nat) : Fld := ⟨Reg.PTp_MODE p, 4, 1⟩
abbrev Fld.PTp_MODE_MODE (p : Nat) : Fld := ⟨Reg.PTp_MODE p, 0, 4⟩
abbrev Fld.PTp_FC_LAUNCH_PCP (p : Nat) : Fld := ⟨Reg.PTp_FC p, 8, 3⟩
abbrev Fld.PTp_FC_PFC_IGN (p : Nat) : Fld := ⟨Reg.PTp_FC p, 1, 1⟩
abbrev Fld.PTp_FC_PAUSE_IGN (p : Nat) : Fld := ⟨Reg.PTp_FC p, 0, 1⟩
abbrev Fld.PTp_VLAN_TX_INS (p : Nat) : Fld := ⟨Reg.PTp_VLAN p, 18, 1⟩
abbrev Fld.PTp_VLAN_RX_STRIP (p : Nat) : Fld := ⟨Reg.PTp_VLAN p, 17, 1⟩
abbrev Fld.PTp_VLAN_TPID_SEL (p : Nat) : Fld := ⟨Reg.PTp_VLAN p, 16, 1⟩
abbrev Fld.PTp_VLAN_PCP (p : Nat) : Fld := ⟨Reg.PTp_VLAN p, 12, 3⟩
abbrev Fld.PTp_VLAN_PVID (p : Nat) : Fld := ⟨Reg.PTp_VLAN p, 0, 12⟩
abbrev Fld.SW_CTL_AUTH_FWD : Fld := ⟨Reg.SW_CTL, 2, 1⟩
abbrev Fld.SW_CTL_TC_EN : Fld := ⟨Reg.SW_CTL, 1, 1⟩
abbrev Fld.SW_CTL_CT_EN : Fld := ⟨Reg.SW_CTL, 0, 1⟩
abbrev Fld.SW_EVT_RING_CFG : Fld := ⟨Reg.SW_EVT, 2, 1⟩
abbrev Fld.SW_EVT_BUF_PARITY : Fld := ⟨Reg.SW_EVT, 1, 1⟩
abbrev Fld.SW_EVT_CFG_REFUSED : Fld := ⟨Reg.SW_EVT, 0, 1⟩
abbrev Fld.SW_RXr_CFG_MOD_US (i : Nat) : Fld := ⟨Reg.SW_RXr_CFG i, 24, 8⟩
abbrev Fld.SW_TXr_CFG_MOD_US (i : Nat) : Fld := ⟨Reg.SW_TXr_CFG i, 24, 8⟩
abbrev Fld.SW_RXr_CFG_MOD_FRAMES (i : Nat) : Fld := ⟨Reg.SW_RXr_CFG i, 16, 8⟩
abbrev Fld.SW_TXr_CFG_MOD_FRAMES (i : Nat) : Fld := ⟨Reg.SW_TXr_CFG i, 16, 8⟩
abbrev Fld.SW_RXr_CFG_LOG2SIZE (i : Nat) : Fld := ⟨Reg.SW_RXr_CFG i, 8, 5⟩
abbrev Fld.SW_TXr_CFG_LOG2SIZE (i : Nat) : Fld := ⟨Reg.SW_TXr_CFG i, 8, 5⟩
abbrev Fld.SW_RXr_CFG_EN (i : Nat) : Fld := ⟨Reg.SW_RXr_CFG i, 0, 1⟩
abbrev Fld.SW_TXr_CFG_EN (i : Nat) : Fld := ⟨Reg.SW_TXr_CFG i, 0, 1⟩
abbrev Fld.PE_CTL_TABLE_EN : Fld := ⟨Reg.PE_CTL, 1, 1⟩
abbrev Fld.PE_CTL_EN : Fld := ⟨Reg.PE_CTL, 0, 1⟩
abbrev Fld.PE_STAT_TABLE_FULL : Fld := ⟨Reg.PE_STAT, 2, 1⟩
abbrev Fld.PE_STAT_AUTH_HALT : Fld := ⟨Reg.PE_STAT, 1, 1⟩
abbrev Fld.PE_STAT_SERVING : Fld := ⟨Reg.PE_STAT, 0, 1⟩
abbrev Fld.PE_EVT_LANE_FENCE : Fld := ⟨Reg.PE_EVT, 4, 1⟩
abbrev Fld.PE_EVT_AUTH_HALT : Fld := ⟨Reg.PE_EVT, 3, 1⟩
abbrev Fld.PE_EVT_AUTH_FAIL : Fld := ⟨Reg.PE_EVT, 2, 1⟩
abbrev Fld.PE_EVT_TABLE_FULL : Fld := ⟨Reg.PE_EVT, 1, 1⟩
abbrev Fld.PE_EVT_SVC_REFUSED : Fld := ⟨Reg.PE_EVT, 0, 1⟩
abbrev Fld.PE_CAP_LANES : Fld := ⟨Reg.PE_CAP, 0, 4⟩
abbrev Fld.PE_SVCk_CFG_EN (i : Nat) : Fld := ⟨Reg.PE_SVCk_CFG i, 31, 1⟩
abbrev Fld.PE_SVCk_CFG_PROFILE (i : Nat) : Fld := ⟨Reg.PE_SVCk_CFG i, 28, 3⟩
abbrev Fld.PE_SVCk_CFG_TRANS (i : Nat) : Fld := ⟨Reg.PE_SVCk_CFG i, 26, 2⟩
abbrev Fld.PE_SVCk_CFG_TWO_STEP (i : Nat) : Fld := ⟨Reg.PE_SVCk_CFG i, 25, 1⟩
abbrev Fld.PE_SVCk_CFG_AUTH (i : Nat) : Fld := ⟨Reg.PE_SVCk_CFG i, 23, 2⟩
abbrev Fld.PE_SVCk_CFG_UNICAST (i : Nat) : Fld := ⟨Reg.PE_SVCk_CFG i, 22, 1⟩
abbrev Fld.PE_SVCk_CFG_MC (i : Nat) : Fld := ⟨Reg.PE_SVCk_CFG i, 21, 1⟩
abbrev Fld.PE_SVCk_CFG_DOMAIN (i : Nat) : Fld := ⟨Reg.PE_SVCk_CFG i, 8, 8⟩
abbrev Fld.PE_SVCk_CFG_SPP (i : Nat) : Fld := ⟨Reg.PE_SVCk_CFG i, 0, 8⟩
abbrev Fld.NE_CTL_RATE_EN : Fld := ⟨Reg.NE_CTL, 5, 1⟩
abbrev Fld.NE_CTL_TAMPER_PLAIN : Fld := ⟨Reg.NE_CTL, 4, 1⟩
abbrev Fld.NE_CTL_SMEAR : Fld := ⟨Reg.NE_CTL, 3, 1⟩
abbrev Fld.NE_CTL_PLAIN_EN : Fld := ⟨Reg.NE_CTL, 2, 1⟩
abbrev Fld.NE_CTL_NTS_EN : Fld := ⟨Reg.NE_CTL, 1, 1⟩
abbrev Fld.NE_CTL_EN : Fld := ⟨Reg.NE_CTL, 0, 1⟩
abbrev Fld.NE_STAT_MQ_BUSY : Fld := ⟨Reg.NE_STAT, 4, 1⟩
abbrev Fld.NE_STAT_SMEARING : Fld := ⟨Reg.NE_STAT, 3, 1⟩
abbrev Fld.NE_STAT_TAMPERED : Fld := ⟨Reg.NE_STAT, 2, 1⟩
abbrev Fld.NE_STAT_NTS_HALT : Fld := ⟨Reg.NE_STAT, 1, 1⟩
abbrev Fld.NE_STAT_SERVING : Fld := ⟨Reg.NE_STAT, 0, 1⟩
abbrev Fld.NE_EVT_LANE_FENCE : Fld := ⟨Reg.NE_EVT, 4, 1⟩
abbrev Fld.NE_EVT_EARLY_RETIRE : Fld := ⟨Reg.NE_EVT, 3, 1⟩
abbrev Fld.NE_EVT_ROTATED : Fld := ⟨Reg.NE_EVT, 2, 1⟩
abbrev Fld.NE_EVT_NTS_HALT : Fld := ⟨Reg.NE_EVT, 1, 1⟩
abbrev Fld.NE_EVT_AUTH_FAIL : Fld := ⟨Reg.NE_EVT, 0, 1⟩
abbrev Fld.NE_CAP_LANES : Fld := ⟨Reg.NE_CAP, 0, 4⟩
abbrev Fld.KS_STAT_PK_FENCED : Fld := ⟨Reg.KS_STAT, 2, 1⟩
abbrev Fld.KS_STAT_DRBG_OK : Fld := ⟨Reg.KS_STAT, 1, 1⟩
abbrev Fld.KS_STAT_SELFTEST_OK : Fld := ⟨Reg.KS_STAT, 0, 1⟩
abbrev Fld.KS_EVT_BUSY_REJ : Fld := ⟨Reg.KS_EVT, 3, 1⟩
abbrev Fld.KS_EVT_DONE : Fld := ⟨Reg.KS_EVT, 2, 1⟩
abbrev Fld.KS_EVT_ENTROPY : Fld := ⟨Reg.KS_EVT, 1, 1⟩
abbrev Fld.KS_EVT_CORE_FENCE : Fld := ⟨Reg.KS_EVT, 0, 1⟩
abbrev Fld.KS_CAP_PK : Fld := ⟨Reg.KS_CAP, 8, 1⟩
abbrev Fld.KS_CAP_SHA : Fld := ⟨Reg.KS_CAP, 4, 4⟩
abbrev Fld.KS_CAP_AES : Fld := ⟨Reg.KS_CAP, 0, 4⟩
abbrev Fld.KS_SLOTs_ATTR0_VALID (i : Nat) : Fld := ⟨Reg.KS_SLOTs_ATTR0 i, 31, 1⟩
abbrev Fld.KS_SLOTs_ATTR0_TYPE (i : Nat) : Fld := ⟨Reg.KS_SLOTs_ATTR0 i, 28, 3⟩
abbrev Fld.KS_SLOTs_ATTR0_USAGE (i : Nat) : Fld := ⟨Reg.KS_SLOTs_ATTR0 i, 22, 6⟩
abbrev Fld.KS_SLOTs_ATTR0_MASTER (i : Nat) : Fld := ⟨Reg.KS_SLOTs_ATTR0 i, 16, 6⟩
abbrev Fld.KS_SLOTs_ATTR0_SECURE (i : Nat) : Fld := ⟨Reg.KS_SLOTs_ATTR0 i, 15, 1⟩
abbrev Fld.KS_SLOTs_ATTR0_LC_MASK (i : Nat) : Fld := ⟨Reg.KS_SLOTs_ATTR0 i, 12, 3⟩
abbrev Fld.KS_SLOTs_ATTR0_EXPORTABLE (i : Nat) : Fld := ⟨Reg.KS_SLOTs_ATTR0 i, 11, 1⟩
abbrev Fld.KS_SLOTs_ATTR1_GENERATION (i : Nat) : Fld := ⟨Reg.KS_SLOTs_ATTR1 i, 16, 16⟩
abbrev Fld.KS_SLOTs_ATTR1_PARENT_NIL (i : Nat) : Fld := ⟨Reg.KS_SLOTs_ATTR1 i, 15, 1⟩
abbrev Fld.KS_SLOTs_ATTR1_PARENT (i : Nat) : Fld := ⟨Reg.KS_SLOTs_ATTR1 i, 8, 7⟩
abbrev Fld.KS_SLOTs_ATTR1_DEPTH (i : Nat) : Fld := ⟨Reg.KS_SLOTs_ATTR1 i, 0, 3⟩
abbrev Fld.TP_STAT_LOOP_OPEN : Fld := ⟨Reg.TP_STAT, 4, 4⟩
abbrev Fld.TP_STAT_RTC_OK : Fld := ⟨Reg.TP_STAT, 3, 1⟩
abbrev Fld.TP_STAT_VBAT_OK : Fld := ⟨Reg.TP_STAT, 2, 1⟩
abbrev Fld.TP_STAT_ZEROISING : Fld := ⟨Reg.TP_STAT, 1, 1⟩
abbrev Fld.TP_STAT_TAMPER : Fld := ⟨Reg.TP_STAT, 0, 1⟩
abbrev Fld.TP_EVT_ZEROISED : Fld := ⟨Reg.TP_EVT, 3, 1⟩
abbrev Fld.TP_EVT_VBAT_LOSS : Fld := ⟨Reg.TP_EVT, 2, 1⟩
abbrev Fld.TP_EVT_DETECT : Fld := ⟨Reg.TP_EVT, 1, 1⟩
abbrev Fld.TP_EVT_TAMPER : Fld := ⟨Reg.TP_EVT, 0, 1⟩
abbrev Fld.PPk_CFG_DECODE (p : Nat) : Fld := ⟨Reg.PPk_CFG p, 8, 3⟩
abbrev Fld.PPk_CFG_ENTRY (p : Nat) : Fld := ⟨Reg.PPk_CFG p, 1, 3⟩
abbrev Fld.PPk_CFG_EN (p : Nat) : Fld := ⟨Reg.PPk_CFG p, 0, 1⟩
abbrev Fld.PPk_STAT_STALLED (p : Nat) : Fld := ⟨Reg.PPk_STAT p, 3, 1⟩
abbrev Fld.PPk_STAT_WAITING (p : Nat) : Fld := ⟨Reg.PPk_STAT p, 2, 1⟩
abbrev Fld.PPk_STAT_FENCED (p : Nat) : Fld := ⟨Reg.PPk_STAT p, 1, 1⟩
abbrev Fld.PPk_STAT_RUNNING (p : Nat) : Fld := ⟨Reg.PPk_STAT p, 0, 1⟩
abbrev Fld.PPk_EVT_CFG_REFUSED (p : Nat) : Fld := ⟨Reg.PPk_EVT p, 4, 1⟩
abbrev Fld.PPk_EVT_INBOX_OVF (p : Nat) : Fld := ⟨Reg.PPk_EVT p, 3, 1⟩
abbrev Fld.PPk_EVT_ACL_DENY (p : Nat) : Fld := ⟨Reg.PPk_EVT p, 2, 1⟩
abbrev Fld.PPk_EVT_FENCE (p : Nat) : Fld := ⟨Reg.PPk_EVT p, 1, 1⟩
abbrev Fld.PPk_EVT_FAIL (p : Nat) : Fld := ⟨Reg.PPk_EVT p, 0, 1⟩
abbrev Fld.OUn_CTL_OVL_SQ (p : Nat) : Fld := ⟨Reg.OUn_CTL p, 2, 1⟩
abbrev Fld.OUn_CTL_FORCE_SQ (p : Nat) : Fld := ⟨Reg.OUn_CTL p, 1, 1⟩
abbrev Fld.OUn_CTL_EN (p : Nat) : Fld := ⟨Reg.OUn_CTL p, 0, 1⟩
abbrev Fld.OUn_CFG_FOLLOW (p : Nat) : Fld := ⟨Reg.OUn_CFG p, 20, 1⟩
abbrev Fld.OUn_CFG_STATE_OK (p : Nat) : Fld := ⟨Reg.OUn_CFG p, 16, 4⟩
abbrev Fld.OUn_CFG_UTC_ALIGN (p : Nat) : Fld := ⟨Reg.OUn_CFG p, 12, 1⟩
abbrev Fld.OUn_CFG_SQ_LEVEL (p : Nat) : Fld := ⟨Reg.OUn_CFG p, 8, 2⟩
abbrev Fld.OUn_CFG_INV (p : Nat) : Fld := ⟨Reg.OUn_CFG p, 6, 1⟩
abbrev Fld.OUn_CFG_IO (p : Nat) : Fld := ⟨Reg.OUn_CFG p, 4, 2⟩
abbrev Fld.OUn_CFG_MODE (p : Nat) : Fld := ⟨Reg.OUn_CFG p, 0, 3⟩
abbrev Fld.OUn_IRIG_DST (p : Nat) : Fld := ⟨Reg.OUn_IRIG p, 14, 1⟩
abbrev Fld.OUn_IRIG_LOCAL_OFS (p : Nat) : Fld := ⟨Reg.OUn_IRIG p, 8, 6⟩
abbrev Fld.OUn_IRIG_LOCAL (p : Nat) : Fld := ⟨Reg.OUn_IRIG p, 4, 1⟩
abbrev Fld.OUn_IRIG_EXT (p : Nat) : Fld := ⟨Reg.OUn_IRIG p, 3, 1⟩
abbrev Fld.OUn_IRIG_CODE (p : Nat) : Fld := ⟨Reg.OUn_IRIG p, 0, 3⟩
abbrev Fld.OUn_STAT_CFG_PENDING (p : Nat) : Fld := ⟨Reg.OUn_STAT p, 4, 1⟩
abbrev Fld.OUn_STAT_TABLE_OK (p : Nat) : Fld := ⟨Reg.OUn_STAT p, 3, 1⟩
abbrev Fld.OUn_STAT_SLEWING (p : Nat) : Fld := ⟨Reg.OUn_STAT p, 2, 1⟩
abbrev Fld.OUn_STAT_SQUELCHED (p : Nat) : Fld := ⟨Reg.OUn_STAT p, 1, 1⟩
abbrev Fld.OUn_STAT_LIVE (p : Nat) : Fld := ⟨Reg.OUn_STAT p, 0, 1⟩
abbrev Fld.OUn_EVT_TRUNC (p : Nat) : Fld := ⟨Reg.OUn_EVT p, 6, 1⟩
abbrev Fld.OUn_EVT_SLEW_DONE (p : Nat) : Fld := ⟨Reg.OUn_EVT p, 5, 1⟩
abbrev Fld.OUn_EVT_TABLE (p : Nat) : Fld := ⟨Reg.OUn_EVT p, 4, 1⟩
abbrev Fld.OUn_EVT_CHK_FAIL (p : Nat) : Fld := ⟨Reg.OUn_EVT p, 3, 1⟩
abbrev Fld.OUn_EVT_CFG_REFUSED (p : Nat) : Fld := ⟨Reg.OUn_EVT p, 2, 1⟩
abbrev Fld.OUn_EVT_RELEASE (p : Nat) : Fld := ⟨Reg.OUn_EVT p, 1, 1⟩
abbrev Fld.OUn_EVT_SQUELCH (p : Nat) : Fld := ⟨Reg.OUn_EVT p, 0, 1⟩
abbrev Fld.LS_CTL_MIRROR_EN : Fld := ⟨Reg.LS_CTL, 1, 1⟩
abbrev Fld.LS_CTL_EN : Fld := ⟨Reg.LS_CTL, 0, 1⟩
abbrev Fld.LS_CFG_CLAIM_STATES : Fld := ⟨Reg.LS_CFG, 4, 4⟩
abbrev Fld.LS_CFG_LG_HANDOVER : Fld := ⟨Reg.LS_CFG, 2, 1⟩
abbrev Fld.LS_CFG_HONOR_DEMOTE : Fld := ⟨Reg.LS_CFG, 1, 1⟩
abbrev Fld.LS_CFG_HB_BRIDGE : Fld := ⟨Reg.LS_CFG, 0, 1⟩
abbrev Fld.LS_STAT_ROLE_CLASH : Fld := ⟨Reg.LS_STAT, 17, 1⟩
abbrev Fld.LS_STAT_SILENCED : Fld := ⟨Reg.LS_STAT, 16, 1⟩
abbrev Fld.LS_STAT_COLD_TAKE : Fld := ⟨Reg.LS_STAT, 15, 1⟩
abbrev Fld.LS_STAT_ARB_HEALTH : Fld := ⟨Reg.LS_STAT, 14, 1⟩
abbrev Fld.LS_STAT_PEER_HEALTH : Fld := ⟨Reg.LS_STAT, 13, 1⟩
abbrev Fld.LS_STAT_PEER_LINK : Fld := ⟨Reg.LS_STAT, 12, 1⟩
abbrev Fld.LS_STAT_GRANT_OK : Fld := ⟨Reg.LS_STAT, 11, 1⟩
abbrev Fld.LS_STAT_HB_RUN : Fld := ⟨Reg.LS_STAT, 10, 1⟩
abbrev Fld.LS_STAT_READY : Fld := ⟨Reg.LS_STAT, 8, 2⟩
abbrev Fld.LS_STAT_LEASE : Fld := ⟨Reg.LS_STAT, 4, 3⟩
abbrev Fld.LS_STAT_ROLE : Fld := ⟨Reg.LS_STAT, 0, 3⟩
abbrev Fld.LS_EVT_ARB_LOST : Fld := ⟨Reg.LS_EVT, 10, 1⟩
abbrev Fld.LS_EVT_FENCED : Fld := ⟨Reg.LS_EVT, 9, 1⟩
abbrev Fld.LS_EVT_ROLE_CLASH : Fld := ⟨Reg.LS_EVT, 8, 1⟩
abbrev Fld.LS_EVT_PEER_LOST : Fld := ⟨Reg.LS_EVT, 7, 1⟩
abbrev Fld.LS_EVT_READY_CHG : Fld := ⟨Reg.LS_EVT, 6, 1⟩
abbrev Fld.LS_EVT_DEMOTE_RX : Fld := ⟨Reg.LS_EVT, 5, 1⟩
abbrev Fld.LS_EVT_SWAP_REFUSED : Fld := ⟨Reg.LS_EVT, 4, 1⟩
abbrev Fld.LS_EVT_GRANT_GAP : Fld := ⟨Reg.LS_EVT, 3, 1⟩
abbrev Fld.LS_EVT_EXPIRED : Fld := ⟨Reg.LS_EVT, 2, 1⟩
abbrev Fld.LS_EVT_RELEASED : Fld := ⟨Reg.LS_EVT, 1, 1⟩
abbrev Fld.LS_EVT_LEASE_GAIN : Fld := ⟨Reg.LS_EVT, 0, 1⟩
abbrev Fld.PF_CTL_LG_EN : Fld := ⟨Reg.PF_CTL, 3, 1⟩
abbrev Fld.PF_CTL_PRED_EN : Fld := ⟨Reg.PF_CTL, 2, 1⟩
abbrev Fld.PF_CTL_B_EN : Fld := ⟨Reg.PF_CTL, 1, 1⟩
abbrev Fld.PF_CTL_A_EN : Fld := ⟨Reg.PF_CTL, 0, 1⟩
abbrev Fld.PF_STAT_LG_DONE : Fld := ⟨Reg.PF_STAT, 3, 1⟩
abbrev Fld.PF_STAT_PREDICT : Fld := ⟨Reg.PF_STAT, 2, 1⟩
abbrev Fld.PF_STAT_B_OK : Fld := ⟨Reg.PF_STAT, 1, 1⟩
abbrev Fld.PF_STAT_A_OK : Fld := ⟨Reg.PF_STAT, 0, 1⟩
abbrev Fld.PF_EVT_LASTGASP : Fld := ⟨Reg.PF_EVT, 6, 1⟩
abbrev Fld.PF_EVT_PREDICT : Fld := ⟨Reg.PF_EVT, 5, 1⟩
abbrev Fld.PF_EVT_BOTH_LOST : Fld := ⟨Reg.PF_EVT, 4, 1⟩
abbrev Fld.PF_EVT_B_BACK : Fld := ⟨Reg.PF_EVT, 3, 1⟩
abbrev Fld.PF_EVT_A_BACK : Fld := ⟨Reg.PF_EVT, 2, 1⟩
abbrev Fld.PF_EVT_B_LOST : Fld := ⟨Reg.PF_EVT, 1, 1⟩
abbrev Fld.PF_EVT_A_LOST : Fld := ⟨Reg.PF_EVT, 0, 1⟩
abbrev Fld.AB_CTL_AUTH : Fld := ⟨Reg.AB_CTL, 2, 1⟩
abbrev Fld.AB_CTL_PLCA_EN : Fld := ⟨Reg.AB_CTL, 1, 1⟩
abbrev Fld.AB_CTL_EN : Fld := ⟨Reg.AB_CTL, 0, 1⟩
abbrev Fld.AB_STAT_PLCA_ACTIVE : Fld := ⟨Reg.AB_STAT, 1, 1⟩
abbrev Fld.AB_STAT_CRS_SEEN : Fld := ⟨Reg.AB_STAT, 0, 1⟩
abbrev Fld.AB_EVT_BAD : Fld := ⟨Reg.AB_EVT, 1, 1⟩
abbrev Fld.AB_EVT_EXCESS : Fld := ⟨Reg.AB_EVT, 0, 1⟩
abbrev Fld.ULk_CTL_EN (p : Nat) : Fld := ⟨Reg.ULk_CTL p, 0, 1⟩
abbrev Fld.ULk_CFG_TRATE (p : Nat) : Fld := ⟨Reg.ULk_CFG p, 8, 4⟩
abbrev Fld.ULk_CFG_FAB_EN (p : Nat) : Fld := ⟨Reg.ULk_CFG p, 1, 1⟩
abbrev Fld.ULk_CFG_TIME_EN (p : Nat) : Fld := ⟨Reg.ULk_CFG p, 0, 1⟩
abbrev Fld.ULk_STAT_FENCED (p : Nat) : Fld := ⟨Reg.ULk_STAT p, 4, 1⟩
abbrev Fld.ULk_STAT_CLASH (p : Nat) : Fld := ⟨Reg.ULk_STAT p, 3, 1⟩
abbrev Fld.ULk_STAT_EXCH_OK (p : Nat) : Fld := ⟨Reg.ULk_STAT p, 2, 1⟩
abbrev Fld.ULk_STAT_LOCK (p : Nat) : Fld := ⟨Reg.ULk_STAT p, 1, 1⟩
abbrev Fld.ULk_STAT_LINK (p : Nat) : Fld := ⟨Reg.ULk_STAT p, 0, 1⟩
abbrev Fld.ULk_EVT_ADDR_CLASH (p : Nat) : Fld := ⟨Reg.ULk_EVT p, 9, 1⟩
abbrev Fld.ULk_EVT_TREE_CHG (p : Nat) : Fld := ⟨Reg.ULk_EVT p, 8, 1⟩
abbrev Fld.ULk_EVT_FENCED (p : Nat) : Fld := ⟨Reg.ULk_EVT p, 4, 1⟩
abbrev Fld.ULk_EVT_CRC_ERR (p : Nat) : Fld := ⟨Reg.ULk_EVT p, 3, 1⟩
abbrev Fld.ULk_EVT_EXCH_LOST (p : Nat) : Fld := ⟨Reg.ULk_EVT p, 2, 1⟩
abbrev Fld.ULk_EVT_LINK_DOWN (p : Nat) : Fld := ⟨Reg.ULk_EVT p, 1, 1⟩
abbrev Fld.ULk_EVT_LINK_UP (p : Nat) : Fld := ⟨Reg.ULk_EVT p, 0, 1⟩
abbrev Fld.JN_CTL_AUTO : Fld := ⟨Reg.JN_CTL, 2, 1⟩
abbrev Fld.JN_CTL_WRAP : Fld := ⟨Reg.JN_CTL, 1, 1⟩
abbrev Fld.JN_CTL_EN : Fld := ⟨Reg.JN_CTL, 0, 1⟩
abbrev Fld.JN_STAT_EXP_ACTIVE : Fld := ⟨Reg.JN_STAT, 3, 1⟩
abbrev Fld.JN_STAT_RING_FULL : Fld := ⟨Reg.JN_STAT, 2, 1⟩
abbrev Fld.JN_STAT_MODE : Fld := ⟨Reg.JN_STAT, 0, 2⟩
abbrev Fld.JN_EVT_SK_ABANDON : Fld := ⟨Reg.JN_EVT, 4, 1⟩
abbrev Fld.JN_EVT_DAMAGED : Fld := ⟨Reg.JN_EVT, 3, 1⟩
abbrev Fld.JN_EVT_OVERRUN : Fld := ⟨Reg.JN_EVT, 2, 1⟩
abbrev Fld.JN_EVT_LATE : Fld := ⟨Reg.JN_EVT, 1, 1⟩
abbrev Fld.JN_EVT_LOST : Fld := ⟨Reg.JN_EVT, 0, 1⟩
abbrev Fld.JN_CLSc_COLLAPSE (i : Nat) : Fld := ⟨Reg.JN_CLSc i, 3, 1⟩
abbrev Fld.JN_CLSc_REDUCE (i : Nat) : Fld := ⟨Reg.JN_CLSc i, 2, 1⟩
abbrev Fld.JN_CLSc_PKT (i : Nat) : Fld := ⟨Reg.JN_CLSc i, 1, 1⟩
abbrev Fld.JN_CLSc_EN (i : Nat) : Fld := ⟨Reg.JN_CLSc i, 0, 1⟩
abbrev Fld.FC_CTL_NOTIFY_CONSEQ : Fld := ⟨Reg.FC_CTL, 0, 1⟩
abbrev Fld.FC_STAT_SHADOW : Fld := ⟨Reg.FC_STAT, 3, 1⟩
abbrev Fld.FC_STAT_FAULT_PIN : Fld := ⟨Reg.FC_STAT, 2, 1⟩
abbrev Fld.FC_STAT_NMI : Fld := ⟨Reg.FC_STAT, 1, 1⟩
abbrev Fld.FC_STAT_SAFE : Fld := ⟨Reg.FC_STAT, 0, 1⟩
abbrev Fld.FC_EVT_ACK_ACTIVE : Fld := ⟨Reg.FC_EVT, 3, 1⟩
abbrev Fld.FC_EVT_SEVERE : Fld := ⟨Reg.FC_EVT, 2, 1⟩
abbrev Fld.FC_EVT_ESCALATE : Fld := ⟨Reg.FC_EVT, 1, 1⟩
abbrev Fld.FC_EVT_FAULT : Fld := ⟨Reg.FC_EVT, 0, 1⟩
abbrev Fld.FC_SRCs_CFG_N (i : Nat) : Fld := ⟨Reg.FC_SRCs_CFG i, 16, 8⟩
abbrev Fld.FC_SRCs_CFG_SEV_NOTIFY (i : Nat) : Fld := ⟨Reg.FC_SRCs_CFG i, 13, 1⟩
abbrev Fld.FC_SRCs_CFG_SEV_SQ (i : Nat) : Fld := ⟨Reg.FC_SRCs_CFG i, 12, 1⟩
abbrev Fld.FC_SRCs_CFG_SEV_PIN (i : Nat) : Fld := ⟨Reg.FC_SRCs_CFG i, 11, 1⟩
abbrev Fld.FC_SRCs_CFG_SEV_REACT (i : Nat) : Fld := ⟨Reg.FC_SRCs_CFG i, 8, 3⟩
abbrev Fld.FC_SRCs_CFG_NOTIFY (i : Nat) : Fld := ⟨Reg.FC_SRCs_CFG i, 5, 1⟩
abbrev Fld.FC_SRCs_CFG_SQ (i : Nat) : Fld := ⟨Reg.FC_SRCs_CFG i, 4, 1⟩
abbrev Fld.FC_SRCs_CFG_PIN (i : Nat) : Fld := ⟨Reg.FC_SRCs_CFG i, 3, 1⟩
abbrev Fld.FC_SRCs_CFG_REACT (i : Nat) : Fld := ⟨Reg.FC_SRCs_CFG i, 0, 3⟩
abbrev Fld.PCg_EVT_FRAME_DONE (p : Nat) : Fld := ⟨Reg.PCg_EVT p, 9, 1⟩
abbrev Fld.PCg_EVT_SEL_BAD (p : Nat) : Fld := ⟨Reg.PCg_EVT p, 8, 1⟩
abbrev Fld.PCg_EVT_OVF (p : Nat) : Fld := ⟨Reg.PCg_EVT p, 0, 8⟩
abbrev Fld.CVn_CFG_RING (p : Nat) : Fld := ⟨Reg.CVn_CFG p, 12, 4⟩
abbrev Fld.CVn_CFG_MODE (p : Nat) : Fld := ⟨Reg.CVn_CFG p, 8, 2⟩
abbrev Fld.CVn_CFG_CHAIN (p : Nat) : Fld := ⟨Reg.CVn_CFG p, 6, 1⟩
abbrev Fld.CVn_CFG_WIDTH (p : Nat) : Fld := ⟨Reg.CVn_CFG p, 4, 2⟩
abbrev Fld.CVn_CFG_REFOUT (p : Nat) : Fld := ⟨Reg.CVn_CFG p, 1, 1⟩
abbrev Fld.CVn_CFG_REFIN (p : Nat) : Fld := ⟨Reg.CVn_CFG p, 0, 1⟩
abbrev Fld.CVn_STAT_BUSY (p : Nat) : Fld := ⟨Reg.CVn_STAT p, 0, 1⟩
abbrev Fld.CVn_EVT_CONFLICT (p : Nat) : Fld := ⟨Reg.CVn_EVT p, 3, 1⟩
abbrev Fld.CVn_EVT_ERR (p : Nat) : Fld := ⟨Reg.CVn_EVT p, 2, 1⟩
abbrev Fld.CVn_EVT_BUSY_REJ (p : Nat) : Fld := ⟨Reg.CVn_EVT p, 1, 1⟩
abbrev Fld.CVn_EVT_DONE (p : Nat) : Fld := ⟨Reg.CVn_EVT p, 0, 1⟩
abbrev Fld.SYS_BOOT_IMAGE_B : Fld := ⟨Reg.SYS_BOOT, 19, 1⟩
abbrev Fld.SYS_BOOT_DDR1_FAIL : Fld := ⟨Reg.SYS_BOOT, 18, 1⟩
abbrev Fld.SYS_BOOT_DDR0_FAIL : Fld := ⟨Reg.SYS_BOOT, 17, 1⟩
abbrev Fld.SYS_BOOT_READY : Fld := ⟨Reg.SYS_BOOT, 16, 1⟩
abbrev Fld.SYS_BOOT_BOOTSRC : Fld := ⟨Reg.SYS_BOOT, 14, 2⟩
abbrev Fld.SYS_BOOT_CAUSE : Fld := ⟨Reg.SYS_BOOT, 8, 6⟩
abbrev Fld.SYS_BOOT_STAGE : Fld := ⟨Reg.SYS_BOOT, 0, 4⟩
abbrev Fld.CK_SAPLL_CFG_SSC_DEPTH : Fld := ⟨Reg.CK_SAPLL_CFG, 4, 4⟩
abbrev Fld.CK_SAPLL_CFG_SSC_MODE : Fld := ⟨Reg.CK_SAPLL_CFG, 0, 2⟩
abbrev Fld.CK_STAT_SLEEP_READY : Fld := ⟨Reg.CK_STAT, 9, 1⟩
abbrev Fld.CK_STAT_SSC_ACTIVE : Fld := ⟨Reg.CK_STAT, 8, 1⟩
abbrev Fld.CK_STAT_PSTATE : Fld := ⟨Reg.CK_STAT, 6, 2⟩
abbrev Fld.CK_STAT_OSC_CLASS : Fld := ⟨Reg.CK_STAT, 4, 2⟩
abbrev Fld.CK_STAT_OSC_OK : Fld := ⟨Reg.CK_STAT, 3, 1⟩
abbrev Fld.CK_STAT_TCLK_RUN : Fld := ⟨Reg.CK_STAT, 2, 1⟩
abbrev Fld.CK_STAT_SLOCK : Fld := ⟨Reg.CK_STAT, 1, 1⟩
abbrev Fld.CK_STAT_TLOCK : Fld := ⟨Reg.CK_STAT, 0, 1⟩
abbrev Fld.CK_EVT_SLEEP_READY : Fld := ⟨Reg.CK_EVT, 4, 1⟩
abbrev Fld.CK_EVT_PSTATE_REFUSED : Fld := ⟨Reg.CK_EVT, 3, 1⟩
abbrev Fld.CK_EVT_PSTATE_CHG : Fld := ⟨Reg.CK_EVT, 2, 1⟩
abbrev Fld.CK_EVT_TLOCK_GAIN : Fld := ⟨Reg.CK_EVT, 1, 1⟩
abbrev Fld.CK_EVT_TLOCK_LOST : Fld := ⟨Reg.CK_EVT, 0, 1⟩
abbrev Fld.SYS_CTL_LOCK_ERR : Fld := ⟨Reg.SYS_CTL, 4, 1⟩
abbrev Fld.FC_RST_CAUSE_VALID : Fld := ⟨Reg.FC_RST_CAUSE, 31, 1⟩
abbrev Fld.FC_RST_CAUSE_PIN : Fld := ⟨Reg.FC_RST_CAUSE, 12, 1⟩
abbrev Fld.FC_RST_CAUSE_ESCALATED : Fld := ⟨Reg.FC_RST_CAUSE, 11, 1⟩
abbrev Fld.FC_RST_CAUSE_LEVEL : Fld := ⟨Reg.FC_RST_CAUSE, 8, 3⟩
abbrev Fld.FC_RST_CAUSE_SOURCE : Fld := ⟨Reg.FC_RST_CAUSE, 0, 6⟩
abbrev Fld.FC_CLASSc_CAP (i : Nat) : Fld := ⟨Reg.FC_CLASSc i, 4, 3⟩
abbrev Fld.FC_CLASSc_LAST (i : Nat) : Fld := ⟨Reg.FC_CLASSc i, 0, 3⟩
abbrev Fld.FC_SRCs_WIN_W (i : Nat) : Fld := ⟨Reg.FC_SRCs_WIN i, 0, 16⟩
abbrev Fld.FC_DEPt_DEPS (i : Nat) : Fld := ⟨Reg.FC_DEPt i, 0, 16⟩
abbrev Fld.SYS_LOCKLOG_CAUSE : Fld := ⟨Reg.SYS_LOCKLOG, 30, 2⟩
abbrev Fld.SYS_LOCKLOG_REQ : Fld := ⟨Reg.SYS_LOCKLOG, 28, 2⟩
abbrev Fld.SYS_LOCKLOG_PAGE : Fld := ⟨Reg.SYS_LOCKLOG, 16, 9⟩
abbrev Fld.SYS_LOCKLOG_OFFSET : Fld := ⟨Reg.SYS_LOCKLOG, 0, 12⟩
abbrev Fld.SYS_SECURE_EN_EN : Fld := ⟨Reg.SYS_SECURE_EN, 0, 1⟩
abbrev Fld.TC_INCR_H_INT : Fld := ⟨Reg.TC_INCR_H, 16, 2⟩
abbrev Fld.TC_INCR_H_FRAC_H : Fld := ⟨Reg.TC_INCR_H, 0, 16⟩
abbrev Fld.TC_CAPn_CFG_SRC (i : Nat) : Fld := ⟨Reg.TC_CAPn_CFG i, 0, 3⟩
abbrev Fld.TC_CAPn_CFG_SEL (i : Nat) : Fld := ⟨Reg.TC_CAPn_CFG i, 8, 5⟩
abbrev Fld.WHL_POS_POS : Fld := ⟨Reg.WHL_POS, 0, 10⟩
abbrev Fld.WHL_LEN_CCLK : Fld := ⟨Reg.WHL_LEN, 31, 1⟩
abbrev Fld.WHL_LEN_LEN : Fld := ⟨Reg.WHL_LEN, 0, 25⟩
abbrev Fld.WHL_SCALE_AES : Fld := ⟨Reg.WHL_SCALE, 0, 4⟩
abbrev Fld.WHL_SCALE_PIPS : Fld := ⟨Reg.WHL_SCALE, 4, 3⟩
abbrev Fld.WHLn_CFG_LEND (i : Nat) : Fld := ⟨Reg.WHLn_CFG i, 0, 1⟩
abbrev Fld.IND_ADDR_DOMAIN (i : Nat) : Fld := ⟨Reg.IND_ADDR i, 24, 8⟩
abbrev Fld.IND_ADDR_OFFSET (i : Nat) : Fld := ⟨Reg.IND_ADDR i, 0, 24⟩
abbrev Fld.IND_CTL_STEP (i : Nat) : Fld := ⟨Reg.IND_CTL i, 0, 2⟩
abbrev Fld.IND_CTL_HOLD (i : Nat) : Fld := ⟨Reg.IND_CTL i, 8, 1⟩
abbrev Fld.IND_STAT_BUSY (i : Nat) : Fld := ⟨Reg.IND_STAT i, 0, 1⟩
abbrev Fld.IND_STAT_ERR (i : Nat) : Fld := ⟨Reg.IND_STAT i, 1, 1⟩
abbrev Fld.IND_STAT_OWNER (i : Nat) : Fld := ⟨Reg.IND_STAT i, 8, 8⟩
abbrev Fld.GN_PRED_STAT_BUSY : Fld := ⟨Reg.GN_PRED_STAT, 0, 1⟩
abbrev Fld.GN_PRED_STAT_REJ : Fld := ⟨Reg.GN_PRED_STAT, 1, 1⟩
abbrev Fld.GN_FE_STAT_BUSY : Fld := ⟨Reg.GN_FE_STAT, 0, 1⟩
abbrev Fld.GN_FE_STAT_DROP : Fld := ⟨Reg.GN_FE_STAT, 16, 16⟩
abbrev Fld.RSn_TIMER_KIND (p : Nat) : Fld := ⟨Reg.RSn_TIMER p, 28, 4⟩
abbrev Fld.RSn_TIMER_MS (p : Nat) : Fld := ⟨Reg.RSn_TIMER p, 0, 28⟩
abbrev Fld.RS_LOG_IDX_NEXT : Fld := ⟨Reg.RS_LOG_IDX, 0, 4⟩
abbrev Fld.RS_LOG_IDX_TOTAL : Fld := ⟨Reg.RS_LOG_IDX, 16, 16⟩
abbrev Fld.PE_TBL_QSTAT_BUSY : Fld := ⟨Reg.PE_TBL_QSTAT, 0, 1⟩
abbrev Fld.PE_TBL_QSTAT_ERR : Fld := ⟨Reg.PE_TBL_QSTAT, 1, 1⟩
abbrev Fld.SH_MB_STAT_BUSY : Fld := ⟨Reg.SH_MB_STAT, 0, 1⟩
abbrev Fld.SH_MB_STAT_RESULT : Fld := ⟨Reg.SH_MB_STAT, 8, 8⟩
abbrev Fld.SH_MB_STAT_STAGED : Fld := ⟨Reg.SH_MB_STAT, 16, 16⟩
abbrev Fld.KS_RESULT_BUSY : Fld := ⟨Reg.KS_RESULT, 0, 1⟩
abbrev Fld.KS_RESULT_RESULT : Fld := ⟨Reg.KS_RESULT, 8, 4⟩
abbrev Fld.KS_RESULT_OUTLEN : Fld := ⟨Reg.KS_RESULT, 16, 11⟩
abbrev Fld.KS_LC_STATE : Fld := ⟨Reg.KS_LC, 0, 3⟩
abbrev Fld.KS_LC_ZEROISED : Fld := ⟨Reg.KS_LC, 8, 1⟩
abbrev Fld.KS_LC_CERT : Fld := ⟨Reg.KS_LC, 9, 1⟩
abbrev Fld.TP_LOG_IDX_NEXT : Fld := ⟨Reg.TP_LOG_IDX, 0, 4⟩
abbrev Fld.TP_LOG_IDX_TOTAL : Fld := ⟨Reg.TP_LOG_IDX, 16, 16⟩
abbrev Fld.PPk_PC_PC (p : Nat) : Fld := ⟨Reg.PPk_PC p, 0, 10⟩
abbrev Fld.PPk_PC_WAITING (p : Nat) : Fld := ⟨Reg.PPk_PC p, 31, 1⟩
abbrev Fld.PPk_LASTFAIL_CAUSE (p : Nat) : Fld := ⟨Reg.PPk_LASTFAIL p, 0, 4⟩
abbrev Fld.PPk_LASTFAIL_INDEX (p : Nat) : Fld := ⟨Reg.PPk_LASTFAIL p, 4, 10⟩
abbrev Fld.LS_ARB_CFG_EN : Fld := ⟨Reg.LS_ARB_CFG, 0, 1⟩
abbrev Fld.LS_ARB_CFG_PREF_B : Fld := ⟨Reg.LS_ARB_CFG, 1, 1⟩
abbrev Fld.LS_ARB_STAT_HOLDER : Fld := ⟨Reg.LS_ARB_STAT, 0, 2⟩
abbrev Fld.LS_ARB_STAT_A_LIVE : Fld := ⟨Reg.LS_ARB_STAT, 2, 1⟩
abbrev Fld.LS_ARB_STAT_B_LIVE : Fld := ⟨Reg.LS_ARB_STAT, 3, 1⟩
abbrev Fld.LS_ARB_STAT_A_HBFAULT : Fld := ⟨Reg.LS_ARB_STAT, 4, 1⟩
abbrev Fld.LS_ARB_STAT_B_HBFAULT : Fld := ⟨Reg.LS_ARB_STAT, 5, 1⟩
abbrev Fld.LS_ARB_STAT_WAIT : Fld := ⟨Reg.LS_ARB_STAT, 6, 1⟩
abbrev Fld.UL_FAB_CFG_ROOT_EN : Fld := ⟨Reg.UL_FAB_CFG, 0, 1⟩
abbrev Fld.UL_FAB_CFG_DV_PER : Fld := ⟨Reg.UL_FAB_CFG, 8, 8⟩
abbrev Fld.UL_TREE_PARENT : Fld := ⟨Reg.UL_TREE, 0, 2⟩
abbrev Fld.UL_TREE_ON_TREE : Fld := ⟨Reg.UL_TREE, 2, 1⟩
abbrev Fld.UL_TREE_ROOT : Fld := ⟨Reg.UL_TREE, 3, 1⟩
abbrev Fld.UL_TREE_HOPS : Fld := ⟨Reg.UL_TREE, 4, 4⟩
abbrev Fld.UL_TREE_ROOT_CLASS : Fld := ⟨Reg.UL_TREE, 8, 2⟩
abbrev Fld.UL_TREE_ROOT_ADDR : Fld := ⟨Reg.UL_TREE, 16, 12⟩
abbrev Fld.UL_ROUTEe_LINK (i : Nat) : Fld := ⟨Reg.UL_ROUTEe i, 0, 2⟩
abbrev Fld.UL_ROUTEe_DIST (i : Nat) : Fld := ⟨Reg.UL_ROUTEe i, 2, 6⟩
abbrev Fld.UL_ROUTEe_VALID (i : Nat) : Fld := ⟨Reg.UL_ROUTEe i, 8, 1⟩
abbrev Fld.ULk_PEER_ADDR (p : Nat) : Fld := ⟨Reg.ULk_PEER p, 0, 12⟩
abbrev Fld.ULk_PEER_ROLE (p : Nat) : Fld := ⟨Reg.ULk_PEER p, 12, 3⟩
abbrev Fld.ULk_PEER_HELLO (p : Nat) : Fld := ⟨Reg.ULk_PEER p, 15, 1⟩
abbrev Fld.ULk_PEER_HOPS (p : Nat) : Fld := ⟨Reg.ULk_PEER p, 16, 4⟩
abbrev Fld.ULk_PEER_ROOT_CLASS (p : Nat) : Fld := ⟨Reg.ULk_PEER p, 20, 2⟩
abbrev Fld.ULk_PEER_VALID (p : Nat) : Fld := ⟨Reg.ULk_PEER p, 22, 1⟩
abbrev Fld.ULk_PEER_PARENT (p : Nat) : Fld := ⟨Reg.ULk_PEER p, 23, 1⟩
abbrev Fld.JN_MODE_MODE : Fld := ⟨Reg.JN_MODE, 0, 2⟩
abbrev Fld.JN_EXP_CFG_RING : Fld := ⟨Reg.JN_EXP_CFG, 0, 4⟩
abbrev Fld.JN_EXP_CFG_EN : Fld := ⟨Reg.JN_EXP_CFG, 31, 1⟩
abbrev Fld.JN_STAT_CFG_SK_EN : Fld := ⟨Reg.JN_STAT_CFG, 0, 1⟩
abbrev Fld.JN_STAT_CFG_HLL_EN : Fld := ⟨Reg.JN_STAT_CFG, 1, 1⟩
abbrev Fld.PCg_RUN_RUN (p : Nat) : Fld := ⟨Reg.PCg_RUN p, 0, 2⟩
abbrev Fld.PCg_RUN_FRZ_OVF (p : Nat) : Fld := ⟨Reg.PCg_RUN p, 2, 1⟩
abbrev Fld.PCg_SELj_EVENT (p : Nat) (i : Nat) : Fld := ⟨Reg.PCg_SELj p i, 0, 16⟩
abbrev Fld.PCg_SELj_INST (p : Nat) (i : Nat) : Fld := ⟨Reg.PCg_SELj p i, 16, 5⟩
abbrev Fld.PCg_SELj_MODE (p : Nat) (i : Nat) : Fld := ⟨Reg.PCg_SELj p i, 21, 3⟩
abbrev Fld.PCg_SELj_CAT (p : Nat) (i : Nat) : Fld := ⟨Reg.PCg_SELj p i, 24, 3⟩
abbrev Fld.PCg_SELj_INV (p : Nat) (i : Nat) : Fld := ⟨Reg.PCg_SELj p i, 27, 1⟩
abbrev Fld.CK_PWR_CFG_AUTO_STBY : Fld := ⟨Reg.CK_PWR_CFG, 0, 1⟩
abbrev Fld.NE_GEN_CUR_VALID : Fld := ⟨Reg.NE_GEN_CUR, 31, 1⟩
abbrev Fld.NE_GEN_CUR_SLOT : Fld := ⟨Reg.NE_GEN_CUR, 16, 7⟩
abbrev Fld.NE_GEN_CUR_GEN : Fld := ⟨Reg.NE_GEN_CUR, 0, 16⟩
abbrev Fld.NE_SK_STAT_CUR : Fld := ⟨Reg.NE_SK_STAT, 0, 1⟩
abbrev Fld.NE_SK_STAT_CLEARING : Fld := ⟨Reg.NE_SK_STAT, 1, 1⟩
abbrev Fld.NE_SK_STAT_PERIODS : Fld := ⟨Reg.NE_SK_STAT, 16, 16⟩
abbrev Fld.NE_MQ_CFG_LOG2SIZE : Fld := ⟨Reg.NE_MQ_CFG, 0, 4⟩
abbrev Fld.NE_MQ_CFG_EN : Fld := ⟨Reg.NE_MQ_CFG, 31, 1⟩
abbrev Fld.PE_CLi_CFG_EN (i : Nat) : Fld := ⟨Reg.PE_CLi_CFG i, 31, 1⟩
abbrev Fld.PE_CLi_CFG_PROFILE (i : Nat) : Fld := ⟨Reg.PE_CLi_CFG i, 28, 3⟩
abbrev Fld.PE_CLi_CFG_TRANS (i : Nat) : Fld := ⟨Reg.PE_CLi_CFG i, 26, 2⟩
abbrev Fld.PE_CLi_CFG_UNICAST (i : Nat) : Fld := ⟨Reg.PE_CLi_CFG i, 25, 1⟩
abbrev Fld.PE_CLi_CFG_AUTH (i : Nat) : Fld := ⟨Reg.PE_CLi_CFG i, 23, 2⟩
abbrev Fld.PE_CLi_CFG_PD_WORST (i : Nat) : Fld := ⟨Reg.PE_CLi_CFG i, 22, 1⟩
abbrev Fld.PE_CLi_CFG_PORT (i : Nat) : Fld := ⟨Reg.PE_CLi_CFG i, 16, 4⟩
abbrev Fld.PE_CLi_CFG_DOMAIN (i : Nat) : Fld := ⟨Reg.PE_CLi_CFG i, 8, 8⟩
abbrev Fld.PE_CLi_CFG_SPP (i : Nat) : Fld := ⟨Reg.PE_CLi_CFG i, 0, 8⟩
abbrev Fld.PE_CLi_STAT_STATE (i : Nat) : Fld := ⟨Reg.PE_CLi_STAT i, 0, 3⟩
abbrev Fld.PE_CLi_STAT_VALID (i : Nat) : Fld := ⟨Reg.PE_CLi_STAT i, 8, 1⟩
abbrev Fld.PE_CLi_STAT_BOUND_TLV (i : Nat) : Fld := ⟨Reg.PE_CLi_STAT i, 9, 1⟩
abbrev Fld.PE_CLi_STAT_AUTH_OK (i : Nat) : Fld := ⟨Reg.PE_CLi_STAT i, 10, 1⟩
abbrev Fld.PE_CLi_STAT_CLASS (i : Nat) : Fld := ⟨Reg.PE_CLi_STAT i, 16, 8⟩
abbrev Fld.PE_SPs_CFG_EN (i : Nat) : Fld := ⟨Reg.PE_SPs_CFG i, 31, 1⟩
abbrev Fld.PE_SPs_CFG_ALG (i : Nat) : Fld := ⟨Reg.PE_SPs_CFG i, 30, 1⟩
abbrev Fld.PE_SPs_CFG_PREV_EN (i : Nat) : Fld := ⟨Reg.PE_SPs_CFG i, 29, 1⟩
abbrev Fld.PE_SPs_CFG_PREV (i : Nat) : Fld := ⟨Reg.PE_SPs_CFG i, 8, 7⟩
abbrev Fld.PE_SPs_CFG_CUR (i : Nat) : Fld := ⟨Reg.PE_SPs_CFG i, 0, 7⟩
abbrev Fld.SW_LAGg_MEMBERS (i : Nat) : Fld := ⟨Reg.SW_LAGg i, 0, 16⟩
abbrev Fld.SW_LAGg_EN (i : Nat) : Fld := ⟨Reg.SW_LAGg i, 31, 1⟩
abbrev Fld.PPk_IMG_ROM (p : Nat) : Fld := ⟨Reg.PPk_IMG p, 31, 1⟩
abbrev Fld.PPk_IMG_ROMID (p : Nat) : Fld := ⟨Reg.PPk_IMG p, 16, 8⟩
abbrev Fld.PPk_IMG_COUNT (p : Nat) : Fld := ⟨Reg.PPk_IMG p, 0, 11⟩
abbrev Fld.GN_ANTa_SOL_VALID (p : Nat) : Fld := ⟨Reg.GN_ANTa_SOL p, 31, 1⟩
abbrev Fld.GN_ANTa_SOL_RAIM_OK (p : Nat) : Fld := ⟨Reg.GN_ANTa_SOL p, 30, 1⟩
abbrev Fld.GN_ANTa_SOL_OSNMA_OK (p : Nat) : Fld := ⟨Reg.GN_ANTa_SOL p, 29, 1⟩
abbrev Fld.GN_ANTa_SOL_USED (p : Nat) : Fld := ⟨Reg.GN_ANTa_SOL p, 16, 8⟩
abbrev Fld.GN_ANTa_SOL_TREF (p : Nat) : Fld := ⟨Reg.GN_ANTa_SOL p, 8, 8⟩
abbrev Fld.GN_ANTa_SOL_EXCL (p : Nat) : Fld := ⟨Reg.GN_ANTa_SOL p, 0, 8⟩
abbrev Fld.GN_OSN_CFG_MF : Fld := ⟨Reg.GN_OSN_CFG, 0, 2⟩
abbrev Fld.GN_OSN_CFG_KEYBITS : Fld := ⟨Reg.GN_OSN_CFG, 4, 9⟩
abbrev Fld.GN_OSN_CFG_TAGBITS : Fld := ⟨Reg.GN_OSN_CFG, 16, 6⟩

end Sys2Proof.Machine
end

