-- ==== Sys2Proof/Machine/TypesCore.lean ====
section
/-! DEFINITION. The parts of the state that belong to the time core (chapter 03), the wheel (chapter 04), the configuration
machinery (chapter 02), the fault collector (chapter 20) and the journal (chapter 19), beside their registers. Plain data. -/

namespace Sys2Proof.Machine

/-- A register file: (address, word) pairs, strictly rising addresses, no entry equal to the register's reset value. -/
abbrev RegFile := List (Nat × Word)

/-- A pending step (R71): absolute or relative, its signed magnitude in units of 2^-48 ns, and whether the reference selector asked
for it (R72). `entersUnset` marks the step that R75 takes on leaving UNSET. -/
structure PendingStep where
  absolute : Bool
  amount : Int
  bySelector : Bool
  entersUnset : Bool
  deriving DecidableEq, Repr

/-- An armed trigger's working values (R84, R85), in units of 2^-48 ns. -/
structure ArmedTrigger where
  /-- The target of the ARM; the instants of a periodic trigger are `origin` + k × `period`. -/
  origin : Nat
  /-- The next fire. -/
  target : Nat
  period : Nat
  periodic : Bool
  deriving DecidableEq, Repr

/-- One capture FIFO entry (R88): the stamp in units of 2^-48 ns and its OVF mark. -/
structure CapEntry where
  stamp : Nat
  ovf : Bool
  deriving DecidableEq, Repr

/-- A capture channel: its FIFO, oldest first, and whether a stamp has been dropped since the last entry stored. -/
structure CapChannel where
  fifo : List CapEntry
  dropped : Bool
  deriving DecidableEq, Repr

/-- One transmit time-stamp entry (R90): TAG, the egress stamp in units of 2^-48 ns, and its marks. -/
structure TxqEntry where
  tag : Nat
  stamp : Nat
  ovf : Bool
  nosend : Bool
  nostamp : Bool
  deriving DecidableEq, Repr

/-- A transmit time-stamp queue (R90, R91). -/
structure TxQueue where
  entries : List TxqEntry
  dropped : Bool
  deriving DecidableEq, Repr

/-- The time core beside its registers (chapter 03). Times are in units of 2^-48 ns from the PTP epoch (R63). -/
structure TimeCore where
  /-- S, N and F in one count of 2^-48 ns (R63). -/
  now : Nat
  /-- TCLK cycles counted (CCLK cycles while in BRIDGE) since the core first counted. -/
  cycle : Nat
  /-- The remaining slew offset, in units of 2^-48 ns (R67). -/
  slew : Int
  /-- The software increment staged for the next boundary (R66), in units of 2^-48 ns. -/
  swIncr : Option Nat
  /-- The step awaiting a boundary (R71). -/
  step : Option PendingStep
  /-- The instant from which lock and TCLK have both held during BRIDGE (R79). -/
  okSince : Option Nat
  /-- Armed triggers, by trigger number (R84). -/
  triggers : List (Option ArmedTrigger)
  /-- The latest fire of each trigger: (target, residue), in units of 2^-48 ns (R84). -/
  fires : List (Option (Nat × Nat))
  caps : List CapChannel
  txqs : List TxQueue
  deriving DecidableEq, Repr

/-- The wheel beside its registers (chapter 04). -/
structure Wheel where
  /-- The instant from which the running frame counts: the last boundary instant passed, or the time a step moved to (R93, R96). -/
  frameStart : Nat
  /-- The cycle of the last raised boundary (R94). -/
  lastRaised : Nat
  /-- The cycle of the last replenishment of all classes (R97). -/
  lastReplenish : Nat
  /-- The boundary instant that time must regain while EXTENDED (R97). -/
  extendedTo : Option Nat
  /-- Units spent, by class (R102). -/
  spent : List Nat
  /-- Weighted units borrowed and lent, by class (R102). -/
  borrowed : List Nat
  lent : List Nat
  /-- LEND in force, by class (R99). -/
  lend : List Bool
  /-- Classes that stalled in the current frame (R103). -/
  stalledNow : Nat
  /-- The fenced counts have changed since the last raised boundary (R104). -/
  rescaleDue : Bool
  aesCores : Nat
  servicePips : Nat
  /-- Codes delivered by the schedule (R105): (target, code), oldest first. -/
  delivered : List (Nat × Nat)
  /-- The requests a class stalled, kept by their requesters (R103). -/
  withheld : List Instr
  deriving DecidableEq, Repr

/-- An overlay entry (R58): the word's address, the mask and the value. -/
structure OvlEntry where
  addr : Nat
  mask : Nat
  value : Nat
  deriving DecidableEq, Repr

/-- The configuration machinery beside its registers (chapter 02). -/
structure CfgUnit where
  /-- The CFG shadow: every configuration-class word (R40). -/
  shadow : RegFile
  /-- The overlays of the image, by number (R58); a rejected or absent overlay has no entries. -/
  overlays : List (List OvlEntry)
  /-- Frames for which the change window has been open (R57). -/
  windowFrames : Nat
  /-- A window was open at some time while the present scan ran (R54). -/
  scanSawWindow : Bool
  /-- The base reference has been committed: CV0 scans (R54). -/
  scanning : Bool
  /-- The words that overlay changes have replaced since the present scan began, with the values before (R29). -/
  ovlOld : List (Nat × Word)
  /-- RWL registers already written since the chip reset (R38), by address. -/
  rwlDone : List Nat
  deriving DecidableEq, Repr

/-- A severity window of a fault source (R478). -/
structure SevWindow where
  source : Nat
  count : Nat
  framesLeft : Nat
  deriving DecidableEq, Repr

/-- A reset shadow (R481): the target, the instance it resets, the targets it covers and whether the reset itself has completed. -/
structure ResetShadow where
  target : Nat
  inst : Nat
  covers : Nat
  done : Bool
  deriving DecidableEq, Repr

/-- The fault collector beside its registers (chapter 20). -/
structure Collector where
  /-- The latches of R476, one bit per source. -/
  pinl : Nat
  sql : Nat
  nmil : Nat
  windows : List SevWindow
  shadows : List ResetShadow
  /-- Main boot has loaded the base set (R479). -/
  baseLoaded : Bool
  /-- A CHIP_RESET reaction has been taken and the reset is due (R482). -/
  chipResetDue : Bool
  deriving DecidableEq, Repr

/-- An interrupt message sent to the host: the page whose vector was signalled and the event bit (R43, R475). -/
structure Msi where
  page : Nat
  bit : Nat
  deriving DecidableEq, Repr

/-- A journal event (R453). `stamp` counts units of 2^-10 ns; `payload` is 64 bits; `cls` is the class of R461; `pkt` holds the frame's
bytes where the class takes packet-level records (R462); `lastGasp` marks the record of R428. -/
structure JEvent where
  stamp : Nat
  epoch : Nat
  source : Nat
  code : Nat
  conseq : Bool
  forced : Bool
  payload : Nat
  cls : Nat
  pkt : List Byte
  lastGasp : Bool
  deriving DecidableEq, Repr

/-- A collapse run of the current block (R460). -/
structure Run where
  source : Nat
  code : Nat
  payload16 : Nat
  conseq : Bool
  forced : Bool
  lastTime : Nat
  count : Nat
  deriving DecidableEq, Repr

/-- A journal block that has been opened (R457). `base` counts units of 2^-10 ns. -/
structure JBlock where
  typ : Nat
  mode : Nat
  base : Nat
  epoch : Nat
  seq : Nat
  step : Bool
  overlay : Bool
  stall : Nat
  collapse : Bool
  payload16 : Bool
  trunc64 : Bool
  records : Nat
  body : List Byte
  runs : List Run
  deriving DecidableEq, Repr

/-- A whole block held in the ring (R465): its start and length on the JN_WR scale, and its damage mark (R32). Its bytes are in DRAM. -/
structure RingBlock where
  start : Nat
  len : Nat
  damaged : Bool
  deriving DecidableEq, Repr

/-- The journal beside its registers (chapter 19). -/
structure Journal where
  /-- Events stamped at their sources that have not reached the merge unit, oldest first. -/
  inflight : List JEvent
  /-- The merge window: (arrival number, event) (R456). -/
  window : List (Nat × JEvent)
  arrivals : Nat
  /-- The key of the last released event. -/
  lastKey : Option (Nat × Nat × Nat × Nat)
  /-- The step epoch (R455). -/
  epoch : Nat
  /-- Blocks opened and not yet closed, oldest first (R457). -/
  blocks : List JBlock
  /-- Closed blocks in staging, oldest first: (records, bytes) (R464). -/
  staged : List (Nat × List Byte)
  /-- Events withheld by JRN (R463). -/
  withheld : List JEvent
  /-- Events discarded since the previous header (R457). -/
  lost : Nat
  /-- Bytes and losses of the frame just running (R469). -/
  frameBytes : Nat
  frameLost : Nat
  /-- The whole blocks held in the DRAM ring, oldest first (R465). -/
  ring : List RingBlock
  /-- Consecutive quiet frames seen by the compactor (R469). -/
  quiet : Nat
  /-- Bytes of the sketch export still to send, and the statistics frames waiting (R467, R468). -/
  skExport : Nat
  hllExport : Option (List (Nat × Nat))
  /-- The non-zero HyperLogLog registers: (index, value), index rising (R468). -/
  hll : List (Nat × Nat)
  deriving DecidableEq, Repr

end Sys2Proof.Machine
end

