-- ==== Sys2Proof/Machine/TypesGn.lean ====
section
/-! DEFINITION. The parts of the state that belong to the GNSS baseband (chapter 07), beside its registers. Plain data. -/

namespace Sys2Proof.Machine

/-- A tracking channel (R159): its state code and its record in IND domain 0x01. -/
structure GnChan where
  st : Nat
  ant : Nat
  band : Nat
  sat : Sat
  cn0 : Nat
  code : Nat
  doppler : Int
  resid : Int
  multipath : Nat
  /-- Milliseconds coasted since TRACK, spent in PULL_IN, and the millisecond marks coasted lately (R160). -/
  coasted : Nat
  pullMs : Nat
  coastAt : List Nat
  deriving DecidableEq, Repr

/-- A FREE channel. -/
def GnChan.free : GnChan :=
  { st := 0, ant := 0, band := 0, sat := ⟨0, 0⟩, cn0 := 0, code := 0, doppler := 0, resid := 0, multipath := 0, coasted := 0, pullMs := 0,
    coastAt := [] }

/-- A range-prediction segment (R162). -/
structure GnSeg where
  sat : Sat
  ant : Nat
  iod : Nat
  start : Nat
  len : Nat
  c0 : Int
  c1 : Int
  c2 : Int
  c3 : Int
  /-- Group delays of the lower and upper band, in units of 4 ps. -/
  tgdL : Int
  tgdU : Int
  sigma : Nat
  elev : Int
  unhealthy : Bool
  deriving DecidableEq, Repr

/-- The GNSS baseband beside its registers. -/
structure Gnss where
  chans : List GnChan
  /-- The prediction table (R162), oldest post first. -/
  segs : List GnSeg
  /-- Barred satellites (R168): (antenna, satellite, the instant the bar ends). -/
  bars : List (Nat × Sat × Nat)
  /-- The instant of the last VALID solution, by antenna (R170). -/
  lastValid : List (Option Nat)
  /-- Signals whose failed channel awaits reassignment at the next boundary (R177). -/
  lostChans : List GnChan
  /-- Galileo data authenticated: (PRN, IODnav), and satellites whose tag failed (R174). -/
  authed : List (Nat × Nat)
  failed : List Nat
  /-- The OSNMA root key in force (R173): its eight words, the chain parameters and the root time. -/
  root : Option (List Nat)
  /-- Leap data posted and not yet passed on (R171). -/
  leapDue : Bool
  /-- A burst window is open, and the mode asked for the next second boundary (R176). -/
  burstOpen : Bool
  /-- Bits sent on GFE_MOSI: (antenna, number of bits, bits), oldest first (R178). -/
  feSent : List (Nat × Nat × Nat)
  deriving DecidableEq, Repr

end Sys2Proof.Machine
end

