-- ==== Sys2Proof/Machine/TypesKs.lean ====
section
/-! DEFINITION. The parts of the state that belong to the key store and the Pit (chapter 14), beside their registers. Plain data. -/

namespace Sys2Proof.Machine

/-- The key-store command in progress (R353): who gave it, OP, SLOT, PARENT, KS_ARG0, KS_ARG1, the input staged, whether it still waits for
KEYOP, and whether a zeroisation has aborted it. -/
structure KsJob where
  who : KsFrom
  op : Nat
  slot : Nat
  parent : Nat
  arg0 : Nat
  arg1 : Nat
  input : List Byte
  waiting : Bool
  aborted : Bool
  deriving DecidableEq, Repr

/-- The key store and the Pit. -/
structure KeyStore where
  /-- Key material by slot, empty where there is none; the attributes are registers (R348). -/
  keys : List (List Byte)
  /-- The life-cycle state held by fuses and Pit: 0 BLANK to 4 RETIRED (R350). -/
  lc : Nat
  zeroised : Bool
  /-- The certificate in force, the parts held of the next one, and the index of the latest part (R355). -/
  cert : Option (List Byte)
  certParts : List Byte
  certNext : Nat
  job : Option KsJob
  /-- Fenced pairs of AES core and SHA lane (R359). -/
  fenced : Nat
  /-- Loops that mismatch now, enabled or not (R361). -/
  loops : Nat
  /-- The tamper log, 16 entries of 8 words (R366). -/
  log : List (List Nat)
  /-- The latest RTC count that a Pit event stated (R346). -/
  rtc : Nat
  deriving DecidableEq, Repr

/-- The key store at its first power-up: no key, life cycle BLANK. -/
def KeyStore.blank : KeyStore :=
  { keys := List.replicate 128 [], lc := 0, zeroised := false, cert := none, certParts := [], certNext := 0, job := none, fenced := 0,
    loops := 0, log := List.replicate 16 (List.replicate 8 0), rtc := 0 }

end Sys2Proof.Machine
end

