-- ==== Sys2Proof/Machine/TypesLs.lean ====
section
/-! DEFINITION. The parts of the state that belong to the redundant pair, the lease, the arbiter bus, mirroring and the power feeds
(chapter 17), beside their registers. Plain data. Instants are time-core times in units of 2^-48 ns. -/

namespace Sys2Proof.Machine

/-- A planned release (R416): its instant, and whether it is the last gasp's. -/
structure Release where
  instant : Nat
  lastGasp : Bool
  deriving DecidableEq, Repr

/-- What the peer's latest HEALTH said (R418). -/
structure PeerHealth where
  atTime : Nat
  ready : Nat
  deriving DecidableEq, Repr

/-- A member as the arbiter sees it (R412, R413): how long its heartbeat has run well (ps), its consecutive short intervals, and its latest HEALTH
and CLAIM (instant, TIME_STATE, bound in ns). -/
structure ArbMember where
  elig : Bool
  runPs : Nat
  fast : Nat
  health : Option Nat
  claim : Option (Nat × Nat × Nat)
  deriving DecidableEq, Repr

/-- A mirroring record in the staging region (R421): kind, index, words, and the instant it was queued. -/
structure MirRec where
  kind : Nat
  index : Nat
  words : List Nat
  queued : Nat
  deriving DecidableEq, Repr

/-- A key blob received that waits for the frame named in its record (R421), and the instant it came. -/
structure BlobWait where
  frame : Nat
  slot : Nat
  blob : List Byte
  came : Nat
  deriving DecidableEq, Repr

/-- The redundant pair. -/
structure Lease where
  /-- The blank after a cold takeover is running (R424). -/
  coldBlank : Bool
  /-- When the grant in force started: the member's own, or the arbiter's (R415, R419). -/
  grantAt : Nat
  release : Option Release
  /-- From the cutoff on, no reservation at or after this instant (R416). -/
  cut : Option Nat
  /-- The release pattern is being driven (R408). -/
  pattern : Bool
  peer : Option PeerHealth
  arbAt : Option Nat
  arbHolder : Nat
  /-- The last interim point of a backward step, as a cycle (R407). -/
  interimAt : Nat
  /-- Since when the lease has been NO_LEASE, for AUTO_STBY (R511), and whether a write of RUN has stilled it. -/
  noLeaseAt : Option Nat
  stbyStilled : Bool
  /-- The arbiter bus (R417): the next sequence number, messages that LEASE has not admitted, frames waiting for the wire with the head on it,
  its attempts, the slots of a running backoff, frames sent, and the latest carrier. -/
  seq : Nat
  unadmitted : List (List Byte)
  txq : List (List Byte)
  attempts : Nat
  backoff : Option Nat
  sent : List (List Byte)
  carrierAt : Option Nat
  /-- The arbiter (role 3): members A and B, the epoch, and whom the wait after a loss is for. -/
  members : List ArbMember
  epoch : Nat
  waitFor : Option Nat
  /-- Mirroring (R421 to R423): the staging region, oldest first; the table entries a resync has still to send; the standby's resync is complete;
  blobs waiting for their frame; the mirrored overlay mask; and when the oldest record not yet applied was queued. -/
  staging : List MirRec
  resyncLeft : Nat
  resyncDone : Bool
  blobs : List BlobWait
  ovlMask : Nat
  /-- CFG_OVL_REQ and the UTC registers as last seen, whose changes a mirroring holder sends (R421). -/
  sentOvl : Nat
  sentUtc : List Nat
  /-- The latest samples of feeds A and B, oldest first (R426), and last gasp: 0 not yet, 1 flushing, 2 done (R428). -/
  feeds : List (List Nat)
  gasp : Nat
  deriving DecidableEq, Repr

/-- The redundant pair after a chip reset. -/
def Lease.blank : Lease :=
  { coldBlank := false, grantAt := 0, release := none, cut := none, pattern := false, peer := none, arbAt := none, arbHolder := 0, interimAt := 0,
    noLeaseAt := none, stbyStilled := false, seq := 0, unadmitted := [], txq := [], attempts := 0, backoff := none, sent := [], carrierAt := none,
    members := List.replicate 2 ⟨false, 0, 0, none, none⟩, epoch := 0, waitFor := none, staging := [], resyncLeft := 0, resyncDone := false,
    blobs := [], ovlMask := 0, sentOvl := 0, sentUtc := [0, 0, 0, 0], feeds := [[], []], gasp := 0 }

end Sys2Proof.Machine
end

