-- ==== Sys2Proof/Machine/TypesMisc.lean ====
section
/-! DEFINITION. The parts of the state that belong to the counter groups and check-value units (chapter 21), beside their registers, and to indirect
access (chapter 02) and start-up (chapter 22). Plain data. -/

namespace Sys2Proof.Machine

/-- The counter groups: what RUN 2 is doing by group (0 none, 1 waiting for its boundary, 2 running), the cycle up to which CCLK cycles have been
counted, and the part of a CCLK cycle left over, in units of 2^-48 of the ratio. -/
structure Counters where
  phase : List Nat
  upTo : Nat
  rest : Nat
  deriving DecidableEq, Repr

/-- A memory scan of a check-value unit (R494): its first address, its length, the running register it began from, and its settings. -/
structure CvScan where
  start : Nat
  len : Nat
  ctx : Nat
  cfg : Nat
  poly : Nat
  xorout : Nat
  deriving DecidableEq, Repr

/-- An indirect access in progress (R48): a read of a word, or a store, as (domain, offset). -/
inductive IndOp where
  | read (dom off : Nat)
  | store (dom off : Nat) (v : Nat)
  deriving DecidableEq, Repr

/-- A register set of the IND page: the word it holds for IND_DATA, the access in progress, and whether its data are to be discarded (R50). -/
structure IndSet where
  word : Nat
  pending : Option IndOp
  drop : Bool
  deriving DecidableEq, Repr

/-- Indirect access: the four sets, and the words of the domains that the spec describes no further, by domain × 2^24 + offset (an unlisted word
reads `Config.indWord`). -/
structure IndUnit where
  sets : List IndSet
  ram : List (Nat × Nat)
  deriving DecidableEq, Repr

def IndUnit.blank : IndUnit := { sets := List.replicate 4 ⟨0, none, false⟩, ram := [] }

/-- Start-up and power (chapter 22): the image words pushed so far, whether main boot waits for SYS_IMG_CMD.GO, whether the main chip is held in
reset, whether a preparation for SLEEP has run, and the status that the management SPI slave returns next (R525). -/
structure Boot where
  img : List Word
  waiting : Bool
  held : Bool
  sleeping : Bool
  mgmt : Nat
  deriving DecidableEq, Repr

def Boot.blank : Boot := { img := [], waiting := false, held := false, sleeping := false, mgmt := 0 }

end Sys2Proof.Machine
end

