-- ==== Sys2Proof/Machine/TypesNe.lean ====
section
/-! DEFINITION. The parts of the state that belong to the NTP and NTS engine (chapter 13), beside their registers. Plain data. -/

namespace Sys2Proof.Machine

/-- The NTP and NTS engine. -/
structure Ntp where
  /-- A rotation under way (R335): the slot and the number of the generation derived, waiting for its frame boundary. -/
  rot : Option (Nat × Nat)
  /-- When VO0 and VO1 stopped being CURRENT, in seconds. -/
  voSince : List Nat
  /-- The draw of the salts (R338), and the sketches: (row × 65,536 + column, count) of the current and the previous period. -/
  saltDraw : Nat
  sketch : List (Nat × Nat)
  sketchOld : List (Nat × Nat)
  /-- Frames of the running sketch period. -/
  skMs : Nat
  /-- Responses launched in the running frame (SERVING). -/
  launched : Nat
  deriving DecidableEq, Repr

/-- The engine after a chip reset. -/
def Ntp.blank : Ntp :=
  { rot := none, voSince := [0, 0], saltDraw := 0, sketch := [], sketchOld := [], skMs := 0, launched := 0 }

end Sys2Proof.Machine
end

