-- ==== Sys2Proof/Machine/TypesNet.lean ====
section
/-! DEFINITION. The parts of the state that belong to the front ports (chapter 10) and the switch core (chapter 11), beside their registers.
Plain data. Times are in units of 2^-48 ns. Frames are held without their FCS; a frame's length counts it. -/

namespace Sys2Proof.Machine

/-- A message an engine means to launch: the engine's switch port (16 or 17), the kind of message and its arguments as the engine's file
states them, the front port, the frame as far as it does not depend on T, and its length with the FCS. -/
structure LaunchJob where
  eng : Nat
  kind : Nat
  port : Nat
  len : Nat
  tmpl : List Byte
  args : List Nat
  lead : Nat
  deriving DecidableEq, Repr

/-- A reservation (R247): its number, T and q, the job, and the frame handed over with the generation it was sealed under. -/
structure Reservation where
  id : Nat
  t : Nat
  job : LaunchJob
  frame : Option (List Byte)
  gen : Option Nat
  auth : Bool
  deriving DecidableEq, Repr

/-- A frame in the switch core, one per destination (R265, R266): the stored frame's number, which its other replicas share, its ingress and egress switch ports, its bytes, priority,
receive ring, classifier code, removed tag, ingress stamp, cells, the cycle of its admission, the TAG of a requested stamp, T_late, and whether an
engine built it. -/
structure Replica where
  id : Nat
  src : Nat
  dest : Nat
  bytes : List Byte
  prio : Nat
  ring : Nat
  code : Nat
  strip : Option Nat
  stamp : Option Nat
  cells : Nat
  admitted : Nat
  tsReq : Option Nat
  late : Option Nat
  deriving DecidableEq, Repr

/-- A frame that crosses by cut-through (R271): its egress port, the instant its timestamp point crosses there, and whether a parity error was
found in it. -/
structure CutThrough where
  egress : Nat
  x : Nat
  bad : Bool
  deriving DecidableEq, Repr

/-- A front port beside its registers. `mode` is PTp_MODE's MODE and RSFEC in force. -/
structure Port where
  mode : Nat
  rsfec : Bool
  /-- The latest two markers of each direction, newest first: word and time (R243). -/
  rxMarks : List (Nat × Nat)
  txMarks : List (Nat × Nat)
  res : List Reservation
  nextRes : Nat
  /-- The end of the occupancy of the last frame started (R247). -/
  busyUntil : Nat
  /-- The frame taken from the switch core that waits for its start block. -/
  next : Option Replica
  /-- The ends of the pause intervals, 0 for none: PAUSE, and PFC by priority (R256). -/
  pause : Nat
  pfc : List Nat
  /-- The last restart, and whether the port stays fenced until chip reset (R259). -/
  restartAt : Option Nat
  held : Bool
  /-- A frame being received that leaves by cut-through. -/
  cut : Option CutThrough
  deriving DecidableEq, Repr

/-- A port after a chip reset. -/
def Port.blank : Port :=
  { mode := 0, rsfec := false, rxMarks := [], txMarks := [], res := [], nextRes := 0, busyUntil := 0, next := none, pause := 0,
    pfc := List.replicate 8 0, restartAt := none, held := false, cut := none }

/-- A missed Sync (R274): domain, source port identity and sequence number. -/
structure MissedSync where
  domain : Nat
  source : List Byte
  seqId : Nat
  deriving DecidableEq, Repr

/-- The switch core beside its registers. -/
structure Switch where
  /-- The queues, by egress switch port, oldest first; a queue of one priority is the part with that priority (R263). -/
  queues : List (List Replica)
  nextId : Nat
  /-- SW_MINp in force (R267). -/
  mins : List Nat
  /-- SW_LAGg as last dealt, and the groups whose redeal is due (R269, R270). -/
  lags : List Nat
  redeal : Nat
  missed : List (List MissedSync)
  /-- Frames completed on each receive ring since its last completion (R283). -/
  rxDone : List Nat
  /-- Frames that engines mean to launch and have no reservation for yet. -/
  jobs : List LaunchJob
  /-- The SDREF banks now lost (R259, R433), one bit each. -/
  sdrefLost : Nat
  deriving DecidableEq, Repr

/-- The switch core after a chip reset. -/
def Switch.blank : Switch :=
  { queues := List.replicate 20 [], nextId := 0, mins := List.replicate 20 256, lags := List.replicate 8 0, redeal := 0,
    missed := List.replicate 16 [], rxDone := List.replicate 16 0, jobs := [], sdrefLost := 0 }

end Sys2Proof.Machine
end

