-- ==== Sys2Proof/Machine/TypesOu.lean ====
section
/-! DEFINITION. The parts of the state that belong to the timing outputs (chapter 16), beside their registers. Plain data. -/

namespace Sys2Proof.Machine

/-- The settings of R401 that an output has in force: MODE, IO, period, phase, FDIV and UTC_ALIGN. -/
structure OutCfg where
  mode : Nat
  io : Nat
  perS : Nat
  perNs : Nat
  phase : Nat
  fdiv : Nat
  utc : Bool
  deriving DecidableEq, Repr

/-- An output. -/
structure Output where
  cfg : OutCfg
  /-- WIDTH (ns) and SLEW (ps/s) in force, taken at a rising edge (R401), and the compensation in force, ps. -/
  width : Nat
  slew : Nat
  comp : Int
  /-- A change under R401: 0 none, 1 waiting for its frame boundary, 2 waiting for its second boundary. -/
  change : Nat
  /-- How late the edges lie against the nominal instants less COMP and D_pin, in units of 2^-48 ns: φ_n of R397, or its negative where a
  change of OUn_COMP began it. -/
  lag : Int
  byComp : Bool
  /-- D_pin as forwarded with the table (R396), in units of 2^-16 ns. -/
  dpin : Int
  /-- The settings last seen in the registers: a difference is a write to be judged (R401). -/
  seen : OutCfg
  seenWidth : Nat
  seenSlew : Nat
  /-- The line is high, and the nominal instant of its rising edge. -/
  level : Bool
  rise : Nat
  /-- The IRIG frame that the generator has read (R395): its second, and how long each of its 100 elements stays high, ms. -/
  irigSec : Nat
  irig : List Nat
  /-- No rising edge is due before this instant (R402), in units of 2^-48 ns. -/
  after : Nat
  /-- A squelch waits for the edge that returns the line to idle (R402). -/
  sqWait : Bool
  /-- BOUND holds, with its hysteresis (R400). -/
  boundSq : Bool
  /-- The delay-line table in force and the set that waits for the boundary: 64 delays in units of 2^-16 ns (R398). -/
  table : List Nat
  next : List Nat
  /-- The fine delay code of the last edge (R398). -/
  code : Nat
  /-- Consecutive live checks beyond OUn_CHK_LIM, and whether that run has been reported (R399). -/
  bad : Nat
  told : Bool
  deriving DecidableEq, Repr

/-- An output after a chip reset: its registers' reset values in force. -/
def Output.blank : Output :=
  { cfg := ⟨0, 0, 1, 0, 0, 100, false⟩, width := 10000000, slew := 10000, comp := 0, change := 0, lag := 0, byComp := false, dpin := 0,
    seen := ⟨0, 0, 1, 0, 0, 100, false⟩, seenWidth := 10000000, seenSlew := 10000, level := false, rise := 0,
    irigSec := 0, irig := [], after := 0, sqWait := false, boundSq := false, table := [], next := [], code := 0, bad := 0, told := false }

end Sys2Proof.Machine
end

