-- ==== Sys2Proof/Machine/TypesPe.lean ====
section
/-! DEFINITION. The parts of the state that belong to the PTP engine (chapter 12), beside their registers. Plain data. Stamps are in units of
2^-16 ns, instants in units of 2^-48 ns. -/

namespace Sys2Proof.Machine

/-- A data set as the comparisons of R291 see it. -/
structure DataSet where
  prio1 : Nat
  cls : Nat
  acc : Nat
  var : Nat
  prio2 : Nat
  gm : Nat
  steps : Nat
  deriving DecidableEq, Repr

/-- A foreign master on a port (R291): its port identity, the instants of its recent Announces, newest first, and its data set. -/
structure Foreign where
  source : List Byte
  seen : List Nat
  ds : DataSet
  deriving DecidableEq, Repr

/-- A port of a service instance: PASSIVE, its foreign masters, and the next sequenceIds of Announce and Sync. -/
structure PePort where
  passive : Bool
  foreign : List Foreign
  seqAnn : Nat
  seqSync : Nat
  deriving DecidableEq, Repr

/-- A two-step message whose egress stamp has not returned (R295): its number on its port, the instance, whether it is a Pdelay_Resp, and the frame
prefix of what follows. -/
structure TwoStep where
  id : Nat
  svc : Nat
  pdelay : Bool
  tmpl : List Byte
  deriving DecidableEq, Repr

/-- A grant that a client instance holds (R313): messageType 0 Announce, 1 Sync, 2 Delay_Resp, and its duration in seconds. -/
structure ClGrant where
  typ : Nat
  dur : Nat
  deriving DecidableEq, Repr

/-- A client instance (R313 to R315). -/
structure PeClient where
  foreign : List Foreign
  /-- The master followed, its data set and flags, and whether its latest Announce was authenticated. -/
  master : Option (List Byte)
  /-- A two-step Sync that waits for its Follow_Up: sequenceId, ingress stamp and correction. -/
  sync : Option (Nat × Nat × Int)
  /-- The latest completed Sync: t1 and t2 with their corrections applied. -/
  last : Option (Int × Int)
  mpd : Int
  seq : Nat
  /-- The request in flight: sequenceId. -/
  req : Option Nat
  /-- A two-step Pdelay_Resp: sequenceId, t2, t4, t3 and correction. -/
  pd : Option (Nat × Int × Int × Int)
  grants : List ClGrant
  authOk : Bool
  deriving DecidableEq, Repr

/-- The PTP engine. -/
structure Ptp where
  svcOn : List Bool
  /-- PE_SVCk_CFG and PE_SVCk_PORTS as they were last refused (R288), (0, 0) for none. -/
  svcBad : List (Nat × Nat)
  ports : List (List PePort)
  /-- The client table by index, 16 words an entry (R302); an unlisted entry is free and has never been used. -/
  table : List (Nat × List Nat)
  /-- Entries freed, the latest first; entries that were never used follow in rising order. -/
  freed : List Nat
  /-- The calendar (R303): (tick modulo 16,384, entries, the first walked first); the last tick walked; and the visits that wait, as (entry, its
  tick). -/
  cal : List (Nat × List Nat)
  lastTick : Nat
  late : List (Nat × Nat)
  /-- The committed rate over all grants, in sixteenths of a message per second (R299). -/
  commit : Nat
  /-- The client-state cache (R305): (set, entries with their dirty marks). -/
  cache : List (Nat × List (Nat × Bool))
  twoStep : List (List TwoStep)
  /-- Multicast Delay_Req answered in the second given (R300). -/
  mcSec : Nat
  mcCount : Nat
  clients : List PeClient
  deriving DecidableEq, Repr

def PePort.blank : PePort := ⟨false, [], 0, 0⟩
def PeClient.blank : PeClient :=
  { foreign := [], master := none, sync := none, last := none, mpd := 0, seq := 0, req := none, pd := none, grants := [], authOk := false }

/-- The PTP engine after a chip reset (R316). -/
def Ptp.blank : Ptp :=
  { svcOn := List.replicate 4 false, svcBad := List.replicate 4 (0, 0), ports := List.replicate 4 (List.replicate 16 PePort.blank), table := [], freed := [], cal := [], lastTick := 0,
    late := [], commit := 0, cache := [], twoStep := List.replicate 16 [], mcSec := 0, mcCount := 0, clients := List.replicate 2 PeClient.blank }

end Sys2Proof.Machine
end

