-- ==== Sys2Proof/Machine/TypesPip.lean ====
section
/-! DEFINITION. The parts of the state that belong to the Pip engines (chapter 15), beside their registers. Plain data. -/

namespace Sys2Proof.Machine

/-- What a Pip waits for (R375, R379, R380). -/
inductive PipWait where
  | none
  /-- WAITT: seconds [31:0] and nanoseconds of the operand. -/
  | time (sec ns : Nat)
  /-- RECV with MOD[0] = 1: the destination register. -/
  | recv (rd : Nat)
  /-- PEEK or POKE until the fabric answers: whether it reads, the address word, the word to write, and the data and status registers. -/
  | fabric (read : Bool) (addr : Nat) (value : Nat) (dataReg statusReg : Nat)
  deriving DecidableEq, Repr

/-- A frame that waits for a RUN rule's verdict (R381): the frame as it will enter the switch core, its length with the FCS, the rule's
number and its FALLBACK mask. -/
structure RunFrame where
  rep : Replica
  len : Nat
  rule : Nat
  fallback : Nat
  deriving DecidableEq, Repr

/-- A Pip beside its registers (R372, R379, R384, R385). -/
structure Pip where
  /-- p0 to p15. -/
  regs : List Nat
  wait : PipWait
  inbox : List PipMsg
  /-- The classifier's queue, oldest first; its head is the frame the Pip is called for (R381). -/
  queue : List RunFrame
  /-- The instruction store; empty where the image gives none or names a ROM program (R388, R389). -/
  imem : List Nat
  /-- The image's initial data and the data store itself, as sparse bytes. -/
  init : List Host.Cell
  dmem : List Host.Cell
  /-- ENTRY 0 to 7 of the image (R388). -/
  entries : List Nat
  /-- Instructions since the last yield point (R384). -/
  wdog : Nat
  /-- Cycles of the current frame (R383), and cycles left of the admitted block of 64. -/
  cycles : Nat
  block : Nat
  /-- Time of the last restart after a failure (R385). -/
  failedAt : Option Nat
  /-- ENTRY, EN and DECODE in force (R382, R387). -/
  entry : Nat
  en : Bool
  decode : Nat
  /-- The level it gives its output, and the level for the next fire of its trigger (R378). -/
  level : Bool
  nextLevel : Option Bool
  deriving DecidableEq, Repr

/-- A Pip with nothing loaded. -/
def Pip.blank : Pip :=
  { regs := List.replicate 16 0, wait := .none, inbox := [], queue := [], imem := [], init := [], dmem := [],
    entries := List.replicate 8 0, wdog := 0, cycles := 0, block := 0, failedAt := none, entry := 0, en := false,
    decode := 0, level := false, nextLevel := none }

end Sys2Proof.Machine
end

