-- ==== Sys2Proof/Machine/TypesRef.lean ====
section
/-! DEFINITION. The parts of the state that belong to the reference selector (chapter 05), holdover and oscillator steering (chapter 06)
and the error budget (chapter 09), beside their registers. Plain data. Times are in units of 2^-48 ns; phases in units of 2^-16 ns;
fractional frequencies are rational numbers. -/

namespace Sys2Proof.Machine

/-- A phase or frequency sample that a slot's source has delivered during the frame (R108). -/
structure Sample where
  /-- The source's time minus time-core time; none for a frequency slot. -/
  phase : Option Int
  /-- The instant of the sample. -/
  atTime : Nat
  /-- The source's fractional frequency, in 10^-12, where the source gives one. -/
  freq : Option Int
  /-- The source's bound, ps. -/
  bound : Nat
  /-- The flags of the Shell record behind it (R223): STALE, UNCAL or PROVISIONAL, UNSEALED. -/
  stale : Bool
  uncal : Bool
  unsealed : Bool
  deriving DecidableEq, Repr

/-- A reference slot beside its registers. -/
structure Slot where
  sample : Option Sample
  /-- The signal is present (R111), and the slot's block reports the source valid (R113). -/
  present : Bool
  valid : Bool
  /-- Phase samples since the slot last entered QUALIFYING, newest first: (instant, phase) (R113). -/
  hist : List (Nat × Int)
  /-- The previous phase sample: instant, phase and RSn_FREQ then (R124), and the steps applied since, in phase units. -/
  prev : Option (Nat × Int × Int)
  stepped : Int
  /-- The running timer: 0 none, 1 QUAL, 2 WTR (R113, R114), and the milliseconds it has left. -/
  timer : Nat
  left : Nat
  /-- The slot has been DISQUALIFIED since it was last AVAILABLE (R114). -/
  needWtr : Bool
  /-- The state held before HOLDOFF, and the boundaries HOLDOFF has left. -/
  heldFrom : Nat
  holdLeft : Nat
  /-- A loss that BRIDGE kept from the selector, taken at its exit (R129). -/
  lossDue : Bool
  /-- The milliseconds for which a soft failure, a recovery and a drift-rate excess have lasted (R112, R126, R127). -/
  softMs : Nat
  recMs : Nat
  driftMs : Nat
  /-- Deviations for RSn_DRATE, newest first: (instant, deviation in ps) (R127). -/
  devs : List (Nat × Int)
  /-- Milliseconds without a jump beyond RSn_PHIT_THR and within RSn_QJIT (R125). -/
  quietMs : Nat
  /-- The next sample is a returning slot's first (R124). -/
  returning : Bool
  /-- ACCEPT, DISQUALIFY and REQUALIFY wait for the boundary (R111, R125, R530). -/
  accept : Bool
  disq : Bool
  requalify : Bool
  /-- Recent IRIG-B edges of the input, newest first: the low 32 bits of the publication's SEQ, and the sample it would give (R382). -/
  edges : List (Nat × Sample)
  /-- The largest deviation since DEGRADED, ps (R223), and the flags of its latest Shell record. -/
  devMax : Nat
  stale : Bool
  uncal : Bool
  unsealed : Bool
  deriving DecidableEq, Repr

/-- A slot with nothing measured. -/
def Slot.blank : Slot :=
  { sample := none, present := false, valid := true, hist := [], prev := none, stepped := 0, timer := 0, left := 0,
    needWtr := false, heldFrom := 0, holdLeft := 0, lossDue := false, softMs := 0, recMs := 0, driftMs := 0, devs := [],
    quietMs := 0, returning := false, accept := false, disq := false, requalify := false, edges := [], devMax := 0, stale := false,
    uncal := false, unsealed := false }

/-- The selector beside its registers. -/
structure Selector where
  slots : List Slot
  /-- The selection, also while it is held in HOLDOFF (R117). -/
  cur : Option Nat
  /-- The loop's integrator, an increment correction in units of 2^-48 ns (R121). -/
  integ : Int
  /-- The residual e of the last boundary, in phase units (R119). -/
  resid : Int
  /-- The milliseconds for which the lock conditions have held (R123). -/
  lockMs : Nat
  /-- Bandwidths in force (R121), in mHz and in 0.1 mHz. -/
  innerBw : Nat
  outerBw : Nat
  /-- The increment computed for the next boundary (R17). -/
  nextIncr : Option Nat
  /-- A capture has been taken on RS11_HCAP's channel since the last POST (R110): its stamp. -/
  hostCap : Option Nat
  /-- Milliseconds since the last accepted POST (R111). -/
  hostMs : Nat
  deriving DecidableEq, Repr

/-- A 10 s average (R135): the instant it ended, the mean of its samples y_meas and of the temperatures (m°C), and whether a valid
temperature stood throughout. -/
structure Avg where
  atTime : Nat
  y : Rat
  temp : Rat
  tempOk : Bool
  deriving DecidableEq, Repr

/-- A running holdover or assist (R144 to R148). -/
structure HoldRun where
  /-- t_e, or the start of the assist. -/
  start : Nat
  assist : Bool
  ye : Rat
  /-- The increment at entry, and the frames of the ramp done and due (R144). -/
  incr0 : Nat
  rampDone : Nat
  rampLen : Nat
  /-- R, ps (R146). -/
  ramp : Rat
  /-- T_e and ΔT_max, m°C. -/
  tempE : Int
  dTmax : Nat
  /-- The uncertainties are those of a model that is not ready (R144). -/
  unready : Bool
  deriving DecidableEq, Repr

/-- A running blanked step (R151). -/
structure Astep where
  slot : Nat
  /-- 0 waiting for the request, 1 requested, 2 stepped and waiting for the release, 3 cancelled and waiting for the release. -/
  stage : Nat
  /-- Frames since b0, and since the step or the cancellation. -/
  frames : Nat
  deriving DecidableEq, Repr

/-- A UART command awaiting its reply (R142). -/
structure UartWait where
  value : Int
  retried : Bool
  resend : Bool
  deriving DecidableEq, Repr

/-- The drift test's anchor (R140): its instant and phase, the integral of the applied correction less the model's y since then (ns), and
the constant y of a model that is not ready. -/
structure Anchor where
  atTime : Nat
  phase : Int
  integral : Rat
  y : Rat
  deriving DecidableEq, Repr

/-- Holdover and oscillator steering beside its registers. -/
structure Holdover where
  /-- The interval being averaged: samples and sums (R135). -/
  count : Nat
  ySum : Rat
  tSum : Int
  tempOkAll : Bool
  /-- Averages held for HO_GUARD, oldest first, and the learning set, oldest first. -/
  held : List Avg
  learned : List Avg
  /-- Per-frame samples for HO_ENTRY_AVG, newest first: (instant, y_meas), and the corrections of an assist (R148). -/
  yHist : List (Nat × Rat)
  /-- The model's references (R136, R139): t_ref, T_ref if known, and code_ref once a learning window has begun. -/
  tRef : Nat
  tempRef : Option Rat
  codeRef : Int
  /-- HO_LD values are in force (R139). -/
  loaded : Bool
  hold : Option HoldRun
  anchor : Option Anchor
  /-- The oscillator command in force: a DAC code, or the commanded total in UART units. -/
  code : Int
  /-- HO_DAC_INIT has been written since the chip reset (R141). -/
  initDone : Bool
  /-- The demand not yet sent: a limited remainder in codes, or a fractional frequency for the UART (R142). -/
  carry : Rat
  uart : Option UartWait
  uartDown : Bool
  /-- The last UART total sent. -/
  uartSent : Option Int
  /-- Commands sent to the oscillator: DAC words and UART lines, oldest first. -/
  dacOut : List Nat
  uartOut : List (List Byte)
  tempFails : Nat
  /-- TEMP_OK has been 0 during the current holdover is in `HoldRun`; `refitMs` counts to the next refit (R136). -/
  refitMs : Nat
  astep : Option Astep
  deriving DecidableEq, Repr

/-- A bound snapshot (R18, R230, R231). `b0` is in ps, `g` in 10^-15. -/
structure Snapshot where
  gen : Nat
  t0 : Nat
  b0 : Nat
  g : Nat
  valid : Bool
  timeState : Nat
  flags : Nat
  slot : Nat
  deriving DecidableEq, Repr

/-- A statement in progress (R236): who asked, the payload, and whether KEYOP has admitted it. -/
structure Statement where
  req : Requester
  payload : List Byte
  admitted : Bool
  deriving DecidableEq, Repr

/-- The error budget beside its registers. -/
structure BoundUnit where
  /-- The latest snapshot, and the latest one issued while a time slot was the selection. -/
  snap : Option Snapshot
  selSnap : Option Snapshot
  /-- BASE, ps, while it is in force (R224). -/
  base : Option Nat
  /-- The instant from which τ of HOLD runs, while holdover, assist or a host-set time stands (R225). -/
  holdFrom : Option Nat
  /-- The HOLD already counted in BASE (R227), ps. -/
  holdLess : Nat
  /-- BRIDGE: its entry, and whether the ratio was nominal then (R223, R227). -/
  bridgeAt : Option Nat
  bridgeNominal : Bool
  /-- A value frozen by BRIDGE stands (R227), and t_x of an exit without HOLD. -/
  frozen : Bool
  exitAt : Option Nat
  /-- The time was set by the host and no slot has been selected since (R74). -/
  hostSet : Bool
  /-- |e| of the last EB_RES_WIN frames, ps, newest first (R223). -/
  resids : List Nat
  /-- The HIT component and the milliseconds for which it still holds (R226). -/
  hit : Nat
  hitMs : Nat
  /-- KIND 5 transmit residuals, by port: (|mean residual|, frames since) (R229). -/
  portRes : List (Option (Nat × Nat))
  att : Option Statement
  deriving DecidableEq, Repr

end Sys2Proof.Machine
end

