-- ==== Sys2Proof/Machine/TypesSh.lean ====
section
/-! DEFINITION. The parts of the state that belong to the Metrology Shell (chapter 08), beside its registers: none of it is reached by a
chip reset. Plain data. Times are in units of 2^-48 ns. -/

namespace Sys2Proof.Machine

/-- An edge in a TDC channel's FIFO (R189, R200): its cycle, the time at the start of that cycle, the increment in force, the raw bin, the table
generation and the tag that says what edge it is: on a port's channels 0 for a start-of-frame marker and the lane-0 word count plus 1 for a clock
marker, on a link's 1 for the transmit direction and 0 for the receive direction. -/
structure TdcEdge where
  cyc : Nat
  start : Nat
  incr : Nat
  raw : Nat
  tgen : Bool
  tag : Nat
  deriving DecidableEq, Repr

/-- An accepted interpolator table (R198): the calibrated bins in units of 2^-6 bin, and the pass histogram that gives its widths. -/
structure BinTable where
  entries : List Int
  hist : List Nat
  deriving DecidableEq, Repr

/-- A TDC channel. A table buffer that is none holds the factory table (R218). -/
structure TdcChan where
  fifo : List TdcEdge
  /-- The time of the last accepted edge, and a loss since the last publication (R189). -/
  lastEdge : Option Nat
  lossPrior : Bool
  /-- The two table buffers and the active one (R200). -/
  bufA : Option BinTable
  bufB : Option BinTable
  tgen : Bool
  lastHist : List Nat
  skew : Int
  /-- The instant of the last accepted table, and STALE (R202). -/
  acceptedAt : Option Nat
  stale : Bool
  /-- Consecutive passes with an empty bin, the ring-only histogram of the pass before (empty where it ran none), and passes still barred
  to live sources (R199, R207). -/
  emptyRun : Nat
  lastRing : List Nat
  barred : Nat
  fenced : Bool
  deriving DecidableEq, Repr

/-- A channel after a Shell start (R218). -/
def TdcChan.fresh : TdcChan :=
  { fifo := [], lastEdge := none, lossPrior := false, bufA := none, bufB := none, tgen := false, lastHist := [], skew := 0,
    acceptedAt := none, stale := false, emptyRun := 0, lastRing := [], barred := 0, fenced := false }

/-- A live channel in calibration (R201): the channel and its spare, the step (0 compared before, 1 in its pass, 2 compared after), and the
sums and counts of the times seen on both in the frame. -/
structure LiveCal where
  chan : Nat
  spare : Nat
  step : Nat
  sumC : Nat
  sumS : Nat
  numC : Nat
  numS : Nat
  deriving DecidableEq, Repr

/-- An unmatched start at an interval unit (R190): its resolved event and its owner (an output, a link, or a port direction). -/
structure UnitStart where
  ev : Resolved
  owner : Nat
  deriving DecidableEq, Repr

/-- A publication (R192, R194). -/
structure Pub where
  chan : Nat
  src : Nat
  kind : Nat
  flags : Nat
  cyc : Nat
  raw : Nat
  tgen : Bool
  cbin : Nat
  time : Nat
  unc : Nat
  payload : Nat
  /-- What goes with the record beside its words: the edge's tag, and the owner of the interval or the delay line. -/
  tag : Nat
  owner : Nat
  deriving DecidableEq, Repr

/-- An audit entry (R213). -/
structure AuditEntry where
  sealCount : Nat
  time : Nat
  key : Nat
  digest : List Byte
  complete : Bool
  deriving DecidableEq, Repr

/-- The operational settings the Shell has taken (R187, R219): DIV and FNOM of the four REFINs. -/
structure RefinSet where
  div : Nat
  fnom : Nat
  kind : Nat
  deriving DecidableEq, Repr

/-- The limits held as legally relevant parameters (R199, R201, R203, R208): chi-square limit, cross-check limit (ps), path-check limit (ps)
and its frame count. -/
structure LrpLimits where
  chi : Nat
  xchk : Nat
  path : Nat
  frames : Nat
  deriving DecidableEq, Repr

/-- A running path check of a port direction (R203): samples, the sum and the largest magnitude of the residuals (2^-16 ns), frames in a row
beyond the limit, and whether the run has been reported. -/
structure PathCheck where
  num : Nat
  sum : Int
  big : Nat
  run : Nat
  told : Bool
  deriving DecidableEq, Repr

/-- The Shell. -/
structure Shell where
  chans : List TdcChan
  /-- The channel that publishes for each source (R186, R207). -/
  srcChan : List (Option Nat)
  /-- Sources whose next record carries GAP, and RESTART (R194). -/
  gap : List Bool
  restart : List Bool
  /-- The settings in force, and whether the fabric has changes to forward. -/
  refin : List RefinSet
  liveCal : List LiveCal
  units : List (List UnitStart)
  /-- The number of the next publication (R192), and the TCLK cycle at which the Shell became READY. -/
  seq : Nat
  readyAt : Nat
  /-- The next FIFO the drain looks at (R189). -/
  turn : Nat
  /-- The newest records withheld while SHPUB is exhausted (R195). -/
  held : List Pub
  /-- The wheel has posted an allowance since READY, and it has not timed out (R195). -/
  posted : Bool
  /-- Times of the frame's edges on REFINs of KIND 2 and on channel 6, oldest first (R188, R206). -/
  frameEdges : List (Nat × Nat)
  /-- Marker records published for each link in the running frame (R205). -/
  linkPubs : List Nat
  /-- Path checks by port direction: receive 0 to 15, transmit 16 to 31 (R203). -/
  paths : List PathCheck
  /-- Outputs whose delay line is to be measured (R204). -/
  ocal : Nat
  /-- Frames since the last KIND 4 record (R217). -/
  quiet : Nat
  /-- The LRP store (R208): records by identifier, the seal count it belongs to, and the audit log (R213). -/
  lrp : List (Nat × List Byte)
  storeCount : Nat
  fuses : Nat
  audit : List AuditEntry
  limits : LrpLimits
  /-- Limits of a commit that take effect at the next boundary (R211). -/
  nextLimits : Option LrpLimits
  /-- The mailbox: the staged command, and the nonce against which the command being executed is checked (R211). -/
  staged : List Byte
  execNonce : List Nat
  tooLong : Bool
  /-- The last watchdog restart of the Shell Pip (R214). -/
  wdogAt : Option Nat
  deriving DecidableEq, Repr

end Sys2Proof.Machine
end

