-- ==== Sys2Proof/Machine/TypesUl.lean ====
section
/-! DEFINITION. The parts of the state that belong to the Usaur links (chapter 18), beside their registers. Plain data. Times of the
two-way exchange are in units of 2^-16 ns. -/

namespace Sys2Proof.Machine

/-- What the peer's latest TIME frame says (R438). -/
structure PeerTime where
  valid : Bool
  parent : Bool
  hops : Nat
  rootClass : Nat
  timeState : Nat
  root : Nat
  bound : Nat
  deriving DecidableEq, Repr

/-- The latest TIME frame received whose marker has not come (R437): its arrival, and its SEQ where its check value held. -/
structure RxWait where
  atTime : Nat
  seq : Option Nat
  deriving DecidableEq, Repr

/-- A Usaur link beside its registers. -/
structure ULink where
  /-- The next SEQ of each TYPE (R434). -/
  seqs : List Nat
  /-- The latest TIME frame sent that waits for its marker, and the markers of those before it, newest first. -/
  txWait : Option Nat
  txMarks : List (Nat × Nat)
  /-- A receive marker whose frame has not been checked yet; a frame whose marker has not come; and the markers of accepted TIME frames. -/
  rxMark : Option Nat
  rxWait : Option RxWait
  rxMarks : List (Nat × Nat)
  /-- The latest ACK_SEQ counted, and the differences of the frame, as (instant of Y, difference) (R439). -/
  acked : Option Nat
  outs : List (Nat × Int)
  ins : List (Nat × Int)
  /-- The latest completed exchange, in time-core units. -/
  lastExch : Option Nat
  /-- Consecutive frames that failed their check value (R433). -/
  badRun : Nat
  peer : Option PeerTime
  /-- SERVICE frames that wait for HELLO (R450). -/
  held : List (List Byte)
  /-- Frames sent on the link, oldest first. -/
  sent : List (List Byte)
  /-- The neighbour's distances as the link agent holds them: (entry, distance, periods since its refresh) (R448). -/
  dv : List (Nat × Nat × Nat)
  deriving DecidableEq, Repr

/-- A link after a chip reset. -/
def ULink.blank : ULink :=
  { seqs := List.replicate 5 0, txWait := none, txMarks := [], rxMark := none, rxWait := none, rxMarks := [], acked := none, outs := [],
    ins := [], lastExch := none, badRun := 0, peer := none, held := [], sent := [], dv := [] }

/-- What an accepted frame leaves to its user: nothing, mirroring records (R421), or a service message for this node (R448). -/
inductive UlRx where
  | none
  | mirror (payload : List Byte)
  | service (src code : Nat) (words : List Nat)
  deriving DecidableEq, Repr

end Sys2Proof.Machine
end

