-- ==== Sys2Proof/Machine/State.lean ====
section
/-! DEFINITION. The state of the block, the reasons a step can stop, and the state after reset. -/

namespace Sys2Proof.Machine

/-- The reasons a step stops with a fault. No meaning of this model faults: every command the spec describes leaves a next state. -/
inductive Fault where
  /-- Raised by no command: kept so that the type is inhabited. Safe. -/
  | unreachable
  deriving DecidableEq, Repr

/-- The reasons a step is refused. -/
inductive Refusal where
  /-- A command that has no meaning in the model yet, by its mnemonic. Safe: the model stops. -/
  | notModelled (mnemonic : String)
  deriving DecidableEq, Repr

/-- Everything the spec gives the block. Registers are in `regs`; the fields below hold what the spec gives the block beside its registers. -/
structure State where
  /-- The commands that wait, first in, first out. -/
  pending : List Instr
  /-- Every software-visible register word that differs from its reset value. -/
  regs : RegFile
  /-- How many free values have been drawn: the model's own field. -/
  freeCtr : Nat
  /-- Read latches (R41, R64, R89, R92, R238): (requester, register address, word). -/
  latches : List (Requester × Nat × Word)
  /-- Staging words of 64-bit writes (R42): (requester, lower word's address, word). -/
  staging : List (Requester × Nat × Word)
  /-- What the last read command of each requester returned: (requester, word, status) (R34, R38). -/
  readData : List (Requester × Word × Nat)
  tc : TimeCore
  whl : Wheel
  cfg : CfgUnit
  fc : Collector
  jn : Journal
  /-- Interrupt messages sent to the host, oldest first. -/
  msix : List Msi
  /-- The 28 Pips of the main chip (R371). -/
  pips : List Pip
  /-- A change that R18 names has happened, and its snapshot is due within 2 µs. -/
  snapDue : Bool
  /-- The DRAM behind both channels (R31), sparse; an unlisted byte reads 0. -/
  dram : List Host.Cell
  /-- The host's memory, as far as the device has read or written it, sparse; an unlisted byte reads 0. -/
  hostMem : List Host.Cell
  rs : Selector
  ho : Holdover
  eb : BoundUnit
  gn : Gnss
  sh : Shell
  /-- The front ports 0 to 15 (chapter 10). -/
  ports : List Port
  sw : Switch
  pc : Counters
  /-- The memory scans in progress, by check-value unit (R494). -/
  cv : List (Option CvScan)
  /-- The timing outputs OUT0 to OUT15 (chapter 16). -/
  outs : List Output
  ls : Lease
  /-- The Usaur links 0 to 3 (chapter 18). -/
  links : List ULink
  /-- Frames since the link agent's last HELLO and vector (R448). -/
  dvMs : Nat
  ks : KeyStore
  pe : Ptp
  ne : Ntp
  /-- Indirect access (R46 to R50). -/
  ind : IndUnit
  /-- Start-up and power states (chapter 22). -/
  boot : Boot
  deriving DecidableEq, Repr

/-- The block right after a chip reset that was also its first power-up: every register at its reset value, nothing in flight. -/
def State.reset : State :=
  { pending := [], regs := [], freeCtr := 0, latches := [], staging := [], readData := [],
    tc := { now := 0, cycle := 0, slew := 0, swIncr := none, step := none, okSince := none, triggers := List.replicate 32 none,
            fires := List.replicate 32 none, caps := List.replicate 8 ⟨[], false⟩, txqs := List.replicate 16 ⟨[], false⟩ },
    whl := { frameStart := 0, lastRaised := 0, lastReplenish := 0, extendedTo := none, spent := List.replicate 16 0, borrowed := List.replicate 16 0,
             lent := List.replicate 16 0, lend := [false, true, true, true, true, false, false, false, false, false, false, false,
             false, true, false, false], stalledNow := 0, rescaleDue := false, aesCores := 8, servicePips := 4,
             delivered := [], withheld := [] },
    cfg := { shadow := [], overlays := List.replicate 16 [], windowFrames := 0, scanSawWindow := false,
             scanning := false, ovlOld := [], rwlDone := [] },
    fc := { pinl := 0, sql := 0, nmil := 0, windows := [], shadows := [], baseLoaded := false, chipResetDue := false },
    jn := { inflight := [], window := [], arrivals := 0, lastKey := none, epoch := 0, blocks := [], staged := [], withheld := [],
            lost := 0, frameBytes := 0, frameLost := 0, ring := [], quiet := 0, skExport := 0, hllExport := none, hll := [] },
    msix := [], snapDue := false, dram := [], hostMem := [],
    pips := List.replicate 28 Pip.blank,
    rs := { slots := List.replicate 12 Slot.blank, cur := none, integ := 0, resid := 0, lockMs := 0, innerBw := 100, outerBw := 10,
            nextIncr := none, hostCap := none, hostMs := 0 },
    ho := { count := 0, ySum := 0, tSum := 0, tempOkAll := true, held := [], learned := [], yHist := [], tRef := 0, tempRef := none,
            codeRef := 0, loaded := false, hold := none, anchor := none, code := 0, initDone := false, carry := 0, uart := none,
            uartDown := false, uartSent := none, dacOut := [], uartOut := [], tempFails := 0, refitMs := 0, astep := none },
    eb := { snap := none, selSnap := none, base := none, holdFrom := none, holdLess := 0, bridgeAt := none, bridgeNominal := false,
            frozen := false, exitAt := none, hostSet := false, resids := [], hit := 0, hitMs := 0, portRes := List.replicate 16 none,
            att := none },
    gn := { chans := List.replicate 256 GnChan.free, segs := [], bars := [], lastValid := [none, none], lostChans := [], authed := [],
            failed := [], root := none, leapDue := false, burstOpen := false, feSent := [] },
    sh := { chans := List.replicate 48 TdcChan.fresh, srcChan := (List.range 48).map (fun k => if k < 44 then some k else none),
            gap := List.replicate 48 false, restart := List.replicate 48 false, refin := List.replicate 4 ⟨0, 0, 0⟩, liveCal := [],
            units := List.replicate 16 [], seq := 0, readyAt := 0, turn := 0, held := [], posted := false, frameEdges := [], linkPubs := List.replicate 4 0,
            paths := List.replicate 32 ⟨0, 0, 0, 0, false⟩, ocal := 0, quiet := 0, lrp := [], storeCount := 0, fuses := 0, audit := [],
            limits := ⟨1250, 5, 20, 10⟩, nextLimits := none, staged := [], execNonce := [], tooLong := false, wdogAt := none },
    ports := List.replicate 16 Port.blank, sw := Switch.blank,
    pc := { phase := [0, 0, 0, 0], upTo := 0, rest := 0 }, cv := List.replicate 4 none,
    outs := List.replicate 16 Output.blank, ls := Lease.blank,
    links := List.replicate 4 ULink.blank, dvMs := 0,
    ks := KeyStore.blank,
    pe := Ptp.blank, ne := Ntp.blank,
    ind := IndUnit.blank,
    boot := Boot.blank }

end Sys2Proof.Machine
end

