-- ==== Sys2Proof/Machine/Ops.lean ====
section
/-! DEFINITION. The named operations over the register file, the sparse memories and time: every read and write of a register's
value goes through these. -/

namespace Sys2Proof.Machine

/-! ### The register map -/

/-- The page of an address. -/
def pageOf (a : Nat) : Nat := a / 0x1000

/-- Whether a register row covers a byte offset. -/
def RegRow.covers (r : RegRow) (off : Nat) : Bool :=
  r.off ≤ off && (off - r.off) % r.stride == 0 && (off - r.off) / r.stride < r.count

/-- The row of the register map that covers an address (R33). -/
def findRow (a : Nat) : Option RegRow := (pageRows (pageOf a)).find? (fun r => r.covers (a % 0x1000))

/-- The reset value along a row's run; the last listed value repeats. -/
def RegRow.resetAt (r : RegRow) (off : Nat) : Nat :=
  let k := (off - r.off) / r.stride
  r.reset.getD k (r.reset.getLastD 0)

/-- The ID word of a page (R36, R37): type code, instance and version 0x0100; 0 on a page that is absent. -/
def idWord (page : Nat) : Nat :=
  match pageBlocks.find? (fun b => b.1 ≤ page && page ≤ b.2.1) with
  | some (first, _, code) => code * 0x1000000 + (page - first) * 0x10000 + 0x0100
  | none => 0

/-- The value of a register word after a chip reset (R40), or the device's own value where the spec says the value is the device's. -/
def resetWord (a : Nat) : Word :=
  if Reg.SH_UID 0 ≤ a && a ≤ Reg.SH_UID 3 then Config.deviceUid ((a - Reg.SH_UID 0) / 4)
  else if Reg.KS_AUTH_HASH 0 ≤ a && a ≤ Reg.KS_AUTH_HASH 11 then Config.fusedAuthHash ((a - Reg.KS_AUTH_HASH 0) / 4)
  else if Reg.SH_NONCE 0 ≤ a && a ≤ Reg.SH_NONCE 3 then Config.shellNonce 0 ((a - Reg.SH_NONCE 0) / 4)
  else if a % 0x1000 = 0 then BitVec.ofNat 32 (idWord (pageOf a))
  else match findRow a with
    | some r => BitVec.ofNat 32 (r.resetAt (a % 0x1000))
    | none => 0

/-! ### The sparse register file -/

/-- The first entry at `a`, if one is listed. -/
def RegFile.look : RegFile → Nat → Option Word
  | [], _ => none
  | (k, v) :: r, a => if k = a then some v else RegFile.look r a

/-- The file without entries at `a`. -/
def RegFile.drop : RegFile → Nat → RegFile
  | [], _ => []
  | (k, v) :: r, a => if k = a then RegFile.drop r a else (k, v) :: RegFile.drop r a

/-- The file with the entry (a, w), whatever w is. -/
def RegFile.insert : RegFile → Nat → Word → RegFile
  | [], a, w => [(a, w)]
  | (k, v) :: r, a, w =>
    if k = a then (a, w) :: r else if a < k then (a, w) :: (k, v) :: r else (k, v) :: RegFile.insert r a w

/-- The file after `a` takes `w`: no entry where `w` is the reset value, so equal contents are equal lists. -/
def RegFile.store (f : RegFile) (a : Nat) (w : Word) : RegFile :=
  if w = resetWord a then f.drop a else f.insert a w

/-- The word at `a`: the listed one, or the reset value. -/
def RegFile.word (f : RegFile) (a : Nat) : Word := (f.look a).getD (resetWord a)

/-- The canonical form: addresses strictly rising, no entry equal to the reset value. -/
def RegFile.wf (f : RegFile) : Bool :=
  decide (f.Pairwise (fun x y => x.1 < y.1)) && f.all (fun e => e.2 != resetWord e.1)

namespace State

/-- The register word held at an address. -/
def rd (s : State) (a : Nat) : Word := s.regs.word a

/-- The state with the register word at `a` made `w`. -/
def wr (s : State) (a : Nat) (w : Word) : State := { s with regs := s.regs.store a w }

/-- The register word at an address as a number. -/
def rdN (s : State) (a : Nat) : Nat := (s.rd a).toNat

/-- The state with the register word at `a` made the low 32 bits of `n`. -/
def wrN (s : State) (a n : Nat) : State := s.wr a (BitVec.ofNat 32 n)

/-- The register word at `a` read as two's complement. -/
def rdI (s : State) (a : Nat) : Int := signedOf 32 (s.rdN a)

/-- The register at `a` takes `i`, saturating, in two's complement. -/
def wrSatI (s : State) (a : Nat) (i : Int) : State := s.wrN a (wordOf 32 (satSigned 32 i))

/-- The register at `a` takes `n`, holding at 0xFFFF_FFFF. -/
def wrSat (s : State) (a n : Nat) : State := s.wrN a (satNat 32 n)

/-- A field's value. -/
def get (s : State) (f : Fld) : Nat := bitsOf (s.rdN f.addr) f.lo f.width

/-- Whether a field is non-zero. -/
def flag (s : State) (f : Fld) : Bool := s.get f != 0

/-- The state with a field made `v` (modulo its width). -/
def set (s : State) (f : Fld) (v : Nat) : State := s.wrN f.addr (withBits (s.rdN f.addr) f.lo f.width v)

/-- The state with a one-bit field made `b`. -/
def setB (s : State) (f : Fld) (b : Bool) : State := s.set f (if b then 1 else 0)

/-- A 64-bit register pair, the lower word at `a` (R41). -/
def rd64 (s : State) (a : Nat) : Nat := s.rdN a + 2 ^ 32 * s.rdN (a + 4)

/-- The pair at `a` takes the low 64 bits of `n`. -/
def wr64 (s : State) (a n : Nat) : State := (s.wrN a (n % 2 ^ 32)).wrN (a + 4) (n / 2 ^ 32)

/-- A 64-bit register pair read as two's complement. -/
def rdI64 (s : State) (a : Nat) : Int := signedOf 64 (s.rd64 a)

/-- The pair at `a` takes `i`, saturating, in two's complement. -/
def wrI64 (s : State) (a : Nat) (i : Int) : State := s.wr64 a (wordOf 64 (satSigned 64 i))

/-- A counter that holds at 0xFFFF_FFFF counts `n`. -/
def bumpBy (s : State) (a n : Nat) : State := s.wrSat a (s.rdN a + n)

/-- A counter that holds at 0xFFFF_FFFF counts one. -/
def bump (s : State) (a : Nat) : State := s.bumpBy a 1

/-- A wrapping 32-bit counter counts `n`. -/
def wrapBy (s : State) (a n : Nat) : State := s.wrN a (s.rdN a + n)

/-- A field counter that holds at its largest value counts one. -/
def bumpF (s : State) (f : Fld) : State := s.set f (satNat f.width (s.get f + 1))

/-- A wrapping field counter counts one. -/
def wrapF (s : State) (f : Fld) : State := s.set f (s.get f + 1)

/-- A wrapping 64-bit counter counts `n`. -/
def bump64 (s : State) (a n : Nat) : State := s.wr64 a (s.rd64 a + n)

/-- The state with a list of register words written in order. -/
def wrList (s : State) (l : List (Nat × Word)) : State := l.foldl (fun s e => s.wr e.1 e.2) s

/-- Words written from `a` on, four bytes apart. -/
def wrWords (s : State) (a : Nat) : List Nat → State
  | [] => s
  | w :: r => (s.wrN a w).wrWords (a + 4) r

/-! ### Free values -/

/-- The next free number: what the spec leaves open (an uninterpreted Config value of the counter), and the counter advanced. -/
def tick (s : State) : State := { s with freeCtr := s.freeCtr + 1 }

/-- `num / den` where the spec states no rounding: the quotient rounded down, or the next number up where it does not divide, as the
free bit of `Config.roundUp` says. -/
def roundFree (s : State) (num : Int) (den : Nat) : Int :=
  if den = 0 then 0
  else if num % (den : Int) = 0 then num / (den : Int)
  else if Config.roundUp s.freeCtr then num / (den : Int) + 1 else num / (den : Int)

/-- `roundFree` of a number that is not negative. -/
def roundFreeN (s : State) (num den : Nat) : Nat := (s.roundFree num den).toNat

/-- The square root of a number where the spec states no rounding: the root rounded down, or the next number up. -/
def sqrtFree (s : State) (n : Nat) : Nat :=
  let r := Nat.sqrt n
  if r * r = n then r else if Config.roundUp s.freeCtr then r + 1 else r

end State

/-! ### Units of time -/

/-- Units of 2^-48 ns in one nanosecond. -/
def nsU : Nat := 2 ^ 48

/-- Units of 2^-48 ns in one millisecond and in one second. -/
def msU : Nat := 1000000 * nsU
def secU : Nat := 1000000000 * nsU

/-- The parts of a time (R63): seconds, nanoseconds within the second and fraction of a nanosecond in units of 2^-48 ns. -/
def secOf (t : Nat) : Nat := t / secU
def nsOf (t : Nat) : Nat := t % secU / nsU
def fracOf (t : Nat) : Nat := t % nsU

/-- The published fraction, in units of 2^-32 ns (R63). -/
def frac32Of (t : Nat) : Nat := fracOf t / 2 ^ 16

/-- A time from its parts, the fraction in units of 2^-48 ns. -/
def timeOf (sec ns frac : Nat) : Nat := sec * secU + ns * nsU + frac

/-- The largest time of R63: 48-bit seconds. -/
def timeMax : Nat := 2 ^ 48 * secU - 1

/-- A time in picoseconds, rounded down; and picoseconds as units of 2^-48 ns, rounded down. -/
def psOf (t : Nat) : Nat := t * 1000 / nsU
def ofPs (ps : Nat) : Nat := ps * nsU / 1000
def ofPsI (ps : Int) : Int := ps * (nsU : Int) / 1000
def psOfI (t : Int) : Int := t * 1000 / (nsU : Int)

/-! ### Sparse byte memories (DRAM, host memory) -/

/-- The byte at an address: the listed one, or 0. -/
def memByte : List Host.Cell → Nat → Byte
  | [], _ => 0
  | (k, v) :: r, a => if k = a then v else memByte r a

/-- The memory without entries at `a`. -/
def memDrop : List Host.Cell → Nat → List Host.Cell
  | [], _ => []
  | (k, v) :: r, a => if k = a then memDrop r a else (k, v) :: memDrop r a

/-- The memory with the entry (a, b), whatever b is. -/
def memInsert : List Host.Cell → Nat → Byte → List Host.Cell
  | [], a, b => [(a, b)]
  | (k, v) :: r, a, b =>
    if k = a then (a, b) :: r else if a < k then (a, b) :: (k, v) :: r else (k, v) :: memInsert r a b

/-- The memory after a byte is stored: no entry where the byte is what an unlisted address reads as. -/
def memStore (m : List Host.Cell) (a : Nat) (b : Byte) : List Host.Cell :=
  if b = 0 then memDrop m a else memInsert m a b

/-- Bytes stored from `a` on. -/
def memStoreList (m : List Host.Cell) (a : Nat) : List Byte → List Host.Cell
  | [] => m
  | b :: r => memStoreList (memStore m a b) (a + 1) r

/-- `n` bytes read from `a` on. -/
def memRead (m : List Host.Cell) (a n : Nat) : List Byte := (List.range n).map (fun k => memByte m (a + k))

/-- The canonical form of a byte memory: addresses strictly rising, no entry equal to what an unlisted address reads as. -/
def memWf (m : List Host.Cell) : Bool :=
  decide (m.Pairwise (fun x y => x.1 < y.1)) && m.all (fun e => e.2 != 0)

end Sys2Proof.Machine
end

