-- ==== Sys2Proof/Machine/Flags.lean ====
section
/-! DEFINITION. What follows from an event: sticky event bits and their interrupts (R43), the journal's event stamps (R453), messages to the
Pips (R379), and the fault collector's reactions (chapter 20). -/

namespace Sys2Proof.Machine

namespace State

/-! ### Time view and mode -/

/-- The time core counts: TCLK is present, or TIME_STATE is BRIDGE (R77, R78). -/
def counting (s : State) : Bool := s.flag Fld.TC_STAT_TCLK_OK || s.get Fld.TC_STAT_STATE == 5

/-- TIME_STATE (R75). -/
def timeState (s : State) : Nat := s.get Fld.TC_STAT_STATE

/-- The device is in the safe state (R484). -/
def safe (s : State) : Bool := s.flag Fld.FC_STAT_SAFE

/-- The time view in nanoseconds since the epoch (R25): time-core time to within 2 ns. -/
def view (s : State) : Nat := s.tc.now / nsU + (Config.viewError s.freeCtr).val - 2

/-- Seconds, and nanoseconds within the second, of the time view. -/
def viewSec (s : State) : Nat := s.view / 1000000000
def viewNs (s : State) : Nat := s.view % 1000000000

/-! ### Interrupts -/

/-- The page's vector is signalled for an event bit whose enable is set. -/
def signal (s : State) (page bit : Nat) : State :=
  if bitAt (s.rdN (page * 0x1000 + 0x14)) bit then { s with msix := s.msix ++ [⟨page, bit⟩] } else s

/-! ### Journal events -/

/-- An event is stamped at its source and sets out for the merge unit (R22, R453). `full` is the stamp at full resolution for the
TCLK-domain sources; otherwise the time view stamps it. -/
def emitWith (s : State) (full : Bool) (source cls : Nat) (name : String) (payload : Nat) (conseq forced : Bool) : State :=
  if s.safe then s else
  let st := if full then s.tc.now / 2 ^ 38 else s.view * 1024
  { s with freeCtr := s.freeCtr + 1, jn := { s.jn with inflight := s.jn.inflight ++
      [{ stamp := st, epoch := s.jn.epoch, source := source, code := (Config.eventCode source name).toNat, conseq := conseq,
         forced := forced, payload := payload % 2 ^ 64, cls := cls, pkt := [], lastGasp := false }] } }

/-- An event of a CCLK-domain source whose payload the spec does not give. -/
def emit (s : State) (source cls : Nat) (name : String) : State :=
  s.emitWith false source cls name (Config.eventPayload name s.freeCtr).toNat false false

/-- An event of a TCLK-domain source whose payload the spec does not give. -/
def emitT (s : State) (source cls : Nat) (name : String) : State :=
  s.emitWith true source cls name (Config.eventPayload name s.freeCtr).toNat false false

/-! ### Messages to Pips -/

/-- The Pip of a number. -/
def pip (s : State) (k : Nat) : Pip := s.pips.getD k Pip.blank

/-- The state with a Pip changed. -/
def modPip (s : State) (k : Nat) (f : Pip → Pip) : State := { s with pips := s.pips.modify k f }

/-- A Pip that can take messages: it runs or waits, and is not fenced. -/
def pipAlive (s : State) (k : Nat) : Bool := s.flag (Fld.PPk_STAT_RUNNING k) && !s.flag (Fld.PPk_STAT_FENCED k)

/-- A Pip in service runs a ROM program (R389). The model gives a ROM program's effect directly where the spec states it. -/
def romRuns (s : State) (k id : Nat) : Bool := s.pipAlive k && s.flag (Fld.PPk_IMG_ROM k) && s.get (Fld.PPk_IMG_ROMID k) == id

/-- A message reaches a Pip's inbox of 16, or is dropped; a full inbox counts the drop (R379), and a Pip out of service drops what
reaches it, counted for the wheel agent (R386). -/
def tell (s : State) (k : Nat) (m : PipMsg) : State :=
  if s.pipAlive k then
    if (s.pip k).inbox.length < 16 then s.modPip k (fun p => { p with inbox := p.inbox ++ [m] })
    else ((s.bump (Reg.PPk_INBOX_OVF k)).set (Fld.PPk_EVT_INBOX_OVF k) 1).signal (0xA0 + k) 3
  else if k = 24 then s.bump (Reg.PPk_INBOX_OVF 24)
  else s

/-! ### The fault collector -/

/-- The class of a fault source (R474). -/
def fcClass (src : Nat) : Nat :=
  ([0, 1, 1, 2, 2, 2, 2, 3, 3, 3, 3, 3, 3, 4, 4, 5, 5, 5, 6, 7, 7, 8, 8, 8, 9, 10, 11] : List Nat).getD src 0

/-- The reset target of a fault source, none where the table gives "—" (R474, R480). -/
def fcTarget (src : Nat) : Option Nat :=
  (([none, none, some 0, none, none, some 1, some 1, some 2, some 2, some 2, some 2, some 2, some 13, some 3, some 3, some 4, some 5,
    some 7, some 6, some 8, some 9, some 10, some 10, none, some 11, some 12, some 14] : List (Option Nat)).getD src none)

/-- The targets that open shadows cover (R481). -/
def shadowMask (s : State) : Nat := s.fc.shadows.foldl (fun m x => m ||| x.covers) 0

/-- A detection by this source is consequential now (R481). -/
def consequential (s : State) (src : Nat) : Bool :=
  match fcTarget src with
  | some t => bitAt s.shadowMask t
  | none => false

/-- FC_STAT and FC_SHADOW follow the latches, the safe state and the open shadows (R476, R481, R482). -/
def refreshFc (s : State) : State :=
  let pend := s.rdN Reg.FC_PEND
  let hold := s.flag Fld.FC_RST_CAUSE_VALID && s.flag Fld.FC_RST_CAUSE_PIN
  let s1 := s.setB Fld.FC_STAT_FAULT_PIN ((pend &&& s.fc.pinl) != 0 || s.safe || hold)
  let s2 := s1.setB Fld.FC_STAT_NMI ((pend &&& s.fc.nmil) != 0 || s.safe)
  let s3 := s2.setB Fld.FC_STAT_SHADOW (!s.fc.shadows.isEmpty)
  s3.wrN Reg.FC_SHADOW s.shadowMask

/-- Whether the squelch cause FAULT holds (R476). -/
def faultSquelch (s : State) : Bool := (s.rdN Reg.FC_PEND &&& s.fc.sql) != 0 || s.safe

/-- The window count of a source after one more counted occurrence (R478). -/
def fcWindow (s : State) (src : Nat) : Nat × State :=
  match s.fc.windows.find? (fun w => w.source == src) with
  | some w =>
    (w.count + 1, { s with fc := { s.fc with windows := s.fc.windows.map (fun x => if x.source = src then { x with count := x.count + 1 } else x) } })
  | none =>
    let w := s.get (Fld.FC_SRCs_WIN_W src)
    (1, { s with fc := { s.fc with windows := s.fc.windows ++ [SevWindow.mk src 1 (if w = 0 then 65536 else w)] } })

/-- The safe state is entered (R484): FC_STAT.SAFE is set, and the pins follow. What it does to the blocks is `settle`'s. -/
def enterSafe (s : State) : State := (s.setB Fld.FC_STAT_SAFE true).refreshFc

/-- A block reset of a target begins and opens its shadow (R480, R481). -/
def beginBlockReset (s : State) (t inst : Nat) : State :=
  let covers := setBitAt (s.get (Fld.FC_DEPt_DEPS t)) t
  let s1 := { s with fc := { s.fc with shadows := s.fc.shadows ++ [ResetShadow.mk t inst covers false] } }
  (s1.emit 0x3C 2 "BLOCK_RESET").refreshFc

/-- The notice of an occurrence (R483). -/
def faultNotice (s : State) (src cls level : Nat) (severe esc pin sq conseq : Bool) : State :=
  let b := fun (x : Bool) (k : Nat) => if x then 2 ^ k else 0
  s.tell 25 ⟨0x22, 0, [src + cls * 2 ^ 8 + level * 2 ^ 12 + b severe 15 + b esc 16 + b pin 17 + b sq 18 + b conseq 19,
    s.rdN (Reg.FC_SRCs_CNT src), s.viewNs]⟩

/-- The level of an occurrence by the procedure of R479, and whether it escalated. -/
def fcLevel (s : State) (src : Nat) (severe : Bool) : Nat × Bool :=
  let base0 := if severe then s.get (Fld.FC_SRCs_CFG_SEV_REACT src) else s.get (Fld.FC_SRCs_CFG_REACT src)
  let base := min base0 4
  let c := fcClass src
  let pendInClass := (List.range 27).any (fun k => fcClass k == c && bitAt (s.rdN Reg.FC_PEND) k)
  let raw := if base = 0 then (0, false)
    else if pendInClass then (max base (min (s.get (Fld.FC_CLASSc_LAST c) + 1) (min (s.get (Fld.FC_CLASSc_CAP c)) 4)), true)
    else (base, false)
  let l1 := if raw.1 = 3 && (fcTarget src).isNone then 2 else raw.1
  (if s.fc.baseLoaded then l1 else min l1 2, raw.2)

/-- What an occurrence with its level does (R475, R476, R480, R482). -/
def fcReact (s : State) (src inst level : Nat) (severe esc : Bool) : State :=
  if level = 0 then s else
  let pin := s.flag (if severe then Fld.FC_SRCs_CFG_SEV_PIN src else Fld.FC_SRCs_CFG_PIN src)
  let sq := s.flag (if severe then Fld.FC_SRCs_CFG_SEV_SQ src else Fld.FC_SRCs_CFG_SQ src)
  let s1 := s.wrN Reg.FC_PEND (setBitAt (s.rdN Reg.FC_PEND) src)
  let s2 := { s1 with fc := { s1.fc with
    pinl := putBitAt s1.fc.pinl src (bitAt s1.fc.pinl src || pin),
    sql := putBitAt s1.fc.sql src (bitAt s1.fc.sql src || sq),
    nmil := putBitAt s1.fc.nmil src (bitAt s1.fc.nmil src || 2 ≤ level) } }
  let s3 := s2.set (Fld.FC_CLASSc_LAST (fcClass src)) level
  let s4 := (s3.set Fld.FC_EVT_FAULT 1).signal 0xD8 0
  let s5 := if esc then (s4.set Fld.FC_EVT_ESCALATE 1).signal 0xD8 1 else s4
  let s6 := if level = 3 then
      match fcTarget src with
      | some t => s5.beginBlockReset t inst
      | none => s5
    else s5
  if level = 4 then
    { (s6.wrN Reg.FC_RST_CAUSE (2 ^ 31 + (if pin then 2 ^ 12 else 0) + (if esc then 2 ^ 11 else 0) + level * 2 ^ 8 + src)) with
      fc := { s6.fc with chipResetDue := true } }
  else s6

/-- One occurrence of a fault source (R474 to R484), raised by hardware or by a force. -/
def raiseFault (s : State) (src inst : Nat) (forced : Bool) : State :=
  if s.safe then s.bump (Reg.FC_SRCs_CNT src)
  else if src = 0 then ((s.bump (Reg.FC_SRCs_CNT 0)).emitWith false 0x3C 2 "FC_SELF" 0 false forced).enterSafe
  else if s.consequential src then
    let s1 := s.bump (Reg.FC_SRCs_CONSEQ src)
    let s2 := s1.emitWith false 0x3C 2 "FAULT" src true forced
    if s2.flag Fld.FC_CTL_NOTIFY_CONSEQ then s2.faultNotice src (fcClass src) 0 false false false false true else s2
  else
    let s1 := s.bump (Reg.FC_SRCs_CNT src)
    let (n, s2) := s1.fcWindow src
    let thr := max 1 (s2.get (Fld.FC_SRCs_CFG_N src))
    let severe := thr ≤ n
    let s3 := if severe && !bitAt (s2.rdN Reg.FC_SEVERE) src then
        ((s2.wrN Reg.FC_SEVERE (setBitAt (s2.rdN Reg.FC_SEVERE) src)).set Fld.FC_EVT_SEVERE 1).signal 0xD8 2
      else s2
    let (level, esc) := s3.fcLevel src severe
    let s4 := s3.emitWith false 0x3C 2 "FAULT" (src + level * 2 ^ 8) false forced
    let s5 := s4.fcReact src inst level severe esc
    let notify := s5.flag (if severe then Fld.FC_SRCs_CFG_SEV_NOTIFY src else Fld.FC_SRCs_CFG_NOTIFY src)
    let s6 := if notify then s5.faultNotice src (fcClass src) level severe esc
        (s5.flag (if severe then Fld.FC_SRCs_CFG_SEV_PIN src else Fld.FC_SRCs_CFG_PIN src))
        (s5.flag (if severe then Fld.FC_SRCs_CFG_SEV_SQ src else Fld.FC_SRCs_CFG_SQ src)) false
      else s5
    s6.refreshFc

/-- The fault source that an event bit of a page raises (R529). -/
def faultOfEvent (page bit : Nat) : Option Nat :=
  if page = 0x001 && bit = 2 then some 2
  else if page = 0x0F0 && bit = 0 then some 3
  else if page = 0x020 && bit = 5 then some 5
  else if page = 0x020 && bit = 6 then some 6
  else if page = 0x040 && bit = 1 then some 10
  else if page = 0x040 && bit = 6 then some 11
  else if 0x090 ≤ page && page ≤ 0x09F && bit = 3 then some 12
  else if page = 0x030 && bit = 0 then some 13
  else if page = 0x030 && bit = 2 then some 14
  else if 0x050 ≤ page && page ≤ 0x05F && bit = 13 then some 15
  else if page = 0x060 && bit = 1 then some 16
  else if 0x0C8 ≤ page && page ≤ 0x0CB && bit = 4 then some 17
  else if page = 0x070 && bit = 4 then some 19
  else if page = 0x078 && bit = 4 then some 20
  else if page = 0x080 && bit = 0 then some 21
  else if page = 0x080 && bit = 1 then some 22
  else if 0x0A0 ≤ page && page ≤ 0x0BB && bit = 0 then some 24
  else if page = 0x0C1 && (bit = 4 || bit = 5) then some 26
  else none

/-- The instance of a page within its block, for the sources whose target is the instance that raised the fault (R529). -/
def instanceOf (page : Nat) : Nat :=
  if 0x050 ≤ page && page ≤ 0x05F then page - 0x050
  else if 0x090 ≤ page && page ≤ 0x09F then page - 0x090
  else if 0x0A0 ≤ page && page ≤ 0x0BB then page - 0x0A0
  else if 0x0C8 ≤ page && page ≤ 0x0CB then page - 0x0C8
  else 0

/-- An event bit of a page is set, by hardware or by a force (R43): the bit sticks, its interrupt is signalled, and the fault source that
R529 gives for it occurs. -/
def raiseEvt (s : State) (page bit : Nat) (forced : Bool) : State :=
  let a := page * 0x1000 + 0x10
  let s1 := (s.wrN a (setBitAt (s.rdN a) bit)).signal page bit
  match faultOfEvent page bit with
  | some src => s1.raiseFault src (instanceOf page) forced
  | none => s1

/-- A detection that its block answers by fencing: inside a shadow that covers it, the fencing is withheld and the detection is consequential
(R481); `fence` is what the block's own chapter does, the source's event bit among it. -/
def fencing (s : State) (src inst : Nat) (fence : State → State) : State :=
  if s.consequential src && !s.safe then s.raiseFault src inst false else fence s

/-- An event field is set by its hardware source. -/
def evt (s : State) (f : Fld) : State := s.raiseEvt (pageOf f.addr) f.lo false

/-- A level source's condition appears or goes away (R474, R477). -/
def setActive (s : State) (src : Nat) (b : Bool) : State :=
  s.wrN Reg.FC_ACTIVE (putBitAt (s.rdN Reg.FC_ACTIVE) src b)

end State

end Sys2Proof.Machine
end

