-- ==== Sys2Proof/Machine/Counters.lean ====
section
/-! DEFINITION. The performance counters (chapter 21): what an event adds, overflow, and the selections the device provides. The counting of CCLK
cycles is `Cycles.lean`'s. -/

namespace Sys2Proof.Machine

/-- The modes that an event code supports (R487); none for a code the device does not provide. -/
def pcModes (ev : Nat) : List Nat :=
  if ev = 0x0501 || ev = 0x0502 || ev = 0x0901 || ev = 0x0B01 || ev = 0x0E01 || ev = 0x0F01 || ev = 0x1D01 then [0]
  else if ev = 0x0B40 || ev = 0x0C40 || ev = 0x1840 then [1, 3]
  else if ev = 0x0E00 || ev = 0x0F00 then [2]
  else []

/-- Whether a code names its instance by INST (R487). -/
def pcHasInst (ev : Nat) : Bool := ev == 0x0501 || ev == 0x0502 || ev == 0x0B01 || ev == 0x0B40 || ev == 0x1D01

namespace State

/-- A group counts now (R489). -/
def pcRunning (s : State) (g : Nat) : Bool :=
  let r := s.get (Fld.PCg_RUN_RUN g)
  r == 1 || (r == 2 && s.pc.phase.getD g 0 == 2)

/-- A counter takes `n` more, and overflows past 2^48 − 1 (R490). -/
def pcAdd (s : State) (g j n : Nat) : State :=
  if n = 0 then s else
  let v := s.rdN (Reg.PCg_CNTj_L g j) + 2 ^ 32 * bitsOf (s.rdN (Reg.PCg_CNTj_H g j)) 0 16 + n
  let s1 := (s.wrN (Reg.PCg_CNTj_L g j) (v % 2 ^ 32)).wrN (Reg.PCg_CNTj_H g j) (v / 2 ^ 32 % 2 ^ 16)
  if v < 2 ^ 48 then s1
  else
    let s2 := s1.raiseEvt (0xE0 + g) j false
    if s2.flag (Fld.PCg_RUN_FRZ_OVF g) then { (s2.set (Fld.PCg_RUN_RUN g) 0) with pc := { s2.pc with phase := s2.pc.phase.set g 0 } } else s2

/-- A selected event reports a quantity: every running counter that selects it in mode EVENT takes it (R486, R487). -/
def pcEvent (s : State) (ev inst n : Nat) : State :=
  (List.range 4).foldl (fun t g =>
    if !t.pcRunning g then t
    else (List.range 8).foldl (fun u j =>
      if u.get (Fld.PCg_SELj_MODE g j) = 0 && u.get (Fld.PCg_SELj_EVENT g j) = ev && (!pcHasInst ev || u.get (Fld.PCg_SELj_INST g j) = inst) then
        u.pcAdd g j n
      else u) t) s

/-- A write of PCg_SELj that has passed the access checks: MODE 4 to 7 stored as 0, and SEL_BAD for a selection the device does not provide
(R486, R487). -/
def wrPcSel (s : State) (g j v : Nat) : State :=
  let v1 := if 4 ≤ bitsOf v 21 3 then withBits v 21 3 0 else v
  let s1 := s.wrN (Reg.PCg_SELj g j) v1
  if (pcModes (bitsOf v1 0 16)).contains (bitsOf v1 21 3) then s1 else s1.evt (Fld.PCg_EVT_SEL_BAD g)

/-- A write of PCg_RUN (R489): RUN 3 taken as 0, and RUN 2 armed for the next raised boundary. -/
def wrPcRun (s : State) (g v : Nat) : State :=
  let r := if bitsOf v 0 2 = 3 then 0 else bitsOf v 0 2
  let s1 := s.wrN (Reg.PCg_RUN g) (withBits v 0 2 r)
  { s1 with pc := { s1.pc with phase := s1.pc.phase.set g (if r = 2 then 1 else 0) } }

/-- RUN 2 at a raised boundary (R489): a waiting group starts, a running one stops. -/
def pcFrame (s : State) : State :=
  (List.range 4).foldl (fun t g =>
    if t.get (Fld.PCg_RUN_RUN g) ≠ 2 then t
    else if t.pc.phase.getD g 0 = 1 then { t with pc := { t.pc with phase := t.pc.phase.set g 2 } }
    else
      let t1 := t.set (Fld.PCg_RUN_RUN g) 0
      ({ t1 with pc := { t1.pc with phase := t1.pc.phase.set g 0 } }).evt (Fld.PCg_EVT_FRAME_DONE g)) s

end State

end Sys2Proof.Machine
end

