-- ==== Sys2Proof/Machine/Budget.lean ====
section
/-! DEFINITION. The wheel's activity classes: admission, lending and stalls (R98 to R103), and what replenishment takes into force
(R99, R100, R104). -/

namespace Sys2Proof.Machine

/-- The members of the group a class belongs to (R98); none where it owns its resource alone. -/
def groupOf (i : Nat) : List Nat :=
  if i = 2 || i = 3 then [2, 3] else if i = 1 || i = 4 || i = 13 then [1, 4, 13] else []

/-- The weight of a class (R101, R102). -/
def classWeight (i : Nat) : Nat := if i = 4 then 64 else if i = 13 then 512 else 1

/-- The minimum floor and the maximum ceiling of a class (R98). -/
def classMinFloor (i : Nat) : Nat := ([10000, 0, 0, 0, 0, 0, 0, 0, 1024, 1, 0, 184320, 0, 0, 0, 0] : List Nat).getD i 0
def classMaxCeil (i : Nat) : Nat :=
  ([400000, 8388608, 10000000, 10000000, 262144, 32000000, 2487500, 512, 65536, 16, 24000000, 310937, 64, 131072, 65536, 0] : List Nat).getD i 0

namespace State

/-- The capacity of a class's group (R101). -/
def groupCapacity (s : State) (i : Nat) : Nat :=
  if i = 2 || i = 3 then 1250000 * s.whl.aesCores else s.rdN Reg.WHL_GRP_DRAM_IF

/-- Units spent by a class in this frame. -/
def spent (s : State) (j : Nat) : Nat := s.whl.spent.getD j 0

/-- Weighted spending, floor and effective ceiling of a class (R102). -/
def wSpent (s : State) (j : Nat) : Nat := classWeight j * s.spent j
def wFloor (s : State) (j : Nat) : Nat := classWeight j * s.rdN (Reg.WHLn_FLOOR_IF j)
def wCeil (s : State) (j : Nat) : Nat :=
  classWeight j * s.rdN (Reg.WHLn_CEIL_IF j) + s.whl.borrowed.getD j 0 - s.whl.lent.getD j 0

/-- What a lender can lend (R102). -/
def lendable (s : State) (j : Nat) : Nat := s.wCeil j - max (s.wSpent j) (s.wFloor j)

/-- The lenders of class `i`, ascending (R102). -/
def lenders (s : State) (i : Nat) : List Nat := (groupOf i).filter (fun j => j != i && s.whl.lend.getD j false)

/-- `short` weighted units taken from lenders in order, and given to the borrower (R102). -/
def takeFrom (s : State) (i : Nat) : Nat → List Nat → State
  | _, [] => s
  | short, j :: r =>
    let t := min short (s.lendable j)
    takeFrom { s with whl := { s.whl with lent := s.whl.lent.modify j (· + t), borrowed := s.whl.borrowed.modify i (· + t) } } i (short - t) r

/-- The outcome of `admitFor` (R102) without its effects: whether `c` units of class `i` are admitted. -/
def admits (s : State) (i c : Nat) : Bool :=
  let g := groupOf i
  let need := s.wSpent i + classWeight i * c
  let others := (g.filter (· != i)).foldl (fun n j => n + max (s.wSpent j) (s.wFloor j)) 0
  if !g.isEmpty && others + max need (s.wFloor i) > s.groupCapacity i then false
  else if need ≤ s.wCeil i then true
  else if g.isEmpty || !s.whl.lend.getD i false then false
  else (s.lenders i).foldl (fun n j => n + s.lendable j) 0 ≥ need - s.wCeil i

/-- `c` units of class `i` are spent, whatever the test says (R463). -/
def charge (s : State) (i c : Nat) : State := { s with whl := { s.whl with spent := s.whl.spent.modify i (· + c) } }

/-- An admitted request's effects: lending where the ceiling falls short, and the spending (R102). -/
def admitted (s : State) (i c : Nat) : State :=
  let need := s.wSpent i + classWeight i * c
  ((s.takeFrom i (need - s.wCeil i) (s.lenders i)).charge i c).pcEvent 0x0501 i c

/-- A class stalls (R103). -/
def stall (s : State) (i : Nat) : State :=
  let first := !bitAt s.whl.stalledNow i
  let s1 := ({ s with whl := { s.whl with stalledNow := setBitAt s.whl.stalledNow i } }).pcEvent 0x0502 i 1
  let s2 := (s1.set (Fld.WHLn_STAT_STALLED i) 1).evt Fld.WHL_EVT_STALL
  if first then s2.bump (Reg.WHLn_STALLS i) else s2

/-- A request to spend `c` units of class `i`: whether it is admitted, and the state after (R102, R103). -/
def admitFor (s : State) (i c : Nat) : Bool × State :=
  if s.admits i c then (true, s.admitted i c) else (false, s.stall i)

/-- A stalled command is kept by its requester (R103). -/
def withhold (s : State) (i : Instr) : State := { s with whl := { s.whl with withheld := s.whl.withheld ++ [i] } }

/-- A floor or ceiling as R104 scales it: by the AES cores or the service Pips in service. -/
def scaled (s : State) (i v : Nat) : Nat :=
  if i = 2 || i = 3 then v * s.get Fld.WHL_SCALE_AES / 8
  else if i = 6 then v * s.get Fld.WHL_SCALE_PIPS / 4
  else v

/-- Whether a class's own values may be taken (R99). -/
def classOk (s : State) (i : Nat) : Bool :=
  let f := s.rdN (Reg.WHLn_FLOOR i); let c := s.rdN (Reg.WHLn_CEIL i)
  classMinFloor i ≤ f && f ≤ c && c ≤ classMaxCeil i

/-- The floor that would be in force for a class: its register's, scaled, where its own check passes, otherwise the floor in force. -/
def nextFloor (s : State) (i : Nat) : Nat :=
  if s.classOk i then s.scaled i (s.rdN (Reg.WHLn_FLOOR i)) else s.rdN (Reg.WHLn_FLOOR_IF i)

/-- The DRAM capacity that WHL_GRP_DRAM asks for (R101). -/
def dramWanted (s : State) : Nat := clampNat 4194304 81920000 (s.rdN Reg.WHL_GRP_DRAM)

/-- Whether a class's group accepts its floors (R99). -/
def groupOk (s : State) (i : Nat) : Bool :=
  let g := groupOf i
  let sum := g.foldl (fun n j => n + classWeight j * s.nextFloor j) 0
  if g.isEmpty then true
  else if i = 2 || i = 3 then sum ≤ s.groupCapacity i
  else sum ≤ s.dramWanted

/-- A class takes its values into force, or is refused (R99, R104). `was` is the state the checks are made in. -/
def takeClass (was : State) (s : State) (i : Nat) : State :=
  if was.classOk i && was.groupOk i then
    let s1 := s.wrN (Reg.WHLn_FLOOR_IF i) (was.scaled i (was.rdN (Reg.WHLn_FLOOR i)))
    let s2 := s1.wrN (Reg.WHLn_CEIL_IF i) (was.scaled i (was.rdN (Reg.WHLn_CEIL i)))
    { s2 with whl := { s2.whl with lend := s2.whl.lend.set i (was.flag (Fld.WHLn_CFG_LEND i) && !(groupOf i).isEmpty) } }
  else ((s.set (Fld.WHLn_STAT_REFUSED i) 1).evt Fld.WHL_EVT_BUDGET_REFUSED).emit 0x01 1 "BUDGET_REFUSED"

/-- The checks of R99 at a replenishment, for every class but 15, and the DRAM capacity with its group. -/
def takeBudgets (s : State) : State :=
  let s1 := (List.range 15).foldl (fun t i => takeClass s t i) s
  if s.groupOk 1 then s1.wrN Reg.WHL_GRP_DRAM_IF s.dramWanted else s1

/-- WHLn_USED, BORROWED and LENT report the frame just completed (R102). -/
def reportFrame (s : State) : State :=
  (List.range 15).foldl (fun t i =>
    ((t.wrN (Reg.WHLn_USED i) (s.spent i)).wrN (Reg.WHLn_BORROWED i) (ceilDiv (s.whl.borrowed.getD i 0) (classWeight i))).wrN
      (Reg.WHLn_LENT i) (ceilDiv (s.whl.lent.getD i 0) (classWeight i))) s

/-- Replenishment of every class (R100), with the checks of R99 first. -/
def replenish (s : State) : State :=
  let s1 := s.takeBudgets
  { s1 with whl := { s1.whl with spent := List.replicate 16 0, borrowed := List.replicate 16 0, lent := List.replicate 16 0,
                                 lastReplenish := s1.tc.cycle } }

/-- Replenishment of the SEAL class alone (R94). -/
def replenishSeal (s : State) : State := { s with whl := { s.whl with spent := s.whl.spent.set 11 0 } }

end State

end Sys2Proof.Machine
end

