-- ==== Sys2Proof/Machine/CheckValue.lean ====
section
/-! DEFINITION. The check-value units (R492 to R497): the CRC, memory scans and streams. -/

namespace Sys2Proof.Machine

/-- One bit of a CRC register of `w` bits, most significant first. -/
def cvShift (w poly r : Nat) : Nat := if r.testBit (w - 1) then (2 * r % 2 ^ w) ^^^ (poly % 2 ^ w) else 2 * r % 2 ^ w

/-- `k` shifts. -/
def cvShifts (w poly : Nat) : Nat → Nat → Nat
  | 0, r => r
  | k + 1, r => cvShifts w poly k (cvShift w poly r)

/-- One byte through the running register (R492, R493). -/
def cvByte (w poly : Nat) (refin : Bool) (r : Nat) (b : Byte) : Nat :=
  let v := if refin then reflectBits 8 b.toNat else b.toNat
  cvShifts w poly 8 ((r % 2 ^ w) ^^^ (v * 2 ^ (w - 8)))

/-- The width that CVn_CFG selects. -/
def cvWidth (cfg : Nat) : Nat := match bitsOf cfg 4 2 with | 1 => 8 | 2 => 16 | _ => 32

/-- Bytes through the running register under a configuration word. -/
def cvRun (cfg poly ctx : Nat) (l : List Byte) : Nat := l.foldl (cvByte (cvWidth cfg) poly (bitAt cfg 0)) (ctx % 2 ^ cvWidth cfg)

/-- The result of a running register (R492): output reflection, then the output XOR. -/
def cvResult (cfg xorout ctx : Nat) : Nat :=
  let w := cvWidth cfg
  ((if bitAt cfg 1 then reflectBits w (ctx % 2 ^ w) else ctx % 2 ^ w) ^^^ xorout) % 2 ^ w

namespace State

/-- A memory scan begins (R494). -/
def cvGo (s : State) (n : Nat) : State :=
  if s.flag (Fld.CVn_STAT_BUSY n) then s.evt (Fld.CVn_EVT_BUSY_REJ n)
  else if s.get (Fld.CVn_CFG_MODE n) ≠ 0 then s
  else
    let cfg := s.rdN (Reg.CVn_CFG n)
    let len := max 1 (s.rdN (Reg.CVn_LEN n))
    let c0 := if s.flag (Fld.CVn_CFG_CHAIN n) then s.rdN (Reg.CVn_CTX n) else s.rdN (Reg.CVn_INIT n)
    let s1 := { s with cv := s.cv.set n (some ⟨s.rd64 (Reg.CVn_START_L n), len, c0, cfg, s.rdN (Reg.CVn_POLY n), s.rdN (Reg.CVn_XOROUT n)⟩) }
    ((s1.setB (Fld.CVn_STAT_BUSY n) true).wrN (Reg.CVn_DONE_BYTES n) 0).wrN (Reg.CVn_CTX n) c0

/-- The scan of a unit stops with `n` bytes done: CTX and DONE_BYTES say how far it came. -/
def cvStop (s : State) (u : Nat) (x : CvScan) (n : Nat) : State :=
  let c := cvRun x.cfg x.poly x.ctx (memRead s.dram x.start n)
  let s1 := { s with cv := s.cv.set u none }
  ((s1.wrN (Reg.CVn_CTX u) c).wrN (Reg.CVn_DONE_BYTES u) n).setB (Fld.CVn_STAT_BUSY u) false

/-- The bytes a running scan has processed: how far it has come is open (R494 gives only the highest rate). -/
def cvProgress (s : State) (x : CvScan) : Nat := Config.scanProgress s.freeCtr % x.len

/-- CVn_CMD.ABORT (R494). -/
def cvAbort (s : State) (n : Nat) : State :=
  match s.cv.getD n none with
  | some x => (s.cvStop n x (s.cvProgress x)).tick
  | none => s

/-- A write of CVn_CMD: GO, then ABORT. -/
def wrCvCmd (s : State) (n v : Nat) : State :=
  let s1 := if bitAt v 0 then s.cvGo n else s
  if bitAt v 1 then s1.cvAbort n else s1

/-- A write of CVn_CTX that has passed the access checks (R493). -/
def wrCvCtx (s : State) (n v : Nat) : State :=
  if s.flag (Fld.CVn_STAT_BUSY n) then s.evt (Fld.CVn_EVT_BUSY_REJ n) else s.wrN (Reg.CVn_CTX n) v

/-- A scan ends (R494): whole, or at an uncorrectable error after `n` bytes. -/
def cvComplete (s : State) (u : Nat) (ue : Option Nat) : State :=
  match s.cv.getD u none with
  | none => s
  | some x =>
    match ue with
    | some n => (s.cvStop u x (min n x.len)).evt (Fld.CVn_EVT_ERR u)
    | none =>
      let s1 := s.cvStop u x x.len
      (s1.wrN (Reg.CVn_RESULT u) (cvResult x.cfg x.xorout (s1.rdN (Reg.CVn_CTX u)))).evt (Fld.CVn_EVT_DONE u)

/-- The units attached to a stream, ascending (R495): the first serves it. -/
def cvUnits (s : State) (mode ring : Nat) : List Nat :=
  [1, 2, 3].filter (fun n => s.get (Fld.CVn_CFG_MODE n) == mode && (mode == 3 || s.get (Fld.CVn_CFG_RING n) == ring))

/-- The unit that serves a stream, with CONFLICT set at any other (R495). -/
def cvServe (s : State) (mode ring : Nat) : Option Nat × State :=
  match s.cvUnits mode ring with
  | [] => (none, s)
  | u :: r => (some u, r.foldl (fun t n => t.evt (Fld.CVn_EVT_CONFLICT n)) s)

/-- The check value of bytes under a unit, least significant byte first (R10, R495). -/
def cvBytes (s : State) (u : Nat) (l : List Byte) : List Byte :=
  let cfg := s.rdN (Reg.CVn_CFG u)
  leBytes (cvWidth cfg / 8) (cvResult cfg (s.rdN (Reg.CVn_XOROUT u)) (cvRun cfg (s.rdN (Reg.CVn_POLY u)) (s.rdN (Reg.CVn_INIT u)) l))

/-- The check value appended to a stream's frame, if a unit serves it (R495). -/
def cvAppend (s : State) (mode ring : Nat) (l : List Byte) : List Byte × State :=
  let x := s.cvServe mode ring
  match x.1 with
  | some u => (l ++ x.2.cvBytes u l, x.2)
  | none => (l, x.2)

/-- A host-bound frame checked and stripped (R495): none where it is dropped for a mismatch. -/
def cvCheck (s : State) (ring : Nat) (l : List Byte) : Option (List Byte) × State :=
  let x := s.cvServe 2 ring
  match x.1 with
  | none => (some l, x.2)
  | some u =>
    let k := cvWidth (x.2.rdN (Reg.CVn_CFG u)) / 8
    let body := l.take (l.length - k)
    if x.2.cvBytes u body = l.drop (l.length - k) then (some body, x.2) else (none, x.2.bump (Reg.CVn_MISMATCH u))

end State

end Sys2Proof.Machine
end

