-- ==== Sys2Proof/Machine/Packets.lean ====
section
/-! DEFINITION. Reading and changing frames: the Ethernet FCS, tags, EtherType, IP and UDP headers, and the header of a PTP message. The layouts of
these protocols are the standards' that the spec names (PRESUMED). Frames are lists of bytes from the destination address on, without FCS. -/

namespace Sys2Proof.Machine

/-- The Ethernet CRC-32. -/
def crc32 (l : List Byte) : Nat := crcBytes 0xEDB88320 0xFFFFFFFF l ^^^ 0xFFFFFFFF

/-- The FCS octets of a frame, as sent. -/
def fcsOf (l : List Byte) : List Byte := leBytes 4 (crc32 l)

/-- `n` bytes at an offset, and their value in network order. -/
def sliceOf (b : List Byte) (off n : Nat) : List Byte := (b.drop off).take n
def beAt (b : List Byte) (off n : Nat) : Nat := fromBe (sliceOf b off n)

/-- The bytes with those from `off` on replaced. -/
def putBytes (b : List Byte) (off : Nat) (v : List Byte) : List Byte := b.take off ++ v ++ b.drop (off + v.length)

/-- The value put at an offset in network order, in `n` bytes. -/
def putBe (b : List Byte) (off n v : Nat) : List Byte := putBytes b off (beBytes n (v % 256 ^ n))

/-- A tag's EtherType: 0x8100 or 0x88A8 (R257). -/
def isTag (t : Nat) : Bool := t == 0x8100 || t == 0x88A8

/-- The offset of a frame's EtherType under up to two tags (R257, R381). -/
def etherOff (b : List Byte) : Nat :=
  if isTag (beAt b 12 2) then (if isTag (beAt b 16 2) then 20 else 16) else 12

/-- A frame's EtherType under its tags. -/
def etherType (b : List Byte) : Nat := beAt b (etherOff b) 2

/-- The outer tag's TCI, if the frame has a tag of the type given. -/
def outerTag (b : List Byte) (tpid : Nat) : Option Nat := if beAt b 12 2 = tpid then some (beAt b 14 2) else none

/-- The network layer's offset, and whether the frame is IPv4 or IPv6. -/
def ipOff (b : List Byte) : Nat := etherOff b + 2
def isIp4 (b : List Byte) : Bool := etherType b == 0x0800
def isIp6 (b : List Byte) : Bool := etherType b == 0x86DD

/-- The IP protocol of a frame; none where it carries no IP. -/
def ipProto (b : List Byte) : Option Nat :=
  if isIp4 b then some (beAt b (ipOff b + 9) 1) else if isIp6 b then some (beAt b (ipOff b + 6) 1) else none

/-- The transport layer's offset. -/
def l4Off (b : List Byte) : Nat := if isIp4 b then ipOff b + beAt b (ipOff b) 1 % 16 * 4 else ipOff b + 40

/-- The UDP destination and source ports. -/
def udpDst (b : List Byte) : Option Nat := if ipProto b = some 17 then some (beAt b (l4Off b + 2) 2) else none
def udpSrc (b : List Byte) : Nat := beAt b (l4Off b) 2

/-- The IP source and destination addresses as bytes. -/
def ipSrc (b : List Byte) : List Byte :=
  if isIp4 b then sliceOf b (ipOff b + 12) 4 else if isIp6 b then sliceOf b (ipOff b + 8) 16 else []
def ipDst (b : List Byte) : List Byte :=
  if isIp4 b then sliceOf b (ipOff b + 16) 4 else if isIp6 b then sliceOf b (ipOff b + 24) 16 else []

/-- One's-complement sum of 16-bit words. -/
def onesSum : List Byte → Nat
  | a :: c :: r => a.toNat * 256 + c.toNat + onesSum r
  | [a] => a.toNat * 256
  | [] => 0

/-- A 16-bit one's-complement fold. -/
def fold16 (n : Nat) : Nat := let a := n % 65536 + n / 65536; let c := a % 65536 + a / 65536; c % 65536 + c / 65536

/-- The Internet checksum of bytes. -/
def inetSum (b : List Byte) : Nat := 65535 - fold16 (onesSum b)

/-- The UDP checksum of the datagram in a frame, over the pseudo-header (a sum of 0 is sent as 0xFFFF). -/
def udpSum (b : List Byte) : Nat :=
  let seg := sliceOf (putBe b (l4Off b + 6) 2 0) (l4Off b) (beAt b (l4Off b + 4) 2)
  let x := inetSum (ipSrc b ++ ipDst b ++ [0, 17] ++ beBytes 2 (seg.length % 65536) ++ seg)
  if x = 0 then 65535 else x

/-- The frame with its UDP checksum made right. -/
def fixUdp (b : List Byte) : List Byte := if ipProto b = some 17 then putBe b (l4Off b + 6) 2 (udpSum b) else b

/-- The frame with its IPv4 header checksum made right. -/
def fixIp (b : List Byte) : List Byte :=
  if isIp4 b then
    let h := sliceOf (putBe b (ipOff b + 10) 2 0) (ipOff b) (l4Off b - ipOff b)
    putBe b (ipOff b + 10) 2 (inetSum h)
  else b

/-! ### PTP messages -/

/-- The offset of the PTP message in a frame: EtherType 0x88F7, or UDP destination port 319 or 320 (R275). -/
def ptpOff (b : List Byte) : Option Nat :=
  if etherType b = 0x88F7 then some (ipOff b)
  else match udpDst b with
    | some d => if d = 319 || d = 320 then some (l4Off b + 8) else none
    | none => none

/-- A PTP event message: EtherType 0x88F7 with an event messageType, or UDP destination port 319 (R275). -/
def ptpEvent (b : List Byte) : Option Nat :=
  match ptpOff b with
  | some o => if beAt b o 1 % 16 < 4 && (etherType b = 0x88F7 || udpDst b = some 319) then some o else none
  | none => none

/-- Header fields of a PTP message at an offset: messageType, length, domain, flags, correctionField, source port identity, sequenceId. -/
def ptpType (b : List Byte) (o : Nat) : Nat := beAt b o 1 % 16
def ptpLen (b : List Byte) (o : Nat) : Nat := beAt b (o + 2) 2
def ptpDomain (b : List Byte) (o : Nat) : Nat := beAt b (o + 4) 1
def ptpFlags (b : List Byte) (o : Nat) : Nat := beAt b (o + 6) 2
def ptpTwoStep (b : List Byte) (o : Nat) : Bool := bitAt (ptpFlags b o) 9
def ptpCorr (b : List Byte) (o : Nat) : Int := signedOf 64 (beAt b (o + 8) 8)
def ptpSource (b : List Byte) (o : Nat) : List Byte := sliceOf b (o + 20) 10
def ptpSeq (b : List Byte) (o : Nat) : Nat := beAt b (o + 30) 2

/-- The length of a message without its TLVs, by messageType (IEEE 1588). -/
def ptpBody (t : Nat) : Nat :=
  if t = 0 || t = 1 || t = 8 then 44 else if t = 11 then 64 else if t = 12 then 44 else 54

/-- The TLVs from an offset up to an end: (type, offset of the TLV, value length). -/
def tlvsFrom : Nat → List Byte → Nat → Nat → List (Nat × Nat × Nat)
  | 0, _, _, _ => []
  | k + 1, b, o, e =>
    if e < o + 4 then [] else
    let len := beAt b (o + 2) 2
    if e < o + 4 + len then [] else (beAt b o 2, o, len) :: tlvsFrom k b (o + 4 + len) e

/-- The TLVs of a PTP message. -/
def ptpTlvs (b : List Byte) (o : Nat) : List (Nat × Nat × Nat) :=
  tlvsFrom 64 b (o + ptpBody (ptpType b o)) (min b.length (o + ptpLen b o))

/-- The TLV of a type, if the message carries one. -/
def ptpTlv (b : List Byte) (o typ : Nat) : Option (Nat × Nat × Nat) := (ptpTlvs b o).find? (fun x => x.1 == typ)

/-- The message carries an AUTHENTICATION TLV (type 0x8009). -/
def ptpAuth (b : List Byte) (o : Nat) : Bool := (ptpTlv b o 0x8009).isSome

/-- correctionField raised by an amount, saturating at 0x7FFF_FFFF_FFFF_FFFF (R276). -/
def addCorr (b : List Byte) (o : Nat) (d : Int) : List Byte :=
  putBe b (o + 8) 8 (wordOf 64 (min (2 ^ 63 - 1) (ptpCorr b o + d)))

/-- The frame with its UDP checksum updated for a change of bytes, where the datagram carries one (RFC 1624). -/
def refreshUdp (b : List Byte) : List Byte :=
  if ipProto b = some 17 && beAt b (l4Off b + 6) 2 != 0 then fixUdp b else b

end Sys2Proof.Machine
end

