-- ==== Sys2Proof/Machine/TimeCore.lean ====
section
/-! DEFINITION. The time core (chapter 03): the count, the slew, steps, TIME_STATE, UTC, triggers, captures and the transmit
time-stamp queues. The effects of its register writes are here; the writes themselves reach them through `busWrite`. -/

namespace Sys2Proof.Machine

/-- An increment's permitted range (R65), in units of 2^-48 ns per cycle. -/
def incrMin : Nat := 999 * 2 ^ 48 / 1000 + 1
def incrMax : Nat := 1001 * 2 ^ 48 / 1000

namespace State

/-! ### The count (R63, R65, R67, R78) -/

/-- The increment in force, in units of 2^-48 ns per TCLK cycle (R65). -/
def incr (s : State) : Nat := bitsOf (s.rdN Reg.TC_INCR_H) 0 18 * 2 ^ 32 + s.rdN Reg.TC_INCR_L

/-- The increment in force is made `v`. -/
def setIncr (s : State) (v : Nat) : State :=
  (s.wrN Reg.TC_INCR_L (v % 2 ^ 32)).wrN Reg.TC_INCR_H (v / 2 ^ 32)

/-- TC_RATIO, the CCLK/TCLK period ratio in units of 2^-48 (R78). -/
def ratio (s : State) : Nat := bitsOf (s.rdN Reg.TC_RATIO_H) 0 18 * 2 ^ 32 + s.rdN Reg.TC_RATIO_L

/-- TIME_STATE is BRIDGE. -/
def bridging (s : State) : Bool := s.timeState == 5

/-- What one cycle adds without the slew: the increment on a TCLK cycle, the CCLK period in time-core nanoseconds in BRIDGE (R78). -/
def cycleLen (s : State) : Nat := if s.bridging then s.ratio * s.incr / 2 ^ 48 else s.incr

/-- The slope limit used, in ps/s (R68, R528). -/
def slope (s : State) : Nat := clampNat 1000 100000000 (bitsOf (s.rdN Reg.TC_SLOPE) 0 27)

/-- The size of one slew contribution (R67, R78), to the nearest unit of 2^-48 ns. -/
def slewUnit (s : State) : Nat :=
  if s.bridging then (s.slope * s.cycleLen * 2 + 1000000000000) / 2000000000000
  else (s.slope * nsU * 2 + 1000000000000) / 2000000000000

/-- Cycles that the remaining slew needs: full contributions, then the remainder (R67). -/
def slewCycles (s : State) : Nat := ceilDiv s.tc.slew.natAbs s.slewUnit

/-- The remaining slew has reached zero by itself (R67). -/
def slewDone (s : State) : State :=
  let s1 := s.setB Fld.TC_STAT_SLEW_ACTIVE false
  (s1.evt Fld.TC_EVT_SLEW_DONE).setB Fld.RS_STAT_PULL false

/-- One cycle of an output's lag (R397): the core's slew contribution `c`, then towards zero by at most `r`, never past it. -/
def lagStep (phi c r : Int) : Int :=
  let x := phi + c
  if (x.natAbs : Int) ≤ r then 0 else x - x.sign * r

/-- `k` cycles of a lag under an equal contribution in each, in closed form: towards zero, through it, and then away from it or to rest. -/
def lagRun (k : Nat) (phi c r : Int) : Int :=
  let ca : Int := c.natAbs
  if phi = 0 || phi.sign = c.sign then
    let sg := if phi = 0 then c.sign else phi.sign
    if r < ca then phi + sg * ((ca - r) * k) else sg * max 0 ((phi.natAbs : Int) - (r - ca) * k)
  else
    let rate := ca + r
    if rate = 0 then phi else
    let m := min k (((phi.natAbs : Int) - 1) / rate).toNat
    let x := phi - phi.sign * (rate * m)
    if k = m then x
    else
      let y := lagStep x c r
      let left : Int := ((k - m - 1 : Nat) : Int)
      let sg := if y = 0 then c.sign else y.sign
      if sg = c.sign && r < ca then y + sg * ((ca - r) * left) else sg * max 0 ((y.natAbs : Int) - (r - ca) * left)

/-- The largest return of a lag in one cycle: OUn_SLEW × 10^-12 ns, to the nearest unit of 2^-48 ns (R397). -/
def lagRate (slew : Nat) : Int := ((slew * nsU * 2 + 1000000000000) / 2000000000000 : Nat)

/-- The lag of output `n` after `k` cycles (R397). -/
def lagAfter (s : State) (n k : Nat) : Int :=
  let o := s.outs.getD n Output.blank
  if !s.flag (Fld.OUn_STAT_LIVE n) then 0
  else
    let r := lagRate o.slew
    let m := s.slewCycles
    if s.flag (Fld.OUn_CFG_FOLLOW n) || m = 0 then lagRun k o.lag 0 r
    else
      let c := s.tc.slew.sign * (s.slewUnit : Int)
      if k < m then lagRun k o.lag c r
      else lagRun (k - m) (lagStep (lagRun (m - 1) o.lag c r) (s.tc.slew - c * ((m - 1 : Nat) : Int)) r) 0 r

/-- An output's lag is made `v`: OUn_STAT.SLEWING follows, and SLEW_DONE is set when it returns to zero (R397). -/
def putLag (s : State) (n : Nat) (v : Int) : State :=
  let was := (s.outs.getD n Output.blank).lag
  if was = v then s
  else
    let s1 := ({ s with outs := s.outs.modify n (fun o => { o with lag := v, byComp := o.byComp && v != 0 }) }).setB (Fld.OUn_STAT_SLEWING n) (v != 0)
    if v = 0 && s.flag (Fld.OUn_STAT_LIVE n) then s1.evt (Fld.OUn_EVT_SLEW_DONE n) else s1

/-- The lags of all outputs after `k` cycles. -/
def lagsAfter (s : State) (k : Nat) : List (Nat × Int) := (List.range 16).map (fun n => (n, s.lagAfter n k))

/-- `k` cycles of the count (R63, R67): `k` increments, and the slew contributions that fall within them; the outputs' lags follow (R397). -/
def advance (s : State) (k : Nat) : State :=
  if !s.counting || k = 0 then s else
  let n := s.slewCycles
  let lags := s.lagsAfter k
  let s1 := if s.tc.slew = 0 then
      { s with tc := { s.tc with now := s.tc.now + k * s.cycleLen, cycle := s.tc.cycle + k } }
    else if k < n then
      let d := s.tc.slew.sign * (k * s.slewUnit : Nat)
      { s with tc := { s.tc with now := ((s.tc.now + k * s.cycleLen : Nat) + d).toNat, cycle := s.tc.cycle + k, slew := s.tc.slew - d } }
    else
      ({ s with tc := { s.tc with now := ((s.tc.now + k * s.cycleLen : Nat) + s.tc.slew).toNat, cycle := s.tc.cycle + k,
                                  slew := 0 } }).slewDone
  lags.foldl (fun t x => t.putLag x.1 x.2) s1

/-- The number of cycles to the cycle c with t_c ≤ target < t_c + I_c (R84, R93); 0 for a target already reached. -/
def cyclesTo (s : State) (target : Nat) : Nat :=
  let t0 : Int := s.tc.now
  let len := s.cycleLen
  if len = 0 || target ≤ s.tc.now then 0
  else
    let n := s.slewCycles
    let eff := (len + s.tc.slew.sign * (s.slewUnit : Int)).toNat
    let tLast : Int := t0 + (n - 1 : Nat) * (eff : Int)
    let tEnd : Int := t0 + n * (len : Int) + s.tc.slew
    if n ≥ 1 && (target : Int) < tLast then (target - s.tc.now) / max 1 eff
    else if n ≥ 1 && (target : Int) < tEnd then n - 1
    else n + (((target : Int) - tEnd) / (len : Int)).toNat

/-- Time runs on to the cycle in which `target` falls. -/
def advanceTo (s : State) (target : Nat) : State := s.advance (s.cyclesTo target)

/-! ### Captures (R88, R89) -/

/-- A stamp enters a capture FIFO of four, or is dropped (R88). -/
def capStamp (s : State) (n : Nat) (stamp : Nat) : State :=
  let c := s.tc.caps.getD n ⟨[], false⟩
  if c.fifo.length < 4 then
    let s1 := if bitsOf (s.rdN Reg.RS11_HCAP) 0 3 = n then { s with rs := { s.rs with hostCap := some stamp } } else s
    { s1 with tc := { s1.tc with caps := s1.tc.caps.set n ⟨c.fifo ++ [⟨stamp, c.dropped⟩], false⟩ } }
  else ({ s with tc := { s.tc with caps := s.tc.caps.set n ⟨c.fifo, true⟩ } }).evt Fld.TC_EVT_CAP_OVF

/-- Every channel whose source is the one given takes a stamp (R88). -/
def capture (s : State) (src : Nat) (sel : Option Nat) (stamp : Nat) : State :=
  (List.range 8).foldl (fun t n =>
    if s.get (Fld.TC_CAPn_CFG_SRC n) == src && (match sel with | some k => s.get (Fld.TC_CAPn_CFG_SEL n) == k | none => true)
    then t.capStamp n stamp else t) s

/-! ### Transmit time-stamp queues (R90 to R92) -/

/-- An entry joins a port's queue of 64, or is dropped and counted (R91); the queue's first entry sets TXQ_READY (R92). -/
def txqAdd (s : State) (p : Nat) (e : TxqEntry) : State :=
  let q := s.tc.txqs.getD p ⟨[], false⟩
  if q.entries.length < 64 then
    let s1 := { s with tc := { s.tc with txqs := s.tc.txqs.set p ⟨q.entries ++ [{ e with ovf := q.dropped }], false⟩ } }
    if q.entries.isEmpty then s1.evt Fld.TC_EVT_TXQ_READY else s1
  else (({ s with tc := { s.tc with txqs := s.tc.txqs.set p ⟨q.entries, true⟩ } }).bump (Reg.TC_TXQ_DROPp p)).evt Fld.TC_EVT_TXQ_OVF

/-- A requesting frame that does not leave produces an entry with NOSEND and zero time (R90). -/
def txqNoSend (s : State) (p tag : Nat) : State := s.txqAdd p ⟨tag, 0, false, true, false⟩

/-! ### TIME_STATE (R75, R76) -/

/-- TIME_STATE changes to `n` (R76); a change to the state already held does nothing. -/
def toState (s : State) (n : Nat) : State :=
  let old := s.timeState
  if old = n then s else
  let s1 := (((s.set Fld.TC_STAT_STATE n).set Fld.TC_STATE_STATE n).set Fld.TC_STATE_PREV old).bumpF Fld.TC_STATE_CHANGES
  let s2 := (s1.evt Fld.TC_EVT_STATE_CHG).emitT 0x01 0 "TIME_STATE"
  { (s2.capture 4 none s2.tc.now) with snapDue := true }

/-! ### UTC (R80 to R83) -/

/-- E, the effective second of the pending change (R80). -/
def utcE (s : State) : Nat := s.rdN Reg.TC_UTC_EFF_L + 2 ^ 32 * bitsOf (s.rdN Reg.TC_UTC_EFF_H) 0 16

/-- The pending change is armed. -/
def utcArmed (s : State) : Bool := s.flag Fld.TC_UTC_STAT_ARMED

/-- The offset in force at a time-core second (R80). -/
def utcOffsetAt (s : State) (sec : Nat) : Int :=
  signedOf 16 (s.rdN (if s.utcArmed && s.utcE ≤ sec then Reg.TC_UTC_PEND else Reg.TC_UTC_CUR))

/-- The pending offset less the current one (R80, R81). -/
def utcDelta (s : State) : Int := signedOf 16 (s.rdN Reg.TC_UTC_PEND) - signedOf 16 (s.rdN Reg.TC_UTC_CUR)

/-- The second is the inserted one (R80). -/
def utcInserted (s : State) (sec : Nat) : Bool := s.utcArmed && s.utcDelta == 1 && sec + 1 == s.utcE

/-- The announcement window (R82). -/
def leapSoon (s : State) (sec : Nat) : Bool :=
  s.utcArmed && s.utcE ≤ sec + bitsOf (s.rdN Reg.TC_UTC_ANN) 0 20 && sec < s.utcE

/-- The leap indicator (R82). -/
def leapInd (s : State) (sec : Nat) : Nat :=
  if s.leapSoon sec then (if s.utcDelta = 1 then 1 else if s.utcDelta = -1 then 2 else 0) else 0

/-- The UTC view of a time-core second (R80). -/
def utcView (s : State) (sec : Nat) : Int := (sec : Int) - s.utcOffsetAt sec

/-- The checks of R81 on a current offset, a pending offset and an effective second. -/
def utcChecks (s : State) (cur pend : Int) (e : Nat) : Bool :=
  (pend - cur == 1 || pend - cur == -1) && ((e : Int) - pend) % 86400 == 0 && secOf s.tc.now < e

/-- UTC_REFUSED is set (R81). -/
def utcRefuse (s : State) : State := s.evt Fld.TC_EVT_UTC_REFUSED

/-- ARMED, with its copy in TC_STAT. -/
def setArmed (s : State) (b : Bool) : State := (s.setB Fld.TC_UTC_STAT_ARMED b).setB Fld.TC_STAT_UTC_ARMED b

/-- A write of 1 to TC_UTC_CTL.ARM (R81). -/
def utcArm (s : State) : State :=
  if s.utcArmed then s.utcRefuse
  else if s.utcChecks (signedOf 16 (s.rdN Reg.TC_UTC_CUR)) (signedOf 16 (s.rdN Reg.TC_UTC_PEND)) s.utcE then s.setArmed true
  else s.utcRefuse

/-- A write of 1 to TC_UTC_CTL.DISARM (R81). -/
def utcDisarm (s : State) : State := if s.utcArmed then s.setArmed false else s

/-- A write to TC_UTC_CTL: DISARM acts first, so that an ARM in the same write is not refused for the armed change (R81). -/
def wrUtcCtl (s : State) (v : Nat) : State :=
  let s1 := if bitAt v 1 then s.utcDisarm else s
  if bitAt v 0 then s1.utcArm else s1

/-- Whether a software write to TC_UTC_CUR, TC_UTC_PEND or TC_UTC_EFF is refused (R81, R83). -/
def utcLocked (s : State) : Bool := s.utcArmed || s.flag Fld.TC_CTL_UTC_AUTO

/-- A delivery of UTC data by the SELECTED reference (R83): current offset, pending offset and effective second. -/
def utcDeliver (s : State) (cur pend : Int) (e : Nat) : State :=
  if !s.flag Fld.TC_CTL_UTC_AUTO then s
  else if s.utcArmed then
    if cur = signedOf 16 (s.rdN Reg.TC_UTC_CUR) && pend = signedOf 16 (s.rdN Reg.TC_UTC_PEND) && e = s.utcE then s else s.utcRefuse
  else
    let s1 := s.wrN Reg.TC_UTC_CUR (wordOf 16 cur)
    if pend = cur then s1
    else if s.utcChecks cur pend e then
      (((s1.wrN Reg.TC_UTC_PEND (wordOf 16 pend)).wrN Reg.TC_UTC_EFF_L (e % 2 ^ 32)).wrN Reg.TC_UTC_EFF_H (e / 2 ^ 32 % 2 ^ 16)).setArmed true
    else s1.utcRefuse

/-! ### Increment, slew and step requests (R66 to R72) -/

/-- The reference selector owns the increment and the slew (R66, R70). -/
def loopClosed (s : State) : Bool := s.flag Fld.TC_STAT_LOOP

/-- A completed 64-bit write of TC_INCR_SW (R66). -/
def wrIncrSw (s : State) (v : Nat) : State :=
  if s.loopClosed then s.evt Fld.TC_EVT_INCR_IGNORED
  else
    let x := v % 2 ^ 50
    if incrMin ≤ x && x ≤ incrMax then { (s.wr64 Reg.TC_INCR_SW_L x) with tc := { s.tc with swIncr := some x } }
    else s.evt Fld.TC_EVT_INCR_RANGE

/-- The remaining offset is replaced, in units of 2^-48 ns (R69). -/
def retarget (s : State) (ofs : Int) : State :=
  let s1 := { s with tc := { s.tc with slew := ofs } }
  (s1.setB Fld.TC_STAT_SLEW_ACTIVE (ofs != 0)).setB Fld.RS_STAT_PULL (ofs != 0 && s.loopClosed)

/-- A completed software write of TC_SLEW_OFS, in units of 2^-16 ns (R69, R70). -/
def wrSlewOfs (s : State) (v : Nat) : State :=
  if s.loopClosed then s.evt Fld.TC_EVT_SLEW_IGNORED else s.retarget (signedOf 64 v * 2 ^ 32)

/-- A write of TC_SLOPE that has passed the access checks (R68). -/
def wrSlope (s : State) (v : Nat) : State :=
  if 1000 ≤ v && v ≤ 100000000 then s.wrN Reg.TC_SLOPE v else s.evt Fld.TC_EVT_INCR_RANGE

/-- The magnitude of a step as its registers hold it (R71). -/
def stepMagnitude (s : State) : Nat :=
  timeOf (s.rdN Reg.TC_STEP_SECL + 2 ^ 32 * bitsOf (s.rdN Reg.TC_STEP_SECH) 0 16) (bitsOf (s.rdN Reg.TC_STEP_NS) 0 30)
    (s.rdN Reg.TC_STEP_FRAC * 2 ^ 16)

/-- A step is requested by software (R71). -/
def stepReq (s : State) (absolute : Bool) : State :=
  let sign := bitAt (s.rdN Reg.TC_STEP_SECH) 31
  if absolute && sign then s.evt Fld.TC_EVT_STEP_REFUSED
  else
    let amt : Int := if sign then -(s.stepMagnitude : Int) else s.stepMagnitude
    ({ s with tc := { s.tc with step := some ⟨absolute, amt, false, false⟩ } }).setB Fld.TC_STAT_STEP_PENDING true

/-- A pending step is withdrawn (R71). -/
def stepCancel (s : State) : State := ({ s with tc := { s.tc with step := none } }).setB Fld.TC_STAT_STEP_PENDING false

/-- A write to TC_STEP_CTL: MODE is stored; a CANCEL acts, then a REQ (R71, R527). -/
def wrStepCtl (s : State) (v : Nat) : State :=
  let s1 := s.setB Fld.TC_STEP_CTL_MODE (bitAt v 2)
  let s2 := if bitAt v 1 then s1.stepCancel else s1
  if bitAt v 0 then s2.stepReq (bitAt v 2) else s2

/-! ### Triggers (R84 to R87) -/

/-- The staged target and period of a trigger (R85), in units of 2^-48 ns. -/
def trgTarget (s : State) (n : Nat) : Nat :=
  let h := s.rdN (Reg.TRGn_T_SECH n)
  timeOf (s.rdN (Reg.TRGn_T_SECL n) + 2 ^ 32 * bitsOf h 0 16) (bitsOf (s.rdN (Reg.TRGn_T_NS n)) 0 30) (bitsOf h 16 16 * 2 ^ 32)
def trgPeriod (s : State) (n : Nat) : Nat :=
  timeOf (bitsOf (s.rdN (Reg.TRGn_PER_S n)) 0 16) (bitsOf (s.rdN (Reg.TRGn_PER_NS n)) 0 30) 0

/-- The owner code of a trigger (R84). -/
def trgOwner (s : State) (n : Nat) : Nat := s.get (Fld.TRGn_CFG_OWNER n)

/-- The armed values of a trigger. -/
def trgArmed (s : State) (n : Nat) : Option ArmedTrigger := s.tc.triggers.getD n none

/-- A trigger's armed values, with TRGn_STAT.ARMED. -/
def setTrigger (s : State) (n : Nat) (a : Option ArmedTrigger) : State :=
  ({ s with tc := { s.tc with triggers := s.tc.triggers.set n a } }).setB (Fld.TRGn_STAT_ARMED n) a.isSome

/-- A trigger's word of news for the Pip that owns it (R379): code 0x24. -/
def trgTell (s : State) (n : Nat) (missed skipped bridge : Bool) (residue target : Nat) : State :=
  let o := s.trgOwner n
  if 0x20 ≤ o && o ≤ 0x3B then
    s.tell (o - 0x20) ⟨0x24, n + (if missed then 2 ^ 8 else 0) + (if skipped then 2 ^ 9 else 0) + (if bridge then 2 ^ 10 else 0), [
      residue / 2 ^ 32, secOf target % 2 ^ 32]⟩
  else s

/-- The first instant target + k × period later than `t` (R86), or not earlier than `t` (R87) where `orEqual`. -/
def firstAfter (target period t : Nat) (orEqual : Bool) : Nat :=
  if period = 0 then target
  else if orEqual then (if t ≤ target then target else target + ceilDiv (t - target) period * period)
  else (if t < target then target else target + ((t - target) / period + 1) * period)

/-- The output whose Pip owns a trigger (R371, R84). -/
def trgOutput (s : State) (n : Nat) : Option Nat :=
  let o := s.trgOwner n
  if 0x28 ≤ o && o ≤ 0x37 then some (o - 0x28) else none

/-- The advance A with which the time core compares a trigger (R396), in units of 2^-48 ns: that of its owner's output, else 0. -/
def trgAdvance (s : State) (n : Nat) : Int :=
  match s.trgOutput n with
  | some k => let o := s.outs.getD k Output.blank; ofPsI o.comp - o.lag + o.dpin * 2 ^ 32
  | none => 0

/-- The latest target at which an ARM is too late (R86, R396). -/
def trgTooLate (s : State) (n : Nat) : Nat :=
  match s.trgOutput n with
  | some _ => s.tc.now + (s.trgAdvance n).natAbs + 16 * nsU - 1
  | none => s.tc.now

/-- An owner arms a trigger with a target (R85, R86). -/
def trgArmAt (s : State) (n target : Nat) : State :=
  let per := s.trgPeriod n
  let late := s.trgTooLate n
  if s.flag (Fld.TRGn_CFG_MODE n) then
    if 100 * nsU ≤ per && per ≤ timeOf 65535 999999999 0 then
      s.setTrigger n (some ⟨target, if target ≤ late then firstAfter target per late false else target, per, true⟩)
    else s.evt Fld.TC_EVT_TRG_DENIED
  else if target ≤ late then
    (((s.setTrigger n none).setB (Fld.TRGn_STAT_MISSED n) true).evt Fld.TC_EVT_TRG_MISSED).trgTell n true false s.bridging 0 target
  else s.setTrigger n (some ⟨target, target, per, false⟩)

/-- A write to TRGn_CMD (R84): denied to Pips and to triggers whose owner is not the host; then DISARM, then ARM (R527). -/
def wrTrgCmd (s : State) (req : Requester) (n v : Nat) : State :=
  if v % 4 = 0 then s
  else
    let isPip := match req with | .pip _ => true | _ => false
    if isPip || s.trgOwner n != 0 then s.evt Fld.TC_EVT_TRG_DENIED
    else
      let s1 := if bitAt v 1 then s.setTrigger n none else s
      if bitAt v 0 then s1.trgArmAt n (s1.trgTarget n) else s1

/-- A trigger fires at its target (R84, R85): captures, the owner's message, the fire count and the next target. -/
def trgFire (s : State) (n : Nat) (a : ArmedTrigger) (residue : Nat) (skipped : Bool) : State :=
  let br := s.bridging
  let s1 := { s with tc := { s.tc with fires := s.tc.fires.set n (some (a.target, residue)) } }
  let s2 := s1.set (Fld.TRGn_STAT_FIRES n) (s1.get (Fld.TRGn_STAT_FIRES n) + 1)
  let s3 := if br then s2.setB (Fld.TRGn_STAT_BRIDGE n) true else s2
  let s4 := if skipped then s3.setB (Fld.TRGn_STAT_SKIPPED n) true else s3
  let s5 := (s4.capture 1 (some n) s4.tc.now).trgTell n false skipped br residue a.target
  s5.setTrigger n (if a.periodic then some { a with target := a.target + a.period } else none)

/-- What an applied step does to an armed trigger (R87): `t` is the time before it, `t'` the time after. -/
def trgStep (s : State) (t t' n : Nat) : State :=
  match s.trgArmed n with
  | none => s
  | some a =>
    if a.periodic then
      let s1 := s.setTrigger n (some { a with target := firstAfter a.origin a.period t' true })
      if t < t' && a.target < t' then s1.setB (Fld.TRGn_STAT_SKIPPED n) true else s1
    else if t < t' && a.target < t' then s.trgFire n a 0 true
    else s

/-! ### TCLK in and out of service (R77, R78) -/

/-- TCLK is lost at the time core (R77, R78): BRIDGE, or UNSET and not counting. -/
def enterBridge (s : State) : State :=
  let s1 := s.setB Fld.TC_STAT_TCLK_OK false
  let s2 := s1.evt Fld.TC_EVT_BRIDGE_ENTER
  let s3 := { s2 with tc := { s2.tc with okSince := none } }
  if s.timeState = 0 then s3 else s3.toState 5

end State

/-! ### The events of the time core -/

end Sys2Proof.Machine
end

