-- ==== Sys2Proof/Machine/Holdover.lean ====
section
/-! DEFINITION. Holdover and oscillator steering (chapter 06): learning, the model, steering, holdover and its growth. -/

namespace Sys2Proof.Machine

/-- The largest integer not above `r + √q`, and whether the sum is that integer. -/
def floorRootSum (r q : Rat) : Int × Bool :=
  let q0 := q.floor.toNat
  let m0 := r.floor + Nat.sqrt q0
  let ok := fun (m : Int) => ((m : Rat) - r ≤ 0) || (((m : Rat) - r) * ((m : Rat) - r) ≤ q)
  let m := if ok (m0 + 2) then m0 + 2 else if ok (m0 + 1) then m0 + 1 else m0
  (m, ((m : Rat) - r) * ((m : Rat) - r) == q && (0 : Rat) ≤ (m : Rat) - r)

/-- `r + √q` rounded up. -/
def ceilRootSum (r q : Rat) : Nat :=
  let (m, exact) := floorRootSum r q
  (if exact then m else m + 1).toNat

/-- The integer nearest to a rational number; a half goes up. -/
def nearestInt (q : Rat) : Int := (q + 1 / 2).floor

namespace State

/-- A rational number where the spec states no rounding. -/
def ratFree (s : State) (q : Rat) : Int := s.roundFree q.num q.den

/-- Seconds of time-core time since an instant. -/
def secsSince (s : State) (t : Nat) : Rat := (((s.tc.now : Int) - (t : Int) : Int) : Rat) / (secU : Nat)

/-- RSn_STATE.STATE. -/
def slotState (s : State) (n : Nat) : Nat := s.get (Fld.RSn_STATE_STATE n)

/-- The selection counts as SELECTED (R115). -/
def selected (s : State) : Bool :=
  match s.rs.cur with
  | some n => s.slotState n == 3 || s.slotState n == 4
  | none => false

/-- The fractional frequency correction in force: (1 ns − increment) / 1 ns. -/
def corr (s : State) : Rat := ((2 ^ 48 : Int) - (s.incr : Int) : Int) / ((2 ^ 48 : Nat) : Rat)

/-- What one unit of the oscillator command is worth (R135): HO_DAC_GAIN, or HO_UART_UNIT with UART steering. -/
def steerUnit (s : State) : Rat :=
  match s.get Fld.HO_CTL_STEER with
  | 1 => (s.rdI Reg.HO_DAC_GAIN : Rat) / 10 ^ 15
  | 2 => (s.rdN Reg.HO_UART_UNIT : Rat) / 10 ^ 15
  | _ => 0

/-- The command term of R135 and R144. -/
def codeTerm (s : State) : Rat := s.steerUnit * ((s.ho.code - s.ho.codeRef : Int) : Rat)

/-- y_meas (R135). -/
def yMeas (s : State) : Rat := s.corr - s.codeTerm

/-- The temperature in HO_TEMP_NOW, m°C. -/
def tempNow (s : State) : Int := s.rdI Reg.HO_TEMP_NOW

/-- The state with the holdover block's parts replaced. -/
def setHo (s : State) (h : Holdover) : State := { s with ho := h }

/-! ### Learning (R135 to R138) -/

def entryAvg (s : State) : Nat := clampNat 10 3600 (bitsOf (s.rdN Reg.HO_ENTRY_AVG) 0 12)
def guardSecs (s : State) : Nat := clampNat 1 600 (bitsOf (s.rdN Reg.HO_GUARD) 0 10)

/-- The mean of the frequency samples of the HO_ENTRY_AVG seconds that end at an instant. -/
def entryMean (s : State) (tEnd : Nat) : Option Rat :=
  let l := s.ho.yHist.filter (fun e => e.1 ≤ tEnd && tEnd ≤ e.1 + s.entryAvg * secU)
  if l.isEmpty then none else some (l.foldl (fun a e => a + e.2) 0 / (l.length : Nat))

/-- A frequency sample joins the history of the last seconds. -/
def keepY (s : State) (y : Rat) : State :=
  let keep := (s.entryAvg + s.guardSecs) * secU
  s.setHo { s.ho with yHist := (s.tc.now, y) :: s.ho.yHist.filter (fun e => s.tc.now ≤ e.1 + keep) }

/-- A completed interval of 10,000 samples becomes an average that is held (R135). -/
def averageComplete (s : State) : State :=
  if s.ho.count < 10000 then s
  else
    s.setHo { s.ho with count := 0, ySum := 0, tSum := 0, tempOkAll := true,
                        held := s.ho.held ++ [Avg.mk s.tc.now (s.ho.ySum / (s.ho.count : Nat)) ((s.ho.tSum : Rat) / (s.ho.count : Nat)) s.ho.tempOkAll] }

/-- The learning set, with the averages that have left the window dropped (R136). -/
def trimLearned (s : State) : State :=
  let win := clampNat 1 2160 (bitsOf (s.rdN Reg.HO_LEARN_WIN) 0 12) * 3600 * secU
  let l := s.ho.learned.filter (fun a => s.tc.now ≤ a.atTime + win)
  (s.setHo { s.ho with learned := l }).wrN Reg.HO_SAMPLES l.length

/-- The oldest held average is admitted to the learning set (R135), or dropped where R143 admits none. -/
def admitHeld (s : State) : State :=
  match s.ho.held with
  | [] => s
  | a :: r =>
    let ok := s.flag Fld.HO_CTL_LEARN_EN && !s.flag Fld.HO_CTL_MODEL_SRC && (a.tempOk || !s.flag Fld.HO_CTL_TEMP_EN)
    (s.setHo { s.ho with held := r, learned := if ok then s.ho.learned ++ [a] else s.ho.learned }).trimLearned

/-- The held averages whose guard time has passed are admitted. -/
def admitDue (s : State) : State :=
  (List.range s.ho.held.length).foldl (fun t _ =>
    match t.ho.held with
    | a :: _ => if a.atTime + t.guardSecs * secU ≤ t.tc.now then t.admitHeld else t
    | [] => t) s

/-- The frame's frequency sample (R135): taken while LOCKED and the selection is in state SELECTED; otherwise the interval is discarded. -/
def learnFrame (s : State) : State :=
  let sel := match s.rs.cur with | some n => s.slotState n == 3 | none => false
  if s.flag Fld.RS_STAT_LOCKED && sel then
    let s0 := if s.ho.learned.isEmpty && s.ho.held.isEmpty && s.ho.count = 0 && !s.ho.loaded then s.setHo { s.ho with codeRef := s.ho.code } else s
    let y := s0.yMeas
    let s1 := s0.keepY y
    if s1.flag Fld.HO_CTL_MODEL_SRC then s1
    else
      (s1.setHo { s1.ho with count := s1.ho.count + 1, ySum := s1.ho.ySum + y, tSum := s1.ho.tSum + s1.tempNow,
                             tempOkAll := s1.ho.tempOkAll && s1.flag Fld.HO_STAT_TEMP_OK }).averageComplete.admitDue
  else (s.setHo { s.ho with count := 0, ySum := 0, tSum := 0, tempOkAll := true }).admitDue

/-- MODEL_READY is made as given; becoming ready sets its event (R137). -/
def setReady (s : State) (b : Bool) : State :=
  let was := s.flag Fld.HO_STAT_MODEL_READY
  let s1 := s.setB Fld.HO_STAT_MODEL_READY b
  if b && !was then s1.evt Fld.HO_EVT_MODEL_READY else s1

/-- One value the fit's data do not determine. -/
def fitValue (s : State) (which n : Nat) : Int := Config.fitOpen n which s.freeCtr

/-- A fit and its standard uncertainties as variances (R136): y0, a (/s), c (/m°C); none where the data do not determine it. -/
structure FitResult where
  y0 : Rat
  a : Option Rat
  c : Option Rat
  vy : Option Rat
  va : Option Rat
  vc : Option Rat

/-- The least-squares fit of the learning set (R136), at its mean time and mean temperature. -/
def fitOf (l : List Avg) (useTemp : Bool) (tRef tempRef : Rat) : FitResult :=
  let n : Rat := (l.length : Nat)
  let tm := fun (x : Avg) => ((x.atTime : Nat) : Rat) / (secU : Nat) - tRef
  let tp := fun (x : Avg) => x.temp - tempRef
  let sum := fun (f : Avg → Rat) => l.foldl (fun acc x => acc + f x) 0
  let y0 := sum (fun x => x.y) / n
  let s11 := sum (fun x => tm x * tm x); let s12 := sum (fun x => tm x * tp x); let s22 := sum (fun x => tp x * tp x)
  let s1y := sum (fun x => tm x * (x.y - y0)); let s2y := sum (fun x => tp x * (x.y - y0))
  let last := match l.getLast? with | some x => x | none => ⟨0, 0, 0, false⟩
  if useTemp then
    let det := s11 * s22 - s12 * s12
    if det = 0 then ⟨y0, none, none, none, none, none⟩
    else
      let a := (s22 * s1y - s12 * s2y) / det; let c := (s11 * s2y - s12 * s1y) / det
      let rss := sum (fun x => let r := x.y - y0 - a * tm x - c * tp x; r * r)
      if n ≤ 3 then ⟨y0, some a, some c, none, none, none⟩
      else
        let v := rss / (n - 3)
        let x1 := tm last; let x2 := tp last
        ⟨y0, some a, some c, some (v * (1 / n + (s22 * x1 * x1 - 2 * s12 * x1 * x2 + s11 * x2 * x2) / det)), some (v * s22 / det),
          some (v * s11 / det)⟩
  else if s11 = 0 then ⟨y0, none, some 0, none, none, some 0⟩
  else
    let a := s1y / s11
    let rss := sum (fun x => let r := x.y - y0 - a * tm x; r * r)
    if n ≤ 2 then ⟨y0, some a, some 0, none, none, some 0⟩
    else
      let v := rss / (n - 2)
      ⟨y0, some a, some 0, some (v * (1 / n + tm last * tm last / s11)), some (v / s11), some 0⟩

/-- An expanded uncertainty in a register's unit: the standard uncertainty times HO_COVER / 10 (R136). -/
def expanded (s : State) (var : Option Rat) (scale : Nat) (which n : Nat) : Nat :=
  match var with
  | some v => s.sqrtFree ((v * (scale : Nat) * (scale : Nat) * (bitsOf (s.rdN Reg.HO_COVER) 0 8 : Nat) ^ 2 / 100).floor.toNat)
  | none => (s.fitValue which n).toNat

/-- A refit (R136, R138). -/
def refit (s : State) : State :=
  if s.flag Fld.HO_CTL_MODEL_SRC then s else
  let s0 := s.trimLearned
  let l := s0.ho.learned
  if l.isEmpty then s0.setReady false
  else
    let n := l.length
    let tSumU := l.foldl (fun a x => a + x.atTime) 0
    let tRef := tSumU / n
    let tRefS : Rat := (tRef : Nat) / ((secU : Nat) : Rat)
    let tempRef := l.foldl (fun a x => a + x.temp) 0 / (n : Rat)
    let useT := s0.flag Fld.HO_CTL_TEMP_EN && s0.flag Fld.HO_STAT_TEMP_OK
    let f := fitOf l useT tRefS tempRef
    let span := match l.head?, l.getLast? with
      | some a, some b => b.atTime - a.atTime
      | _, _ => 0
    let y0 := s0.ratFree (f.y0 * 10 ^ 15)
    if y0.natAbs > 2147483647 then ((s0.evt Fld.HO_EVT_MODEL_RANGE).setReady false).tick
    else
      let a := match f.a with | some a => s0.ratFree (a * 10 ^ 21) | none => s0.fitValue 0 n
      let c := match f.c with | some c => s0.ratFree (c * 1000 * 10 ^ 15) | none => s0.fitValue 1 n
      let s1 := ((s0.wrSatI Reg.HO_Y0 y0).wrSatI Reg.HO_AGE a).wrSatI Reg.HO_TCO c
      let s2 := ((s1.wrSat Reg.HO_UY (s0.expanded f.vy (10 ^ 15) 2 n)).wrSat Reg.HO_UA (s0.expanded f.va (10 ^ 21) 3 n)).wrSat Reg.HO_UC
        (s0.expanded f.vc (10 ^ 18) 4 n)
      let s3 := s2.setHo { s2.ho with tRef := tRef, tempRef := if useT then some tempRef else s2.ho.tempRef }
      (s3.setReady (clampNat 1 4095 (bitsOf (s3.rdN Reg.HO_LEARN_MIN) 0 12) * 3600 * secU ≤ span)).tick

/-! ### The model and its uncertainties -/

/-- The temperature term of the model applies (R136, R139). -/
def useTempTerm (s : State) : Bool := s.flag Fld.HO_CTL_TEMP_EN && s.ho.tempRef.isSome

/-- The model's y at now (R136), from the coefficients in force. -/
def modelY (s : State) : Rat :=
  let t := if s.useTempTerm then (s.rdI Reg.HO_TCO : Rat) / 10 ^ 18 * ((s.tempNow : Rat) - s.ho.tempRef.getD 0) else 0
  (s.rdI Reg.HO_Y0 : Rat) / 10 ^ 15 + (s.rdI Reg.HO_AGE : Rat) / 10 ^ 21 * s.secsSince s.ho.tRef + t

/-- The uncertainties the bound uses (R137, R139): u_y in 10^-15, u_a in 10^-21 /s, u_c in 10^-15 /°C. -/
def uncert (s : State) (unready : Bool) : Nat × Nat × Nat :=
  if unready || !s.flag Fld.HO_STAT_MODEL_READY then (s.rdN Reg.HO_UY_SPEC, s.rdN Reg.HO_UA_SPEC, s.rdN Reg.HO_UC_SPEC)
  else if s.flag Fld.HO_CTL_MODEL_SRC then (s.rdN Reg.HO_UY_FLOOR, s.rdN Reg.HO_UA_FLOOR, s.rdN Reg.HO_UC_FLOOR)
  else (max (s.rdN Reg.HO_UY) (s.rdN Reg.HO_UY_FLOOR), max (s.rdN Reg.HO_UA) (s.rdN Reg.HO_UA_FLOOR), max (s.rdN Reg.HO_UC) (s.rdN Reg.HO_UC_FLOOR))

/-- The terms of G other than noise, in ps, at τ seconds (R146). -/
def growthTerms (ramp : Rat) (u : Nat × Nat × Nat) (dT : Nat) (tau : Rat) : Rat :=
  ramp + (u.1 : Rat) * tau / 1000 + (u.2.1 : Rat) * tau * tau / (2 * 10 ^ 9) + (u.2.2 : Rat) * (dT : Nat) * tau / 10 ^ 6

/-- n²τ in ps², for the noise term (R146). -/
def noiseSq (s : State) (tau : Rat) : Rat := (s.rdN Reg.HO_NOISE : Rat) * (s.rdN Reg.HO_NOISE : Rat) * tau / 10 ^ 4

/-- What the growth of the running holdover or assist rests on: R, the uncertainties and ΔT_max. -/
def growthParts (s : State) : Rat × (Nat × Nat × Nat) × Nat :=
  match s.ho.hold with
  | some h => if h.assist then (h.ramp, (s.rdN Reg.HO_ASSIST_UY, 0, 0), 0) else (h.ramp, s.uncert h.unready, h.dTmax)
  | none => (0, s.uncert false, if s.flag Fld.HO_STAT_TEMP_OK then 0 else s.rdN Reg.HO_TEMP_SPAN)

/-- G_s at τ (R146), ps, rounded up; and the chord's slope g_h in 10^-15, rounded up. -/
def growthS (s : State) (tau : Rat) : Nat :=
  let (r, u, dT) := s.growthParts
  ceilRootSum (growthTerms r u dT tau) (s.noiseSq (tau + 2 / 1000))
def growthRate (s : State) (tau : Rat) : Nat :=
  let (_, u, dT) := s.growthParts
  ((u.1 : Rat) + (u.2.1 : Rat) * (tau + 1 / 1000) / 10 ^ 6 + (u.2.2 : Rat) * (dT : Nat) / 1000).ceil.toNat

/-- G at τ (R146), ps. -/
def growthAt (s : State) (tau : Rat) : Nat :=
  let (r, u, dT) := s.growthParts
  let (m, exact) := floorRootSum (growthTerms r u dT tau) (s.noiseSq tau)
  (if exact || !Config.roundUp s.freeCtr then m else m + 1).toNat

/-- G at τ in whole ps, rounded down: what HOLD leaves out once BASE counts it (R227), so that R230 still covers. -/
def growthFloor (s : State) (tau : Rat) : Nat :=
  let (r, u, dT) := s.growthParts
  (floorRootSum (growthTerms r u dT tau) (s.noiseSq tau)).1.toNat

/-- U of R140 at now: G with τ since the anchor and R = 0. -/
def predU (s : State) : Nat :=
  match s.ho.anchor with
  | none => 0
  | some a =>
    let tau := s.secsSince a.atTime
    let dT := match s.ho.hold with | some h => h.dTmax | none => if s.flag Fld.HO_STAT_TEMP_OK then 0 else s.rdN Reg.HO_TEMP_SPAN
    let (m, exact) := floorRootSum (growthTerms 0 (s.uncert false) dT tau) (s.noiseSq tau)
    (if exact || !Config.roundUp s.freeCtr then m else m + 1).toNat

/-! ### The prediction (R140) -/

/-- The anchor is set at a phase. -/
def setAnchor (s : State) (phase : Int) : State :=
  s.setHo { s.ho with anchor := some ⟨s.tc.now, phase, 0, (s.entryMean s.tc.now).getD s.corr⟩ }

/-- A frame's part of the integral: the correction applied at the reference command, less the model's y, over `dt` units of 2^-48 ns. -/
def anchorFrame (s : State) (dt : Nat) : State :=
  match s.ho.anchor with
  | none => s
  | some a =>
    let y := if s.flag Fld.HO_STAT_MODEL_READY then s.modelY else a.y
    s.setHo { s.ho with anchor := some { a with integral := a.integral + (s.yMeas - y) * ((dt : Nat) : Rat) / ((nsU : Nat) : Rat) } }

/-- The prediction of the selection's phase, in units of 2^-16 ns (R140). -/
def predicted (s : State) : Rat :=
  match s.ho.anchor with
  | none => 0
  | some a => (a.phase : Rat) - a.integral * 65536

/-! ### Steering (R141, R142) -/

/-- The bytes of a register string up to its first 0x00. -/
def regString (s : State) (base words : Nat) : List Byte :=
  ((List.range words).flatMap (fun k => leBytes 4 (s.rdN (base + 4 * k)))).takeWhile (fun b => b != 0)

/-- The DAC word for a code (R142). -/
def dacWord (s : State) (code : Nat) : Nat :=
  let k := if s.flag Fld.HO_DAC_CFG_TWOS then code ^^^ 0x80000 else code
  let sh := s.get Fld.HO_DAC_CFG_SHIFT
  (s.get Fld.HO_DAC_CFG_PREFIX * 2 ^ (sh + 20) + k * 2 ^ sh) % 2 ^ (if s.flag Fld.HO_DAC_CFG_LEN32 then 32 else 24)

/-- A code is written to the DAC and comes into force. -/
def dacSend (s : State) (code : Nat) : State :=
  (s.setHo { s.ho with code := code, dacOut := s.ho.dacOut ++ [s.dacWord code] }).wrN Reg.HO_DAC_NOW code

/-- HO_DAC_INIT is written once, after STEER first becomes 1 (R141). -/
def dacInit (s : State) : State :=
  if s.get Fld.HO_CTL_STEER = 1 && !s.ho.initDone then
    let t := s.dacSend (bitsOf (s.rdN Reg.HO_DAC_INIT) 0 20)
    t.setHo { t.ho with initDone := true }
  else s

/-- HO can convert a demand into a command (R141). -/
def canSteer (s : State) : Bool :=
  (s.get Fld.HO_CTL_STEER == 1 && s.rdN Reg.HO_DAC_GAIN != 0) || (s.get Fld.HO_CTL_STEER == 2 && s.rdN Reg.HO_UART_UNIT != 0)

/-- The frame's demand on the DAC (R142). -/
def dacDemand (s : State) (dy : Rat) : State :=
  let want := nearestInt (s.ho.carry + dy / s.steerUnit)
  let step : Int := bitsOf (s.rdN Reg.HO_DAC_STEP) 0 20
  let lim := clampInt (-step) step want
  let raw := s.ho.code + lim
  let lo : Int := bitsOf (s.rdN Reg.HO_DAC_MIN) 0 20; let hi : Int := bitsOf (s.rdN Reg.HO_DAC_MAX) 0 20
  let code := clampInt lo hi raw
  let s1 := if code ≠ raw then s.evt Fld.HO_EVT_CMD_CLAMP else s
  let s2 := s1.setHo { s1.ho with carry := if code ≠ raw then 0 else ((want - lim : Int) : Rat) }
  if code ≠ s.ho.code then s2.dacSend code.toNat else s2

/-- The outer loop's demand of a frame (R142): a DAC word at once, or kept for the next UART command. -/
def demand (s : State) (dy : Rat) : State :=
  if s.flag Fld.HO_STAT_CMD_HOLD || !s.canSteer then s
  else if s.get Fld.HO_CTL_STEER = 1 then (if s.ho.initDone then s.dacDemand dy else s)
  else s.setHo { s.ho with carry := s.ho.carry + dy }

/-- A signed decimal integer as characters. -/
def decimal (i : Int) : List Byte := (toString i).toList.map (fun c => BitVec.ofNat 8 c.toNat)

/-- The UART line for a commanded total (R142). -/
def uartLine (s : State) (v : Int) : List Byte :=
  let t := s.regString (Reg.HO_UART_TPL 0) 8
  match t.findIdx? (fun b => b == 0x25) with
  | some k => t.take k ++ decimal v ++ t.drop (k + 1)
  | none => t

/-- A UART command is sent and its reply awaited. -/
def uartSend (s : State) (v : Int) (retried resend : Bool) : State :=
  s.setHo { s.ho with uartOut := s.ho.uartOut ++ [s.uartLine v], uart := some ⟨v, retried, resend⟩, uartSent := some v, code := v }

/-- The next UART command (R142): the new commanded total, where it differs from the last one sent. -/
def uartCommand (s : State) : State :=
  if s.get Fld.HO_CTL_STEER ≠ 2 || !s.canSteer || s.ho.uart.isSome || s.ho.uartDown || s.flag Fld.HO_STAT_CMD_HOLD
      || !s.flag Fld.RS_STAT_OUTER_CLOSED then s
  else
    let v := s.ho.code + nearestInt (s.ho.carry / s.steerUnit)
    let s1 := s.setHo { s.ho with carry := 0 }
    if s.ho.uartSent = some v then s1 else s1.uartSend v false false

/-- A line arrives from the oscillator (R142). -/
def uartReply (s : State) (line : List Byte) : State :=
  match s.ho.uart with
  | none => s
  | some _ =>
    if (s.regString (Reg.HO_UART_ACK 0) 2).isPrefixOf line then
      (s.setHo { s.ho with uart := none, uartDown := false }).setB Fld.HO_STAT_LINK_OK true
    else s

/-- HO_UART_TMO passes with no reply (R142). -/
def uartTimeout (s : State) : State :=
  match s.ho.uart with
  | none => s
  | some w =>
    if w.retried then ((s.setHo { s.ho with uart := none, uartDown := true }).setB Fld.HO_STAT_LINK_OK false).evt Fld.HO_EVT_OSC_TMO
    else if s.flag Fld.HO_STAT_CMD_HOLD then s.setHo { s.ho with uart := none }
    else s.uartSend w.value true w.resend

/-- HO_CMD.RESEND (R142): the last command is sent again. -/
def resend (s : State) : State :=
  match s.ho.uartSent with
  | some v => if s.get Fld.HO_CTL_STEER = 2 then s.uartSend v false true else s
  | none => s

/-- A reading of the temperature sensor, or a failed one (R143). -/
def tempRead (s : State) (v : Option (BitVec 16)) : State :=
  if !s.flag Fld.HO_CTL_TEMP_EN then s else
  match v with
  | some w =>
    let s1 := (s.wrSatI Reg.HO_TEMP_NOW (s.roundFree (signedOf 16 w.toNat * (s.get Fld.HO_TEMP_CFG_SCALE : Int)) 16)).tick
    let s2 := (s1.setHo { s1.ho with tempFails := 0 }).setB Fld.HO_STAT_TEMP_OK true
    if s2.ho.loaded && s2.ho.tempRef.isNone then s2.setHo { s2.ho with tempRef := some (s2.tempNow : Rat) } else s2
  | none =>
    let s1 := s.setHo { s.ho with tempFails := s.ho.tempFails + 1 }
    if s1.ho.tempFails = 3 then (s1.setB Fld.HO_STAT_TEMP_OK false).evt Fld.HO_EVT_TEMP_FAIL else s1

/-! ### Holdover (R144 to R150) -/

/-- The holdover frequency y_e, and whether its uncertainties are those of a model that is not ready, and whether R is 0 (R144). -/
def entryY (s : State) : Rat × Bool × Bool :=
  if s.flag Fld.HO_STAT_MODEL_READY then (s.modelY + s.codeTerm, false, false)
  else match s.entryMean (s.tc.now - s.guardSecs * secU) with
    | some y => (y + s.codeTerm, true, false)
    | none => (s.corr, true, true)

/-- ΔT_max's floor while readings are missing (R143). -/
def tempFloor (s : State) : Nat := if s.flag Fld.HO_STAT_TEMP_OK then 0 else s.rdN Reg.HO_TEMP_SPAN

/-- Holdover begins (R144), after an assist from the mean assisted frequency (R148). -/
def hoEnter (s : State) : State :=
  let fromAssist := match s.ho.hold with | some h => h.assist | none => false
  let (ye, unready, noRamp) :=
    if fromAssist then ((s.entryMean s.tc.now).getD s.corr, !s.flag Fld.HO_STAT_MODEL_READY, false) else s.entryY
  let n := clampNat 1 65535 (bitsOf (s.rdN Reg.HO_RAMP) 0 16)
  let d := ye - s.corr
  let r : Rat := if noRamp then 0 else (if d < 0 then -d else d) * (n : Nat) * 10 ^ 9 / 2
  let s1 := s.setHo { s.ho with held := [], count := 0, ySum := 0, tSum := 0, tempOkAll := true,
                                hold := some ⟨s.tc.now, false, ye, s.incr, 0, n, r, s.tempNow, s.tempFloor, unready⟩ }
  let s2 := (((s1.setB Fld.HO_STAT_HO_ACTIVE true).setB Fld.HO_STAT_CMD_HOLD true).setB Fld.HO_STAT_RAMP true).setB Fld.HO_STAT_ASSIST false
  (s2.evt Fld.HO_EVT_ENTER).emitT 0x0E 0 "HOLDOVER"

/-- A frequency assist begins (R118, R148). -/
def assistEnter (s : State) : State :=
  let r := match s.ho.hold with | some h => h.ramp | none => 0
  let s1 := s.setHo { s.ho with hold := some ⟨s.tc.now, true, 0, s.incr, 0, 0, r, s.tempNow, 0, false⟩, yHist := [] }
  ((((s1.setB Fld.HO_STAT_HO_ACTIVE false).setB Fld.HO_STAT_CMD_HOLD false).setB Fld.HO_STAT_RAMP false).setB Fld.HO_STAT_ASSIST true)

/-- A time slot becomes the selection: holdover or assist ends (R150, R148). -/
def hoExit (s : State) (phase : Int) (boundNow : Nat) : State :=
  match s.ho.hold with
  | none => s
  | some h =>
    let s0 := { s with rs := { s.rs with integ := (s.incr : Int) - (2 ^ 48 : Int) } }
    let s1 := ((s0.setHo { s0.ho with hold := none }).setB Fld.HO_STAT_RAMP false).setB Fld.HO_STAT_ASSIST false
    if h.assist then s1
    else
      let s2 := (s1.setB Fld.HO_STAT_HO_ACTIVE false).evt Fld.HO_EVT_EXIT
      (s2.wrSatI Reg.HO_RET_ERR (phase * 1000 / 65536)).wrSat Reg.HO_RET_BOUND boundNow

/-- The predicted fractional frequency in holdover (R144). -/
def holdY (s : State) (h : HoldRun) : Rat :=
  if h.unready then h.ye
  else
    let c : Rat := if s.useTempTerm then (s.rdI Reg.HO_TCO : Rat) / 10 ^ 18 * ((s.tempNow - h.tempE : Int) : Rat) else 0
    h.ye + (s.rdI Reg.HO_AGE : Rat) / 10 ^ 21 * s.secsSince h.start + c

/-- The increment that holdover wants at a boundary after its entry (R144), within the range of R65. -/
def hoIncr (s : State) (h : HoldRun) : Int :=
  let target := (1 - s.holdY h) * ((2 ^ 48 : Nat) : Rat)
  if h.rampDone + 1 < h.rampLen then
    s.ratFree ((h.incr0 : Rat) + (target - (h.incr0 : Rat)) * ((h.rampDone + 1 : Nat) : Rat) / ((h.rampLen : Nat) : Rat))
  else s.ratFree target

/-- HO's part of a boundary after selection (R144, R146, R147): ΔT_max, the increment, and the growth registers. -/
def hoFrame (s : State) : State :=
  match s.ho.hold with
  | none => ((s.wrN Reg.HO_TAU 0).wrN Reg.HO_GROWTH 0).wrN Reg.HO_RATE 0 |>.wrN Reg.HO_GROWTH_S 0
  | some h =>
    let dT := max h.dTmax (max s.tempFloor (s.tempNow - h.tempE).natAbs)
    let fresh := h.start = s.tc.now
    let drive := !h.assist && s.loopClosed && !s.bridging && !fresh
    let s1 := if drive then { s with freeCtr := s.freeCtr + 1, rs := { s.rs with nextIncr := some (clampInt (incrMin : Int) incrMax (s.hoIncr h)).toNat } } else s
    let s2 := s1.setHo { s1.ho with hold := some { h with dTmax := dT, rampDone := if fresh || h.rampLen ≤ h.rampDone then h.rampDone else h.rampDone + 1 } }
    let s3 := if h.rampLen ≤ h.rampDone + 1 && !fresh then s2.setB Fld.HO_STAT_RAMP false else s2
    let tau := s3.secsSince h.start
    (((s3.wrSat Reg.HO_TAU tau.floor.toNat).wrSat Reg.HO_GROWTH (s3.growthAt tau)).wrSat Reg.HO_RATE (s3.growthRate tau)).wrSat Reg.HO_GROWTH_S (s3.growthS tau) |>.tick

/-! ### Model commands (R138, R139) -/

/-- HO_CMD.FORGET (R138). -/
def forget (s : State) : State :=
  ((s.setHo { s.ho with learned := [], held := [], count := 0, ySum := 0, tSum := 0, tempOkAll := true }).wrN Reg.HO_SAMPLES 0).setReady false

/-- HO_CMD.LOAD (R139). -/
def modelLoad (s : State) : State :=
  if !s.flag Fld.HO_CTL_MODEL_SRC || s.flag Fld.HO_STAT_HO_ACTIVE then s.evt Fld.HO_EVT_LOAD_REFUSED
  else
    let s1 := ((s.wrN Reg.HO_Y0 (s.rdN Reg.HO_LD_Y0)).wrN Reg.HO_AGE (s.rdN Reg.HO_LD_AGE)).wrN Reg.HO_TCO (s.rdN Reg.HO_LD_TCO)
    let s2 := s1.setHo { s1.ho with tRef := s1.tc.now, codeRef := s1.ho.code, loaded := true,
                                    tempRef := if s1.flag Fld.HO_STAT_TEMP_OK then some (s1.tempNow : Rat) else none }
    s2.setReady true

/-- A write to HO_CMD: LOAD, FORGET and RESEND in bit order. -/
def wrHoCmd (s : State) (v : Nat) : State :=
  let s1 := if bitAt v 0 then s.modelLoad else s
  let s2 := if bitAt v 1 then s1.forget else s1
  if bitAt v 2 then s2.resend else s2

end State

end Sys2Proof.Machine
end

