-- ==== Sys2Proof/Machine/ErrorBudget.lean ====
section
/-! DEFINITION. The error budget (chapter 09): components, the composition of the bound, snapshots, and the status fields that follow them. -/

namespace Sys2Proof.Machine

/-- The largest bound, ps (R224). -/
def boundMax : Nat := 2 ^ 48 - 1

/-- A snapshot's bound at an instant not earlier than its t0, ps, rounded up (R18, R229). -/
def Snapshot.boundAt (x : Snapshot) (t : Nat) : Nat := x.b0 + ceilDiv (x.g * (t - x.t0)) (1000 * secU)

/-- The clockAccuracy code for a bound in ps (R232): the values of codes 0x17 to 0x30, then 0x31. -/
def clockAccuracy (b : Nat) : Nat :=
  let l : List Nat := [1, 2, 10, 25, 100, 250, 1000, 2500, 10000, 25000, 100000, 250000, 1000000, 2500000, 10000000, 25000000, 100000000,
    250000000, 1000000000, 2500000000, 10000000000, 25000000000, 100000000000, 250000000000, 1000000000000, 10000000000000]
  0x17 + (l.takeWhile (fun v => v < b)).length

namespace State

/-- The state with the error budget's parts replaced. -/
def setEb (s : State) (e : BoundUnit) : State := { s with eb := e }

/-- A slot's parts beside its registers. -/
def slot (s : State) (n : Nat) : Slot := s.rs.slots.getD n Slot.blank

/-- The current bound, ps, of the latest snapshot at now; none while VALID is 0. -/
def boundNow (s : State) : Option Nat :=
  match s.eb.snap with
  | some x => if x.valid then some (x.boundAt s.tc.now) else none
  | none => none

/-! ### Components (R223) -/

def compSrc (s : State) (n : Nat) : Nat := s.rdN (Reg.RSn_BOUND n)
def compRes (s : State) : Nat := s.eb.resids.foldl max 0
def compShell (s : State) (n : Nat) : Nat :=
  if n = 11 then 0
  else s.rdN Reg.EB_SHELL_BASE + (if (s.slot n).stale then s.rdN Reg.EB_STALE_ADD else 0) +
    (if (s.slot n).uncal then s.rdN Reg.EB_UNCAL_ADD else 0)
def compPull (s : State) : Nat := if s.flag Fld.RS_STAT_PULL then ceilDiv (s.tc.slew.natAbs * 1000) nsU else 0
def compDev (s : State) (n : Nat) : Nat := if s.slotState n = 4 then (s.slot n).devMax else 0
def compSingle (s : State) : Nat := if s.flag Fld.RS_STAT_SINGLE then s.rdN Reg.HO_PRED_U else 0
def compHit (s : State) : Nat := if s.eb.hitMs = 0 then 0 else s.eb.hit

/-- HOLD with τ of R225, less what BASE already counts (R227). -/
def compHold (s : State) : Nat :=
  match s.eb.holdFrom with
  | some t => s.growthS (s.secsSince t) - s.eb.holdLess
  | none => 0

/-- r_b (R223), in 10^-15. -/
def bridgeRate (s : State) : Nat := if s.eb.bridgeNominal then 1100000000000 else s.rdN Reg.EB_BRIDGE_RATE

/-- BRIDGE (R223). -/
def compBridge (s : State) : Nat :=
  match s.eb.bridgeAt with
  | some t => 1000 + ceilDiv (s.bridgeRate * (s.tc.now - t)) (1000 * secU)
  | none => 0

/-- TRACK after BRIDGE exit without HOLD (R227). -/
def compTrack (s : State) : Nat :=
  match s.eb.exitAt with
  | some t => ceilDiv (s.rdN Reg.EB_TRACK_G * (s.tc.now - t)) (1000 * secU)
  | none => 0

/-- The records that SRC, RES and SHELL use carry UNSEALED (R228). -/
def unsealedNow (s : State) : Bool :=
  match s.rs.cur with
  | some n => s.selected && !s.eb.frozen && (s.slot n).unsealed
  | none => false

/-- The selected-slot formula (R224). -/
def selectedSum (s : State) (n : Nat) : Nat :=
  s.compSrc n + s.compRes + s.compShell n + s.compPull + s.compDev n + s.compSingle + s.compHit

/-- The bound of a selection by number, none where there is no selection. -/
def selSum (s : State) : Nat := match s.rs.cur with | some n => s.selectedSum n | none => 0

/-- B of R224 before its limit; none while VALID is 0. -/
def compose (s : State) : Option Nat :=
  if s.timeState = 0 && !s.eb.hostSet then none
  else
    let b :=
      if s.eb.frozen then s.eb.base.getD 0 + s.compHold + s.compTrack
      else if s.selected then s.selSum
      else s.eb.base.getD 0 + s.compHold
    some (b + s.compBridge + (if s.unsealedNow then s.rdN Reg.EB_UNSEALED_ADD else 0))

/-- The growth rate of a snapshot (R230), in 10^-15. -/
def snapRate (s : State) : Nat :=
  let hold := match s.eb.holdFrom with
    | some t => s.growthRate (s.secsSince t)
    | none => 0
  if s.eb.bridgeAt.isSome then s.bridgeRate + hold
  else if s.eb.holdFrom.isSome then hold
  else s.rdN Reg.EB_TRACK_G

/-! ### When BASE is fixed (R224, R225, R227) -/

/-- The selection is lost at this instant. -/
def ebLost (s : State) : State :=
  if s.eb.frozen then s.setEb { s.eb with hit := 0, hitMs := 0, holdFrom := some (s.eb.holdFrom.getD s.tc.now) }
  else
    let b := match s.eb.selSnap with
      | some x => x.boundAt s.tc.now
      | none => s.selSum
    s.setEb { s.eb with base := some b, holdFrom := some s.tc.now, holdLess := 0, hit := 0, hitMs := 0 }

/-- A time slot becomes the selection with an accepted measurement, or resumes it. -/
def ebSelected (s : State) (fresh : Bool) : State :=
  s.setEb { s.eb with base := none, holdFrom := none, holdLess := 0, frozen := false, exitAt := none, hostSet := false,
                      selSnap := if fresh then none else s.eb.selSnap }

/-- BASE takes the bound reached, and HOLD counts from now (R224: an assist that begins during holdover or ends in it). -/
def ebRebase (s : State) : State :=
  s.setEb { s.eb with base := some (s.eb.base.getD 0 + s.compHold), holdFrom := some s.tc.now, holdLess := 0 }

/-- The host has set the time (R74). -/
def ebHostSet (s : State) : State :=
  s.setEb { s.eb with hostSet := true, base := some (s.rdN Reg.TC_SET_BOUND * 1000), holdFrom := some s.tc.now, holdLess := 0 }

/-- BRIDGE entry (R227): the bound in force, at this instant, is frozen as BASE; before a snapshot has been issued it is the formula's. -/
def ebBridgeEnter (s : State) : State :=
  match s.boundNow <|> s.compose with
  | none => s.setEb { s.eb with bridgeAt := some s.tc.now, bridgeNominal := s.flag Fld.TC_STAT_RATIO_NOM }
  | some b =>
    let g := match s.eb.holdFrom with
      | some t => s.growthFloor (s.secsSince t)
      | none => 0
    s.setEb { s.eb with base := some b, holdLess := g, frozen := true, exitAt := none, bridgeAt := some s.tc.now,
                        bridgeNominal := s.flag Fld.TC_STAT_RATIO_NOM }

/-- BRIDGE exit (R227): BRIDGE is folded into BASE. -/
def ebBridgeExit (s : State) : State :=
  s.setEb { s.eb with base := some (s.eb.base.getD 0 + s.compBridge), bridgeAt := none,
                      exitAt := if s.eb.holdFrom.isSome then none else some s.tc.now }

/-- A phase hit on the selection has been accepted within the bound (R226): |J| in ps. -/
def ebHit (s : State) (j : Nat) : State :=
  s.setEb { s.eb with hit := if s.eb.hitMs = 0 then j else max s.eb.hit j,
                      hitMs := bitsOf (s.rdN Reg.EB_HIT_HOLD) 0 16 * 1000 }

/-! ### Snapshots (R18, R231) -/

/-- The flags of R233. -/
def boundFlags (s : State) : Nat :=
  (if s.flag Fld.EB_STAT_UNSEALED then 1 else 0) + (if s.flag Fld.RS_STAT_SINGLE then 2 else 0) + (if s.flag Fld.EB_STAT_HOLD then 4 else 0) +
  (if s.flag Fld.EB_STAT_BRIDGE then 8 else 0) + (if s.flag Fld.EB_STAT_SAT then 16 else 0) + (if s.flag Fld.RS_STAT_PULL then 32 else 0)

/-- The component registers (R223). -/
def putComps (s : State) : State :=
  let sel := s.selected && !s.eb.frozen
  let n := s.rs.cur.getD 11
  let v : List Nat := [if sel then s.compSrc n else 0, if sel then s.compRes else 0, if sel then s.compShell n else 0, s.compPull,
    if sel then s.compDev n else 0, if sel then s.compSingle else 0, if sel then s.compHit else 0,
    if sel then 0 else s.compHold, s.compBridge, if s.unsealedNow then s.rdN Reg.EB_UNSEALED_ADD else 0, s.eb.base.getD 0]
  s.wrWords (Reg.EB_COMP 0) (v.map (satNat 32))

/-- The service limit in ps. -/
def svcLimit (s : State) : Nat := s.rdN Reg.EB_SVC_LIMIT * 1000

/-- A snapshot is issued (R18, R224, R230, R231); whether it revokes. -/
def issueSnap (s : State) : Bool × State :=
  let b := s.compose
  let b0 := min (b.getD 0) boundMax
  let sat := decide (boundMax < b.getD 0)
  let old := s.eb.snap
  let gen := (s.rdN Reg.EB_GEN + 1) % 2 ^ 32
  let above := b.isSome && decide (s.svcLimit < b0)
  let uns := s.unsealedNow
  let s1 := ((s.setB Fld.EB_STAT_OVER_LIMIT above).setB Fld.EB_STAT_UNSEALED uns).setB Fld.EB_STAT_SAT sat
  let s2 := ((s1.setB Fld.EB_STAT_BRIDGE s.eb.bridgeAt.isSome).setB Fld.EB_STAT_HOLD s.eb.holdFrom.isSome).setB Fld.EB_STAT_VALID b.isSome
  let s3 := (s2.set Fld.EB_STAT_STATE s.timeState).putComps
  let s4 := if uns && !s.flag Fld.EB_STAT_UNSEALED then s3.evt Fld.EB_EVT_UNSEALED else s3
  let s5 := if sat then s4.evt Fld.EB_EVT_SAT else s4
  let s6 := if above && !s.flag Fld.EB_STAT_OVER_LIMIT then s5.evt Fld.EB_EVT_LIMIT else s5
  let x : Snapshot := ⟨gen, s.tc.now, b0, satNat 32 s.snapRate, b.isSome, s.timeState, s6.boundFlags, s.rs.cur.getD 15⟩
  let revokes := match old with
    | some o => (b.isSome && o.valid && o.boundAt s.tc.now + s.rdN Reg.EB_REVOKE_STEP < b0) ||
        (s.timeState == 5 && o.timeState != 5) || (o.valid && !b.isSome)
    | none => false
  let s7 := (s6.wr64 Reg.EB_BOUND_L b0).wrN Reg.EB_T0_NS (nsOf s.tc.now)
  let s8 := ((s7.wrN Reg.EB_T0_SECL (secOf s.tc.now % 2 ^ 32)).wrN Reg.EB_T0_SECH (secOf s.tc.now / 2 ^ 32)).wrN Reg.EB_G x.g
  let s9 := (s8.wrN Reg.EB_GEN gen).setEb { s8.eb with snap := some x, selSnap := if s.selected then some x else s.eb.selSnap }
  let s10 := { s9 with snapDue := false }
  (revokes, if revokes then (s10.bump Reg.EB_REVOKES).evt Fld.EB_EVT_REVOKE else s10)

/-- The frame's residual joins the window of R223, the hit hold runs on, and K_p of every port is formed (R229). -/
def ebFrame (s : State) : State :=
  let win := clampNat 1 65535 (bitsOf (s.rdN Reg.EB_RES_WIN) 0 16)
  let e := ceilDiv (s.rs.resid.natAbs * 1000) 65536
  let age := fun (x : Option (Nat × Nat)) => match x with
    | some (m, k) => if k < 16 then some (m, k + 1) else none
    | none => none
  let s1 := s.setEb { s.eb with resids := if s.selected then (e :: s.eb.resids).take win else [],
                                hitMs := s.eb.hitMs - 1, portRes := s.eb.portRes.map age }
  (List.range 16).foldl (fun t p =>
    let k := match t.eb.portRes.getD p none with
      | some (m, f) => if f ≤ 16 && t.flag Fld.SH_CTL_PCHK_EN then t.rdN Reg.EB_PORT_FLOOR + m else t.rdN Reg.EB_PORT_NOCHK
      | none => t.rdN Reg.EB_PORT_NOCHK
    t.wrSat (Reg.EB_PORTK p) k) s1

/-! ### What the engines state (R229, R232) -/

/-- The latest snapshot, if it is valid. -/
def validSnap (s : State) : Option Snapshot :=
  match s.eb.snap with
  | some x => if x.valid then some x else none
  | none => none

/-- B_served at T from port p, ps, rounded up (R229). -/
def served (s : State) (x : Snapshot) (t p : Nat) : Nat := x.boundAt t + s.rdN (Reg.EB_PORTK p)

/-- The map of R232 in force at a snapshot. -/
def mapClass (s : State) (x : Snapshot) : Nat := s.get (Fld.EB_MAP_CLASS x.timeState)
def mapStratum (s : State) (x : Snapshot) : Nat := s.get (Fld.EB_MAP_STRATUM x.timeState)
def mapLi3 (s : State) (x : Snapshot) : Bool := s.flag (Fld.EB_MAP_LI3 x.timeState)

/-- NTP root dispersion for a bound in ps (R232). -/
def rootDispersion (b : Nat) : Nat := satNat 32 (ceilDiv (b * 2 ^ 16) 1000000000000)

/-- The bound TLV of R233. -/
def boundTlv (s : State) (x : Snapshot) (b : Nat) : List Byte :=
  beBytes 2 3 ++ beBytes 2 26 ++ beBytes 3 0x4A7EC2 ++ beBytes 3 1 ++ beBytes 1 1 ++ beBytes 1 x.flags ++ beBytes 1 x.timeState ++
  beBytes 1 x.slot ++ beBytes 8 b ++ beBytes 4 x.gen ++ beBytes 1 (s.get Fld.SH_STAT_SEAL) ++ beBytes 3 0

/-- The NTP bound extension field of R234. -/
def boundField (s : State) (x : Snapshot) (b : Nat) : List Byte :=
  beBytes 2 (bitsOf (s.rdN Reg.EB_NTP_EFTYPE) 0 16) ++ beBytes 2 20 ++ beBytes 1 1 ++ beBytes 1 x.flags ++ beBytes 1 x.timeState ++
  beBytes 1 x.slot ++ beBytes 8 b ++ beBytes 4 x.gen

end State

end Sys2Proof.Machine
end

