-- ==== Sys2Proof/Machine/RefSel.lean ====
section
/-! DEFINITION. The reference selector (chapter 05): slots, their states, selection, the loops and LOCKED; and the changes of TIME_STATE that
follow (R75). -/

namespace Sys2Proof.Machine

/-- A phase in units of 2^-16 ns as picoseconds, exactly. -/
def phasePs (p : Int) : Rat := (p : Rat) * 1000 / 65536

/-- The absolute value of a rational number. -/
def ratAbs (q : Rat) : Rat := if q < 0 then -q else q

/-- The slope (per unit of 2^-48 ns) and the residual sum of squares of the least-squares line of points (instant, value). -/
def lineFit (l : List (Nat × Rat)) : Option (Rat × Rat) :=
  match l with
  | [] => none
  | (t0, _) :: _ =>
    let n : Rat := (l.length : Nat)
    let x := fun (e : Nat × Rat) => (((e.1 : Int) - (t0 : Int) : Int) : Rat)
    let sum := fun (f : Nat × Rat → Rat) => l.foldl (fun a e => a + f e) 0
    let mx := sum x / n; let my := sum (fun e => e.2) / n
    let sxx := sum (fun e => (x e - mx) * (x e - mx))
    let sxy := sum (fun e => (x e - mx) * (e.2 - my))
    let b := if sxx = 0 then 0 else sxy / sxx
    some (b, sum (fun e => let r := e.2 - my - b * (x e - mx); r * r))

/-- The median of a non-empty list; for an even number the mean of the two middle values (R126). -/
def medianOf (l : List Int) : Option Rat :=
  let s := l.mergeSort (fun a b => a ≤ b)
  let n := s.length
  if n = 0 then none
  else if n % 2 = 1 then some ((s.getD (n / 2) 0 : Int) : Rat)
  else some (((s.getD (n / 2) 0 + s.getD (n / 2 - 1) 0 : Int) : Rat) / 2)

namespace State

/-- The state with a slot's parts changed. -/
def modSlot (s : State) (n : Nat) (f : Slot → Slot) : State := { s with rs := { s.rs with slots := s.rs.slots.modify n f } }

/-- A slot of kind "time" (R107). -/
def slotIsTime (s : State) (n : Nat) : Bool :=
  if 2 ≤ n && n ≤ 5 then s.get (Fld.RSn_CFG_KIND n) ≤ 1 else n != 10

/-- A slot is enabled: EN is 1, and the KIND of slots 2 to 5 is not one that disables it. -/
def slotEn (s : State) (n : Nat) : Bool :=
  s.flag (Fld.RSn_CFG_EN n) && !(2 ≤ n && n ≤ 5 && 3 ≤ s.get (Fld.RSn_CFG_KIND n))

/-- RSn_PHASE as the selector computes with it: the phase last measured less the steps applied since (R87, R108, R124), before the register's 64
bits bound it. DEDUCED: a source's time stands further from an UNSET time core than the register can say, and R75 takes it all the same. -/
def phaseOf (s : State) (n : Nat) : Int :=
  match (s.slot n).prev with
  | some e => if s.slotIsTime n then e.2.1 + (s.slot n).stepped else 0
  | none => s.rdI64 (Reg.RSn_PHASE_L n)
def freqOf (s : State) (n : Nat) : Int := s.rdI (Reg.RSn_FREQ n)
def quarantined (s : State) (n : Nat) : Bool := s.flag (Fld.RSn_STATE_QUARANTINE n)

/-- QUAL_T and the other times of a slot in force, in ms (R528). -/
def qualT (s : State) (n : Nat) : Nat := clampNat 0 600000 (bitsOf (s.rdN (Reg.RSn_QUAL_T n)) 0 20)
def wtrT (s : State) (n : Nat) : Nat := clampNat 0 600000 (bitsOf (s.rdN (Reg.RSn_WTR n)) 0 20)
def holdoffT (s : State) (n : Nat) : Nat := clampNat 0 10000 (bitsOf (s.rdN (Reg.RSn_HOLDOFF n)) 0 14)
def dwellT (s : State) (n : Nat) : Nat := bitsOf (s.rdN (Reg.RSn_DWELL n)) 0 16 * 1000

/-- A slot changes state (R112, R116): history, PREV, CHANGES, the journal and the snapshot due. `cause` is DQ_CAUSE. -/
def slotTo (s : State) (n st cause : Nat) : State :=
  let old := s.slotState n
  if old = st then s else
  let s1 := ((s.set (Fld.RSn_STATE_STATE n) st).set (Fld.RSn_STATE_PREV n) old).bumpF (Fld.RSn_STATE_CHANGES n)
  let s2 := s1.set (Fld.RSn_STATE_DQ_CAUSE n) (if st = 5 then cause else 0)
  let s3 := s2.evt (Fld.RSn_EVT_STATE_CHG n)
  let s4 := if st = 3 then s3.evt (Fld.RSn_EVT_WAS_SELECTED n)
    else if st = 4 then s3.evt (Fld.RSn_EVT_WAS_DEGRADED n)
    else if st = 5 then s3.evt (Fld.RSn_EVT_WAS_DISQUALIFIED n) else s3
  let s5 := s4.modSlot n (fun x =>
    if st = 1 then { x with hist := [], timer := 1, left := s.qualT n, softMs := 0, recMs := 0, driftMs := 0 }
    else if st = 2 then { x with needWtr := false, timer := 0, softMs := 0, recMs := 0, driftMs := 0 }
    else if st = 5 then { x with needWtr := true, timer := 0, softMs := 0, recMs := 0, driftMs := 0 }
    else if st = 4 then { x with devMax := 0, recMs := 0, timer := 0 }
    else { x with timer := 0 })
  { (s5.emitT (2 + n) 0 "SLOT_STATE") with snapDue := true }

/-- The timers of a slot in QUALIFYING restart (R112, R114). -/
def restartTimers (s : State) (n : Nat) : State := s.modSlot n (fun x => { x with timer := 1, left := s.qualT n })

/-! ### Criteria (R113) -/

def critFreq (s : State) (n : Nat) : Bool := (s.freqOf n).natAbs ≤ s.rdN (Reg.RSn_FTOL n)
def critBound (s : State) (n : Nat) : Bool := s.rdN (Reg.RSn_BOUND n) ≤ s.rdN (Reg.RSn_BMAX n)

/-- The samples of the jitter fit: those of the last RSn_QUAL_T, or the latest three. -/
def jitterSet (s : State) (n : Nat) : List (Nat × Int) :=
  let h := (s.slot n).hist
  let recent := h.filter (fun e => s.tc.now ≤ e.1 + s.qualT n * msU)
  if recent.length < 3 then h.take 3 else recent

/-- The jitter criterion fails, where three samples exist; and whether it is met. -/
def jitterFails (s : State) (n : Nat) : Bool :=
  let l := s.jitterSet n
  if l.length < 3 then false
  else match lineFit (l.map (fun e => (e.1, phasePs e.2))) with
    | some (_, rss) => decide (((s.rdN (Reg.RSn_QJIT n)) ^ 2 * l.length : Nat) < rss)
    | none => false
def jitterMet (s : State) (n : Nat) : Bool := 3 ≤ (s.slot n).hist.length && !s.jitterFails n

/-- The criteria that restart the timers of QUALIFYING when they fail: all but signal presence. -/
def critOthers (s : State) (n : Nat) : Bool :=
  s.critFreq n && (s.slot n).valid && (!s.slotIsTime n || (!s.jitterFails n && s.critBound n))

/-- Every criterion holds. -/
def critAll (s : State) (n : Nat) : Bool :=
  (s.slot n).present && s.critOthers n && (!s.slotIsTime n || s.jitterMet n)

/-! ### Selection (R109, R117) -/

/-- A PPS slot has the label it needs (R109). -/
def labelOk (s : State) (n : Nat) : Bool :=
  if 2 ≤ n && n ≤ 5 && s.get (Fld.RSn_CFG_KIND n) = 0 then
    if s.flag (Fld.RSn_CFG_LABEL_EN n) then
      let k := s.get (Fld.RSn_CFG_LABEL_SLOT n)
      s.slotState k == 2 || s.slotState k == 3
    else s.timeState != 0
  else true

/-- The link slot n measures (R440, R443): in roles 4 and 6 slot 8 measures the parent link, if there is one. -/
def slotLink (s : State) (n : Nat) : Option Nat :=
  let r := s.get Fld.LS_STAT_ROLE
  if n = 8 && (r == 4 || r == 6) then
    (if s.flag Fld.UL_TREE_ON_TREE && !s.flag Fld.UL_TREE_ROOT then some (s.get Fld.UL_TREE_PARENT) else none)
  else if n = 8 || n = 9 then (if s.get (Fld.RSn_CFG_SRC n) < 4 then some (s.get (Fld.RSn_CFG_SRC n)) else none)
  else none

/-- A slot's PRIO; a holder treats a slot on link 0 as having PRIO 15 (R411). -/
def prioOf (s : State) (n : Nat) : Nat :=
  if s.get Fld.LS_STAT_LEASE = 2 && s.slotLink n == some 0 then 15 else s.get (Fld.RSn_CFG_PRIO n)

/-- A candidate (R117). -/
def candidate (s : State) (n : Nat) : Bool :=
  let st := s.slotState n
  s.slotIsTime n && (st == 2 || st == 3 || st == 4) && s.prioOf n < 15 && !s.quarantined n && s.labelOk n

/-- A slot's key as one number: state first, then PRIO. -/
def keyOf (s : State) (n : Nat) : Nat := (if s.slotState n = 4 then 16 else 0) + s.prioOf n

/-- The candidate with the lowest key, ties to the lower slot number. -/
def bestSlot (s : State) : Option Nat :=
  ((List.range 12).filter s.candidate).foldl (fun b n =>
    match b with
    | none => some n
    | some m => if s.keyOf n < s.keyOf m then some n else some m) none

/-- The outcome of R117: the new selection, its cause for the log, and whether FORCE failed. -/
def chooseSlot (s : State) : Option Nat × Nat × Bool :=
  let force := s.flag Fld.RS_CTL_FORCE
  let fs := s.get Fld.RS_CTL_FORCE_SLOT
  let forced := force && fs < 12 && s.candidate fs
  let best := if forced then some fs else s.bestSlot
  let held := match s.rs.cur with | some n => s.slotState n == 6 && !s.quarantined n | none => false
  let cur := match s.rs.cur with
    | some n => if s.candidate n || held then some n else none
    | none => none
  let fail := force && !forced
  match cur with
  | none => (best, (if forced then 4 else match s.rs.cur with
      | some n => if s.slotState n = 5 then 2 else 1
      | none => if s.ho.hold.isSome then 7 else 0), fail)
  | some c =>
    match best with
    | none => (some c, 0, fail)
    | some b =>
      if forced && b ≠ c then (some b, 4, fail)
      else if held then (some c, 0, fail)
      else if s.flag Fld.RS_CTL_REVERTIVE && s.keyOf b < s.keyOf c then
        (some b, (if s.slotState c = 4 && s.slotState b ≠ 4 then 3 else 0), fail)
      else if !s.flag Fld.RS_CTL_REVERTIVE && s.slotState c = 4 && s.slotState b = 2 then (some b, 3, fail)
      else (some c, 0, fail)

/-- A record of the switch log (R134). -/
def logSwitch (s : State) (cause : Nat) (dest frm : Option Nat) (pull : Int) : State :=
  let k := bitsOf (s.rdN Reg.RS_LOG_IDX) 0 4
  let tot := satNat 16 (bitsOf (s.rdN Reg.RS_LOG_IDX) 16 16 + 1)
  let sec := secOf s.tc.now
  let s1 := s.wrN (Reg.RS_LOGk_W0 k) (cause * 2 ^ 28 + (dest.getD 15) * 2 ^ 24 + (frm.getD 15) * 2 ^ 20 + sec / 2 ^ 32 % 2 ^ 16)
  let s2 := ((s1.wrN (Reg.RS_LOGk_SECL k) (sec % 2 ^ 32)).wrN (Reg.RS_LOGk_NS k) (nsOf s.tc.now)).wrSatI (Reg.RS_LOGk_PULL k) (pull / 65536)
  s2.wrN Reg.RS_LOG_IDX ((k + 1) % 16 + tot * 2 ^ 16)

/-- The selector writes a phase to TC_SLEW_OFS (R69, R119), while it owns the slew. Out of UNSET the step of R75 carries the offset instead. -/
def pullTo (s : State) (phase : Int) : State := if s.loopClosed && s.timeState ≠ 0 then s.retarget (phase * 2 ^ 32) else s

/-! ### TIME_STATE (R75, R76) -/

/-- TIME_STATE follows the reference conditions, and at a boundary the bound (R75). -/
def tcUpdate (s : State) (boundary : Bool) : State :=
  let st := s.timeState
  if st = 0 || st = 5 then s
  else
    let sel := s.selected
    let locked := s.flag Fld.RS_STAT_LOCKED
    let b := s.compose.getD 0
    let lim := s.svcLimit
    if st = 4 then
      if boundary && b * 10 ≤ lim * 9 then s.toState (if !sel then 3 else if locked then 2 else 1) else s
    else if boundary && s.flag Fld.TC_CTL_DEGRADE_EN && lim < b then s.toState 4
    else if !sel then s.toState 3
    else if st = 3 then s.toState 1
    else s.toState (if locked then 2 else 1)

/-! ### Loss and return (R111, R120) -/

/-- What the loss of the selection does at once (R115, R120). `cancelAstep` is what R151 asks. -/
def selectionGone (s : State) : State :=
  let s1 := s.ebLost
  let s2 := if s1.loopClosed && !s1.bridging then s1.retarget 0 else s1
  let s3 := s2.evt Fld.RS_EVT_NO_SEL
  let s4 := match s3.ho.astep with
    | some a => if a.stage ≤ 1 then (s3.stepCancel.setHo { s3.ho with astep := some { a with stage := 3, frames := 0 } }).evt Fld.HO_EVT_ASTEP_CANCEL else s3
    | none => s3
  s4.tcUpdate false

/-- A slot loses its signal (R111, R112). While BRIDGE suspends the selector only GNSS, PTP, link and host sources report losses; another source's
waits for the exit (R129). HOLDOFF ends at the first boundary by which it has lasted RSn_HOLDOFF, or at HOLDOFF_EXPIRY. -/
def signalLoss (s : State) (n : Nat) : State :=
  if s.bridging && ((2 ≤ n && n ≤ 5) || n = 10) then s.modSlot n (fun x => { x with lossDue := true }) else
  let st := s.slotState n
  let was := s.rs.cur == some n && s.selected
  let s1 := s.modSlot n (fun x => { x with present := false, sample := none })
  if 1 ≤ st && st ≤ 4 then
    let s2 := ((s1.evt (Fld.RSn_EVT_LOST_SIGNAL n)).slotTo n 6 0).modSlot n (fun x => { x with heldFrom := st, holdLeft := s.holdoffT n + 1 })
    if was then s2.selectionGone else s2
  else s1

/-- A source delivers a sample during the frame (R108). -/
def deliver (s : State) (n : Nat) (x : Sample) : State :=
  if s.bridging then s.modSlot n (fun y => { y with lossDue := false }) else s.modSlot n (fun y => { y with sample := some x, present := true })

/-- HOLDOFF expires (R112); BRIDGE holds the timer (R129). -/
def holdoffExpire (s : State) (n : Nat) : State := if s.slotState n = 6 && !s.bridging then s.slotTo n 5 6 else s

/-! ### The frame's measurements (R108, R124) -/

/-- EN as it stands at the boundary, and returns from HOLDOFF and DISQUALIFIED (R112, R530). -/
def slotEnter (s : State) (n : Nat) : State :=
  let st := s.slotState n
  if !s.slotEn n then (if st = 0 then s else (s.slotTo n 0 0).modSlot n (fun x => { x with sample := none, prev := none, accept := false, disq := false, requalify := false }))
  else if st = 0 then (s.slotTo n 1 0).modSlot n (fun x => { x with needWtr := false, prev := none })
  else if st = 6 then
    if (s.slot n).present then (s.slotTo n (s.slot n).heldFrom 0).modSlot n (fun x => { x with returning := true })
    else
      let s1 := s.modSlot n (fun x => { x with holdLeft := x.holdLeft - 1 })
      if (s1.slot n).holdLeft = 0 then s1.slotTo n 5 6 else s1
  else s

/-- A new phase sample's jump J in ps (R124). -/
def jumpOf (x : Slot) (t : Nat) (phase : Int) : Rat :=
  if x.returning then phasePs phase
  else match x.prev with
    | none => 0
    | some (t0, p0, f0) =>
      let dt : Rat := (((t : Int) - (t0 : Int) : Int) : Rat) / (nsU : Nat)
      phasePs (phase - p0 - x.stepped) - (f0 : Rat) * dt / 10 ^ 9

/-- The phase-hit test of R124 on a time slot's new sample; whether the sample is quarantined. -/
def hitTest (s : State) (n : Nat) (t : Nat) (phase : Int) : Bool × State :=
  let x := s.slot n
  let st := s.slotState n
  if !(1 ≤ st && st ≤ 4) then (false, s) else
  let j := jumpOf x t phase
  let hit := decide (((s.rdN (Reg.RSn_PHIT_THR n) : Nat) : Rat) < ratAbs j)
  let s1 := if hit then { (s.evt (Fld.RSn_EVT_PHASE_HIT n)).modSlot n (fun y => { y with quietMs := 0 }) with snapDue := true } else s
  if !(hit || x.returning) then (false, s1)
  else
    let within := match s.boundNow with
      | none => true
      | some b => decide (ratAbs (phasePs phase) ≤ ((b + s.rdN (Reg.RSn_BOUND n) : Nat) : Rat))
    if within then
      let s2 := if st = 1 && hit then s1.restartTimers n else s1
      if s.rs.cur = some n && (st = 3 || st = 4) then
        let s3 := if hit then s2.ebHit (ratAbs j).ceil.toNat else s2
        (false, s3.pullTo phase)
      else (false, s2)
    else
      let s2 := s1.setB (Fld.RSn_STATE_QUARANTINE n) true
      (st != 1, if st = 1 then s2.restartTimers n else s2.slotTo n 1 0)

/-- A slot's measurement of the frame just ended (R108); whether it was quarantined as a possible candidate. -/
def slotMeasure (s : State) (n : Nat) : Bool × State :=
  let x := s.slot n
  match x.sample with
  | none => (false, s)
  | some m =>
    if s.slotState n = 0 then (false, s) else
    let time := s.slotIsTime n
    let phase := if time then m.phase.getD 0 else 0
    let f := match m.freq with
      | some f => f
      | none => if time then Config.slotFreq n phase s.freeCtr else 0
    let s1 := ((s.tick.wrI64 (Reg.RSn_PHASE_L n) phase).wrSatI (Reg.RSn_FREQ n) f).wrSat (Reg.RSn_BOUND n) m.bound
    let s2 := if s1.critFreq n then s1 else s1.evt (Fld.RSn_EVT_FREQ_OOT n)
    let (q, s3) := if time then s2.hitTest n m.atTime phase else (false, s2)
    (q, s3.modSlot n (fun y => { y with sample := none, returning := false, stepped := 0, stale := m.stale, uncal := m.uncal, unsealed := m.unsealed,
                                        prev := some (m.atTime, phase, f), hist := (m.atTime, phase) :: (y.hist.take 700000) }))

/-! ### Deviations (R126, R127) -/

/-- Phases of the other time slots that are AVAILABLE and not quarantined. -/
def otherPhases (s : State) (n : Nat) : List Int :=
  ((List.range 12).filter (fun k => k != n && s.slotIsTime k && s.slotState k == 2 && !s.quarantined k)).map s.phaseOf

/-- DEV_MED and DEV_MOD in ps, and whether no other slot exists. -/
def devMed (s : State) (n : Nat) : Rat × Bool :=
  match medianOf (s.otherPhases n) with
  | some m => (((s.phaseOf n : Int) - m : Rat) * 1000 / 65536, false)
  | none => (0, true)
def devMod (s : State) (n : Nat) : Rat := ((s.phaseOf n : Rat) - s.predicted) * 1000 / 65536

/-- A deviation test against a limit (R126). -/
def devFails (s : State) (n limit : Nat) : Bool :=
  let (d, single) := s.devMed n
  (!single && decide (((limit : Nat) : Rat) < ratAbs d)) || decide (((limit + s.rdN Reg.HO_PRED_U : Nat) : Rat) < ratAbs (s.devMod n))
def softFails (s : State) (n : Nat) : Bool := s.devFails n (s.rdN (Reg.RSn_SOFT n))
def hardFails (s : State) (n : Nat) : Bool := s.devFails n (max (s.rdN (Reg.RSn_HARD n)) (s.rdN (Reg.RSn_SOFT n)))

/-- The deviation registers (R126), and the drift rate of R127, which takes a deviation where the slot was measured in the frame. -/
def deviations (s : State) (n : Nat) (fresh : Bool) : State :=
  let (d, single) := s.devMed n
  let m := s.devMod n
  let s1 := (s.wrSatI (Reg.RSn_DEV_MED n) (s.ratFree d)).wrSatI (Reg.RSn_DEV_MOD n) (s.ratFree m)
  let s2 := if s.rs.cur = some n then s1.setB Fld.RS_STAT_SINGLE single else s1
  let win := clampNat 10 65535 (bitsOf (s.rdN (Reg.RSn_DRATE_WIN n)) 0 16) * secU
  let dev := if single then s1.rdI (Reg.RSn_DEV_MOD n) else s1.rdI (Reg.RSn_DEV_MED n)
  let devs := if fresh then (s.tc.now, dev) :: (s.slot n).devs.filter (fun e => s.tc.now ≤ e.1 + win) else (s.slot n).devs
  let slope := match lineFit (devs.map (fun e => (e.1, (e.2 : Rat)))) with
    | some (b, _) => b * ((secU : Nat) : Rat)
    | none => 0
  let dm := max (s1.rdI (Reg.RSn_DEV_MED n)).natAbs (s1.rdI (Reg.RSn_DEV_MOD n)).natAbs
  ((s2.wrSatI (Reg.RSn_DRATE n) (s.ratFree slope)).modSlot n (fun x => { x with devs := devs, devMax := max x.devMax dm })).tick

/-! ### State transitions at a boundary (R112 to R114, R125, R530) -/

/-- The cause of a DISQUALIFIED slot has cleared (R530). -/
def causeCleared (s : State) (n : Nat) : Bool :=
  match s.get (Fld.RSn_STATE_DQ_CAUSE n) with
  | 1 => !s.hardFails n
  | 2 => s.critFreq n
  | 3 => s.critBound n
  | 4 => (s.slot n).valid
  | 6 => true
  | _ => false

/-- A slot leaves QUALIFYING for AVAILABLE, unless it is in quarantine. -/
def toAvailable (s : State) (n : Nat) : State := if s.quarantined n then s else s.slotTo n 2 0

/-- A timer of QUALIFYING has run out (R113, R114). -/
def qualTimerOut (s : State) (n : Nat) : State :=
  let x := s.slot n
  if s.slotState n ≠ 1 || !s.critAll n then s
  else if x.timer = 1 && x.needWtr && s.wtrT n ≠ 0 then s.modSlot n (fun y => { y with timer := 2, left := s.wtrT n })
  else s.toAvailable n

/-- A boundary in QUALIFYING. -/
def qualFrame (s : State) (n : Nat) : State :=
  let x := s.slot n
  if !x.present || !s.critOthers n then s.restartTimers n
  else
    let s1 := if x.left = 0 then s else s.modSlot n (fun y => { y with left := y.left - 1 })
    if (s1.slot n).left = 0 then s1.qualTimerOut n else s1

/-- The selection's soft test and drift rate at a boundary (R126, R127). -/
def dwellFrame (s : State) (n : Nat) : State :=
  let soft := s.softFails n
  let drift := decide (s.rdN (Reg.RSn_DRATE_THR n) < (s.rdI (Reg.RSn_DRATE n)).natAbs)
  let act := s.flag (Fld.RSn_CFG_DRATE_ACT n)
  let s1 := s.modSlot n (fun x => { x with softMs := if soft then x.softMs + 1 else 0, driftMs := if drift then x.driftMs + 1 else 0,
                                           recMs := if soft || drift then 0 else x.recMs + 1 })
  let x := s1.slot n
  let d := s.dwellT n
  let s2 := if drift && d ≤ x.driftMs then s1.evt (Fld.RSn_EVT_DRIFT_RATE n) else s1
  if s.slotState n = 3 && ((soft && d ≤ x.softMs) || (drift && act && d ≤ x.driftMs)) then s2.slotTo n 4 0
  else if s.slotState n = 4 && !soft && !drift && d ≤ x.recMs then s2.slotTo n 3 0
  else s2

/-- QUARANTINE clears by itself (R125). -/
def quarRelease (s : State) (n : Nat) : State :=
  if !s.quarantined n then s else
  let s1 := s.modSlot n (fun x => { x with quietMs := if s.jitterMet n then x.quietMs + 1 else 0 })
  let agree := (List.range 12).any (fun k => k != n && s.slotIsTime k && (let st := s.slotState k; st == 2 || st == 3 || st == 4) && !s.quarantined k &&
    decide (ratAbs (phasePs (s.phaseOf n - s.phaseOf k)) ≤ ((s.rdN (Reg.RSn_AGREE n) : Nat) : Rat)))
  if bitsOf (s.rdN (Reg.RSn_QUAR_T n)) 0 16 * 1000 ≤ (s1.slot n).quietMs && agree then s1.setB (Fld.RSn_STATE_QUARANTINE n) false else s1

/-- An ACCEPT taken at the boundary (R125). -/
def takeAccept (s : State) (n : Nat) : State :=
  if !(s.slot n).accept then s else
  let s1 := (s.modSlot n (fun x => { x with accept := false })).setB (Fld.RSn_STATE_QUARANTINE n) false
  let s2 := s1.logSwitch 8 (some n) s.rs.cur 0
  if s2.slotState n = 1 then s2.slotTo n 2 0 else s2

/-- A slot's state at a boundary after its measurement (R112). -/
def slotFrame (s0 : State) (n : Nat) : State :=
  let s := (s0.quarRelease n).takeAccept n
  let x := s.slot n
  let st := s.slotState n
  if st = 0 || st = 6 then s
  else if x.disq then
    let s1 := s.modSlot n (fun y => { y with disq := false })
    if st = 5 then s1 else s1.slotTo n 5 5
  else if st = 5 then
    if x.requalify || (x.present && s.causeCleared n) then
      (s.slotTo n 1 0).modSlot n (fun y => { y with requalify := false, returning := true })
    else s
  else if st = 1 then s.qualFrame n
  else if s.rs.cur = some n && s.hardFails n then s.slotTo n 5 1
  else if !s.critFreq n then s.slotTo n 5 2
  else if s.slotIsTime n && !s.critBound n then s.slotTo n 5 3
  else if !x.valid then s.slotTo n 5 4
  else if s.slotIsTime n && s.jitterFails n then s.slotTo n 1 0
  else if s.rs.cur = some n then s.dwellFrame n
  else s

/-! ### Switching (R117 to R120, R148, R150, R151) -/

/-- The blanked step replaces the pull (R151). -/
def wantsAstep (s : State) (n : Nat) : Bool :=
  s.flag Fld.HO_CTL_ASTEP_EN && (s.timeState == 3 || s.timeState == 4) && s.loopClosed &&
    decide (((s.rdN Reg.HO_ASTEP_MIN * 1000 : Nat) : Rat) ≤ ratAbs (phasePs (s.phaseOf n)))

/-- A slot becomes the selection, or resumes it (R119, R150). -/
def select (s : State) (n cause : Nat) : State :=
  let old := s.rs.cur
  let resume := old == some n
  let phase := s.phaseOf n
  let pulling := s.tc.slew ≠ 0
  let bound := s.boundNow.getD 0
  let s1 := match old with
    | some c => if c ≠ n && (s.slotState c = 3 || s.slotState c = 4) then s.slotTo c 2 0 else s
    | none => s
  let s2 := match old with
    | some c => s1.setB (Fld.RSn_STATE_IN_USE c) false
    | none => s1
  let s3 := ((s2.setB (Fld.RSn_STATE_IN_USE n) true).set Fld.RS_STAT_SEL n)
  let s4 := { s3 with rs := { s3.rs with cur := some n } }
  let s5 := if s4.slotState n = 2 then s4.slotTo n 3 0 else s4
  let astep := s5.wantsAstep n
  let s6 := (s5.hoExit phase bound).ebSelected (!resume)
  let s7 := if astep then (s6.setHo { s6.ho with astep := some ⟨n, 0, 0⟩ }).setB Fld.HO_STAT_ASTEP_BUSY true else s6.pullTo phase
  let s8 := s7.setAnchor phase
  if resume then s8
  else
    let s9 := ((s8.bump Reg.RS_SWITCHES).evt Fld.RS_EVT_SWITCH)
    let s10 := if pulling && !astep then s9.evt Fld.RS_EVT_RETARGET else s9
    s10.logSwitch cause (some n) old (if astep || !s.loopClosed || s.timeState = 0 then 0 else phase)

/-- The selection becomes none (R120). -/
def deselect (s : State) (alreadyGone : Bool) : State :=
  let old := s.rs.cur
  let s1 := match old with
    | some c => s.setB (Fld.RSn_STATE_IN_USE c) false
    | none => s
  let s2 := ({ s1 with rs := { s1.rs with cur := none } }).set Fld.RS_STAT_SEL 15
  if alreadyGone then s2 else s2.selectionGone

/-- The frequency slot for assist (R118). -/
def assistSlot (s : State) : Option Nat :=
  if s.rs.cur.isSome || !s.flag Fld.RS_CTL_FASSIST_EN then none
  else ((List.range 12).filter (fun n => !s.slotIsTime n && s.slotState n == 2)).foldl (fun b n =>
    match b with
    | none => some n
    | some m => if s.get (Fld.RSn_CFG_PRIO n) < s.get (Fld.RSn_CFG_PRIO m) then some n else some m) none

/-- The assist begins, ends or moves (R118, R148). -/
def assistFrame (s : State) : State :=
  let now := s.assistSlot
  let was := if s.flag Fld.RS_STAT_FASSIST then some (s.get Fld.RS_STAT_FASSIST_SLOT) else none
  if now = was then s
  else
    let s1 := match was with
      | some k => s.setB (Fld.RSn_STATE_IN_USE k) false
      | none => s
    let s2 := match now with
      | some k => ((s1.setB (Fld.RSn_STATE_IN_USE k) true).setB Fld.RS_STAT_FASSIST true).set Fld.RS_STAT_FASSIST_SLOT k
      | none => (s1.setB Fld.RS_STAT_FASSIST false).set Fld.RS_STAT_FASSIST_SLOT 0
    let s3 := s2.evt Fld.RS_EVT_FASSIST_CHG
    if was.isNone && s3.timeState ≠ 0 then
      let s4 := if s3.ho.hold.isSome then s3.ebRebase else s3
      s4.assistEnter
    else s3

/-- Holdover begins at this boundary where no slot is SELECTED and no assist stands (R144); an assist that ends passes to holdover (R148). -/
def holdoverFrame (s : State) : State :=
  let active := match s.ho.hold with | some h => !h.assist | none => false
  if s.selected || s.flag Fld.RS_STAT_FASSIST || active || s.timeState = 0 || s.bridging || s.eb.hostSet then s
  else
    let s1 := if s.ho.hold.isSome then s.ebRebase else s
    (s1.hoEnter).logSwitch 6 none s1.rs.cur 0

/-- The slot whose quarantined sample would have been the selection (R150). -/
def retBeyond (s : State) (l : List Nat) : State :=
  match l.find? (fun n => match s.bestSlot with | some b => s.prioOf n < s.keyOf b | none => s.prioOf n < 15) with
  | some n => if s.flag Fld.HO_STAT_HO_ACTIVE then (s.evt Fld.HO_EVT_RET_BEYOND).wrSatI Reg.HO_RET_ERR (s.phaseOf n * 1000 / 65536) else s
  | none => s

/-- Selection at a boundary (R117). -/
def selectFrame (s : State) (beyond : List Nat) : State :=
  let gone := !s.selected
  let (new, cause, fail) := s.chooseSlot
  let s1 := if fail then s.evt Fld.RS_EVT_FORCE_FAIL else s
  let s2 := match new with
    | some n =>
      if s1.rs.cur = some n then
        if s1.selected && s1.eb.holdFrom.isSome then s1.select n 7 else s1
      else s1.select n cause
    | none => if s1.rs.cur.isSome then s1.deselect (s1.eb.holdFrom.isSome && gone) else s1
  (s2.retBeyond beyond).assistFrame.holdoverFrame

/-! ### The loops (R121 to R123) -/

/-- The inner and outer loops close or open (R122), and the bandwidths in force are taken. -/
def loopFrame (s : State) : State :=
  let want := s.flag Fld.RS_CTL_LOOP
  let was := s.loopClosed
  let s1 := (s.setB Fld.RS_STAT_INNER_CLOSED want).setB Fld.TC_STAT_LOOP want
  let s2 := if want && !was then
      let t := { s1 with rs := { s1.rs with integ := (s.incr : Int) - (2 ^ 48 : Int) } }
      match t.rs.cur with
      | some n => if t.selected then (t.pullTo (t.phaseOf n)).logSwitch 5 (some n) (some n) (t.phaseOf n) else t
      | none => t
    else s1
  let s3 := s2.setB Fld.RS_STAT_OUTER_CLOSED (want && s.flag Fld.RS_CTL_OUTER && s.canSteer)
  { (s3.setB Fld.RS_STAT_PULL (s3.tc.slew != 0 && want)) with
    rs := { s3.rs with innerBw := clampNat 1 10000 (bitsOf (s.rdN Reg.RS_INNER_BW) 0 14), outerBw := clampNat 1 100 (bitsOf (s.rdN Reg.RS_OUTER_BW) 0 7) } }

/-- The residual e (R119), in phase units, of a measurement or a pull just made; 0 while a blanked step holds the loops (R151). -/
def residual (s : State) : Int :=
  match s.rs.cur with
  | some n =>
    let held := match s.ho.astep with | some a => a.stage ≤ 1 | none => false
    if s.selected && !held && s.timeState ≠ 0 then s.phaseOf n - s.tc.slew / 2 ^ 32 else 0
  | none => 0

/-- A new integrator and increment from a loop's law, with the limits of R65 and R66. -/
def loopTake (s : State) (r : Int × Int) : State :=
  let raw := (2 ^ 48 : Int) + r.2
  let lim := clampInt (incrMin : Int) incrMax raw
  let integ := if lim < raw then min r.1 s.rs.integ else if raw < lim then max r.1 s.rs.integ else r.1
  { s with freeCtr := s.freeCtr + 1, rs := { s.rs with integ := integ, nextIncr := some lim.toNat } }

/-- The residual at a boundary: formed anew where the selection was measured, taken or pulled, and otherwise as it stood. -/
def takeResidual (s : State) (anew : Bool) : State :=
  { s with rs := { s.rs with resid := if anew || !s.selected || s.timeState = 0 then s.residual else s.rs.resid } }

/-- The loops run once (R17, R118, R121). -/
def runLoops (s : State) : State :=
  let held := match s.ho.astep with | some a => a.stage ≤ 1 | none => false
  if s.bridging || !s.loopClosed || held then s
  else
    let active := s.selected || s.flag Fld.RS_STAT_FASSIST
    let s1 := if s.selected then s.loopTake (Config.innerLoop s.rs.innerBw s.rs.integ s.rs.resid s.freeCtr)
      else if s.flag Fld.RS_STAT_FASSIST then
        s.loopTake (Config.assistLoop s.rs.innerBw s.rs.integ (s.freqOf (s.get Fld.RS_STAT_FASSIST_SLOT)) s.freeCtr)
      else s
    if active && s1.flag Fld.RS_STAT_OUTER_CLOSED then
      (s1.demand ((Config.outerLoop s1.rs.outerBw s1.rs.integ s1.freeCtr : Rat) / 10 ^ 18)).tick
    else s1

/-- |e| and the remaining slew within `k` times RS_LOCK_PHASE, and |RSn_FREQ| within `k` times RS_LOCK_FREQ (R123). -/
def lockWithin (s : State) (k : Nat) : Bool :=
  match s.rs.cur with
  | none => false
  | some n =>
    let lim : Rat := ((s.rdN Reg.RS_LOCK_PHASE * k : Nat) : Rat)
    s.selected && decide (ratAbs (phasePs s.rs.resid) ≤ lim) && decide (((s.tc.slew.natAbs * 1000 : Nat) : Rat) / ((nsU : Nat) : Rat) ≤ lim) &&
      (s.freqOf n).natAbs ≤ s.rdN Reg.RS_LOCK_FREQ * k

/-- LOCKED is set or withdrawn (R123); at the first boundary with LOCKED the command is released (R150). -/
def setLocked (s : State) (b : Bool) : State :=
  if s.flag Fld.RS_STAT_LOCKED == b then s
  else
    let s1 := (s.setB Fld.RS_STAT_LOCKED b).evt Fld.RS_EVT_LOCK_CHG
    if b && !s1.flag Fld.HO_STAT_HO_ACTIVE then s1.setB Fld.HO_STAT_CMD_HOLD false else s1

/-- The lock test at a boundary (R123). -/
def lockFrame (s : State) : State :=
  let s1 := { s with rs := { s.rs with lockMs := if s.lockWithin 1 then s.rs.lockMs + 1 else 0 } }
  if s1.flag Fld.RS_STAT_LOCKED then (if s1.lockWithin 2 then s1 else s1.setLocked false)
  else if s1.lockWithin 1 && bitsOf (s1.rdN Reg.RS_LOCK_T) 0 16 * 1000 ≤ s1.rs.lockMs then s1.setLocked true
  else s1

/-- The losses that BRIDGE kept from the selector (R129). -/
def takeLosses (s : State) : State :=
  (List.range 12).foldl (fun t n => if (t.slot n).lossDue then (t.modSlot n (fun x => { x with lossDue := false })).signalLoss n else t) s

/-- RS's whole part of a boundary, while TIME_STATE is not BRIDGE (R108 to R129). -/
def rsFrame (s0 : State) : State :=
  if s0.bridging then s0 else
  let s1 := s0.takeLosses.loopFrame
  let s2 := (List.range 12).foldl slotEnter s1
  let fresh := (List.range 12).filter (fun n => (s2.slot n).sample.isSome)
  let (beyond, s3) := (List.range 12).foldl (fun (r : List Nat × State) n =>
    let (q, t) := r.2.slotMeasure n
    (if q then r.1 ++ [n] else r.1, t)) ([], s2)
  let s4 := s3.wrSat Reg.HO_PRED_U s3.predU
  let s5 := (List.range 12).foldl (fun t n =>
    if (t.rs.cur = some n && t.selected) || (t.slotState n = 5 && fresh.contains n) then t.deviations n (fresh.contains n) else t) s4
  let s6 := (List.range 12).foldl slotFrame s5
  let s7 := s6.selectFrame beyond
  let s8 := match s7.rs.cur, s7.ho.anchor with
    | some n, some a => if s7.selected && a.atTime + clampNat 100 65535 (bitsOf (s7.rdN Reg.HO_ANCHOR) 0 16) * secU ≤ s7.tc.now
        then s7.setAnchor (s7.phaseOf n) else s7
    | _, _ => s7
  let anew := s8.rs.cur != s0.rs.cur || s8.tc.slew != s0.tc.slew || (match s8.rs.cur with | some n => fresh.contains n | none => true)
  let s9 := (s8.takeResidual anew).runLoops.lockFrame
  if s9.flag Fld.RS_STAT_FASSIST then s9.keepY s9.corr else s9

/-- At exit from BRIDGE every time slot's first measurement is a returning slot's (R129). -/
def allReturning (s : State) : State :=
  (List.range 12).foldl (fun t n => if t.slotIsTime n then t.modSlot n (fun x => { x with returning := true }) else t) s

/-- A step of the time core changes every slot's phase by minus the step (R124); `d` is in units of 2^-48 ns. -/
def slotsStepped (s : State) (d : Int) : State :=
  { s with rs := { s.rs with slots := s.rs.slots.map (fun x => { x with stepped := x.stepped - d / 2 ^ 32 }) } }

/-! ### Commands of the slot pages (R110, R121, R125, R132) -/

/-- A write to RSn_CMD: ACCEPT, DISQUALIFY and REQUALIFY wait for the boundary (R112, R125). -/
def wrSlotCmd (s : State) (n v : Nat) : State :=
  let s1 := if bitAt v 0 then
      (if s.quarantined n then s.modSlot n (fun x => { x with accept := true }) else s.evt Fld.RS_EVT_CMD_IGNORED)
    else s
  let s2 := if bitAt v 1 then s1.modSlot n (fun x => { x with disq := true }) else s1
  if bitAt v 2 then s2.modSlot n (fun x => { x with requalify := s2.slotState n == 5 }) else s2

/-- RS11_HCMD.POST (R110). -/
def hostPost (s : State) : State :=
  match s.rs.hostCap with
  | none => s.evt Fld.RS_EVT_HOST_REJECT
  | some t =>
    let s1 := { s with rs := { s.rs with hostCap := none, hostMs := 0 } }
    s1.deliver 11 ⟨some (s1.rdI64 Reg.RS11_HOFS_L), t, none, s1.rdN Reg.RS11_HBOUND, false, false, false⟩

/-- A write of a loop bandwidth that has passed the access checks (R121). -/
def wrBw (s : State) (inner : Bool) (v : Nat) : State :=
  let i := if inner then bitsOf v 0 14 else bitsOf (s.rdN Reg.RS_INNER_BW) 0 14
  let o := if inner then bitsOf (s.rdN Reg.RS_OUTER_BW) 0 7 else bitsOf v 0 7
  if 1 ≤ i && i ≤ 10000 && 1 ≤ o && o ≤ 100 && o ≤ i then
    (if inner then s.wrN Reg.RS_INNER_BW i else s.wrN Reg.RS_OUTER_BW o)
  else s.evt Fld.RS_EVT_BW_REFUSED

/-- RSn_TIMER as it reads: the timer and its milliseconds left (R131). -/
def slotTimer (s : State) (n : Nat) : Nat :=
  let x := s.slot n
  let st := s.slotState n
  let p := fun (c ms : Nat) => c * 2 ^ 28 + satNat 28 ms
  if st = 6 then p 3 (min x.holdLeft (s.holdoffT n))
  else if st = 1 && x.timer ≠ 0 then p x.timer x.left
  else if x.softMs ≠ 0 then p 4 (s.dwellT n - x.softMs)
  else if st = 4 && x.recMs ≠ 0 then p 4 (s.dwellT n - x.recMs)
  else if s.quarantined n then p 5 (bitsOf (s.rdN (Reg.RSn_QUAR_T n)) 0 16 * 1000 - x.quietMs)
  else 0

end State

end Sys2Proof.Machine
end

