-- ==== Sys2Proof/Machine/Gnss.lean ====
section
/-! DEFINITION. The GNSS baseband (chapter 07): interfaces, channels, range predictions, time solutions, T-RAIM and OSNMA. -/

namespace Sys2Proof.Machine

/-- System time to TAI in seconds (R153). -/
def sysToTai (sys : Nat) : Nat := if sys = 2 then 33 else 19

/-- Seconds of a system's time scale, counted from the PTP epoch, at which its weeks begin, modulo one week. -/
def weekPhase (sys : Nat) : Nat := if sys = 2 then 1136073600 % 604800 else 315964800 % 604800

namespace State

/-- The state with the baseband's parts replaced. -/
def setGn (s : State) (g : Gnss) : State := { s with gn := g }

/-- A channel, and the state with a channel changed; GN_TRACKING follows (R180). -/
def gnChan (s : State) (k : Nat) : GnChan := s.gn.chans.getD k GnChan.free
def setChan (s : State) (k : Nat) (c : GnChan) : State :=
  let l := s.gn.chans.set k c
  (s.setGn { s.gn with chans := l }).wrN Reg.GN_TRACKING (l.filter (fun x => x.st == 3)).length

/-- The interface of an antenna is OK (R156); the antenna and the baseband are enabled. -/
def gifOk (s : State) (a : Nat) : Bool := s.flag (if a = 0 then Fld.GN_STAT_GIFA_OK else Fld.GN_STAT_GIFB_OK)
def antOn (s : State) (a : Nat) : Bool :=
  s.flag Fld.GN_CTL_EN && s.flag (if a = 0 then Fld.GN_CTL_ANTA_EN else Fld.GN_CTL_ANTB_EN)

/-- An antenna's solution loses its validity (R170), which is a loss under R111. -/
def gnWithdraw (s : State) (a : Nat) : State :=
  if s.flag (Fld.GN_ANTa_SOL_VALID a) then
    ((s.setB (Fld.GN_ANTa_SOL_VALID a) false).modSlot a (fun x => { x with valid := false })).signalLoss a
  else s

/-! ### Interfaces (R156, R157) -/

/-- An interface is lost. -/
def gifLost (s : State) (a : Nat) : State :=
  let s1 := s.setB (if a = 0 then Fld.GN_STAT_GIFA_OK else Fld.GN_STAT_GIFB_OK) false
  let s2 := (s1.gnWithdraw a).evt Fld.GN_EVT_GIF_LOST
  let l := s2.gn.chans.map (fun c => if c.ant = a && 1 ≤ c.st && c.st ≤ 3 then { c with st := 4 } else c)
  (s2.setGn { s2.gn with chans := l }).wrN Reg.GN_TRACKING (l.filter (fun x => x.st == 3)).length

/-- After 10 ms of clean clock the interface is OK, and coasting channels resume. -/
def gifReturn (s : State) (a : Nat) : State :=
  let s1 := s.setB (if a = 0 then Fld.GN_STAT_GIFA_OK else Fld.GN_STAT_GIFB_OK) true
  let l := s1.gn.chans.map (fun c => if c.ant = a && c.st = 4 then { c with st := 3 } else c)
  (s1.setGn { s1.gn with chans := l }).wrN Reg.GN_TRACKING (l.filter (fun x => x.st == 3)).length

/-- Samples of a frame at a rate setting. -/
def frameSamples (rate : Nat) : Nat := match rate with | 0 => 20480 | 1 => 40960 | 2 => 81920 | _ => 0

/-- The frame's saturated samples, GIFA upper and lower then GIFB upper and lower (R157). -/
def interference (s : State) (counts : List Nat) : State :=
  if !s.flag Fld.GN_CTL_EN then s else
  let s1 := s.wrWords Reg.GN_SATCNT_AU ((List.range 4).map (fun k => satNat 32 (counts.getD k 0)))
  (List.range 2).foldl (fun t a =>
    let n := frameSamples (bitsOf (t.rdN (if a = 0 then Reg.GN_GIFA_CFG else Reg.GN_GIFB_CFG)) 0 2)
    let lim := bitsOf (t.rdN Reg.GN_SAT_MAX) 0 14 * n
    let hot := decide (lim < counts.getD (2 * a) 0 * 10000) || decide (lim < counts.getD (2 * a + 1) 0 * 10000)
    let t1 := t.setB (if a = 0 then Fld.GN_STAT_INTFA else Fld.GN_STAT_INTFB) hot
    if hot then (t1.evt Fld.GN_EVT_INTF).emit 0x0F 13 "INTF" else t1) s1

/-! ### Channels (R158 to R160, R177) -/

/-- A channel for a signal, in PULL_IN, where one is FREE. -/
def takeFree (s : State) (c : GnChan) : State :=
  match s.gn.chans.findIdx? (fun x => x.st == 0) with
  | some k => s.setChan k { c with st := 2, pullMs := 0, coasted := 0, coastAt := [] }
  | none => s

/-- A channel follows the signal already. -/
def follows (s : State) (a band : Nat) (sat : Sat) : Bool :=
  s.gn.chans.any (fun c => 1 ≤ c.st && c.st ≤ 4 && c.ant == a && c.band == band && c.sat == sat)

/-- The system, or the band, is enabled (R180). -/
def sysOn (s : State) (sys : Nat) : Bool := bitAt (s.get Fld.GN_CFG_SYS_EN) sys
def bandOn (s : State) (b : Nat) : Bool := bitAt (s.get Fld.GN_CFG_BAND_EN) b

/-- A search that class 7 has admitted ends (R158). -/
def acqDone (s : State) (a : Nat) (sat : Sat) (found : Option GnTrack) : State :=
  match found with
  | none => s
  | some x => if s.follows a 0 sat then s
    else s.takeFree { GnChan.free with ant := a, band := 0, sat := sat, cn0 := x.cn0, code := x.code, doppler := x.doppler, multipath := x.multipath }

/-- The lower-band signal of a satellite tracked on the upper band is handed over without a search (R158). -/
def handOver (s : State) (c : GnChan) : State :=
  if c.band = 0 && c.st = 3 && s.bandOn 1 && !s.follows c.ant 1 c.sat then s.takeFree { c with band := 1 } else s

/-- The millisecond in which time stands. -/
def msNow (s : State) : Nat := s.tc.now / msU

/-- A channel's 1 ms integration (R160). -/
def integrate (s : State) (k : Nat) (x : GnTrack) : State :=
  let c := s.gnChan k
  let idle := s.flag Fld.GN_STAT_BURST_ACT && !s.gn.burstOpen
  if !s.flag Fld.GN_CTL_EN || idle || !(1 ≤ c.st && c.st ≤ 3) then s
  else
    let (ok, s1) := s.admitFor 7 1
    if ok then
      let c1 := { c with cn0 := x.cn0, code := x.code, doppler := x.doppler, multipath := x.multipath,
                         pullMs := if c.st = 2 then c.pullMs + 1 else c.pullMs }
      (s1.setChan k c1).handOver c1
    else (s1.setChan k { c with coasted := c.coasted + 1, coastAt := s.msNow :: c.coastAt.take 99 }).bump Reg.GN_COAST_CNT

/-- PULL_IN ends in TRACK after 200 ms with carrier lock (R159). -/
def trackEntry (s : State) (k : Nat) : State :=
  let c := s.gnChan k
  if c.st = 2 then (s.setChan k { c with st := 3, coasted := 0 }) else s

/-- A channel fails (R177). -/
def chanFault (s : State) (k : Nat) : State :=
  let c := s.gnChan k
  if c.st = 5 then s
  else s.fencing 14 0 fun s =>
    let s1 := (s.setChan k { GnChan.free with st := 5 }).set Fld.GN_CAP_CHANNELS (s.get Fld.GN_CAP_CHANNELS - 1)
    let s2 := if c.st = 0 then s1 else s1.setGn { s1.gn with lostChans := s1.gn.lostChans ++ [c] }
    (s2.evt Fld.GN_EVT_CHAN_FENCE).emit 0x0F 3 "MEASUREMENT_GAP"

/-! ### Predictions (R162 to R165) -/

/-- The segment staged in GN_PRED_W0 to W15. -/
def stagedSeg (s : State) : Option GnSeg :=
  let w := fun k => s.rdN (Reg.GN_PRED_W k)
  let sys := bitsOf (w 0) 30 2
  let pair := fun k => signedOf 64 (w k + 2 ^ 32 * w (k + 1))
  if h : sys < 3 then
    some { sat := ⟨⟨sys, h⟩, bitsOf (w 0) 24 6⟩, ant := bitsOf (w 0) 23 1, iod := bitsOf (w 0) 0 16,
           start := w 1 + 2 ^ 32 * bitsOf (w 2) 0 16, len := bitsOf (w 2) 20 12, c0 := pair 3, c1 := pair 5, c2 := pair 7, c3 := pair 9,
           tgdL := signedOf 16 (bitsOf (w 11) 16 16), tgdU := signedOf 16 (bitsOf (w 11) 0 16), sigma := w 12,
           elev := signedOf 8 (bitsOf (w 13) 24 8), unhealthy := bitAt (w 13) 0 }
  else none

/-- A non-zero reserved bit of the staged segment (R163). -/
def segReserved (s : State) : Bool :=
  let w := fun k => s.rdN (Reg.GN_PRED_W k)
  bitsOf (w 0) 16 7 != 0 || bitsOf (w 2) 16 4 != 0 || bitsOf (w 13) 1 23 != 0 || w 14 != 0 || w 15 != 0

/-- The segment in force for a satellite, antenna and time in seconds (R163). -/
def segAt (s : State) (a : Nat) (sat : Sat) (t : Nat) : Option GnSeg :=
  (s.gn.segs.filter (fun g => g.ant == a && g.sat == sat && g.start ≤ t && t < g.start + g.len)).foldl (fun b g =>
    match b with
    | some x => if x.start ≤ g.start then some g else b
    | none => some g) none

/-- The end of a satellite's unbroken coverage from a time on: `fuel` segments followed. -/
def coverEnd (s : State) (a : Nat) (sat : Sat) : Nat → Nat → Nat
  | 0, t => t
  | k + 1, t =>
    match s.segAt a sat t with
    | some g => s.coverEnd a sat k (g.start + g.len)
    | none => t

/-- GN_ANTa_COVER (R164): the time up to which GN_MIN_SV satellites of TREF have segments. -/
def putCover (s : State) (a : Nat) : State :=
  let now := secOf s.tc.now
  let sats := ((s.gn.segs.filter (fun g => g.ant == a && g.sat.sys.val == s.get Fld.GN_CFG_TREF)).map (·.sat)).dedup
  let ends := ((sats.map (fun x => s.coverEnd a x 65 now)).filter (fun t => now < t)).mergeSort (fun x y => y ≤ x)
  let n := bitsOf (s.rdN Reg.GN_MIN_SV) 0 6
  s.wrN (Reg.GN_ANTa_COVER a) (if n = 0 then 0 else ends.getD (n - 1) 0 % 2 ^ 32)

/-- GN_PRED_CMD.POST (R162, R163). -/
def predPost (s : State) : State :=
  let reject := (s.setB Fld.GN_PRED_STAT_REJ true).bump Reg.GN_PRED_REJ
  match s.stagedSeg with
  | none => reject
  | some g =>
    if g.sat.prn = 0 || g.len = 0 || 3600 < g.len || s.segReserved || g.start + g.len ≤ secOf s.tc.now then reject
    else
      let same := s.gn.segs.filter (fun x => x.ant == g.ant && x.sat == g.sat)
      let first := same.foldl (fun b x => match b with | some y => if x.start < y.start then some x else b | none => some x) (none : Option GnSeg)
      let kept := if same.length < 64 then s.gn.segs else match first with
        | some x => s.gn.segs.erase x
        | none => s.gn.segs
      (s.setGn { s.gn with segs := kept ++ [g] }).putCover g.ant

/-! ### Solutions (R166 to R170) -/

/-- τ at a reception time t (R162), ns, with the segment's Δ in seconds. -/
def tauAt (g : GnSeg) (t : Nat) : Rat :=
  let d : Rat := (((t : Int) - (g.start * secU : Nat) : Int) : Rat) / (secU : Nat)
  (g.c0 : Rat) / 2 ^ 16 + (g.c1 : Rat) / 2 ^ 32 * d + (g.c2 : Rat) / 2 ^ 48 * d * d + (g.c3 : Rat) / 2 ^ 64 * d * d * d

/-- U_c at a reception time (R166), ns. -/
def utcCorr (s : State) (t : Nat) : Rat :=
  let tot := s.rdN Reg.GN_UTC_TOT_L + 2 ^ 32 * bitsOf (s.rdN Reg.GN_UTC_TOT_H) 0 16
  (s.rdI Reg.GN_UTC_A0 : Rat) / 1000 + (s.rdI Reg.GN_UTC_A1 : Rat) / 10 ^ 9 * ((((t : Int) - (tot * secU : Nat) : Int) : Rat) / (secU : Nat))

/-- The antenna delays of a band (R175), as units of 2^-48 ns. -/
def antDelay (s : State) (a b : Nat) : Int :=
  ofPsI (if b = 0 then s.rdI (Reg.GN_ANTa_CABLE_U a) + s.rdI (Reg.GN_ANTa_FE_U a) else s.rdI (Reg.GN_ANTa_CABLE_L a) + s.rdI (Reg.GN_ANTa_FE_L a))

/-- The candidate reception seconds at which a time of week can stand: around now, or inside a stored segment while UNSET (R165). -/
def weekOf (s : State) (a : Nat) (sat : Sat) (tow : Nat) : Option Nat :=
  let base := fun (w : Nat) => (weekPhase sat.sys.val + w * 604800) * secU + tow + sysToTai sat.sys.val * secU
  if s.timeState = 0 then
    let ws := ((s.gn.segs.filter (fun g => g.ant == a && g.sat == sat)).flatMap (fun g =>
      [g.start / 604800 - 1, g.start / 604800, g.start / 604800 + 1])).dedup
    match ws.filter (fun w => (s.segAt a sat (secOf (base w))).isSome) with
    | [w] => some (base w)
    | _ => none
  else
    let w := s.tc.now / secU / 604800
    [w - 1, w, w + 1].foldl (fun b k =>
      let t := base k
      match b with
      | none => some t
      | some y => if ((t : Int) - s.tc.now).natAbs < ((y : Int) - s.tc.now).natAbs then some t else b) none

/-- A signal's offset o_b in ns and its segment (R166), where the signal can be used. -/
def signalOffset (s : State) (a : Nat) (c : GnChan) (o : GnObs) : Option (Rat × GnSeg) :=
  let ta := ((o.pin : Int) - s.antDelay a c.band).toNat
  match s.weekOf a c.sat o.tow with
  | none => none
  | some tx =>
    match s.segAt a c.sat (if s.timeState = 0 then secOf tx else secOf ta) with
    | none => none
    | some g =>
      if g.unhealthy || g.elev < (bitsOf (s.rdN Reg.GN_ELEV_MIN) 0 7 : Int) then none
      else
        let t := if s.timeState = 0 then tx else ta
        let tgd : Rat := ((if c.band = 0 then g.tgdU else g.tgdL : Int) : Rat) * 4 / 1000
        some ((((tx : Int) - (ta : Int) : Int) : Rat) / (nsU : Nat) + tauAt g t + tgd - s.utcCorr t, g)

/-- A satellite's entry to a solution: its offset (ns) and variance (ps²). -/
structure SatFix where
  sat : Sat
  chan : Nat
  o : Rat
  var : Rat

/-- A signal may enter a solution of the antenna (R159, R160, R168, R174). -/
def usable (s : State) (a : Nat) (c : GnChan) : Bool :=
  c.st == 3 && c.ant == a && bitsOf (s.rdN Reg.GN_CN0_MIN) 0 16 ≤ c.cn0 && (c.coastAt.filter (fun m => s.msNow ≤ m + 100)).length ≤ 10 &&
    s.sysOn c.sat.sys.val && s.bandOn c.band && !s.gn.bars.any (fun b => b.1 == a && b.2.1 == c.sat && s.tc.now < b.2.2)

/-- The OSNMA condition of mode 2 on a Galileo satellite (R174). -/
def osnmaAllows (s : State) (sat : Sat) (iod : Nat) : Bool :=
  s.get Fld.GN_CFG_OSNMA != 2 || sat.sys.val != 1 || (s.gn.authed.any (fun e => e.1 == sat.prn && e.2 == iod) && !s.gn.failed.contains sat.prn)

/-- The satellites of a solution (R166): ionosphere-free where both bands stand, single-band where SF_USE allows. -/
def satFixes (s : State) (a : Nat) (obs : List GnObs) : List SatFix :=
  let sig := obs.filterMap (fun o =>
    let c := s.gnChan o.chan.val
    if s.usable a c then match s.signalOffset a c o with
      | some (r, g) => if s.osnmaAllows c.sat g.iod then some (c, o, r, g) else none
      | none => none
    else none)
  let up := sig.filter (fun e => e.1.band == 0)
  let pairOf := fun (e : GnChan × GnObs × Rat × GnSeg) => sig.find? (fun f => f.1.band == 1 && f.1.sat == e.1.sat)
  let one := fun (e : GnChan × GnObs × Rat × GnSeg) =>
    SatFix.mk e.1.sat e.2.1.chan.val e.2.2.1
      (((e.2.1.codeVar + e.2.1.mpVar + e.2.2.2.sigma ^ 2 + s.rdN Reg.GN_IONO_SF ^ 2 : Nat) : Rat))
  let both := up.filterMap (fun e => match pairOf e with
    | some f =>
      let k1 : Rat := 22606 / 10000; let k2 : Rat := 12606 / 10000
      some (SatFix.mk e.1.sat e.2.1.chan.val (k1 * e.2.2.1 - k2 * f.2.2.1)
        (k1 * k1 * ((e.2.1.codeVar + e.2.1.mpVar : Nat) : Rat) + k2 * k2 * ((f.2.1.codeVar + f.2.1.mpVar : Nat) : Rat) + ((e.2.2.2.sigma ^ 2 : Nat) : Rat)))
    | none => none)
  let single := sig.filter (fun e => if e.1.band = 0 then (pairOf e).isNone else !up.any (fun f => f.1.sat == e.1.sat))
  both ++ (if s.flag Fld.GN_CFG_SF_USE then single.map one else [])

/-- The weighted mean of a constellation's offsets (R167). -/
def sysMean (l : List SatFix) (sys : Nat) : Rat :=
  let m := l.filter (fun f => f.sat.sys.val == sys)
  (m.foldl (fun x f => x + f.o / f.var) 0) / (m.foldl (fun x f => x + 1 / f.var) 0)

/-- (r_i / σ_i)² of a satellite, with r in ps (R168). -/
def normRes (l : List SatFix) (f : SatFix) : Rat :=
  let r := (f.o - sysMean l f.sat.sys.val) * 1000
  r * r / f.var

/-- Q and dof of a solution (R168). -/
def raimStat (l : List SatFix) : Rat × Int :=
  let m := ((l.map (fun f => f.sat.sys)).dedup).length
  (l.foldl (fun x f => x + normRes l f) 0, (l.length : Int) - m)

/-- The test of R168. -/
def raimPass (k : Nat) (l : List SatFix) : Bool :=
  let (q, dof) := raimStat l
  let d := q - dof
  decide (1 ≤ dof) && (decide (d ≤ 0) || decide (d * d ≤ ((k : Nat) : Rat) ^ 2 / 10000 * 2 * dof))

/-- T-RAIM with its exclusions (R168): the satellites kept, those excluded, and whether the final test passes. -/
def raim (k : Nat) : Nat → List SatFix → List SatFix → List SatFix × List SatFix × Bool
  | 0, l, ex => (l, ex, raimPass k l)
  | n + 1, l, ex =>
    if raimPass k l then (l, ex, true)
    else if (raimStat l).2 < 2 then (l, ex, false)
    else
      match l.foldl (fun b f => match b with | some g => if normRes l g < normRes l f then some f else b | none => some f) (none : Option SatFix) with
      | some w => raim k n (l.filter (fun f => f.chan != w.chan)) (ex ++ [w])
      | none => (l, ex, false)

/-- The time solution of an antenna (R166 to R170). -/
def solve (s0 : State) (a : Nat) (obs : List GnObs) : State :=
  if !s0.antOn a then s0
  else if !s0.gifOk a then s0
  else
    let s := s0.putCover a
    let all := s.satFixes a obs
    let (l, ex, pass) := raim (bitsOf (s.rdN Reg.GN_RAIM_K) 0 16) (min 4 (bitsOf (s.rdN Reg.GN_RAIM_MAXEX) 0 3)) all []
    let bar := bitsOf (s.rdN Reg.GN_RAIM_BAR) 0 16 * secU
    let s1 := ex.foldl (fun t f => ((t.setGn { t.gn with bars := t.gn.bars ++ [(a, f.sat, t.tc.now + bar)] }).evt Fld.GN_EVT_RAIM_EXCL).emit 0x0F 3 "RAIM_EXCLUSION") s
    let tref := s.get Fld.GN_CFG_TREF
    let ref := l.filter (fun f => f.sat.sys.val == tref)
    let raimOk := pass && bitsOf (s.rdN Reg.GN_MIN_SV) 0 6 ≤ ref.length && !ref.isEmpty
    let authedN := (l.filter (fun f => f.sat.sys.val == 1 && s.gn.authed.any (fun e => e.1 == f.sat.prn) && !s.gn.failed.contains f.sat.prn)).length
    let osnOk := s.get Fld.GN_CFG_OSNMA != 2 || bitsOf (s.rdN Reg.GN_OSNMA_MIN) 0 6 ≤ authedN
    let w := ref.foldl (fun x f => x + 1 / f.var) 0
    let x := sysMean l tref
    let k : Rat := ((bitsOf (s.rdN Reg.GN_BK) 0 8 : Nat) : Rat) / 10
    let b := ceilRootSum ((s.rdN (Reg.GN_ANTa_DLY_UNC a) + s.rdN Reg.GN_UTC_U : Nat) : Rat) (k * k / w)
    let valid := raimOk && osnOk
    let s2 := ((((s1.set (Fld.GN_ANTa_SOL_USED a) l.length).set (Fld.GN_ANTa_SOL_TREF a) ref.length).set (Fld.GN_ANTa_SOL_EXCL a) ex.length).setB
      (Fld.GN_ANTa_SOL_RAIM_OK a) raimOk).setB (Fld.GN_ANTa_SOL_OSNMA_OK a) osnOk
    let s3 := (s2.wrSat (Reg.GN_ANTa_Q a) (s2.ratFree ((raimStat l).1 * 1000)).toNat).tick
    let s4 := l.foldl (fun t f => t.setChan f.chan { t.gnChan f.chan with resid := t.ratFree ((f.o - sysMean l f.sat.sys.val) * 1000) }) s3
    if valid then
      let phase := s4.ratFree (x * 65536)
      let s5 := (((s4.wrI64 (Reg.GN_ANTa_X_L a) phase).wrSat (Reg.GN_ANTa_B a) b).wrSat (Reg.GN_ANTa_SIGMA a)
        (s4.sqrtFree (1 / w).floor.toNat)).setB (Fld.GN_ANTa_SOL_VALID a) true
      let s6 := (s5.setGn { s5.gn with lastValid := s5.gn.lastValid.set a (some s5.tc.now) }).tick
      (s6.modSlot a (fun y => { y with valid := true })).deliver a ⟨some phase, s6.tc.now, none, satNat 32 b, false, false, false⟩
    else s4.gnWithdraw a

/-- GN's part of a frame boundary: reassignment of failed channels, coasting times, the burst mode, leap data (R156, R171, R176, R177). -/
def gnFrame (s : State) : State :=
  let put := fun (t : State) (c : GnChan) =>
    if t.gn.chans.any (fun x => x.st == 0) then t.takeFree c
    else
      let el := fun (x : GnChan) => match t.segAt c.ant x.sat (secOf t.tc.now) with
        | some g => g.elev
        | none => -128
      let worst := (t.gn.chans.zipIdx.filter (fun e => e.1.ant == c.ant && 1 ≤ e.1.st && e.1.st ≤ 4)).foldl (fun b e =>
        match b with
        | some x => if el e.1 < el x.1 then some e else b
        | none => some e) (none : Option (GnChan × Nat))
      match worst with
      | some (_, k) => t.setChan k { c with st := 2, pullMs := 0, coasted := 0, coastAt := [] }
      | none => t
  let s1 := s.gn.lostChans.foldl put (s.setGn { s.gn with lostChans := [] })
  let s2 := s1.setGn { s1.gn with chans := s1.gn.chans.map (fun c => if c.st = 4 then { c with coasted := c.coasted + 1 } else c) }
  let sel := match s2.rs.cur with | some n => s2.selected && n ≤ 1 | none => false
  if s2.gn.leapDue then
    let s3 := s2.setGn { s2.gn with leapDue := false }
    if sel then
      s3.utcDeliver (signedOf 16 (s3.rdN Reg.GN_LEAP_CUR)) (signedOf 16 (s3.rdN Reg.GN_LEAP_PEND))
        (s3.rdN Reg.GN_LEAP_EFF_L + 2 ^ 32 * bitsOf (s3.rdN Reg.GN_LEAP_EFF_H) 0 16)
    else s3
  else s2

/-! ### OSNMA (R172 to R174) -/

/-- GN_OSN_CMD: LOAD, then CLEAR (R173, R181). -/
def osnClear (s : State) : State := (s.setGn { s.gn with root := none, authed := [], failed := [] }).setB Fld.GN_STAT_OSN_ROOT false
def osnLoad (s : State) : State :=
  let words := (List.range 8).map (fun k => s.rdN (Reg.GN_OSN_KROOT k)) ++ [s.rdN Reg.GN_OSN_CFG, s.rdN Reg.GN_OSN_T_L]
  (s.setGn { s.gn with root := some words, authed := [], failed := [] }).setB Fld.GN_STAT_OSN_ROOT true
def wrOsnCmd (s : State) (v : Nat) : State :=
  let s1 := if bitAt v 0 then s.osnLoad else s
  if bitAt v 1 then s1.osnClear else s1

/-- A TESLA key or tag check that KEYOP has admitted (R172, R174). -/
def osnmaCheck (s : State) (prn iod : Nat) (isKey : Bool) (data tag : List Byte) : State :=
  match s.gn.root with
  | none => s
  | some root =>
    if Config.osnmaOk root isKey data tag then
      if isKey then s else s.setGn { s.gn with authed := (prn, iod) :: s.gn.authed.filter (fun e => e.1 != prn), failed := s.gn.failed.filter (· != prn) }
    else
      let s1 := s.evt Fld.GN_EVT_OSN_FAIL
      if isKey then s1
      else (s1.setGn { s1.gn with authed := s1.gn.authed.filter (fun e => e.1 != prn), failed := prn :: s1.gn.failed.filter (· != prn) }).emit 0x0F 13 "OSNMA_FAIL"

/-- GN verifies OSNMA only with time set and the bound within GN_OSN_TSYNC (R172). -/
def osnmaActive (s : State) : Bool :=
  (s.get Fld.GN_CFG_OSNMA == 1 || s.get Fld.GN_CFG_OSNMA == 2) && s.timeState != 0 &&
    (match s.boundNow with
     | some b => b ≤ bitsOf (s.rdN Reg.GN_OSN_TSYNC) 0 8 * 1000000000000
     | none => false)

/-! ### Front-end SPI (R178) -/

/-- A write to GN_FE_XFER. -/
def feXfer (s : State) (v : Nat) : State :=
  if s.flag Fld.GN_FE_STAT_BUSY then s.bumpF Fld.GN_FE_STAT_DROP
  else
    let n := max 8 (bitsOf v 24 6 + 1)
    let data := bitsOf v 0 24 + 2 ^ 24 * bitsOf (s.rdN Reg.GN_FE_WR) 0 8
    (s.setGn { s.gn with feSent := s.gn.feSent ++ [(bitsOf v 31 1, n, data % 2 ^ n)] }).setB Fld.GN_FE_STAT_BUSY true

end State

end Sys2Proof.Machine
end

