-- ==== Sys2Proof/Machine/Shell.lean ====
section
/-! DEFINITION. The Metrology Shell (chapter 08): capture, interval units, calibration, spares, the publication record, the LRP store and the
mailbox. What a publication does at its consumer is `Publish.lean`'s. -/

namespace Sys2Proof.Machine

/-- The width of a histogram bin as a share of the period (R199). -/
def histShare (h : List Nat) (k : Nat) : Rat := (h.getD k 0 : Rat) / (h.foldl (· + ·) 0 : Nat)

/-- A sum over the 1,024 bins; none where a bin is counted that the other side holds to be empty. -/
def binSum (term : Nat → Option Rat) : Option Rat :=
  (List.range 1024).foldl (fun a k => match a, term k with | some x, some y => some (x + y) | _, _ => none) (some 0)

/-- The live-pass statistic of R199. -/
def chiSquare (h : List Nat) (share : Nat → Rat) : Option Rat :=
  let n : Rat := (h.foldl (· + ·) 0 : Nat)
  binSum (fun k =>
    let e := n * share k
    let d := (h.getD k 0 : Rat) - e
    if e = 0 then (if h.getD k 0 = 0 then some 0 else none) else some (d * d / e))

/-- The two-sample statistic of two passes of equal length (R199 names the test and gives no formula; PRESUMED). -/
def twoSample (a b : List Nat) : Option Rat :=
  binSum (fun k =>
    let x : Rat := a.getD k 0; let y : Rat := b.getD k 0
    if x + y = 0 then some 0 else some ((x - y) * (x - y) / (x + y)))

/-- A statistic is within its limit. -/
def withinChi (x : Option Rat) (limit : Nat) : Bool :=
  match x with | some q => decide (q ≤ (limit : Rat)) | none => false

/-- A histogram of 1,024 bins has an empty bin. -/
def emptyBin (h : List Nat) : Bool := (List.range 1024).any (fun k => h.getD k 0 == 0)

/-- The table of a pass (R198): round(64 × c_k), `s` in bins. -/
def tableOf (h : List Nat) (s : Rat) : List Int :=
  let n : Rat := (h.foldl (· + ·) 0 : Nat)
  ((List.range 1024).foldl (fun (a : Nat × List Int) k =>
    let hk := h.getD k 0
    (a.1 + hk, nearestInt (64 * (((a.1 : Rat) + (hk : Rat) / 2) * 1024 / n + s)) :: a.2)) (0, [])).2.reverse

/-- The records with one more put in its place by identifier (R208). -/
def putLrp : List (Nat × List Byte) → Nat × List Byte → List (Nat × List Byte)
  | [], e => [e]
  | x :: r, e => if x.1 = e.1 then e :: r else if e.1 < x.1 then e :: x :: r else x :: putLrp r e

/-- The records of a session's bytes (R210): exactly `n`, padded to four bytes each; none where the layout is wrong. -/
def parseRecords : Nat → List Byte → Option (List (Nat × List Byte))
  | 0, b => if b.isEmpty then some [] else none
  | n + 1, b =>
    let len := fromLe ((b.drop 2).take 2)
    let whole := 4 + ceilDiv len 4 * 4
    if b.length < whole then none
    else (parseRecords n (b.drop whole)).map (fun r => (fromLe (b.take 2), (b.drop 4).take len) :: r)

/-- The bytes the LRP hash runs over: identifier, length and value of every record, in identifier order. -/
def lrpBytes (l : List (Nat × List Byte)) : List Byte := l.flatMap (fun e => leBytes 2 e.1 ++ leBytes 2 e.2.length ++ e.2)

/-- A SHA-384 as the twelve words of a hash register, the first four bytes in word 0. -/
def hashWords (b : List Byte) : List Nat := (List.range 12).map (fun k => fromLe ((b.drop (4 * k)).take 4))

namespace State

/-- SH_STAT.STATE. -/
def shState (s : State) : Nat := s.get Fld.SH_STAT_STATE

/-- The Shell measures: it is READY or in METRO_FAIL (R215), and TCLK runs (R216). -/
def shMeasures (s : State) : Bool := 3 ≤ s.shState && s.flag Fld.TC_STAT_TCLK_OK

def setSh (s : State) (x : Shell) : State := { s with sh := x }
def tdc (s : State) (c : Nat) : TdcChan := s.sh.chans.getD c TdcChan.fresh
def modTdc (s : State) (c : Nat) (f : TdcChan → TdcChan) : State := s.setSh { s.sh with chans := s.sh.chans.modify c f }

/-! ### Conversion (R16, R192, R198) -/

/-- The table a generation selects on a channel; none for the factory table. -/
def binTable (s : State) (c : Nat) (g : Bool) : Option BinTable := if g then (s.tdc c).bufB else (s.tdc c).bufA

/-- The calibrated bin of a raw bin, in units of 2^-6 bin, which the skew may carry across a cycle. -/
def calBin (s : State) (c : Nat) (g : Bool) (raw : Nat) : Int :=
  match s.binTable c g with
  | some t => t.entries.getD raw 0
  | none => (Config.factoryBin c raw).val

/-- The converted time of an edge, in units of 2^-48 ns (R16). -/
def edgeTime (s : State) (c : Nat) (e : TdcEdge) : Nat := ((e.start : Int) + s.calBin c e.tgen e.raw * (e.incr : Int) / 65536).toNat

/-- CBIN and CYC of an edge, CYC adjusted where the skew carries the position across a cycle (R192). -/
def edgeBin (s : State) (c : Nat) (e : TdcEdge) : Nat × Nat :=
  let b := s.calBin c e.tgen e.raw
  ((b % 65536).toNat, ((e.cyc : Int) + b / 65536 - s.sh.readyAt).toNat)

/-! ### Channels and spares (R186, R201, R207) -/

/-- The source that a channel publishes for. -/
def sourceOf (s : State) (c : Nat) : Option Nat := (List.range 44).find? (fun x => s.sh.srcChan.getD x none == some c)

/-- A source is configured or observed, so that its channel is live (R186). -/
def srcLive (s : State) (x : Nat) : Bool :=
  if x ≤ 3 then s.slotEn (2 + x)
  else if x ≤ 5 then s.gifOk (x - 4)
  else if x ≤ 7 then true
  else if x ≤ 23 then bitAt (s.rdN Reg.SH_PORT_EN) (x - 8)
  else if x ≤ 39 then bitAt (s.rdN Reg.SH_PORT_EN) (16 + (x - 24))
  else bitAt (s.rdN Reg.SH_LINK_EN) (x - 40)

/-- A channel carries a live source. -/
def chanLive (s : State) (c : Nat) : Bool := match s.sourceOf c with | some x => s.srcLive x | none => false

/-- A spare that stands in during a calibration, and one that serves a source until the Shell is reset. -/
def standsIn (s : State) (c : Nat) : Bool := s.sh.liveCal.any (fun l => l.spare == c)
def serves (s : State) (c : Nat) : Bool := !s.standsIn c && (s.sourceOf c).isSome

/-- The spares neither standing in nor serving, ascending. -/
def freeSpares (s : State) : List Nat := [44, 45, 46, 47].filter (fun c => !(s.tdc c).fenced && !s.standsIn c && !s.serves c)

/-- SPARES_LEFT and SPARES_FREE follow (R207, R219). -/
def refreshSpares (s : State) : State :=
  let left := [44, 45, 46, 47].filter (fun c => !(s.tdc c).fenced && !s.serves c)
  (s.set Fld.SH_STAT_SPARES_LEFT left.length).set Fld.SH_STAT_SPARES_FREE s.freeSpares.length

/-- A source is given a publisher. -/
def moveSource (s : State) (x : Nat) (c : Option Nat) : State := s.setSh { s.sh with srcChan := s.sh.srcChan.set x c }

/-- SH_STAT.STALE follows the channels (R202). -/
def refreshStale (s : State) : State := s.setB Fld.SH_STAT_STALE (s.sh.chans.any (·.stale))

/-- A calibration in progress is abandoned: its source returns to its own channel (R207). -/
def dropLiveCal (s : State) (l : LiveCal) : State :=
  let s1 := s.setSh { s.sh with liveCal := s.sh.liveCal.filter (· != l) }
  match s.sourceOf l.spare with
  | some x => s1.moveSource x (if (s.tdc l.chan).fenced then some l.spare else some l.chan)
  | none => s1

/-- The calibration in progress of highest channel number. -/
def highestCal (s : State) : Option LiveCal := s.sh.liveCal.find? (fun l => s.sh.liveCal.all (fun m => m.chan ≤ l.chan))

/-- A spare is made free if none is, by abandoning the calibration of highest channel number (R207). -/
def freeASpare (s : State) : State :=
  if s.freeSpares.isEmpty then (match s.highestCal with | some l => s.dropLiveCal l | none => s) else s

/-- A channel is fenced and its source moves to the lowest-numbered free spare (R207). -/
def fenceChan (s : State) (c : Nat) : State :=
  if (s.tdc c).fenced then s else s.fencing 10 0 fun s =>
  let s1 := s.modTdc c (fun x => { x with fenced := true, fifo := [], stale := false })
  let s2 := (s.sh.liveCal.filter (fun l => l.chan == c || l.spare == c)).foldl (fun t l =>
    if l.spare = c then (match s.sourceOf c with
      | some x => (t.setSh { t.sh with liveCal := t.sh.liveCal.filter (· != l) }).moveSource x (some l.chan)
      | none => t.setSh { t.sh with liveCal := t.sh.liveCal.filter (· != l) })
    else t.setSh { t.sh with liveCal := t.sh.liveCal.filter (· != l) }) s1
  let s3 := match s2.sourceOf c with
    | some x =>
      let t := s2.freeASpare
      let t1 := t.moveSource x t.freeSpares.head?
      t1.setSh { t1.sh with gap := t1.sh.gap.set x true }
    | none => s2
  let s4 := s3.set Fld.SH_CAP_CHANNELS (s3.get Fld.SH_CAP_CHANNELS - 1)
  (s4.refreshSpares.refreshStale.emit 0x00 3 "GAP").evt Fld.SH_EVT_FENCE

/-! ### Capture (R189) -/

/-- An edge reaches a channel: it enters the FIFO, or is lost and counted. -/
def tdcEdge (s : State) (c raw tag : Nat) : State :=
  let x := s.tdc c
  if !s.shMeasures || x.fenced || s.sh.liveCal.any (fun l => l.chan == c && l.step == 1) then s else
  let e : TdcEdge := ⟨s.tc.cycle, s.tc.now, s.incr, raw, x.tgen, tag⟩
  let t := s.edgeTime c e
  let near := match x.lastEdge with | some t0 => decide (t < t0 + 2 * nsU) | none => false
  if near then (s.bump (Reg.SHc_COLLIDE c)).modTdc c (fun y => { y with lossPrior := true })
  else if 32 ≤ x.fifo.length then (s.bump (Reg.SHc_FIFO_OVF c)).modTdc c (fun y => { y with lossPrior := true, lastEdge := some t })
  else
    let s1 := s.modTdc c (fun y => { y with fifo := y.fifo ++ [e], lastEdge := some t })
    s1.setSh { s1.sh with liveCal := s1.sh.liveCal.map (fun l =>
      if l.step = 1 then l
      else if l.chan = c then { l with sumC := l.sumC + t, numC := l.numC + 1 }
      else if l.spare = c then { l with sumS := l.sumS + t, numS := l.numS + 1 } else l) }

/-! ### Interval units (R190, R191) -/

/-- The channel whose edges stop a unit (R190), by the unit and its owner. -/
def stopChan (u owner : Nat) : Nat := if u = 0 then 7 else if u ≤ 4 then 40 + (u - 1) else 8 + owner

/-- The oldest unmatched start of a unit is discarded and counted (R190). -/
def dropStart (s : State) (u : Nat) : State :=
  match s.sh.units.getD u [] with
  | [] => s
  | a :: r => (s.setSh { s.sh with units := s.sh.units.set u r }).bump (Reg.SHc_STALE_START (stopChan u a.owner))

/-- A start reaches a unit, displacing the oldest of eight (R190). -/
def addStart (s : State) (u : Nat) (a : UnitStart) : State :=
  if !s.shMeasures then s else
  let s1 := if 8 ≤ (s.sh.units.getD u []).length then s.dropStart u else s
  s1.setSh { s1.sh with units := s1.sh.units.modify u (· ++ [a]) }

/-- The start that a stop pairs with (R191): the latest earlier than the stop plus 2 ns. -/
def pairOf (l : List UnitStart) (stop : Resolved) : Option UnitStart :=
  (l.filter (fun a => a.ev.time < stop.time + 2 * nsU)).foldl (fun b a =>
    match b with | none => some a | some x => if x.ev.time ≤ a.ev.time then some a else some x) none

/-- An interval's value in units of 2^-48 ns and its TIE and REVERSED marks (R191). -/
def intervalOf (a stop : Resolved) : Int × Bool × Bool :=
  if a.cyc = stop.cyc && a.cbin / 64 = stop.cbin / 64 then (0, true, false)
  else ((stop.time : Int) - a.time, false, decide ((stop.time : Int) < a.time))

/-! ### Calibration (R197 to R202) -/

/-- The number of edges of a pass (R197). -/
def calN (s : State) : Nat := 2 ^ clampNat 16 20 (bitsOf (s.rdN Reg.SH_CAL_N) 0 5)

/-- The share of a bin under the table in force (R199). -/
def binShare (s : State) (c k : Nat) : Rat :=
  match s.binTable c (s.tdc c).tgen with
  | some t => histShare t.hist k
  | none => (Config.factoryWidth c k : Rat) / 2 ^ 20

/-- A table is accepted: it goes to the inactive buffer, which becomes active (R200). -/
def acceptTable (s : State) (c : Nat) (h : List Nat) (pulse : Rat) : State :=
  let sk : Rat := Config.treeConst s.sh.lrp c - pulse
  let t : BinTable := ⟨tableOf h sk, h⟩
  ((s.modTdc c (fun x =>
    let y := if x.tgen then { x with bufA := some t } else { x with bufB := some t }
    { y with tgen := !x.tgen, acceptedAt := some s.tc.now, stale := false, skew := nearestInt (64 * sk) })).wrapBy Reg.SH_CAL_PASSES 1).refreshStale

/-- A pass may complete on a channel: at CAL_INIT, in its calibration, or with no live source (R197, R201, R218). -/
def mayPass (s : State) (c : Nat) : Bool :=
  !(s.tdc c).fenced && s.flag Fld.TC_STAT_TCLK_OK && 2 ≤ s.shState &&
    (s.shState == 2 || s.sh.liveCal.any (fun l => l.chan == c && l.step == 1) || (!s.chanLive c && !s.standsIn c))

/-- The outcome of a pass (R199, R207). -/
def passDone (s : State) (c : Nat) (h ring : List Nat) (pulse : Rat) : State :=
  let x := s.tdc c
  let limit := s.sh.limits.chi
  let s1 := (s.charge 0 s.calN).modTdc c (fun y => { y with lastHist := h, barred := y.barred - 1, emptyRun := 0, lastRing := [] })
  if emptyBin h then
    let s2 := s1.modTdc c (fun y => { y with emptyRun := x.emptyRun + 1 })
    if 1 ≤ x.emptyRun then s2.fenceChan c else s2
  else if withinChi (chiSquare h (s.binShare c)) limit then s1.acceptTable c h pulse
  else if ring.length ≠ 1024 || ring.foldl (· + ·) 0 ≠ s.calN then s1
  else
    let s2 := s1.modTdc c (fun y => { y with lastRing := ring })
    if !x.lastRing.isEmpty && !withinChi (twoSample ring x.lastRing) limit then s2.fenceChan c
    else if withinChi (twoSample h ring) limit then s2.acceptTable c (List.zipWith (· + ·) h ring) pulse
    else
      let s3 := (s2.bump Reg.SH_CAL_REJ).evt Fld.SH_EVT_CAL_REJECT
      let s4 := s3.modTdc c (fun y => { y with barred := 16 })
      if emptyBin ring then s4 else s4.acceptTable c ring pulse

/-- A calibration pass ends; the source then begins its return (R199, R201). -/
def calPass (s : State) (c : Nat) (h ring : List Nat) (pulse : Rat) : State :=
  if !s.mayPass c || h.length ≠ 1024 || h.foldl (· + ·) 0 ≠ s.calN then s
  else
    let s1 := s.passDone c h ring pulse
    s1.setSh { s1.sh with liveCal := s1.sh.liveCal.map (fun l =>
      if l.chan = c then { l with step := 2, sumC := 0, sumS := 0, numC := 0, numS := 0 } else l) }

/-- CAL_PAR as it counts (R201, R219). -/
def calPar (s : State) : Nat := min 4 (s.get Fld.SH_CTL_CAL_PAR)

/-- A live channel's calibration begins (R201). -/
def liveCalStart (s : State) (c : Nat) : State :=
  match s.freeSpares with
  | sp :: _ =>
    if s.shMeasures && s.sh.posted && c < 44 && s.chanLive c && !(s.tdc c).fenced && s.sh.liveCal.length < s.calPar &&
        s.sh.liveCal.all (fun l => l.chan != c) then
      (s.setSh { s.sh with liveCal := s.sh.liveCal ++ [LiveCal.mk c sp 0 0 0 0 0] }).refreshSpares
    else s
  | [] => s

/-- The comparison of a channel and its spare over a whole frame (R201). -/
def crossCheck (s : State) (l : LiveCal) : State :=
  if l.numC = 0 || l.numS ≠ l.numC then s
  else if ofPs s.sh.limits.xchk * l.numC < ((l.sumC : Int) - l.sumS).natAbs then (s.evt Fld.SH_EVT_XCHK).emit 0x00 4 "XCHK"
  else s

/-- The calibrations in progress at a frame boundary (R201): the comparisons, and the moves of the publisher. -/
def liveCalFrame (s : State) : State :=
  (s.sh.liveCal.foldl (fun t l =>
    if l.step = 1 then t
    else
      let t1 := t.crossCheck l
      match s.sourceOf (if l.step = 0 then l.chan else l.spare) with
      | none => t1.setSh { t1.sh with liveCal := t1.sh.liveCal.filter (· != l) }
      | some x =>
        if l.step = 0 then
          (t1.moveSource x (some l.spare)).setSh { (t1.moveSource x (some l.spare)).sh with
            liveCal := t1.sh.liveCal.map (fun m => if m = l then { m with step := 1 } else m) }
        else
          (t1.moveSource x (some l.chan)).setSh { (t1.moveSource x (some l.chan)).sh with
            liveCal := t1.sh.liveCal.filter (· != l) }) s).refreshSpares

/-- A live channel's table is older than SH_CAL_AGE (R202). -/
def staleTable (s : State) (c : Nat) : State :=
  if !s.shMeasures || !s.chanLive c || (s.tdc c).stale || (s.tdc c).fenced then s
  else ((s.modTdc c (fun x => { x with stale := true })).setB Fld.SH_STAT_STALE true).evt Fld.SH_EVT_STALE

/-- TCLK is lost (R216): measurement stops, passes are abandoned, and the next record of every source carries GAP. -/
def shTclkLost (s : State) : State :=
  let s1 := s.sh.liveCal.foldl (fun t l => t.dropLiveCal l) s
  (s1.setSh { s1.sh with gap := List.replicate 48 true, frameEdges := [], chans := s1.sh.chans.map (fun c => { c with fifo := [], lastEdge := none }),
                         units := List.replicate 16 [] }).setB Fld.SH_STAT_TCLK_SEEN false |>.refreshSpares

/-! ### The publication record (R192, R194, R195) -/

/-- The flags that a channel and a source give a record (R194). -/
def pubFlags (s : State) (c x : Nat) : Nat :=
  let d := s.tdc c
  let b := fun (v : Bool) (k : Nat) => if v then 2 ^ k else 0
  b d.acceptedAt.isNone 0 + b (s.binTable c d.tgen).isNone 1 + b d.stale 2 + b (s.sh.gap.getD x false) 5 + b d.lossPrior 6 + b (44 ≤ c) 7 +
    b (s.sh.restart.getD x false) 8 + b (s.flag Fld.SH_STAT_UNSEALED) 9

/-- The twelve words of a record (R192). -/
def pubWords (s : State) (p : Pub) : List Nat :=
  let sec := secOf p.time
  [bitsOf p.chan 0 6 * 2 ^ 26 + bitsOf p.src 0 8 * 2 ^ 18 + s.sh.fuses % 128 * 2 ^ 11 + p.flags % 2 ^ 11,
   s.sh.seq % 2 ^ 32, s.sh.seq / 2 ^ 32 % 2 ^ 32, p.cyc % 2 ^ 32, p.cyc / 2 ^ 32 % 2 ^ 32,
   p.raw * 2 ^ 22 + (if p.tgen then 2 ^ 21 else 0) + p.kind * 2 ^ 16 + p.cbin % 2 ^ 16,
   frac32Of p.time, nsOf p.time, sec % 2 ^ 32, p.unc * 2 ^ 16 + sec / 2 ^ 32 % 2 ^ 16, p.payload % 2 ^ 32, p.payload / 2 ^ 32 % 2 ^ 32]

/-- A record is admitted by SHPUB: an allowance is posted, and R102 admits it or the minimum floor is not spent (R195). -/
def pubAdmits (s : State) : Bool := s.sh.posted && (s.spent 8 < 1024 || s.admits 8 1)

/-- A record is kept as the newest of its source and KIND, counting the one it supersedes (R195). -/
def holdPub (s : State) (p : Pub) : State :=
  let same := fun (q : Pub) => q.src == p.src && q.kind == p.kind
  let s1 := if s.sh.held.any same then s.bump Reg.SH_PUB_DROP else s
  (s1.setSh { s1.sh with held := s1.sh.held.filter (fun q => !same q) ++ [{ p with flags := setBitAt p.flags 10 }] }).evt Fld.SH_EVT_COALESCE

/-- A record goes out: its number, its words in page 0x041, and the marks it carried (R192, R195). -/
def sendPub (s : State) (p : Pub) : State :=
  let s0 := s.setSh { s.sh with seq := s.sh.seq + 1 }
  let s1 := if s0.admits 8 1 then s0.admitted 8 1 else s0.charge 8 1
  let s2 := if p.src < 48 then s1.wrWords (Reg.SH_REC (12 * p.src)) (s1.pubWords p) else s1
  let s3 := (s2.wr64 Reg.SH_SEQ_L s2.sh.seq).pcEvent 0x0901 0 1
  { s3 with freeCtr := s3.freeCtr + 1, sh := { s3.sh with
      gap := s3.sh.gap.set p.src false, restart := s3.sh.restart.set p.src false,
      chans := s3.sh.chans.modify p.chan (fun c => { c with lossPrior := false }) } }

/-- The next channel with a non-empty FIFO in rotating order (R189). -/
def drainNext (s : State) : Option Nat :=
  ((List.range 48).map (fun k => (s.sh.turn + k) % 48)).find? (fun c => !(s.tdc c).fifo.isEmpty)

/-- The oldest entry of a FIFO is taken. -/
def popEdge (s : State) (c : Nat) : State :=
  let s1 := s.modTdc c (fun x => { x with fifo := x.fifo.tail })
  s1.setSh { s1.sh with turn := (c + 1) % 48 }

/-- A frame record's edge fields (R192): the boundary's time and cycle, RAW and CBIN 0. -/
def framePub (s : State) (c x kind payload : Nat) : Pub :=
  { chan := c, src := x, kind := kind, flags := s.pubFlags c x, cyc := s.tc.cycle - s.sh.readyAt, raw := 0, tgen := (s.tdc c).tgen, cbin := 0,
    time := s.tc.now, unc := (Config.pubUnc c s.freeCtr).toNat, payload := payload, tag := 0, owner := 0 }

/-! ### Settings (R187, R219) -/

/-- The settings of a REFIN as the registers hold them. -/
def refinAsked (s : State) (n : Nat) : RefinSet :=
  ⟨bitsOf (s.rdN (Reg.SH_REFINn_CFG n)) 0 4, s.rdN (Reg.SH_REFINn_FNOM n), s.get (Fld.RSn_CFG_KIND (2 + n))⟩

/-- The Shell refuses a REFIN's settings (R187). -/
def refinRefused (r : RefinSet) : Bool :=
  10 < r.div || 25000000 * 2 ^ r.div < r.fnom || (r.div != 0 && (r.kind == 0 || r.kind == 1)) || (r.fnom == 0 && r.kind == 2)

/-- Changed settings are forwarded at the boundary, or refused (R187, R216, R219). -/
def forwardSettings (s : State) : State :=
  if s.shState = 0 then s else
  (List.range 4).foldl (fun t n =>
    let want := t.refinAsked n
    if want = t.sh.refin.getD n ⟨0, 0, 0⟩ then t
    else if refinRefused want then (if t.flag Fld.SH_EVT_CFG_REFUSED then t else t.evt Fld.SH_EVT_CFG_REFUSED)
    else t.setSh { t.sh with refin := t.sh.refin.set n want, gap := t.sh.gap.set n true }) s

/-! ### The store and the mailbox (R208 to R215) -/

/-- SH_STAT.SEAL and the hash registers follow the store (R208, R209). -/
def refreshStore (s : State) : State :=
  (s.set Fld.SH_STAT_SEAL s.sh.fuses).wrWords (Reg.SH_LRPHASH 0) (hashWords (Config.sha384 (lrpBytes s.sh.lrp)))

/-- The limits that records hold. -/
def limitsOf (l : List (Nat × List Byte)) : LrpLimits :=
  let x := Config.lrpLimits l
  ⟨x.1, x.2.1, x.2.2.1, x.2.2.2⟩

/-- METRO_FAIL (R215). -/
def metroFail (s : State) : State :=
  (((s.set Fld.SH_STAT_STATE 4).setB Fld.SH_STAT_UNSEALED true).setActive 8 true).raiseFault 8 0 false

/-- A mailbox access is refused because BUSY is set (R211). -/
def mbBusy (s : State) : Bool := s.flag Fld.SH_MB_STAT_BUSY
def mbReject (s : State) : State := s.evt Fld.SH_EVT_MB_REJ

/-- The bytes of SH_MB_BUF (R221). -/
def mbBuf (s : State) (n : Nat) : List Byte := ((List.range (ceilDiv n 4)).flatMap (fun k => leBytes 4 (s.rdN (Reg.SH_MB_BUF k)))).take n

/-- The staged parts become `b`. -/
def setStaged (s : State) (b : List Byte) (long : Bool) : State :=
  (s.setSh { s.sh with staged := b, tooLong := long }).set Fld.SH_MB_STAT_STAGED (b.length / 4)

/-- SH_MB_CMD.APPEND (R211, R221). -/
def mbAppend (s : State) : State :=
  if s.mbBusy then s.mbReject
  else
    let n := clampNat 4 4032 (bitsOf (s.rdN Reg.SH_MB_LEN) 0 12)
    if 65536 < s.sh.staged.length + n then s.setStaged s.sh.staged true
    else s.setStaged (s.sh.staged ++ s.mbBuf n) s.sh.tooLong

/-- SH_MB_CMD.ABORT (R211). -/
def mbAbort (s : State) : State := if s.mbBusy then s.mbReject else s.setStaged [] false

/-- A new nonce is drawn from jitter (R211). -/
def newNonce (s : State) : State :=
  (s.wrWords (Reg.SH_NONCE 0) ((List.range 4).map (fun k => (Config.shellNonce (s.freeCtr + 1) k).toNat))).tick

/-- SH_MB_CMD.EXECUTE (R211): the nonce is consumed and verification begins. -/
def mbExecute (s : State) : State :=
  if s.mbBusy then s.mbReject
  else
    let old := (List.range 4).map (fun k => s.rdN (Reg.SH_NONCE k))
    ((s.setSh { s.sh with execNonce := old }).newNonce).setB Fld.SH_MB_STAT_BUSY true

/-- A write to SH_MB_CMD: APPEND, EXECUTE, ABORT in that order. -/
def wrMbCmd (s : State) (v : Nat) : State :=
  let s1 := if bitAt v 0 then s.mbAppend else s
  let s2 := if bitAt v 1 then s1.mbExecute else s1
  if bitAt v 2 then s2.mbAbort else s2

/-- The identifier of the device as bytes. -/
def uidBytes (s : State) : List Byte := (List.range 4).flatMap (fun k => leBytes 4 (s.rdN (Reg.SH_UID k)))

/-- The records of the staged session, where its magic, command and layout are right (R210). -/
def sessionRecords (s : State) : Option (List (Nat × List Byte)) :=
  let b := s.sh.staged
  if b.length < 240 || fromLe (b.take 4) ≠ 0x314C4853 || fromLe ((b.drop 4).take 2) ≠ 1 then none
  else parseRecords (fromLe ((b.drop 6).take 2)) ((b.drop 144).take (b.length - 240))

/-- The RESULT of the staged session by the order of R221. -/
def sessionResult (s : State) : Nat :=
  let b := s.sh.staged
  let key := fromLe ((b.drop 44).take 4)
  let pub := (b.drop 48).take 96
  if s.sh.tooLong || 65536 < b.length then 1
  else match s.sessionRecords with
    | none => 2
    | some recs =>
      if 3 < key || Config.sha384 pub ≠ Config.metroKeyHash key then 3
      else if !Config.ecdsaVerify pub (b.take (b.length - 96)) (b.drop (b.length - 96)) then 4
      else if (b.drop 8).take 16 ≠ s.uidBytes then 5
      else if (b.drop 24).take 16 ≠ s.sh.execNonce.flatMap (leBytes 4) then 6
      else if fromLe ((b.drop 40).take 4) ≠ s.sh.fuses then 7
      else if recs.any (fun e => !Config.lrpAccepts e.1 e.2) then 8
      else if 64 ≤ s.sh.fuses then 9
      else if s.shState = 4 && !Config.lrpWhole recs then (Config.metroRefusal s.freeCtr).val + 1
      else 0

/-- The audit entry of the staged session (R213). -/
def auditOf (s : State) (complete : Bool) : AuditEntry :=
  { sealCount := s.sh.fuses + 1, time := if s.timeState = 0 then 0 else s.tc.now, key := fromLe ((s.sh.staged.drop 44).take 4),
    digest := Config.sha384 s.sh.staged, complete := complete }

/-- The commit of a session that passed (R211): one fuse, the records, the hash and the audit entry. -/
def commitSession (s : State) : State :=
  let recs := (s.sessionRecords).getD []
  let store := recs.foldl putLrp (if Config.lrpWhole recs then [] else s.sh.lrp)
  let s1 := s.setSh { s.sh with fuses := s.sh.fuses + 1, storeCount := s.sh.fuses + 1, lrp := store,
                                audit := (s.sh.audit ++ [s.auditOf true]), nextLimits := some (limitsOf store) }
  (if Config.lrpHasImage recs then s1.setB Fld.SH_STAT_PIP_PENDING true else s1).refreshStore

/-- Verification and any commit end (R211, R221); `storeFail` says that the store write failed after the fuse. -/
def sessionComplete (s : State) (storeFail : Bool) : State :=
  if !s.mbBusy then s
  else
    let r := s.sessionResult
    let s1 := if r ≠ 0 then s
      else if storeFail then
        (s.setSh { s.sh with fuses := s.sh.fuses + 1, audit := s.sh.audit ++ [s.auditOf false] }).set Fld.SH_STAT_SEAL (s.sh.fuses + 1)
      else s.commitSession
    let s2 := (s1.set Fld.SH_MB_STAT_RESULT (if r = 0 && storeFail then 10 else r)).setB Fld.SH_MB_STAT_BUSY false
    (s2.setStaged [] false).evt Fld.SH_EVT_CMD_DONE

/-! ### Start and stop (R212, R216, R218) -/

/-- The Shell has TCLK at boot: factory tables in every channel, and CAL_INIT (R218). -/
def shTclkSeen (s : State) : State :=
  let s1 := s.setB Fld.SH_STAT_TCLK_SEEN true
  if s1.shState = 1 then s1.set Fld.SH_STAT_STATE 2 else s1

/-- Everything of the Shell that its reset loses (R216): tables, FIFOs, spares, units, publications and the stage. -/
def shClear (s : State) : State :=
  let s1 := s.setSh { s.sh with
    chans := List.replicate 48 TdcChan.fresh, srcChan := (List.range 48).map (fun k => if k < 44 then some k else none),
    gap := List.replicate 48 false, restart := List.replicate 48 true, refin := List.replicate 4 ⟨0, 0, 0⟩, liveCal := [],
    units := List.replicate 16 [], seq := 0, readyAt := 0, turn := 0, held := [], posted := false, frameEdges := [],
    paths := List.replicate 32 ⟨0, 0, 0, 0, false⟩, ocal := 65535, quiet := 0, staged := [], execNonce := [], tooLong := false, wdogAt := none }
  let s2 := ((s1.wrN Reg.SH_MB_STAT 0).setB Fld.SH_STAT_STALE false).set Fld.SH_CAP_CHANNELS 48
  ((s2.set Fld.SH_STAT_SPARES_LEFT 4).set Fld.SH_STAT_SPARES_FREE 0).setB Fld.SH_STAT_TCLK_SEEN false

/-- The Shell boots (R212, R218): the store is checked, and CAL_INIT begins once TCLK is present. `hashOk`: the recomputed hash matches. -/
def shBoot (s : State) (hashOk : Bool) : State :=
  let s1 := (((s.shClear).set Fld.SH_STAT_STATE 1).setB Fld.SH_STAT_UNSEALED false).setB Fld.SH_STAT_PIP_PENDING false
  let s2 := (s1.setSh { s1.sh with limits := limitsOf s1.sh.lrp, nextLimits := none }).refreshStore
  let s3 := (s2.wrWords (Reg.SH_FWHASH 0) ((List.range 12).map (fun k => (Config.shellImageHash s2.sh.lrp k).toNat))).newNonce.evt Fld.SH_EVT_RESTART
  let ok := hashOk && (s.sh.fuses = s.sh.storeCount || s.sh.fuses = s.sh.storeCount + 1)
  if !ok then s3.metroFail
  else
    let s4 := if s.sh.fuses = s.sh.storeCount + 1 then (s3.setB Fld.SH_STAT_SEAL_GAP true).evt Fld.SH_EVT_SEAL_GAP
      else s3.setB Fld.SH_STAT_SEAL_GAP false
    if s4.flag Fld.TC_STAT_TCLK_OK then s4.shTclkSeen else s4

/-- CAL_INIT ends (R218). -/
def shReady (s : State) : State :=
  if s.shState ≠ 2 then s
  else
    let s1 := (s.set Fld.SH_STAT_STATE 3).setSh { s.sh with readyAt := s.tc.cycle, quiet := 0 }
    (s1.setActive 7 false).refreshSpares

/-- The Shell Pip's watchdog (R214): one restart, and METRO_FAIL on a second expiry within 1 s. -/
def shWdog (s : State) : State :=
  if s.shState = 0 then s else
  let again := match s.sh.wdogAt with | some t => decide (s.tc.now < t + secU) | none => false
  let s1 := (s.setSh { s.sh with wdogAt := some s.tc.now, gap := List.replicate 48 true }).emit 0x00 3 "GAP"
  if again then (s1.raiseFault 9 0 false).metroFail else s1

end State

end Sys2Proof.Machine
end

