-- ==== Sys2Proof/Machine/Ports.lean ====
section
/-! DEFINITION. The front ports (chapter 10): the timestamp point, the grid, reservations, pause, link events and port failure. -/

namespace Sys2Proof.Machine

/-- Lanes, byte time (ps), PCS block time (ps) and symbol rate (10 kBd) of a mode (R239). -/
def modeLanes (m : Nat) : Nat := ([0, 1, 1, 1, 1, 2, 4, 2, 4, 4] : List Nat).getD m 0
def modeBytePs (m : Nat) : Nat := ([0, 800, 320, 160, 80, 80, 80, 40, 40, 20] : List Nat).getD m 0
def modeBlockPs (m : Nat) : Nat := ([0, 6400, 2560, 1280, 640, 640, 640, 320, 320, 160] : List Nat).getD m 0
def modeBaud (m : Nat) : Nat := ([0, 1031250, 2578125, 2656250, 5312500, 2656250, 2578125, 5312500, 2656250, 5312500] : List Nat).getD m 0

/-- Why a reservation does not cross at T (R250). -/
inductive MissCause where
  | late
  | length
  | pause
  | link
  | gate
  | revoked
  deriving DecidableEq, Repr

namespace State

def port (s : State) (p : Nat) : Port := s.ports.getD p Port.blank
def modPort (s : State) (p : Nat) (f : Port → Port) : State := { s with ports := s.ports.modify p f }

/-- The port's duration of `n` byte times, in units of 2^-48 ns. -/
def byteTimes (s : State) (p n : Nat) : Nat := ofPs (n * modeBytePs (s.port p).mode)

/-- Register values as they count (R262, R528). -/
def maxLen (s : State) (p : Nat) : Nat := clampNat 1518 9216 (bitsOf (s.rdN (Reg.PTp_MAXLEN p)) 0 14)
def launchMin (s : State) (p : Nat) : Nat := clampNat 400 3000 (bitsOf (s.rdN (Reg.PTp_LAUNCH_MIN p)) 0 12) * nsU
def resWin (s : State) (p : Nat) : Nat := clampNat 100 50000 (bitsOf (s.rdN (Reg.PTp_RES_WIN p)) 0 16) * nsU
def tpid (s : State) (p : Nat) : Nat := if s.flag (Fld.PTp_VLAN_TPID_SEL p) then 0x88A8 else 0x8100

def linkUp (s : State) (p : Nat) : Bool := s.flag (Fld.PTp_STAT_LINK p)
def fenced (s : State) (p : Nat) : Bool := s.flag (Fld.PTp_STAT_FENCED p)
def gateOpen (s : State) (p : Nat) : Bool := s.flag (Fld.PTp_STAT_TX_GATE p)
def stampRx (s : State) (p : Nat) : Bool := s.flag (Fld.PTp_STAT_STAMP_RX_OK p)
def stampTx (s : State) (p : Nat) : Bool := s.flag (Fld.PTp_STAT_STAMP_TX_OK p)

/-! ### Stamps (R242, R243, R245) -/

/-- The time of a position in a direction's stream (R243), in units of 2^-16 ns; none with fewer than two markers. -/
def stampAt (s : State) (p : Nat) (tx : Bool) (x : WirePos) : Option Nat :=
  match (if tx then (s.port p).txMarks else (s.port p).rxMarks) with
  | (w1, t1) :: (w0, t0) :: _ =>
    let pw : Rat := (((t1 : Int) - t0 : Int) : Rat) / (((w1 : Int) - w0 : Int) : Rat)
    let sw : Rat := (Config.symbolsPerWord (s.port p).mode : Nat)
    let q : Rat := (t1 : Rat) + (((x.word : Int) - w1 : Int) : Rat) * pw + (x.sym : Rat) * pw / sw + (x.delta : Rat)
    some (s.ratFree (q / (2 ^ 32 : Nat))).toNat
  | _ => none

/-- The marker conditions of R245 for a direction. -/
def stampOk (s : State) (p : Nat) (tx : Bool) : Bool :=
  let marks := if tx then (s.port p).txMarks else (s.port p).rxMarks
  let per := clampNat 1 255 (bitsOf (s.rdN Reg.SH_PCLK_PER) 0 8)
  s.linkUp p && bitAt (s.rdN Reg.SH_PORT_EN) (if tx then 16 + p else p) && !s.bridging && 2 ≤ marks.length &&
    (match marks with | (_, t) :: _ => decide (s.tc.now ≤ t + (2 * per + 1) * 1000 * nsU) | [] => false)

/-! ### Reservations (R247 to R251) -/

/-- The launch record of a reservation (R251), or of a frame discarded for its age (R254). -/
def launchRecord (s : State) (p : Nat) (result : String) : State := s.emitT (0x20 + p) 6 result

/-- PTp_RES_OUT follows. -/
def refreshRes (s : State) (p : Nat) : State := s.wrN (Reg.PTp_RES_OUT p) (s.port p).res.length

/-- The counter and the name of a cause (R250). -/
def missCounter (p : Nat) : MissCause → Nat
  | .late => Reg.PTp_MISS_LATE p
  | .length => Reg.PTp_MISS_LENGTH p
  | .pause => Reg.PTp_MISS_PAUSE p
  | .link => Reg.PTp_MISS_LINK p
  | .gate => Reg.PTp_MISS_GATE p
  | .revoked => Reg.PTp_REVOKED p
def missName : MissCause → String
  | .late => "LATE"
  | .length => "LENGTH"
  | .pause => "PAUSE"
  | .link => "LINK"
  | .gate => "GATE"
  | .revoked => "REVOKED"

/-- A reservation is discarded (R250); NE hears of its own (R328). -/
def missRes (s : State) (p : Nat) (r : Reservation) (c : MissCause) : State :=
  let s1 := (s.modPort p (fun x => { x with res := x.res.filter (fun y => y.id != r.id) })).refreshRes p
  let s2 := (s1.bump (missCounter p c)).evt (Fld.PTp_EVT_LAUNCH_MISS p)
  let s3 := if c = .revoked then s2.evt (Fld.PTp_EVT_REVOKED p) else s2
  (if r.job.eng = 17 then s3.bump Reg.NE_LAUNCH_LOST else s3).launchRecord p (missName c)

/-- Every reservation whose start block lies ahead is discarded (R252, R258, R261). -/
def missAll (s : State) (p : Nat) (c : MissCause) : State :=
  ((s.port p).res.filter (fun r => s.tc.now < r.t - s.byteTimes p 8)).foldl (fun t r => t.missRes p r c) s

/-- STAMP_OK and GRID_OK follow the markers; a bit that falls sets STAMP_LOST, and takes the reservations with it (R245, R250). -/
def refreshStamps (s : State) (p : Nat) : State :=
  let rx := s.stampOk p false; let tx := s.stampOk p true
  let lost := (s.stampRx p && !rx) || (s.stampTx p && !tx)
  let s1 := ((s.setB (Fld.PTp_STAT_STAMP_RX_OK p) rx).setB (Fld.PTp_STAT_STAMP_TX_OK p) tx).setB (Fld.PTp_STAT_GRID_OK p) tx
  let s2 := if lost then s1.evt (Fld.PTp_EVT_STAMP_LOST p) else s1
  if s.stampTx p && !tx then s2.missAll p .gate else s2

/-- A marker reaches the port's stamping unit (R203, R243). -/
def portMarker (s : State) (p : Nat) (tx : Bool) (word t : Nat) : State :=
  if !s.linkUp p then s else
  let put := fun (l : List (Nat × Nat)) => ((word, t) :: l).take 2
  let s1 := s.modPort p (fun x => if tx then { x with txMarks := put x.txMarks } else { x with rxMarks := put x.rxMarks })
  let s2 := match tx, (s1.port p).txMarks with
    | true, (w1, t1) :: (w0, t0) :: _ =>
      let m := (s1.port p).mode
      let sym : Rat := (((t1 : Int) - t0 : Int) : Rat) / (((w1 : Int) - w0 : Int) : Rat) / (Config.symbolsPerWord m : Nat) / (nsU : Nat)
      s1.wrSat (Reg.PTp_BLOCK_PER p) (s1.ratFree (sym * (modeBaud m : Nat) / 100000 * (modeBlockPs m : Nat) / 1000 * (2 ^ 24 : Nat))).toNat
    | _, _ => s1
  s2.refreshStamps p

/-- The occupancy of a frame whose timestamp point crosses at `t` (R247). -/
def occFrom (s : State) (p t : Nat) : Nat := t - s.byteTimes p 8
def occTo (s : State) (p t len : Nat) : Nat := t + s.byteTimes p (len + 12)

/-- The occupancy at `t` overlaps no reservation on the port (R247, R249) and no frame already started. -/
def slotClear (s : State) (p t len : Nat) : Bool :=
  (s.port p).busyUntil ≤ s.occFrom p t &&
    (s.port p).res.all (fun r => decide (s.occTo p r.t r.job.len ≤ s.occFrom p t ∨ s.occTo p t len ≤ s.occFrom p r.t))

/-- An engine asks for a slot (R247): the grant of the first instant of the grid that qualifies, or a refusal. `grid` lists the instants of
the port's transmit grid (R248) from E on, as far as its window. -/
def requestRes (s : State) (p : Nat) (j : LaunchJob) (grid : List Nat) : State :=
  let e := (s.view + j.lead) * nsU
  let soon := e < s.view * nsU + s.launchMin p + 500 * nsU
  let cut := fun (t : Nat) => match s.ls.cut with | some c => decide (c ≤ t) | none => false
  let pick := grid.find? (fun t => decide (e ≤ t ∧ t ≤ e + s.resWin p) && s.slotClear p t j.len && !cut t)
  match pick with
  | some t =>
    if soon || !s.stampTx p || !s.gateOpen p || 256 ≤ (s.port p).res.length then
      (if j.eng = 17 then s.bump Reg.NE_RES_REFUSED else s).bump (Reg.PTp_RES_REFUSED p) |>.evt (Fld.PTp_EVT_RES_REFUSED p)
    else
      let q := psOf (t - e)
      let r : Reservation := { id := (s.port p).nextRes, t := t, job := j, frame := none, gen := none, auth := false }
      ((s.modPort p (fun x => { x with res := x.res ++ [r], nextRes := x.nextRes + 1 })).wrSat (Reg.PTp_SLOT_DLY p) q).refreshRes p
  | none => (if j.eng = 17 then s.bump Reg.NE_RES_REFUSED else s).bump (Reg.PTp_RES_REFUSED p) |>.evt (Fld.PTp_EVT_RES_REFUSED p)

/-- The oldest reservation of an engine whose frame has not been handed over. -/
def openRes (s : State) (p eng : Nat) : Option Reservation := (s.port p).res.find? (fun r => r.job.eng == eng && r.frame.isNone)

/-- The engine hands over a sealed frame (R249, R250); `bytes` without the FCS. -/
def takeFrame (s : State) (p : Nat) (r : Reservation) (bytes : List Byte) (gen : Option Nat) (auth : Bool) : State :=
  if r.t < s.tc.now + s.launchMin p then s.missRes p r .late
  else if bytes.length + 4 ≠ r.job.len then s.missRes p r .length
  else s.modPort p (fun x => { x with res := x.res.map (fun y =>
    if y.id = r.id then { y with frame := some bytes, gen := gen, auth := auth } else y) })

/-- The end of the pause interval that applies to a priority (R256). -/
def pauseEnd (s : State) (p prio : Nat) : Nat := max (s.port p).pause ((s.port p).pfc.getD prio 0)

/-- Why a reservation cannot cross at T, if it cannot (R250). -/
def missOf (s : State) (p : Nat) (r : Reservation) : Option MissCause :=
  if !s.linkUp p then some .link
  else if !s.gateOpen p || s.fenced p || !s.stampTx p || s.bridging then some .gate
  else if r.frame.isNone && r.t < s.tc.now + s.launchMin p then some .late
  else if s.occFrom p r.t < s.pauseEnd p (s.get (Fld.PTp_FC_LAUNCH_PCP p)) then some .pause
  else none

/-- The reservation of the earliest T. -/
def firstRes (s : State) (p : Nat) : Option Reservation :=
  (s.port p).res.foldl (fun b r => match b with | none => some r | some x => if r.t < x.t then some r else some x) none

/-- The unit that checks a port direction (R190): the units 5 to 15 in rotation over the directions. -/
def checkUnit (dir : Nat) : Nat := 5 + dir % 11

/-- A stamped frame may start a path check of its direction (R190, R203). -/
def startCheck (s : State) (dir stamp : Nat) : State :=
  let x := s.sh.paths.getD dir ⟨0, 0, 0, 0, false⟩
  if s.flag Fld.SH_CTL_PCHK_EN && 1000 * x.num < bitsOf (s.rdN Reg.SH_PCHK_RATE) 0 24 then
    s.addStart (checkUnit dir) ⟨⟨stamp, s.tc.cycle, 0⟩, dir⟩
  else s

/-- The reservation of the earliest T crosses, or is discarded (R249 to R251); the job that was launched. -/
def launch (s : State) (p : Nat) (pos : WirePos) : Option LaunchJob × State :=
  match s.firstRes p with
  | none => (none, s)
  | some r =>
    let s1 := s.advanceTo r.t
    match s1.missOf p r, r.frame with
    | some c, _ => (none, s1.missRes p r c)
    | none, none => (none, s1.missRes p r .late)
    | none, some _ =>
      let s2 := (s1.modPort p (fun x => { x with res := x.res.filter (fun y => y.id != r.id), busyUntil := s1.occTo p r.t r.job.len })).refreshRes p
      let s3 := (s2.bump64 (Reg.PTp_TX_FRAMES_L p) 1).bump (Reg.PTp_LAUNCHED p)
      let st : Nat := ((s3.stampAt p true pos).getD (r.t / 2 ^ 32)) * 2 ^ 32
      let s4 := if ofPs (bitsOf (s3.rdN (Reg.PTp_LAUNCH_TOL p)) 0 16) < ((st : Int) - r.t).natAbs then
          (s3.bump (Reg.PTp_RESID_CNT p)).evt (Fld.PTp_EVT_RESID p)
        else s3
      (some r.job, ((s4.tick.startCheck (16 + p) st).launchRecord p "LAUNCHED"))

/-- A reservation that cannot cross is discarded (R250). -/
def launchMiss (s : State) (p k : Nat) : State :=
  match (s.port p).res[k]? with
  | none => s
  | some r =>
    let s1 := if r.frame.isNone then s.advanceTo (r.t - s.launchMin p + 1) else s
    match s1.missOf p r with
    | some c => s1.missRes p r c
    | none => s1

/-- A frame of an engine that carries a time and an AUTHENTICATION TLV (R19, R297). -/
def revocable (r : Replica) : Bool := r.src == 16 && r.late.isSome && (match ptpOff r.bytes with | some o => ptpAuth r.bytes o | none => false)

/-- A revoking snapshot discards the authenticated frames sealed under earlier generations: those that wait for T, and those that wait for their
start (R19, R231, R297). -/
def revokePorts (s : State) : State :=
  let gen := s.rdN Reg.EB_GEN
  let s1 := (List.range 16).foldl (fun t p =>
    ((t.port p).res.filter (fun r => r.frame.isSome && r.auth && r.gen != some gen && t.tc.now < r.t)).foldl
      (fun u r => u.missRes p r .revoked) t) s
  (List.range 16).foldl (fun t p =>
    let n := ((t.sw.queues.getD p []).filter revocable).length + (match (t.port p).next with | some r => if revocable r then 1 else 0 | none => 0)
    if n = 0 then t else
    let t1 : State := { t with sw := { t.sw with queues := t.sw.queues.modify p (fun l => l.filter (fun r => !revocable r)) } }
    let t2 := t1.modPort p (fun x => { x with next := match x.next with | some r => if revocable r then none else some r | none => none })
    (t2.bumpBy (Reg.PTp_REVOKED p) n).evt (Fld.PTp_EVT_REVOKED p)) s1

/-- A snapshot is issued, with what its revocation does at the ports (R18, R19). -/
def newSnapshot (s : State) : State :=
  let r := s.issueSnap
  if r.1 then r.2.revokePorts else r.2

/-! ### Pause (R256) -/

/-- PAUSED and PFC_PAUSED follow the intervals. -/
def refreshPause (s : State) (p : Nat) : State :=
  let x := s.port p
  (s.setB (Fld.PTp_STAT_PAUSED p) (s.tc.now < x.pause)).set (Fld.PTp_STAT_PFC_PAUSED p)
    (maskOf ((List.range 8).filter (fun k => s.tc.now < x.pfc.getD k 0)))

/-- The end of an interval of `q` quanta of 512 bit times that begins now. -/
def quantaEnd (s : State) (p q : Nat) : Nat := if q = 0 then 0 else s.tc.now + s.byteTimes p (64 * q)

/-- A MAC control frame is consumed (R256). -/
def macControl (s : State) (p : Nat) (b : List Byte) : State :=
  let s1 := s.bump (Reg.PTp_CTRL_RX p)
  let op := beAt b 14 2
  if op = 1 && !s1.flag (Fld.PTp_FC_PAUSE_IGN p) then
    (((s1.modPort p (fun x => { x with pause := s1.quantaEnd p (beAt b 16 2) })).refreshPause p).evt (Fld.PTp_EVT_PAUSE_RX p)).emit (0x20 + p) 7 "PAUSE"
  else if op = 0x0101 && !s1.flag (Fld.PTp_FC_PFC_IGN p) then
    let en := beAt b 16 2
    let put := fun (l : List Nat) => (List.range 8).map (fun k => if bitAt en k then s1.quantaEnd p (beAt b (18 + 2 * k) 2) else l.getD k 0)
    (((s1.modPort p (fun x => { x with pfc := put x.pfc })).refreshPause p).evt (Fld.PTp_EVT_PAUSE_RX p)).emit (0x20 + p) 7 "PFC"
  else s1

/-- A pause interval runs out (R256). -/
def pauseExpiry (s : State) (p : Nat) (prio : Option (Fin 8)) : State :=
  let x := s.port p
  let e := match prio with | none => x.pause | some k => x.pfc.getD k.val 0
  if e = 0 then s
  else
    let s1 := s.advanceTo e
    (s1.modPort p (fun y => match prio with
      | none => { y with pause := 0 }
      | some k => { y with pfc := y.pfc.set k.val 0 })).refreshPause p

/-! ### Aggregation buckets (R269, R270) -/

/-- The members of a group, ascending, and whether a port of it is up. -/
def lagMembers (s : State) (g : Nat) : List Nat := setBits 16 (s.get (Fld.SW_LAGg_MEMBERS g))
def lagOn (s : State) (g : Nat) : Bool := s.flag (Fld.SW_LAGg_EN g)
def portUp (s : State) (p : Nat) : Bool := s.linkUp p && !s.fenced p

/-- A bucket's member (R286). -/
def bucket (s : State) (g b : Nat) : Nat := bitsOf (s.rdN (Reg.SW_LAG_BUCKET (32 * g + b / 8))) (b % 8 * 4) 4
def setBucket (s : State) (g b m : Nat) : State :=
  let a := Reg.SW_LAG_BUCKET (32 * g + b / 8)
  s.wrN a (withBits (s.rdN a) (b % 8 * 4) 4 m)

/-- Buckets dealt to members in ascending order, round robin. -/
def deal (s : State) (g : Nat) (buckets members : List Nat) : State :=
  if members.isEmpty then s
  else (buckets.zipIdx).foldl (fun t x => t.setBucket g x.1 (members.getD (x.2 % members.length) 0)) s

/-- All buckets of a group are dealt: at group enable to the members, at a rebalance to those up (R269, R270). -/
def dealAll (s : State) (g : Nat) : State := s.deal g (List.range 256) (s.lagMembers g)
def redeal (s : State) (g : Nat) : State := s.deal g (List.range 256) ((s.lagMembers g).filter s.portUp)

/-- A member that goes down loses its buckets to the members still up (R270). -/
def lagDown (s : State) (p : Nat) : State :=
  (List.range 8).foldl (fun t g =>
    if t.lagOn g && (t.lagMembers g).contains p then
      t.deal g ((List.range 256).filter (fun b => t.bucket g b == p)) ((t.lagMembers g).filter t.portUp)
    else t) s

/-! ### Link events and failure (R258 to R260) -/

/-- The frame that waits in the port is discarded, with a NOSEND entry where one was requested (R258, R259). -/
def dropNext (s : State) (p : Nat) : State :=
  match (s.port p).next with
  | none => s
  | some r =>
    let s1 := s.modPort p (fun x => { x with next := none })
    match r.tsReq with | some tag => s1.txqNoSend p tag | none => s1

/-- Slot 10 follows the recovered clock of the port it names (R111, R241). -/
def syncELost (s : State) (p : Nat) : State := if s.get (Fld.RSn_CFG_SRC 10) = p && s.slotEn 10 then s.signalLoss 10 else s

/-- A port stops carrying traffic: reservations end with the cause given, and queued frames are discarded. -/
def portStops (s : State) (p : Nat) (c : MissCause) : State :=
  let s1 := (s.port p).res.foldl (fun t r => t.missRes p r c) s
  let s2 := s1.dropNext p
  let s3 := (s2.setB (Fld.PTp_STAT_LINK p) false).modPort p (fun x => { x with rxMarks := [], txMarks := [], cut := none })
  ((s3.refreshStamps p).lagDown p).syncELost p

/-- The port declares link down (R258). -/
def linkDown (s : State) (p : Nat) (lockLost : Bool) : State :=
  if !s.linkUp p then s
  else
    let s1 := if lockLost then (s.setB (Fld.PTp_STAT_PCS_LOCK p) false).setB (Fld.PTp_STAT_TRAINED p) false else s
    ((s1.portStops p .link).evt (Fld.PTp_EVT_LINK_DOWN p)).emit (0x20 + p) 7 "LINK_DOWN"

/-- The port declares link up after 10 ms of lock (R258). -/
def linkComesUp (s : State) (p : Nat) : State :=
  if (s.port p).mode = 0 || s.fenced p || s.linkUp p then s
  else
    let s1 := (s.setB (Fld.PTp_STAT_PCS_LOCK p) true).setB (Fld.PTp_STAT_TRAINED p) (s.flag (Fld.PTp_MODE_LTRAIN p))
    let s2 := (s1.setB (Fld.PTp_STAT_LINK p) true).modPort p (fun x => { x with rxMarks := [], txMarks := [] })
    ((s2.refreshStamps p).evt (Fld.PTp_EVT_LINK_UP p)).emit (0x20 + p) 7 "LINK_UP"

/-- IN_SERVICE of a port's header (R259). -/
def setInService (s : State) (p : Nat) (b : Bool) : State := s.wrN (Reg.PTp_CAP p) (putBitAt (s.rdN (Reg.PTp_CAP p)) 0 b)

/-- A port hardware fault fences the port (R259). -/
def portHw (s : State) (p : Nat) : State :=
  let again := match (s.port p).restartAt with | some t => decide (s.tc.now < t + secU) | none => false
  let s1 := (s.portStops p .gate).setB (Fld.PTp_STAT_FENCED p) true
  let s2 := ((s1.setB (Fld.PTp_STAT_PCS_LOCK p) false).setB (Fld.PTp_STAT_TRAINED p) false).setB (Fld.PTp_STAT_TX_GATE p) false
  let s3 := (s2.setInService p false).modPort p (fun x => { x with held := x.held || again })
  (s3.emit (0x20 + p) 7 "PORT_FENCED").evt (Fld.PTp_EVT_FENCED p)

/-! ### Modes (R240) -/

/-- The placement of all ports' requested modes is legal (R240). -/
def modesLegal (s : State) : Bool :=
  let m := fun p => s.get (Fld.PTp_MODE_MODE p)
  (List.range 16).all (fun p =>
    let k := modeLanes (m p)
    m p ≤ 9 && (m p == 0 || (p % k == 0 && (List.range (k - 1)).all (fun i => m (p + 1 + i) == 0))) &&
      (!s.flag (Fld.PTp_MODE_RSFEC p) || m p == 2 || m p == 6))

/-- A port's requested mode differs from the one in force. -/
def modeChanged (s : State) (p : Nat) : Bool :=
  s.get (Fld.PTp_MODE_MODE p) != (s.port p).mode || s.flag (Fld.PTp_MODE_RSFEC p) != (s.port p).rsfec

/-- The changes of PTp_MODE at a frame boundary (R240). -/
def applyModes (s : State) : State :=
  let l := (List.range 16).filter s.modeChanged
  if l.isEmpty then s
  else if !s.modesLegal then l.foldl (fun t p => if t.flag (Fld.PTp_EVT_MODE_REFUSED p) then t else t.evt (Fld.PTp_EVT_MODE_REFUSED p)) s
  else
    let s1 := l.foldl (fun t p =>
      let t1 := if t.linkUp p then t.linkDown p true else t
      t1.modPort p (fun x => { x with mode := t1.get (Fld.PTp_MODE_MODE p), rsfec := t1.flag (Fld.PTp_MODE_RSFEC p) })) s
    (List.range 16).foldl (fun t p => t.setB (Fld.PTp_STAT_ABSORBED p)
      ((List.range 16).any (fun q => q < p && p < q + modeLanes (t.port q).mode))) s1

end State

end Sys2Proof.Machine
end

