-- ==== Sys2Proof/Machine/Journal.lean ====
section
/-! DEFINITION. The event journal (chapter 19): merging, blocks, record forms, budget, staging and the ring. -/

namespace Sys2Proof.Machine

/-- Epoch `a` is older than epoch `b`, modulo 4 (R455). -/
def epochOlder (a b : Nat) : Bool := (b + 4 - a % 4) % 4 == 1 || (b + 4 - a % 4) % 4 == 2

/-- The merge key of an event: epoch, stamp, source, arrival number (R455). -/
abbrev JKey := Nat × Nat × Nat × Nat

/-- The key order (R455). -/
def keyLt (a b : JKey) : Bool :=
  if a.1 % 4 != b.1 % 4 then epochOlder a.1 b.1
  else if a.2.1 != b.2.1 then a.2.1 < b.2.1
  else if a.2.2.1 != b.2.2.1 then a.2.2.1 < b.2.2.1
  else a.2.2.2 < b.2.2.2

/-- The key of an event with its arrival number. -/
def jkey (n : Nat) (e : JEvent) : JKey := (e.epoch, e.stamp, e.source, n)

/-- The event of lowest key in a window. -/
def lowest : List (Nat × JEvent) → Option (Nat × JEvent)
  | [] => none
  | x :: r =>
    match lowest r with
    | none => some x
    | some y => if keyLt (jkey y.1 y.2) (jkey x.1 x.2) then some y else some x

/-- The 32-bit words of a record as bytes. -/
def wordsBytes (l : List Nat) : List Byte := l.flatMap (leBytes 4)

/-- Word 0 of a record, bits [23:0] (R458). -/
def recWord0 (form : Nat) (conseq runEnd forced : Bool) (source code : Nat) : Nat :=
  form + (if conseq then 4 else 0) + (if runEnd then 8 else 0) + (if forced then 16 else 0) + source % 256 * 2 ^ 6 + code % 1024 * 2 ^ 14

/-- The seconds, nanoseconds and 2^-10 ns fraction of a stamp (R453). -/
def stampS (t : Nat) : Nat := t / (1000000000 * 1024)
def stampN (t : Nat) : Nat := t % (1000000000 * 1024) / 1024
def stampF (t : Nat) : Nat := t % 1024

/-- The exact form (R458), with its extension records (R462). -/
def exactRec (e : JEvent) (late : Bool) (ext : Nat) : List Byte :=
  let w0 := recWord0 0 e.conseq false e.forced e.source e.code + (if late then 2 ^ 24 else 0) + ext * 2 ^ 25 + e.epoch % 4 * 2 ^ 28
  let head := wordsBytes [w0, stampS e.stamp % 2 ^ 32, stampN e.stamp, stampF e.stamp, e.payload % 2 ^ 32, e.payload / 2 ^ 32, 0]
  let one := fun (k : Nat) =>
    wordsBytes [recWord0 3 e.conseq false e.forced e.source e.code + (k + 1) * 2 ^ 24] ++
      (List.range 28).map (fun j => e.pkt.getD (28 * k + j) 0)
  head ++ leBytes 4 (crc32c head) ++ (List.range ext).flatMap one

/-- The compact form (R458). -/
def compactRec (e : JEvent) (base : Nat) : List Byte :=
  let d := e.stamp - base
  wordsBytes [recWord0 1 e.conseq false e.forced e.source e.code, d / 1024 % 2 ^ 20 + d % 1024 * 2 ^ 20, e.payload % 2 ^ 32, e.payload / 2 ^ 32]

/-- TIME of a lossy record: whole units of 64 ps after the base (R460). -/
def lossyTime (stamp base : Nat) : Nat := (stamp - base) * 1000 / 65536

/-- The lossy form (R458). -/
def lossyRec (e : JEvent) (base : Nat) : List Byte :=
  wordsBytes [recWord0 2 e.conseq false e.forced e.source e.code + e.payload % 256 * 2 ^ 24,
    e.payload / 256 % 256 + lossyTime e.stamp base % 2 ^ 24 * 2 ^ 8]

/-- A run's RUN_END record, in the compact form (R460). -/
def runEndRec (r : Run) : List Byte :=
  let ps := r.lastTime * 64
  let cnt := min r.count (2 ^ 32 - 1)
  let p := r.payload16 + cnt * 2 ^ 16
  wordsBytes [recWord0 1 r.conseq true r.forced r.source r.code, ps / 1000 % 2 ^ 20 + ps % 1000 * 1024 / 1000 * 2 ^ 20, p % 2 ^ 32, p / 2 ^ 32]

/-- A new, empty block. -/
def JBlock.fresh (typ mode base epoch seq : Nat) (step overlay : Bool) (stall : Nat) : JBlock :=
  { typ := typ, mode := mode, base := base, epoch := epoch, seq := seq, step := step, overlay := overlay, stall := stall,
    collapse := false, payload16 := false, trunc64 := false, records := 0, body := [], runs := [] }

/-- The header of a block with its CRC (R457). -/
def blockHeader (b : JBlock) (lost : Nat) : List Byte :=
  let f := fun (x : Bool) (k : Nat) => if x then 2 ^ k else 0
  let w0 := 0xB7 * 2 ^ 24 + b.typ * 2 ^ 20 + b.mode * 2 ^ 18 + f b.collapse 17 + f b.payload16 16 + f b.trunc64 15 + f b.step 14 +
    f b.overlay 13 + f (lost != 0) 11 + b.epoch % 4 * 2 ^ 8
  let h := wordsBytes [w0, b.seq % 2 ^ 32, stampS b.base % 2 ^ 32, stampN b.base, stampF b.base + b.stall % 2 ^ 16 * 2 ^ 16,
    b.records % 2 ^ 21, satNat 32 lost]
  h ++ leBytes 4 (crc32c (h ++ b.body))

namespace State

/-- The bytes held in staging (R464): closed blocks, and the records of open ones. -/
def stageUsed (s : State) : Nat :=
  s.jn.staged.foldl (fun n b => n + b.2.length) 0 + s.jn.blocks.foldl (fun n b => n + 32 + b.body.length) 0

/-- The staging store's size (R464). -/
def stageSize : Nat := 4 * 1024 * 1024

/-- An event is discarded and counted (R464). -/
def jnLose (s : State) (n : Nat) : State :=
  if n = 0 then s else
  ({ (s.bumpBy Reg.JN_LOST n) with jn := { s.jn with lost := s.jn.lost + n, frameLost := s.jn.frameLost + n } }).evt Fld.JN_EVT_LOST

/-- The mode a block opens with (R459): JN_MODE in force, 3 taken as 0. -/
def jnMode (s : State) : Nat := if s.get Fld.JN_MODE_MODE = 3 then 0 else s.get Fld.JN_MODE_MODE

/-- A block is opened behind those that are open (R457). -/
def openBlock (s : State) (b : JBlock) : State := { s with jn := { s.jn with blocks := s.jn.blocks ++ [b] } }

/-- The oldest open block closes (R457, R460): its runs' ends, its header, and its place in staging. -/
def closeBlock (s : State) : State :=
  match s.jn.blocks with
  | [] => s
  | b :: rest =>
    let ends := b.runs.filter (fun r => 2 ≤ r.count)
    let body := b.body ++ ends.flatMap runEndRec
    let b1 := { b with body := body, records := b.records + ends.length, collapse := !ends.isEmpty }
    let bytes := blockHeader b1 s.jn.lost ++ body
    let s1 := { s with jn := { s.jn with blocks := rest, staged := s.jn.staged ++ [(b1.records, bytes)], lost := 0 } }
    (s1.charge 1 (32 + 16 * ends.length)).bump64 Reg.JN_RECORDS_L ends.length

/-- Whether an event belongs to a block that opened later than the oldest open one (R455, R457). -/
def belongsLater (e : JEvent) (b : JBlock) : Bool :=
  if e.epoch % 4 != b.epoch % 4 then epochOlder b.epoch e.epoch else b.base ≤ e.stamp

/-- Blocks close until the oldest open one is the event's (R457). -/
def closeUpTo : Nat → State → JEvent → State
  | 0, s, _ => s
  | k + 1, s, e =>
    match s.jn.blocks with
    | _ :: b :: _ => if belongsLater e b then closeUpTo k s.closeBlock e else s
    | _ => s

/-- Events stamped before the first raised boundary form a first block, with WHL_SEQ 0 (R470). -/
def ensureBlock (s : State) : State :=
  if s.jn.blocks.isEmpty then s.openBlock (JBlock.fresh 0 s.jnMode 0 s.jn.epoch 0 false false 0) else s

/-- OVERFLOW continuation blocks while a compact or lossy record's offset would reach 1,048,576 ns (R457). -/
def overflowBlocks : Nat → State → JEvent → State
  | 0, s, _ => s
  | k + 1, s, e =>
    match s.jn.blocks with
    | [] => s
    | b :: rest =>
      if b.base + 1048576 * 1024 ≤ e.stamp then
        let nb := JBlock.fresh 2 s.jnMode (b.base + 1048576 * 1024) b.epoch b.seq false false 0
        overflowBlocks k (({ s with jn := { s.jn with blocks := b :: nb :: rest } }).closeBlock) e
      else s

/-- The oldest open block is replaced. -/
def setHead (s : State) (b : JBlock) : State :=
  match s.jn.blocks with
  | [] => s
  | _ :: rest => { s with jn := { s.jn with blocks := b :: rest } }

/-- Extension records an event takes (R462). -/
def extCount (s : State) (e : JEvent) : Nat :=
  if e.lastGasp then 7
  else if e.pkt.isEmpty || !(7 ≤ e.cls && e.cls ≤ 9) || !s.flag (Fld.JN_CLSc_PKT e.cls) then 0
  else max 1 (bitsOf (s.rdN Reg.JN_PKT_LEN) 0 3)

/-- The record bytes are put behind the block's others, if JRN admits them and staging holds them (R463, R464). -/
def putRecord (s : State) (b : JBlock) (e : JEvent) (bytes : List Byte) (forcedIn : Bool) : State :=
  if !forcedIn && stageSize < s.stageUsed + bytes.length then s.jnLose 1
  else
    let (ok, s1) := if forcedIn then (true, s.charge 1 bytes.length) else s.admitFor 1 bytes.length
    if !ok then { s1 with jn := { s1.jn with withheld := s1.jn.withheld ++ [e] } }
    else
      let recs := 1 + (if e.lastGasp then 7 else if bytes.length > 32 then (bytes.length - 32) / 32 else 0)
      let s2 := s1.setHead { b with body := b.body ++ bytes, records := b.records + recs }
      { (s2.bump64 Reg.JN_RECORDS_L recs) with jn := { s2.jn with frameBytes := s2.jn.frameBytes + bytes.length } }

/-- An event is written in the form its block, class and mark give it (R459, R460). -/
def writeEvent (s0 : State) (e : JEvent) (late : Bool) : State :=
  let s := s0.ensureBlock
  let ext := s.extCount e
  match s.jn.blocks with
  | [] => s
  | b0 :: _ =>
    if late || ext ≠ 0 || b0.mode = 0 then s.putRecord b0 e (exactRec e late ext) e.lastGasp
    else
      let s1 := overflowBlocks 1024 s e
      match s1.jn.blocks with
      | [] => s1
      | b :: _ =>
        let reducible := s1.flag (Fld.JN_CLSc_REDUCE e.cls)
        if b.mode = 2 && reducible then
          let p16 := e.payload % 2 ^ 16
          let hit := fun (r : Run) => r.source == e.source && r.code == e.code && r.payload16 == p16
          let collapse := s1.flag (Fld.JN_CLSc_COLLAPSE e.cls)
          if collapse && b.runs.any hit then
            s1.setHead { b with runs := b.runs.map (fun r => if hit r then { r with lastTime := lossyTime e.stamp b.base, count := r.count + 1 } else r) }
          else
            let run : Run := ⟨e.source, e.code, p16, e.conseq, e.forced, lossyTime e.stamp b.base, 1⟩
            let b1 := { b with trunc64 := true, payload16 := b.payload16 || e.payload / 2 ^ 16 != 0,
                               runs := if collapse && b.runs.length < 64 then b.runs ++ [run] else b.runs }
            s1.putRecord b1 e (lossyRec e b.base) false
        else s1.putRecord b e (compactRec e b.base) false

/-- The journal writes no record in the safe state (R484). -/
def jnWrite (s : State) (e : JEvent) (late : Bool) : State := if s.safe then s else s.writeEvent e late

/-- Events withheld by JRN are written first after a replenishment, in exact form with LATE (R463). -/
def jnResume (s : State) : State :=
  let l := s.jn.withheld
  l.foldl (fun t e => t.jnWrite e true) { s with jn := { s.jn with withheld := [] } }

/-- An event reaches the merge unit (R456). -/
def jnArrive (s : State) (e : JEvent) : State :=
  if s.safe || !s.flag (Fld.JN_CLSc_EN e.cls) then s
  else
    let k := jkey s.jn.arrivals e
    let s1 := { s with jn := { s.jn with arrivals := s.jn.arrivals + 1 } }
    let isLate := match s.jn.lastKey with
      | some lk => keyLt k lk
      | none => false
    if isLate then ((s1.bump Reg.JN_LATE).evt Fld.JN_EVT_LATE).jnWrite e true
    else if 4096 ≤ s1.jn.window.length then s1.jnLose 1
    else { s1 with jn := { s1.jn with window := s1.jn.window ++ [(s.jn.arrivals, e)] } }

/-- The lowest-key event may be released (R456). -/
def jnReady (s : State) (e : JEvent) : Bool :=
  epochOlder e.epoch s.jn.epoch || (e.epoch % 4 == s.jn.epoch % 4 && e.stamp + 2000 * 1024 ≤ s.view * 1024)

/-- The lowest-key event is released and written, closing the blocks before its own (R456, R457). -/
def jnRelease (s : State) : State :=
  match lowest s.jn.window with
  | none => s
  | some (n, e) =>
    if s.jnReady e then
      let s1 := { s with jn := { s.jn with window := s.jn.window.filter (fun x => x.1 != n), lastKey := some (jkey n e) } }
      (closeUpTo (s1.jn.blocks.length) s1.ensureBlock e).jnWrite e false
    else s

/-- The size of the ring (R465). -/
def ringSize (s : State) : Nat := clampNat 1 32 (bitsOf (s.rdN Reg.JN_RING_SIZE) 0 6) * 0x10000000

/-- The base of the ring. -/
def ringBase (s : State) : Nat := s.rd64 Reg.JN_RING_BASE_L

/-- Bytes of the ring in use on the JN_WR scale. -/
def ringUsed (s : State) : Nat := s.jn.ring.foldl (fun n b => n + b.len) 0

/-- The export pointer is moved to JN_OLDEST if it lies before it, and the bytes skipped are counted (R465). -/
def skipExport (s : State) : State :=
  let e := s.rd64 Reg.JN_EXP_L; let o := s.rd64 Reg.JN_OLDEST_L
  if e < o then ((s.wr64 Reg.JN_EXP_L o).bumpBy Reg.JN_EXP_SKIP (o - e)).evt Fld.JN_EVT_OVERRUN else s

/-- JN_OLDEST follows the oldest whole block held (R465). -/
def setOldest (s : State) : State :=
  s.wr64 Reg.JN_OLDEST_L (match s.jn.ring with | b :: _ => b.start | [] => s.rd64 Reg.JN_WR_L)

/-- The oldest blocks are dropped until `n` bytes fit; with WRAP 1 only those already exported (R465). -/
def makeRoom : Nat → State → Nat → State
  | 0, s, _ => s
  | k + 1, s, n =>
    if s.ringUsed + n ≤ s.ringSize then s
    else match s.jn.ring with
      | [] => s
      | b :: r =>
        if s.flag Fld.JN_CTL_WRAP && s.rd64 Reg.JN_EXP_L < b.start + b.len then s
        else makeRoom k (({ s with jn := { s.jn with ring := r } }).setOldest) n

/-- Bytes stored in the ring from a count of the JN_WR scale on, modulo the ring size (R465). -/
def ringStore (s : State) (start : Nat) (bytes : List Byte) : State :=
  let off := start % s.ringSize
  let first := bytes.take (s.ringSize - off)
  let m1 := memStoreList s.dram (s.ringBase + off) first
  { s with dram := memStoreList m1 s.ringBase (bytes.drop (s.ringSize - off)) }

/-- The oldest closed block is written to the ring, or discarded whole where it does not fit (R464, R465). -/
def ringWrite (s : State) : State :=
  if !s.flag Fld.JN_CTL_EN then s else
  match s.jn.staged with
  | [] => s
  | (recs, bytes) :: rest =>
    let s1 := { s with jn := { s.jn with staged := rest } }
    let s2 := makeRoom s1.jn.ring.length s1 bytes.length
    if s2.ringUsed + bytes.length ≤ s2.ringSize then
      let start := s2.rd64 Reg.JN_WR_L
      let s3 := s2.ringStore start bytes
      let s4 := { s3 with jn := { s3.jn with ring := s3.jn.ring ++ [RingBlock.mk start bytes.length false] } }
      let s5 := (s4.bump64 Reg.JN_WR_L bytes.length).setOldest
      let s6 := if s5.flag Fld.JN_CTL_WRAP then s5 else s5.skipExport
      (s6.setB Fld.JN_STAT_RING_FULL false).setB Fld.JN_STAT_EXP_ACTIVE (s6.rd64 Reg.JN_EXP_L < s6.rd64 Reg.JN_WR_L)
    else (s2.setB Fld.JN_STAT_RING_FULL true).jnLose recs

/-- Every closed block in staging is forced out to the ring (R464). -/
def flushStaging (s : State) : State := (List.range s.jn.staged.length).foldl (fun t _ => t.ringWrite) s

/-- A host event by JN_HEVT_CMD (R462), from the requester. -/
def wrHevt (s : State) (req : Requester) (v : Nat) : State :=
  if !bitAt v 31 then s else
  let src := match req with | .mgmt => 0x61 | _ => 0x60
  if s.safe then s else
  { s with freeCtr := s.freeCtr + 1, jn := { s.jn with inflight := s.jn.inflight ++
      [{ stamp := s.view * 1024, epoch := s.jn.epoch, source := src, code := v % 1024, conseq := false, forced := false,
         payload := s.rd64 Reg.JN_HEVT_P_L, cls := 12, pkt := [], lastGasp := false }] } }

/-- The compactor's ROM program on a frame's statistics (R469). -/
def compactor (s : State) (lost : Nat) (stalled : Bool) : State :=
  let used := s.stageUsed
  let m := s.jnMode
  let bad := stalled || lost != 0 || 3 * 1024 * 1024 < used
  if bad then
    { (if m < 2 then s.wrN Reg.JN_MODE (m + 1) else s) with jn := { s.jn with quiet := 0 } }
  else if used < 1024 * 1024 then
    if 999 ≤ s.jn.quiet then { (if 0 < m then s.wrN Reg.JN_MODE (m - 1) else s) with jn := { s.jn with quiet := 0 } }
    else { s with jn := { s.jn with quiet := s.jn.quiet + 1 } }
  else { s with jn := { s.jn with quiet := 0 } }

/-- At each frame boundary Pip 26 gets the frame's statistics; the ROM compactor takes them at once, and with AUTO moves the mode (R469). -/
def jnFrame (s : State) (stalled : Bool) : State :=
  let lost := s.jn.frameLost
  let s1 := if s.romRuns 26 6 then s else s.tell 26 ⟨0x20, 0, [s.jn.frameBytes % 2 ^ 32, s.stageUsed / 1024, lost % 2 ^ 32]⟩
  let s2 := { s1 with jn := { s1.jn with frameBytes := 0, frameLost := 0 } }
  if s2.flag Fld.JN_CTL_AUTO && s2.romRuns 26 6 then s2.compactor lost stalled else s2

end State

end Sys2Proof.Machine
end

