-- ==== Sys2Proof/Machine/Seal.lean ====
section
/-! DEFINITION. Locked writes (R44, R45), the configuration class, the seal value, change windows and overlays (chapter 02). -/

namespace Sys2Proof.Machine

/-- The requester's class (R34). -/
def reqClass : Requester → Nat
  | .host => 0
  | .mgmt => 1
  | .pip _ => 2
  | .jtag => 3

/-- The Pip's number, 0 for the other requesters. -/
def reqPip : Requester → Nat
  | .pip k => k.val
  | _ => 0

/-- Whether the word at an address is configuration class (R51). -/
def isCfg (a : Nat) : Bool := match findRow a with | some r => r.cfg | none => false

/-- The bits of a configuration-class word that hold configuration: RW, RWL and RSV bits (R51). -/
def cfgMask (a : Nat) : Nat := match findRow a with | some r => if r.cfg then r.rw ||| r.rwl ||| r.rsv else 0 | none => 0

/-- The configuration-class offsets of a page, ascending (R53). -/
def cfgOffsets (page : Nat) : List Nat :=
  (((pageRows page).filter (·.cfg)).flatMap (fun r => (List.range r.count).map (fun k => r.off + k * r.stride))).mergeSort (· ≤ ·)

/-- The addresses of the configuration-class words that the register map lists, in the seal's order (R53). -/
def cfgAddrs : List Nat :=
  (pageBlocks.flatMap (fun b => (List.range (b.2.1 + 1 - b.1)).map (fun k => b.1 + k))).flatMap
    (fun p => (cfgOffsets p).map (fun o => p * 0x1000 + o))

/-- The seal value of an image of the configuration-class words (R53): CRC-32C, initial value 0, no final inversion. -/
def sealOf (word : Nat → Nat) : Nat :=
  cfgAddrs.foldl (fun c a => crcBytes crc32cPoly c (leBytes 4 (word a &&& cfgMask a))) 0

namespace State

/-! ### Locked writes (R45) -/

/-- The status of a requester's last access: 0 completed, 2 a locked write reported as an error, 3 counted in SYS_BADACC (R45, R380). -/
def result (s : State) (req : Requester) (w : Word) (status : Nat) : State :=
  { s with readData := (req, w, status) :: s.readData.filter (fun e => e.1 != req) }

/-- A locked write is counted, logged and raised, and reported as SYS_CTL.LOCK_ERR says (R45). -/
def lockedWrite (s : State) (req : Requester) (a cause : Nat) : State :=
  let s1 := s.wrN Reg.SYS_LOCKLOG (cause * 2 ^ 30 + (reqClass req) * 2 ^ 28 + pageOf a % 512 * 2 ^ 16 + a % 0x1000)
  let s2 := (s1.bump Reg.SYS_LOCKCNT).raiseFault 1 0 false
  s2.result req 0 (if s2.flag Fld.SYS_CTL_LOCK_ERR then 2 else 0)

/-- An access that R33 or R34 ignores is counted. -/
def badAccess (s : State) (req : Requester) : State := (s.bump Reg.SYS_BADACC).result req 0 3

/-! ### The shadow (R40) -/

/-- Every configuration-class word is copied into the shadow. -/
def copyShadow (s : State) : State := { s with cfg := { s.cfg with shadow := s.regs.filter (fun e => isCfg e.1) } }

/-- The bits of a word that loaded overlays own (R60). -/
def ownedMask (s : State) (a : Nat) : Nat :=
  s.cfg.overlays.foldl (fun m o => o.foldl (fun m e => if e.addr = a then m ||| e.mask else m) m) 0

/-- Every configuration-class word is copied into the shadow; the bits that overlays own keep their base values there (R56, R61). DEDUCED. -/
def commitShadow (s : State) : State :=
  let base := s.cfg.overlays.flatMap (fun o => o.map (fun e => e.addr))
  let put := fun (f : RegFile) (a : Nat) =>
    let m := s.ownedMask a
    f.store a (BitVec.ofNat 32 (((f.word a).toNat &&& (0xFFFFFFFF ^^^ m)) ||| ((s.cfg.shadow.word a).toNat &&& m)))
  let s1 := s.copyShadow
  { s1 with cfg := { s1.cfg with shadow := base.foldl put s1.cfg.shadow } }

/-- The bits of a configuration-class word that a reload brings back: RWL and LOCK bits stay (R40), and so do the bits that overlays own, which
hold their base value or the active overlay's whatever happens (R60). DEDUCED. -/
def reloadMask (s : State) (a : Nat) : Nat :=
  match findRow a with
  | some r => if r.cfg then (r.rw ||| r.rsv) &&& (0xFFFFFFFF ^^^ s.ownedMask a) else 0
  | none => 0

/-- One configuration-class word is reloaded from the shadow; its other bits stay. -/
def reloadWord (s : State) (a : Nat) : State :=
  let m := s.reloadMask a
  s.wrN a ((s.rdN a &&& (0xFFFFFFFF ^^^ m)) ||| ((s.cfg.shadow.word a).toNat &&& m))

/-- The configuration-class words of the pages that `p` selects are reloaded from the shadow (R40, R56). -/
def reload (s : State) (p : Nat → Bool) : State :=
  let l := (s.regs ++ s.cfg.shadow).filter (fun e => isCfg e.1 && p (pageOf e.1))
  l.foldl (fun t e => t.reloadWord e.1) s

/-! ### The seal and change windows (R54 to R57) -/

/-- The seal value of the words in force. -/
def sealNow (s : State) : Nat := sealOf s.rdN

/-- A scan starts from the first word. -/
def startScan (s : State) : State :=
  { s with cfg := { s.cfg with scanSawWindow := s.flag Fld.CFG_STAT_WIN_OPEN, ovlOld := [] } }

/-- The requester owns the open change window. -/
def ownsWindow (s : State) (req : Requester) : Bool :=
  s.flag Fld.CFG_STAT_WIN_OPEN && s.get Fld.CFG_STAT_OWNER_REQ == (reqClass req) && s.get Fld.CFG_STAT_OWNER_PIP == (reqPip req)

/-- The window closes. -/
def closeWindow (s : State) : State :=
  ((((s.setB Fld.CFG_STAT_WIN_OPEN false).set Fld.CFG_STAT_OWNER_REQ 0).set Fld.CFG_STAT_OWNER_PIP 0)).emit 0x3D 1 "WINDOW_CLOSE"

/-- CFG_CTL.OPEN (R55, R56). -/
def cfgOpen (s : State) (req : Requester) : State :=
  if s.flag Fld.CFG_STAT_WIN_OPEN then
    if s.ownsWindow req then s else s.lockedWrite req (Reg.CFG_CTL) 3
  else
    let s1 := ((s.setB Fld.CFG_STAT_WIN_OPEN true).set Fld.CFG_STAT_OWNER_REQ (reqClass req)).set Fld.CFG_STAT_OWNER_PIP (reqPip req)
    ({ s1 with cfg := { s1.cfg with windowFrames := 0, scanSawWindow := true } }).emit 0x3D 1 "WINDOW_OPEN"

/-- CFG_CTL.COMMIT (R56). -/
def cfgCommit (s : State) (req : Requester) : State :=
  if !s.flag Fld.CFG_STAT_WIN_OPEN then s
  else if !s.ownsWindow req then s.lockedWrite req (Reg.CFG_CTL) 3
  else (s.setB Fld.CFG_STAT_COMMIT_BUSY true).commitShadow

/-- CFG_CTL.ABANDON (R56). -/
def cfgAbandon (s : State) (req : Requester) : State :=
  if !s.flag Fld.CFG_STAT_WIN_OPEN || s.flag Fld.CFG_STAT_COMMIT_BUSY then s
  else if !s.ownsWindow req then s.lockedWrite req (Reg.CFG_CTL) 3
  else (s.reload (fun _ => true)).closeWindow

/-- A write to CFG_CTL (R56): OPEN, COMMIT, ABANDON, RESCAN in that order, ABANDON ignored beside COMMIT. -/
def wrCfgCtl (s : State) (req : Requester) (v : Nat) : State :=
  let s1 := if bitAt v 0 then s.cfgOpen req else s
  let s2 := if bitAt v 1 then s1.cfgCommit req else s1
  let s3 := if bitAt v 2 && !bitAt v 1 then s2.cfgAbandon req else s2
  if bitAt v 3 then s3.startScan else s3

/-- The XOR of the deltas of the active overlays (R56, R62). -/
def activeDelta (s : State) : Nat :=
  (setBits 16 (s.rdN Reg.CFG_OVL_ACT)).foldl (fun d k => d ^^^ s.rdN (Reg.CFG_DELTA k)) 0

/-- A result of a completed scan is published (R54). -/
def publishScan (s : State) (r : Nat) : State := (s.wrN Reg.CFG_LAST_CRC r).wrapBy Reg.CFG_SCAN_CNT 1

/-- A completed seal scan (R54): `stale` lists the words it read before they last changed, with the values it read. -/
def scanComplete (s : State) (stale : List (Nat × Word)) : State :=
  if !s.cfg.scanning then s else
  let old := fun (l : List (Nat × Word)) (a : Nat) => match l.find? (fun e => e.1 == a) with
    | some e => e.2.toNat
    | none => s.rdN a
  let s1 := s.publishScan (sealOf (old stale))
  let s2 := if s.cfg.scanSawWindow || s.flag Fld.CFG_STAT_WIN_OPEN then s1
    else
      let judged := stale.filter (fun e => !s.cfg.ovlOld.contains e)
      if sealOf (old judged) = s.rdN Reg.CFG_EXP_REF then s1.setB Fld.CFG_STAT_SEAL_OK true
      else ((s1.setB Fld.CFG_STAT_SEAL_OK false).evt Fld.CFG_EVT_SEAL_FAIL).emit 0x3D 1 "SEAL_FAIL"
  s2.startScan

/-- The commit's scan ends (R56). -/
def commitDone (s : State) : State :=
  if !s.flag Fld.CFG_STAT_COMMIT_BUSY then s else
  let r := s.sealNow
  let run := r ^^^ s.activeDelta
  let s1 := ((s.publishScan r).wrN Reg.CFG_RUN_REF run).wrN Reg.CFG_EXP_REF r
  let s2 := s1.setB Fld.CFG_STAT_DIRTY (run != s.rdN Reg.CFG_BASE_REF)
  (((s2.setB Fld.CFG_STAT_COMMIT_BUSY false).closeWindow).startScan).charge 11 18432

/-! ### Overlays (R60 to R62) -/

/-- Overlay `k` is loaded and not rejected. -/
def ovlLoaded (s : State) (k : Nat) : Bool := bitAt (s.rdN Reg.CFG_OVL_LOADED) k

/-- The pair is marked incompatible (R59). -/
def ovlClash (s : State) (i j : Nat) : Bool := bitAt (s.rdN (Reg.CFG_OVL_INCOMPAT (i / 2))) (i % 2 * 16 + j)

/-- The mask may be applied (R61): every overlay loaded, no incompatible pair. -/
def ovlAllowed (s : State) (m : Nat) : Bool :=
  let l := setBits 16 m
  l.all s.ovlLoaded && l.all (fun i => l.all (fun j => i == j || !s.ovlClash i j))

/-- The masked bits of a word take a value's. -/
def ovlPut (s : State) (e : OvlEntry) (v : Nat) : State :=
  let w := s.rdN e.addr
  s.wrN e.addr ((w &&& (0xFFFFFFFF ^^^ e.mask)) ||| (v &&& e.mask))

/-- A change of the active overlay set (R61). -/
def ovlSwitch (s : State) (m : Nat) : State :=
  let act := s.rdN Reg.CFG_OVL_ACT
  let off := (setBits 16 act).filter (fun k => !bitAt m k)
  let on := (setBits 16 m).filter (fun k => !bitAt act k)
  let ent := fun k => s.cfg.overlays.getD k []
  let touched := ((off ++ on).flatMap ent).map (fun e => (e.addr, s.rd e.addr))
  let s1 := (off.flatMap ent).foldl (fun t e => t.ovlPut e (t.cfg.shadow.word e.addr).toNat) s
  let s2 := (on.flatMap ent).foldl (fun t e => t.ovlPut e e.value) s1
  ({ (s2.wrN Reg.CFG_OVL_ACT m) with cfg := { s2.cfg with ovlOld := s2.cfg.ovlOld ++ touched } }).emit 0x01 1 "OVERLAY"

/-- The overlay mask asked for: a standby of the pair takes the mirrored overlays from the holder (R421). -/
def ovlWanted (s : State) : Nat :=
  let own := bitsOf (s.rdN Reg.CFG_OVL_REQ) 0 16
  let mir := bitsOf (s.rdN Reg.LS_OVL_MIRROR) 0 16
  let r := s.get Fld.LS_STAT_ROLE
  if (r == 1 || r == 2) && s.get Fld.LS_STAT_LEASE != 2 then own - (own &&& mir) + (s.ls.ovlMask % 65536 &&& mir) else own

/-- Step 3 of R29: the sampled request is applied or refused (R61); whether the active set changed. -/
def ovlBoundary (s : State) : Bool × State :=
  let m := s.ovlWanted
  if m = s.rdN Reg.CFG_OVL_ACT || s.flag Fld.CFG_STAT_WIN_OPEN then (false, s)
  else if s.ovlAllowed m then (true, s.ovlSwitch m)
  else (false, s.evt Fld.CFG_EVT_OVL_REFUSED)

/-- Step 4 of R29: the expected seal value (R62). -/
def sealRefUpdate (s : State) : State := s.wrN Reg.CFG_EXP_REF (s.rdN Reg.CFG_RUN_REF ^^^ s.activeDelta)

/-- A window counts the frames for which it has been open (R57). -/
def windowFrame (s : State) : State :=
  if s.flag Fld.CFG_STAT_WIN_OPEN then { s with cfg := { s.cfg with windowFrames := s.cfg.windowFrames + 1 } } else s

end State

end Sys2Proof.Machine
end

