-- ==== Sys2Proof/Machine/Switch.lean ====
section
/-! DEFINITION. The switch core and the host rings (chapter 11), and the start of queued frames at a port (R253 to R255). -/

namespace Sys2Proof.Machine

/-- Cells a frame of `n` bytes occupies (R265). -/
def cellsOf (n : Nat) : Nat := ceilDiv n 256

/-- The buffer's cells (R265). -/
def swCells : Nat := 98304

/-- The flow hash's bytes (R269). -/
def flowBytes (b : List Byte) : List Byte :=
  let vid := if isTag (beAt b 12 2) then beBytes 2 (beAt b 14 2 % 4096) else []
  let l4 := match ipProto b with
    | some x => [BitVec.ofNat 8 x] ++ (if x = 6 || x = 17 then sliceOf b (l4Off b) 4 else [])
    | none => []
  sliceOf b 0 12 ++ vid ++ beBytes 2 (etherType b) ++ ipSrc b ++ ipDst b ++ l4

/-- The bucket of a frame (R269). -/
def flowBucket (b : List Byte) : Nat := crc32c (flowBytes b) % 256

/-- A two-step Sync, and its identity in the missed table (R274). -/
def missedOf (b : List Byte) : Option MissedSync :=
  match ptpOff b with
  | some o => if ptpType b o = 0 && ptpTwoStep b o then some ⟨ptpDomain b o, ptpSource b o, ptpSeq b o⟩ else none
  | none => none

/-- The identity that a Follow_Up refers to. -/
def followUpOf (b : List Byte) : Option MissedSync :=
  match ptpOff b with
  | some o => if ptpType b o = 8 then some ⟨ptpDomain b o, ptpSource b o, ptpSeq b o⟩ else none
  | none => none

namespace State

def setSw (s : State) (x : Switch) : State := { s with sw := x }
def queue (s : State) (p : Nat) : List Replica := s.sw.queues.getD p []
def modQueue (s : State) (p : Nat) (f : List Replica → List Replica) : State := s.setSw { s.sw with queues := s.sw.queues.modify p f }

/-- An event that concerns a frame, with the packet-level data of R462. -/
def emitPkt (s : State) (source cls : Nat) (name : String) (p : Nat) (b : List Byte) : State :=
  if s.safe then s else
  let len := b.length + 4
  let pay := if s.flag (Fld.JN_CLSc_PKT cls) then p % 16 + len % 2 ^ 14 * 2 ^ 16 else (Config.eventPayload name s.freeCtr).toNat
  { s with freeCtr := s.freeCtr + 1, jn := { s.jn with inflight := s.jn.inflight ++
      [{ stamp := s.view * 1024, epoch := s.jn.epoch, source := source, code := (Config.eventCode source name).toNat, conseq := false,
         forced := false, payload := pay, cls := cls, pkt := b ++ fcsOf b, lastGasp := false }] } }

/-! ### Thresholds (R265 to R267) -/

/-- Cells held by an egress port, by one of its queues, and in the whole buffer, a stored frame counted once. -/
def heldBy (s : State) (p : Nat) : Nat := (s.queue p).foldl (fun n r => n + r.cells) 0
def heldByQueue (s : State) (p k : Nat) : Nat := ((s.queue p).filter (fun r => r.prio == k)).foldl (fun n r => n + r.cells) 0
def cellsUsed (s : State) : Nat :=
  (s.sw.queues.flatten.foldl (fun (a : List Nat × Nat) r => if a.1.contains r.id then a else (r.id :: a.1, a.2 + r.cells)) ([], 0)).2

/-- F (R266). -/
def swFree (s : State) : Nat :=
  swCells - s.cellsUsed - (List.range 20).foldl (fun n p => n + (s.sw.mins.getD p 0 - s.heldBy p)) 0

/-- A replica of `c` cells is admitted to queue `k` of port `p` (R266). -/
def swAdmits (s : State) (p k c : Nat) : Bool :=
  let a := bitsOf (s.rdN (Reg.SW_QCFGp p)) (4 * k) 3
  s.heldBy p + c ≤ s.sw.mins.getD p 0 || 16 * (s.heldByQueue p k + c) ≤ 2 ^ a * s.swFree

/-- The minimums are taken into force or refused at a frame boundary (R267). -/
def takeMins (s : State) : State :=
  let want := (List.range 20).map (fun p => bitsOf (s.rdN (Reg.SW_MINp p)) 0 17)
  if want = s.sw.mins then s
  else if 32768 < want.foldl (· + ·) 0 then (if s.flag Fld.SW_EVT_CFG_REFUSED then s else s.evt Fld.SW_EVT_CFG_REFUSED)
  else s.setSw { s.sw with mins := want }

/-- The groups that a change of SW_LAGg has enabled or altered are dealt (R269). -/
def lagSync (s : State) : State :=
  (List.range 8).foldl (fun t g =>
    let v := t.rdN (Reg.SW_LAGg g)
    if v = t.sw.lags.getD g 0 then t
    else
      let t1 := t.setSw { t.sw with lags := t.sw.lags.set g v }
      if t1.lagOn g then t1.dealAll g else t1) s

/-- The redeals that REBAL asked for (R270). -/
def lagRedeal (s : State) : State :=
  ((setBits 8 s.sw.redeal).foldl (fun t g => t.redeal g) s).setSw { ((setBits 8 s.sw.redeal).foldl (fun t g => t.redeal g) s).sw with redeal := 0 }

/-! ### Missed Syncs (R274) -/

/-- A refused, aged or discarded replica of a forwarded two-step Sync is recorded on its port. -/
def noteMissed (s : State) (src dest : Nat) (b : List Byte) : State :=
  if 16 ≤ src || 16 ≤ dest then s
  else match missedOf b with
    | none => s
    | some m => s.setSw { s.sw with missed := s.sw.missed.modify dest (fun l => (if 16 ≤ l.length then l.drop 1 else l) ++ [m]) }

/-- The oldest entry of a port's table expires after 1 s. -/
def missedExpiry (s : State) (p : Nat) : State := s.setSw { s.sw with missed := s.sw.missed.modify p (fun l => l.drop 1) }

/-! ### Admission (R266, R269, R273) -/

/-- A frame that requested a stamp does not leave (R90). -/
def noSend (s : State) (p : Nat) (ts : Option Nat) : State := match ts with | some tag => s.txqNoSend p tag | none => s

/-- The destinations of a mask with each aggregation group resolved to one member (R269, R270); the groups with no member up. -/
def resolveLag (s : State) (mask : Nat) (b : List Byte) : List Nat × List Nat :=
  (List.range 8).foldl (fun (a : List Nat × List Nat) g =>
    let mem := s.lagMembers g
    if s.lagOn g && mem.any (fun m => a.1.contains m) then
      let rest := a.1.filter (fun d => !mem.contains d)
      if mem.any s.portUp then (rest ++ [s.bucket g (flowBucket b)], a.2) else (rest, a.2 ++ mem)
    else a) (setBits 20 mask, [])

/-- One replica is admitted or dropped (R266, R273). -/
def admitReplica (s : State) (r : Replica) (c : Nat) (multi : Bool) : State :=
  if s.swAdmits r.dest r.prio c then s.modQueue r.dest (· ++ [r])
  else
    let s1 := s.bump (if multi then Reg.SW_MC_DROPp r.dest else Reg.SW_DROPp r.dest)
    ((s1.noteMissed r.src r.dest r.bytes).noSend r.dest r.tsReq).emitPkt 0x3A 7 "SW_DROP" r.dest r.bytes

/-- A frame enters the switch core for the destinations given; `c` is the number of cells that admission tests. -/
def swEnter (s : State) (r : Replica) (dests : List Nat) (c : Nat) : State :=
  let s1 := s.setSw { s.sw with nextId := s.sw.nextId + 1 }
  dests.foldl (fun t d => t.admitReplica { r with id := s.sw.nextId, dest := d, admitted := s.tc.cycle } c (1 < dests.length)) s1

/-- A received frame with its verdict (R264): a mask of 0 drops it; otherwise its replicas are admitted. -/
def swReceive (s : State) (r : Replica) (mask c : Nat) : State :=
  if mask % 2 ^ 20 = 0 then s.bump Reg.SW_NODEST
  else
    let x := s.resolveLag mask r.bytes
    (x.2.foldl (fun t m => t.bump (Reg.SW_DOWN_DROPp m)) s).swEnter r x.1 c

/-- The priority of a forwarded or host frame at a port (R256): its PCP, or the port's for an untagged frame. -/
def framePcp (s : State) (p : Nat) (b : List Byte) : Nat :=
  if isTag (beAt b 12 2) then beAt b 14 2 / 2 ^ 13 else s.get (Fld.PTp_VLAN_PCP p)

/-! ### Service of a queue (R263, R268, R274, R277, R284) -/

/-- The head of the highest non-empty queue. -/
def queueHead (s : State) (p : Nat) : Option Replica := [7, 6, 5, 4, 3, 2, 1, 0].findSome? (fun k => (s.queue p).find? (fun r => r.prio == k))

/-- A replica leaves its queue. -/
def unqueue (s : State) (r : Replica) : State := s.modQueue r.dest (fun l => l.filter (fun x => x.id != r.id))

/-- A replica's age reaches SW_AGE (R268): CCLK cycles since its admission, by TC_RATIO. -/
def aged (s : State) (r : Replica) : Bool :=
  let limit := clampNat 10 10000 (bitsOf (s.rdN Reg.SW_AGE) 0 14) * 1250
  limit * s.ratio ≤ (s.tc.cycle - r.admitted) * 2 ^ 48

/-- A replica is discarded on its port, counted where the address says. -/
def discard (s : State) (r : Replica) (counter : Nat) : State :=
  (((s.unqueue r).bump counter).noteMissed r.src r.dest r.bytes).noSend r.dest r.tsReq

/-- A forwarded PTP event message that the transparent clock must correct: its offset (R275). -/
def tcEvent (s : State) (src dest : Nat) (b : List Byte) : Option Nat :=
  if s.flag Fld.SW_CTL_TC_EN && src < 16 && dest < 16 then ptpEvent b else none

/-- The authenticated message of R277. -/
def tcAuth (s : State) (src dest : Nat) (b : List Byte) : Bool := match s.tcEvent src dest b with | some o => ptpAuth b o | none => false

/-- An event message that cannot be corrected is dropped (R277). -/
def tcDrop (s : State) (r : Replica) : Bool :=
  match s.tcEvent r.src r.dest r.bytes with
  | none => false
  | some _ =>
    if s.tcAuth r.src r.dest r.bytes then !s.flag Fld.SW_CTL_AUTH_FWD
    else r.stamp.isNone || !s.stampTx r.dest

/-- A front port takes the head of its highest non-empty queue. -/
def serveFront (s : State) (p : Nat) : State :=
  if (s.port p).next.isSome then s
  else match s.queueHead p with
    | none => s
    | some r =>
      if s.aged r then s.discard r (Reg.SW_AGEDp p)
      else if !s.linkUp p || !s.gateOpen p then s.discard r (Reg.SW_DOWN_DROPp p)
      else
        let hit := match followUpOf r.bytes with
          | some m => if r.src < 16 then (s.sw.missed.getD p []).contains m else false
          | none => false
        if hit then
          let s1 := (s.unqueue r).bump (Reg.SW_FU_SUPPp p)
          match followUpOf r.bytes with
          | some m => s1.setSw { s1.sw with missed := s1.sw.missed.modify p (fun l => l.erase m) }
          | none => s1
        else if s.tcDrop r then s.discard r (Reg.SW_TC_DROPp p)
        else (s.unqueue r).modPort p (fun x => { x with next := some r })

/-! ### The start of a frame at a port (R249, R253 to R256, R276) -/

/-- The frame as it would leave the port: a tag inserted where R257 says, padded where R255 says. -/
def txForm (s : State) (p : Nat) (r : Replica) : List Byte :=
  let own := r.src = 18 || r.src < 16
  let b := if own && s.flag (Fld.PTp_VLAN_TX_INS p) && (outerTag r.bytes (s.tpid p)).isNone then
      r.bytes.take 12 ++ beBytes 2 (s.tpid p) ++
        beBytes 2 (s.get (Fld.PTp_VLAN_PCP p) * 2 ^ 13 + s.get (Fld.PTp_VLAN_PVID p)) ++ r.bytes.drop 12
    else r.bytes
  if own && b.length < 60 && s.flag (Fld.PTp_CTL_TXPAD p) then b ++ List.replicate (60 - b.length) 0 else b

/-- The size allows the frame to leave (R255): the minimum is for host and forwarded frames. -/
def txSizeOk (s : State) (p : Nat) (r : Replica) (b : List Byte) : Bool :=
  (64 ≤ b.length + 4 || !(r.src == 18 || r.src < 16)) && b.length + 4 ≤ s.maxLen p

/-- A frame may start so that its timestamp point crosses at `x` (R247, R249, R252, R256). -/
def mayStart (s : State) (p x : Nat) (b : List Byte) : Bool :=
  s.linkUp p && s.gateOpen p && s.slotClear p x (b.length + 4) && s.tc.now ≤ s.occFrom p x && s.pauseEnd p (s.framePcp p b) ≤ s.occFrom p x

/-- The frame with its residence time added (R276), and whether it was corrected. -/
def corrected (s : State) (p x : Nat) (r : Replica) (b : List Byte) : List Byte × Bool :=
  match s.tcEvent r.src p b, r.stamp with
  | some o, some t =>
    if s.tcAuth r.src p b then (b, false)
    else (refreshUdp (addCorr b o (((x / 2 ^ 32 : Nat) : Int) - ((t / 2 ^ 32 : Nat) : Int))), true)
  | _, _ => (b, false)

/-- The waiting frame's start block is committed so that its timestamp point crosses at `x`. -/
def txStart (s : State) (p x : Nat) : State :=
  match (s.port p).next with
  | none => s
  | some r =>
    let b := s.txForm p r
    let gone := s.modPort p (fun y => { y with next := none })
    if !s.txSizeOk p r b then ((gone.bump (Reg.PTp_TX_DROP p)).evt (Fld.PTp_EVT_TX_DROP p)).noSend p r.tsReq |>.emitPkt (0x20 + p) 7 "TX_DROP" p b
    else if !s.linkUp p || !s.gateOpen p then (gone.noSend p r.tsReq).noteMissed r.src p b |>.bump (Reg.SW_DOWN_DROPp p)
    else if !s.mayStart p x b then s
    else if (match r.late with | some t => decide (t < x) | none => false) then
      ((gone.bump (Reg.PTp_MISS_AGE p)).evt (Fld.PTp_EVT_TX_DROP p)).launchRecord p "AGE"
    else
      let c := s.corrected p x r b
      let s1 := (gone.modPort p (fun y => { y with busyUntil := s.occTo p x (b.length + 4) })).bump64 (Reg.PTp_TX_FRAMES_L p) 1
      let s2 := if c.2 then s1.bump (Reg.SW_TC_CORRp p)
        else if s.tcAuth r.src p b then s1.bump (Reg.SW_TC_DROPp p) else s1
      match r.tsReq with
      | some tag => s2.txqAdd p { tag := tag, stamp := if s.stampTx p then x / 2 ^ 32 * 2 ^ 32 else 0, ovf := false, nosend := false,
                                  nostamp := !s.stampTx p }
      | none => s2

/-! ### Host rings (R278 to R283) -/

/-- A ring's size, base, and the descriptors the device owns. -/
def ringDesc (log2 : Nat) : Nat := if 6 ≤ log2 && log2 ≤ 16 then 2 ^ log2 else 64
def rxSize (s : State) (r : Nat) : Nat := ringDesc (s.get (Fld.SW_RXr_CFG_LOG2SIZE r))
def txSize (s : State) (r : Nat) : Nat := ringDesc (s.get (Fld.SW_TXr_CFG_LOG2SIZE r))
def rxBase (s : State) (r : Nat) : Nat := s.rd64 (Reg.SW_RXr_BASE_L r) / 4096 * 4096
def txBase (s : State) (r : Nat) : Nat := s.rd64 (Reg.SW_TXr_BASE_L r) / 4096 * 4096
def owned (size head tail : Nat) : Nat := (tail % size + size - head % size) % size
def rxAvail (s : State) (r : Nat) : Nat := owned (s.rxSize r) (bitsOf (s.rdN (Reg.SW_RXr_HEAD r)) 0 16) (bitsOf (s.rdN (Reg.SW_RXr_TAIL r)) 0 16)
def txAvail (s : State) (r : Nat) : Nat := owned (s.txSize r) (bitsOf (s.rdN (Reg.SW_TXr_HEAD r)) 0 16) (bitsOf (s.rdN (Reg.SW_TXr_TAIL r)) 0 16)

/-- Bytes of the host's memory written and read. -/
def hostWrite (s : State) (a : Nat) (l : List Byte) : State := { s with hostMem := memStoreList s.hostMem a l }
def hostRead (s : State) (a n : Nat) : List Byte := memRead s.hostMem a n
def hostWord (s : State) (a : Nat) : Nat := fromLe (s.hostRead a 4)

/-- What a receive descriptor says of a frame (R281). -/
structure RxMeta where
  src : Nat
  stamp : Option Nat
  strip : Option Nat
  code : Nat
  deriving DecidableEq, Repr

/-- The words 0 to 5 of the k-th of n descriptors of a frame of `len` bytes (R281). -/
def rxWords (m : RxMeta) (len n k : Nat) : List Nat :=
  let b := fun (v : Bool) (j : Nat) => if v then 2 ^ j else 0
  let t := m.stamp.getD 0
  [2 ^ 31 + b (k == 0) 30 + b (k + 1 == n) 29 + b m.stamp.isNone 28 + b m.strip.isSome 27 + m.src % 32 * 2 ^ 16 + min 2048 (len - 2048 * k),
   len % 2 ^ 14 * 2 ^ 16 + m.strip.getD 0 % 2 ^ 16, fracOf t / 2 ^ 32 * 2 ^ 16 + secOf t / 2 ^ 32 % 2 ^ 16, secOf t % 2 ^ 32, nsOf t, m.code]

/-- A completion is signalled (R283). -/
def rxSignal (s : State) (r : Nat) : State :=
  ({ s with msix := s.msix ++ [Msi.mk 0x062 r] }).setSw { s.sw with rxDone := s.sw.rxDone.set r 0 }

/-- One frame more has completed on a receive ring. -/
def rxCompleted (s : State) (r : Nat) : State :=
  let n := s.sw.rxDone.getD r 0 + 1
  let s1 := (s.wrapBy (Reg.SW_RXr_FRAMES r) 1).setSw { s.sw with rxDone := s.sw.rxDone.set r n }
  if s.get (Fld.SW_RXr_CFG_MOD_FRAMES r) ≤ n then s1.rxSignal r else s1

/-- What became of a host-bound frame (R280). -/
inductive RingResult where
  | written
  | dropped
  | stalled
  deriving DecidableEq, Repr

/-- A host-bound frame is written whole, dropped, or left waiting for HDMA (R280). -/
def toRing (s : State) (r : Nat) (data : List Byte) (m : RxMeta) : RingResult × State :=
  let len := data.length
  let n := max 1 (ceilDiv len 2048)
  if !s.flag (Fld.SW_RXr_CFG_EN r) || s.rxAvail r < n then (.dropped, s.bump (Reg.SW_RXr_NOBUF r))
  else
    let a := s.admitFor 5 len
    if !a.1 then (.stalled, a.2)
    else
      let head := bitsOf (s.rdN (Reg.SW_RXr_HEAD r)) 0 16
      let desc := fun (k : Nat) => s.rxBase r + (head + k) % s.rxSize r * 32
      let buf := fun (k : Nat) => s.hostWord (desc k + 24) + 2 ^ 32 * s.hostWord (desc k + 28)
      let s1 := (List.range n).foldl (fun t k => t.hostWrite (buf k) ((data.drop (2048 * k)).take 2048)) a.2
      let s2 := ((List.range n).reverse).foldl (fun t k => t.hostWrite (desc k) ((rxWords m len n k).flatMap (leBytes 4))) s1
      (.written, (s2.wrN (Reg.SW_RXr_HEAD r) ((head + n) % s.rxSize r)).rxCompleted r)

/-- The head of the host's queues is delivered or dropped (R268, R280, R495). -/
def hostRx (s : State) : State :=
  match s.queueHead 18 with
  | none => s
  | some r =>
    if s.aged r then s.discard r (Reg.SW_AGEDp 18)
    else
      let c := s.cvCheck r.ring r.bytes
      match c.1 with
      | none => c.2.unqueue r
      | some b =>
        let x := c.2.toRing r.ring (b ++ fcsOf b) ⟨r.src, r.stamp, r.strip, r.code⟩
        if x.1 = .stalled then x.2.withhold .hostRxDelivery else x.2.unqueue r

/-- The descriptors of the transmit frame at HEAD: through EOP, at most five; none where EOP is not yet before TAIL. -/
def txDescs (s : State) (r : Nat) : Option (List Nat × Bool) :=
  let n := min 5 (s.txAvail r)
  let head := bitsOf (s.rdN (Reg.SW_TXr_HEAD r)) 0 16
  let desc := (List.range n).map (fun k => s.txBase r + (head + k) % s.txSize r * 32)
  match desc.findIdx? (fun a => bitAt (s.hostWord a) 29) with
  | some k => some (desc.take (k + 1), true)
  | none => if n = 5 then some (desc, false) else none

/-- Descriptors are written back with DONE, and ERR for a drop, and HEAD advances. -/
def txBack (s : State) (r : Nat) (descs : List Nat) (err : Bool) : State :=
  let head := bitsOf (s.rdN (Reg.SW_TXr_HEAD r)) 0 16
  let s1 := descs.foldl (fun t a =>
    t.hostWrite a (leBytes 4 (putBitAt (setBitAt (t.hostWord a) 31) 27 err))) s
  let s2 := s1.wrN (Reg.SW_TXr_HEAD r) ((head + descs.length) % s.txSize r)
  if err then s2.bump (Reg.SW_TXr_BAD r) else s2.wrapBy (Reg.SW_TXr_FRAMES r) 1

/-- The frame at HEAD of a transmit ring (R282). -/
def hostTx (s : State) (r : Nat) (readError : Bool) : State :=
  if !s.flag (Fld.SW_TXr_CFG_EN r) then s
  else match s.txDescs r with
    | none => s
    | some (descs, eop) =>
      let w0 := s.hostWord (descs.getD 0 0)
      let dest := bitsOf w0 16 5
      let ts := if bitAt w0 28 then some (bitsOf (s.hostWord (descs.getD 0 0 + 4)) 0 16) else none
      let data := descs.flatMap (fun a => s.hostRead (s.hostWord (a + 24) + 2 ^ 32 * s.hostWord (a + 28)) (bitsOf (s.hostWord a) 0 12))
      let bad := fun (t : State) => (t.txBack r descs true).noSend dest ts
      if !eop || 15 < dest then bad s
      else
        let a := s.admitFor 5 data.length
        if !a.1 then a.2.withhold (.hostTxFrame (Fin.ofNat 16 r) readError)
        else if readError then (bad a.2).raiseFault 18 0 false
        else
          let c := a.2.cvAppend 1 r data
          if s.maxLen dest < c.1.length + 4 then bad c.2
          else
            let rep : Replica := { id := 0, src := 18, dest := dest, bytes := c.1, prio := s.framePcp dest c.1, ring := 0, code := 0, strip := none,
                                   stamp := none, cells := cellsOf (c.1.length + 4), admitted := 0, tsReq := ts, late := none }
            (c.2.txBack r descs false).swEnter rep [dest] rep.cells

/-- A demodulated subframe goes to the host ring as a record (R161). -/
def navRecord (s : State) (ant band : Nat) (sat : Sat) (crcOk : Bool) (bits rx : Nat) (payload : List Byte) : Bool × State :=
  let pl := payload.take 112
  let w0 := sat.sys * 2 ^ 30 + sat.prn % 64 * 2 ^ 24 + ant * 2 ^ 23 + band * 2 ^ 22 + (if crcOk then 2 ^ 21 else 0) + bits % 2 ^ 12
  let body := wordsBytes [w0, secOf rx % 2 ^ 32, nsOf rx, fracOf rx / 2 ^ 32 * 2 ^ 16] ++ pl
  let x := s.toRing (s.get Fld.GN_CFG_NAV_RING) body ⟨19, some rx, none, 0⟩
  (x.1 != .stalled, x.2)

/-- A cell parity error (R284): the frame that holds the cell is dropped, or stomped if its head has left. `n` picks the stored frame. -/
def swParity (s : State) (n : Nat) : State :=
  let s1 := s.evt Fld.SW_EVT_BUF_PARITY
  match s1.sw.queues.flatten[n]? with
  | some r =>
    (s1.sw.queues.flatten.filter (fun x => x.id == r.id)).foldl (fun t x => (t.unqueue x).noSend x.dest x.tsReq) s1
  | none =>
    { s1 with ports := s1.ports.map (fun p => { p with cut := p.cut.map (fun c => { c with bad := true }) }) }

end State

end Sys2Proof.Machine
end

