-- ==== Sys2Proof/Machine/Outputs.lean ====
section
/-! DEFINITION. The timing outputs (chapter 16): edges, compensation, the delay line, squelch and release, and configuration changes. -/

namespace Sys2Proof.Machine

/-- The immediate causes: LEASE, BRIDGE and FAULT (R402). -/
def sqImmediate : Nat := 2 ^ 4 + 2 ^ 8 + 2 ^ 11

/-- The period of pulse mode, ns (R393). -/
def OutCfg.period (c : OutCfg) : Nat := c.perS * 1000000000 + c.perNs

/-- The settings by which a generator places its edges: an IRIG-B element begins every 10 ms from the second (R395). -/
def OutCfg.gen (c : OutCfg) : OutCfg := if c.mode = 3 then { c with perS := 0, perNs := 10000000, phase := 0, utc := false } else c

namespace State

def out (s : State) (n : Nat) : Output := s.outs.getD n Output.blank
def modOut (s : State) (n : Nat) (f : Output → Output) : State := { s with outs := s.outs.modify n f }

/-- The output drives edges. -/
def outLive (s : State) (n : Nat) : Bool := s.flag (Fld.OUn_STAT_LIVE n)

/-- The settings of R401 as the registers hold them. -/
def outWant (s : State) (n : Nat) : OutCfg :=
  ⟨s.get (Fld.OUn_CFG_MODE n), s.get (Fld.OUn_CFG_IO n), bitsOf (s.rdN (Reg.OUn_PER_S n)) 0 16, bitsOf (s.rdN (Reg.OUn_PER_NS n)) 0 30,
   bitsOf (s.rdN (Reg.OUn_PHASE n)) 0 30, bitsOf (s.rdN (Reg.OUn_FDIV n)) 0 25, s.flag (Fld.OUn_CFG_UTC_ALIGN n)⟩

/-- A width that R393 allows beside a period. -/
def widthOk (p w : Nat) : Bool := 2 ≤ w && w < p

/-- The values are accepted (R392 to R394, R401). -/
def outValid (s : State) (n : Nat) (c : OutCfg) : Bool :=
  let p := c.period
  let pulse := (p % 1000000000 == 0 || 1000000000 % p == 0) && 100 ≤ p && c.phase < min p 1000000000 &&
    widthOk p (bitsOf (s.rdN (Reg.OUn_WIDTH n)) 0 30)
  c.mode ≤ 4 && c.io ≤ 2 && (c.mode != 1 || pulse) && (c.mode != 2 || (2 ≤ c.fdiv && c.fdiv ≤ 16777216)) &&
    (c.mode < 3 || (s.pip (n + 8)).decode == 0)

/-- The lease permits transmission (R405, R411, R424). -/
def leaseTx (s : State) : Bool :=
  let r := s.get Fld.LS_STAT_ROLE
  !(r == 1 || r == 2) || (s.get Fld.LS_STAT_LEASE == 2 && !s.ls.coldBlank)

/-! ### Squelch (R400, R402) -/

/-- The causes in force for an output (R400). -/
def outCauses (s : State) (n : Nat) : Nat :=
  let o := s.out n
  let b := fun (v : Bool) (k : Nat) => if v then 2 ^ k else 0
  let st := s.timeState
  b (!s.flag (Fld.OUn_CTL_EN n) || o.cfg.mode == 0) 0 + b (!s.fc.baseLoaded) 1 +
    b (st == 0 || (1 ≤ st && st ≤ 4 && !bitAt (s.get (Fld.OUn_CFG_STATE_OK n)) (st - 1))) 2 + b o.boundSq 3 + b (!s.leaseTx) 4 +
    b (s.flag (Fld.OUn_CTL_OVL_SQ n)) 5 + b (s.flag (Fld.OUn_CTL_FORCE_SQ n) || s.boot.sleeping) 6 + b (s.flag Fld.HO_STAT_ASTEP_BUSY) 7 + b (st == 5) 8 +
    b ((o.cfg.mode == 3 || o.cfg.mode == 4) && !s.pipAlive (n + 8)) 9 + b (o.change == 2) 10 + b s.faultSquelch 11 + b o.table.isEmpty 12

/-- The squelch takes effect (R397, R402): the line goes to SQ_LEVEL, φ to zero, and a delay-line calibration is requested. -/
def squelchNow (s : State) (n : Nat) : State :=
  let s1 := if (s.out n).level then s.evt (Fld.OUn_EVT_TRUNC n) else s
  let s2 := s1.modOut n (fun o => { o with level := false, sqWait := false, lag := 0, byComp := false })
  let s3 := ((s2.setB (Fld.OUn_STAT_LIVE n) false).setB (Fld.OUn_STAT_SLEWING n) false).evt (Fld.OUn_EVT_SQUELCH n)
  s3.setSh { s3.sh with ocal := setBitAt s3.sh.ocal n }

/-- Every cause has cleared: the output resumes with the first rising edge at least 100 ns after this (R402). -/
def releaseOut (s : State) (n : Nat) : State :=
  ((s.modOut n (fun o => { o with after := s.tc.now + 100 * nsU, level := false, sqWait := false })).setB (Fld.OUn_STAT_LIVE n) true).evt
    (Fld.OUn_EVT_RELEASE n)

/-- WIDTH and SLEW come into force, or are refused (R397, R401). -/
def takeSoft (s : State) (n : Nat) : State :=
  let o := s.out n
  let w := bitsOf (s.rdN (Reg.OUn_WIDTH n)) 0 30
  let v := bitsOf (s.rdN (Reg.OUn_SLEW n)) 0 20
  let s1 := s.modOut n (fun x => { x with seenWidth := w, seenSlew := v })
  let s2 := if w = o.seenWidth then s1
    else if o.cfg.mode != 1 || widthOk o.cfg.period w then s1.modOut n (fun x => { x with width := w })
    else s1.evt (Fld.OUn_EVT_CFG_REFUSED n)
  if v = o.seenSlew then s2
  else if 1000 ≤ v && v ≤ 1000000 then s2.modOut n (fun x => { x with slew := v })
  else s2.evt (Fld.OUn_EVT_CFG_REFUSED n)

/-- The pending settings come into force or are refused (R401). -/
def takeCfg (s : State) (n : Nat) : State :=
  let c := s.outWant n
  let s1 := (s.modOut n (fun o => { o with change := 0, seen := c })).setB (Fld.OUn_STAT_CFG_PENDING n) false
  if s.outValid n c then s1.modOut n (fun o => { o with cfg := c }) else s1.evt (Fld.OUn_EVT_CFG_REFUSED n)

/-- A change of the settings seen in the registers: pending while the output is live, otherwise taken at once (R401). -/
def seeCfg (s : State) (n : Nat) : State :=
  if s.outWant n = (s.out n).seen then s
  else if s.outLive n then (s.modOut n (fun o => { o with change := max 1 o.change })).setB (Fld.OUn_STAT_CFG_PENDING n) true
  else if (s.out n).change = 0 then s.takeCfg n
  else s

/-- A change of OUn_COMP enters φ while the output is live, and takes effect at once while it is squelched (R397). -/
def seeComp (s : State) (n : Nat) : State :=
  let o := s.out n
  let c := s.rdI (Reg.OUn_COMP n)
  if c = o.comp then s
  else
    let s1 := s.modOut n (fun x => { x with comp := c, byComp := s.outLive n && (o.byComp || o.lag == 0) })
    if s.outLive n then s1.putLag n (o.lag + ofPsI (c - o.comp)) else s1

/-- An output follows its causes (R400, R402). -/
def refreshOut (s : State) (n : Nat) : State :=
  let s0 := (s.seeCfg n).seeComp n
  let s0 := if s0.outLive n then s0 else s0.takeSoft n
  let lim := s0.rdN (Reg.OUn_BMAX n) * 1000
  let beyond := match s0.eb.snap with | some x => lim != 0 && decide (lim < x.b0) | none => false
  let s1 := if beyond || lim = 0 then s0.modOut n (fun o => { o with boundSq := beyond }) else s0
  let c := s1.outCauses n
  let s2 := (s1.wrN (Reg.OUn_SQ n) c).setB (Fld.OUn_STAT_SQUELCHED n) (c != 0)
  if c ≠ 0 then
    if !s2.outLive n then s2
    else if (c &&& sqImmediate) != 0 || !(s2.out n).level then s2.squelchNow n
    else s2.modOut n (fun o => { o with sqWait := true })
  else if s2.outLive n then s2.modOut n (fun o => { o with sqWait := false })
  else s2.releaseOut n

/-- Every output follows its causes. -/
def refreshOuts (s : State) : State := (List.range 16).foldl (fun t n => t.refreshOut n) s

/-! ### Edges (R393, R394, R396) -/

/-- The second carries a pulse of a whole-second period: its time-core or UTC-view number is a multiple of PER_S (R393). -/
def pulseSecond (s : State) (c : OutCfg) (sec : Nat) : Bool :=
  if c.utc then (s.utcView sec) % (c.perS : Int) == 0 && !s.utcInserted sec else sec % c.perS == 0

/-- The first pulse second from `sec` on, among the next `k`. -/
def findSecond (s : State) (c : OutCfg) : Nat → Nat → Nat
  | 0, sec => sec
  | k + 1, sec => if s.pulseSecond c sec then sec else findSecond s c k (sec + 1)

/-- The first nominal instant of a rising edge at or after `x` (R393, R394), in units of 2^-48 ns. -/
def nominalFrom (s : State) (c : OutCfg) (x : Nat) : Nat :=
  let c := c.gen
  if c.mode = 2 then ceilDiv x (c.fdiv * nsU) * (c.fdiv * nsU)
  else if c.perNs = 0 then
    let ph := c.phase * nsU
    s.findSecond c (c.perS + 2) (ceilDiv (x - ph) secU) * secU + ph
  else
    let sec := secOf x
    let k := ceilDiv (x - (sec * secU + c.phase * nsU)) (c.period * nsU)
    if c.phase + k * c.period < 1000000000 then sec * secU + (c.phase + k * c.period) * nsU else (sec + 1) * secU + c.phase * nsU

/-- The advance A, in units of 2^-48 ns (R396). -/
def outAdvance (s : State) (n : Nat) : Int :=
  let o := s.out n
  ofPsI o.comp - o.lag + o.dpin * 2 ^ 32

/-- The time-core instant of the edge of a nominal instant (R396). -/
def edgeAt (s : State) (n nom : Nat) : Nat := ((nom : Int) - s.outAdvance n).toNat

/-- The delay of a code by linear interpolation of the 64-point table, in units of 2^-16 ns (R398). -/
def codeDelay (table : List Nat) (c : Nat) : Rat :=
  let i := min (c / 32) 62
  let a : Rat := (table.getD i 0 : Nat)
  let b : Rat := (table.getD (i + 1) 0 : Nat)
  a + (b - a) * ((c : Rat) - (32 * i : Nat)) / 32

/-- The code whose delay, less the delay at code 0, is nearest to a residue (R398); `r` in units of 2^-48 ns. -/
def codeFor (table : List Nat) (r : Nat) : Nat :=
  let want : Rat := (r : Rat) / (2 ^ 32 : Nat)
  let err := fun (c : Nat) => let d := codeDelay table c - codeDelay table 0 - want; if d < 0 then -d else d
  (List.range 2048).foldl (fun best c => if err c < err best then c else best) 0

/-- Time runs to the edge of a nominal instant, and the fine delay line is set to its residue (R396, R398). -/
def placeEdge (s : State) (n nom : Nat) : State :=
  let t := s.edgeAt n nom
  let s1 := s.advanceTo t
  s1.modOut n (fun o => { o with code := codeFor o.table (t - s1.tc.now) })

/-- The Shell checks one edge per second of a live output (R204): the first rising edge of each second starts unit 0. -/
def startLive (s : State) (n was nom t : Nat) : State :=
  if secOf was = secOf nom then s else s.addStart 0 ⟨⟨t, s.tc.cycle, 0⟩, n⟩

/-! ### The IRIG-B generator, ROM program 0x01 (R395) -/

/-- The output's edges come from its own generator (R392), or from ROM program 0x01 in IRIG-B mode. -/
def outGen (s : State) (n : Nat) : Bool :=
  let m := (s.out n).cfg.mode
  m == 1 || m == 2 || (m == 3 && s.romRuns (n + 8) 1)

/-- The day number, from 0000-01-01, of the first day of a year of the Gregorian calendar. -/
def yearStart (y : Nat) : Nat := 365 * y + (y + 3) / 4 + (y + 399) / 400 - (y + 99) / 100

/-- The year, and the day of the year from 1, of a day counted from 1970-01-01. -/
def yearDay (d : Int) : Nat × Nat :=
  let x := (d + 719528).toNat
  let g := x * 400 / 146097
  let y := if yearStart (g + 1) ≤ x then g + 1 else if yearStart g ≤ x then g else g - 1
  (y, x + 1 - yearStart y)

/-- The bit of weight 2^k of a decimal digit. -/
def bcdBit (v ten k : Nat) : Bool := bitAt (v / ten % 10) k

/-- The time-quality code at a second (R395); where the spec gives none for a bound above 10 s, a free value. -/
def timeQuality (s : State) (sec : Nat) : Nat :=
  match s.eb.snap with
  | none => 15
  | some x =>
    let b := x.boundAt (sec * secU)
    if !x.valid then 15
    else if s.timeState = 2 && b ≤ 1000000 then 0
    else if 10 ^ 13 < b then (Config.timeQuality b).val
    else ((List.range 11).find? (fun k => b ≤ 10 ^ (k + 3))).getD 10 + 1

/-- The IEEE 1344 control functions at elements 60 to 74, as IEEE C37.118 places them (PRESUMED), for a second (R395). -/
def irigControl (s : State) (sec : Nat) (r : Nat) (k : Nat) : Bool :=
  let ofs := signedOf 6 (bitsOf r 8 6)
  let h := ofs.natAbs / 2
  if k = 60 then s.leapSoon sec
  else if k = 61 then s.leapInd sec == 2
  else if k = 63 then bitAt r 14
  else if k = 64 then decide (ofs < 0)
  else if 65 ≤ k && k ≤ 68 then bitAt h (k - 65)
  else if k = 70 then ofs.natAbs % 2 == 1
  else if 71 ≤ k && k ≤ 74 then bitAt (s.timeQuality sec) (k - 71)
  else false

/-- A data element of the IRIG frame of a second, but for the parity bit: the fields of IRIG 200 B00x (their places PRESUMED), x from
OUn_IRIG.CODE, over the UTC view or local time (R395). -/
def irigData (s : State) (sec r k : Nat) : Bool :=
  let x := bitsOf r 0 3
  let ins := s.utcInserted sec
  let v := s.utcView sec - (if ins then 1 else 0) + (if bitAt r 4 then signedOf 6 (bitsOf r 8 6) * 1800 else 0)
  let tod := (v % 86400).toNat
  let y := yearDay (v / 86400)
  let ss := tod % 60 + (if ins then 1 else 0)
  let sbs := tod + (if ins then 1 else 0)
  if k ≤ 4 then bcdBit ss 1 (k - 1)
  else if k ≤ 8 then 6 ≤ k && bcdBit ss 10 (k - 6)
  else if k ≤ 13 then bcdBit (tod / 60 % 60) 1 (k - 10)
  else if k ≤ 18 then 15 ≤ k && k ≤ 17 && bcdBit (tod / 60 % 60) 10 (k - 15)
  else if k ≤ 23 then bcdBit (tod / 3600) 1 (k - 20)
  else if k ≤ 28 then 25 ≤ k && k ≤ 26 && bcdBit (tod / 3600) 10 (k - 25)
  else if k ≤ 33 then bcdBit y.2 1 (k - 30)
  else if k ≤ 38 then 35 ≤ k && bcdBit y.2 10 (k - 35)
  else if k ≤ 48 then 40 ≤ k && k ≤ 41 && bcdBit y.2 100 (k - 40)
  else if k ≤ 53 then 4 ≤ x && bcdBit y.1 1 (k - 50)
  else if k ≤ 58 then 4 ≤ x && 55 ≤ k && bcdBit y.1 10 (k - 55)
  else if k ≤ 78 then bitAt r 3 && (x % 4 == 0 || x % 4 == 1) && s.irigControl sec r k
  else if k ≤ 97 then (x % 4 == 0 || x % 4 == 3) && (if k ≤ 88 then bitAt sbs (k - 80) else bitAt sbs (k - 81))
  else false

/-- Elements that are position identifiers: the reference marker, and every tenth. -/
def irigMark (k : Nat) : Bool := k == 0 || k % 10 == 9

/-- How long each element of the IRIG frame of a second stays high, ms (R395); `r` is OUn_IRIG as read. -/
def irigFrameOf (s : State) (sec r : Nat) : List Nat :=
  let before := (List.range 75).filterMap (fun k => if irigMark k then none else some (s.irigData sec r k))
  let par := bitAt r 3 && (bitsOf r 0 3 % 4 == 0 || bitsOf r 0 3 % 4 == 1) && Config.irigParity before
  (List.range 100).map (fun k => if irigMark k then 8 else if (if k = 75 then par else s.irigData sec r k) then 5 else 2)

/-- The generator reads OUn_IRIG and the time core at the frame's first element, or at the first element that it drives of a frame (R395). -/
def irigRead (s : State) (n nom : Nat) : State :=
  let o := s.out n
  if o.cfg.mode = 3 && (o.irigSec != secOf nom || o.irig.isEmpty || nsOf nom == 0) then
    s.modOut n (fun x => { x with irigSec := secOf nom, irig := s.irigFrameOf (secOf nom) (s.rdN (Reg.OUn_IRIG n)) })
  else s

/-- A rising edge leaves the output. -/
def rising (s : State) (n nom : Nat) : State :=
  let s1 := ((s.placeEdge n nom).takeSoft n).irigRead n nom
  let s2 := (s1.modOut n (fun o => { o with level := true, rise := nom })).wrapBy (Reg.OUn_EDGES n) 1
  s2.startLive n (s.out n).rise nom (s1.edgeAt n nom)

/-- A falling edge leaves the output, and a squelch that waits for it takes effect (R402). -/
def falling (s : State) (n nom : Nat) : State :=
  let s1 := (s.placeEdge n nom).modOut n (fun o => { o with level := false })
  if (s.out n).sqWait then s1.squelchNow n else s1

/-- The time a pulse, half wave or IRIG element stays high, in units of 2^-48 ns (R393 to R395). -/
def highFor (s : State) (n : Nat) : Nat :=
  let o := s.out n
  if o.cfg.mode = 2 then o.cfg.fdiv * nsU / 2
  else if o.cfg.mode = 3 then (o.irig.getD (nsOf o.rise / 10000000) 2) * msU
  else o.width * nsU

/-- A Pip mode's level takes effect at an owned edge (R378, R392). -/
def pipEdge (s : State) (n : Nat) (l : Bool) : State :=
  if !s.outLive n || !(3 ≤ (s.out n).cfg.mode) then s
  else
    let was := (s.out n).level
    let s1 := s.modOut n (fun o => { o with level := l, rise := s.tc.now })
    if l && !was then ((s1.takeSoft n).wrapBy (Reg.OUn_EDGES n) 1).startLive n (s.out n).rise s.tc.now s.tc.now
    else if was && !l && (s.out n).sqWait then s1.squelchNow n else s1

/-- The output's own generator, or the ROM's IRIG-B generator, places its next edge (R395, R396); for another program of a Pip mode the
edges come with the trigger's fires. -/
def outEdge (s : State) (n : Nat) : State :=
  let o := s.out n
  if !s.outLive n || !s.counting then s
  else if s.outGen n then
    if o.level then s.falling n (o.rise + s.highFor n)
    else
      let from' := (max o.after s.tc.now : Int) + s.outAdvance n
      s.rising n (s.nominalFrom o.cfg from'.toNat)
  else s

/-- The boundary's part of an output: a pending change moves on, BOUND clears, and a new table set is applied (R398, R400, R401). -/
def outFrame (s : State) (n : Nat) : State :=
  let o := s.out n
  let s1 := if o.change = 1 then s.modOut n (fun x => { x with change := 2 }) else s
  let lim := s.rdN (Reg.OUn_BMAX n) * 1000
  let s2 := match s1.eb.snap with
    | some x => if o.boundSq && x.b0 * 10 ≤ lim * 9 then s1.modOut n (fun y => { y with boundSq := false }) else s1
    | none => s1
  if o.next.length = 64 then
    ((s2.modOut n (fun y => { y with table := y.next, next := [], dpin := Config.pinDelay s2.sh.lrp (64 + n) })).setB
      (Fld.OUn_STAT_TABLE_OK n) true).evt (Fld.OUn_EVT_TABLE n)
  else s2

/-- A live check's interval reaches the output, in units of 2^-16 ns (R399). -/
def outCheck (s : State) (n : Nat) (interval : Int) : State :=
  let ps := s.roundFree (interval * 1000) 65536
  let s1 := s.wrSatI (Reg.OUn_CHK n) ps
  let o := s1.out n
  if bitsOf (s1.rdN (Reg.OUn_CHK_LIM n)) 0 16 < ps.natAbs then
    let s2 := s1.modOut n (fun x => { x with bad := x.bad + 1, told := o.told || 9 ≤ o.bad })
    if o.bad + 1 = 10 && !o.told then (s2.bump (Reg.OUn_CHK_FAIL n)).evt (Fld.OUn_EVT_CHK_FAIL n) else s2
  else s1.modOut n (fun x => { x with bad := 0, told := false })

end State

end Sys2Proof.Machine
end

