-- ==== Sys2Proof/Machine/Links.lean ====
section
/-! DEFINITION. Usaur links, the time tree and the fabric (chapter 18), but for the mirroring records and the link agent. -/

namespace Sys2Proof.Machine

/-- A time of the two-way exchange, in units of 2^-16 ns. -/
def linkTime (t : Nat) : Nat := t / 2 ^ 32

/-- Such a time as the three words S[31:0], N and fraction (R438), and back modulo 2^32 s. -/
def linkWords (x : Nat) : List Nat := [x / 65536000000000 % 2 ^ 32, x % 65536000000000 / 65536, x % 65536]
def ofLinkWords (w : List Nat) (k : Nat) : Nat := w.getD k 0 * 65536000000000 + w.getD (k + 1) 0 % 2 ^ 30 * 65536 + w.getD (k + 2) 0 % 65536

/-- a − b for times that the frames carry modulo 2^32 s. -/
def linkDiff (a b : Nat) : Int :=
  let m : Int := 2 ^ 32 * 65536000000000
  let d := ((a : Int) - b) % m
  if d * 2 < m then d else d - m

/-- A frame of a link (R434), with its check value: the payload in words, and zeros up to 68 bytes. -/
def usaurFrame (typ dst src seq ttl : Nat) (payload : List Nat) : List Byte :=
  let p := payload ++ List.replicate (12 - payload.length) 0
  let n := 20 + 4 * p.length
  let b := ([typ * 2 ^ 28 + dst % 4096 * 65536 + src % 4096 * 16, n * 65536 + seq % 65536, ttl % 256, 0] ++ p).flatMap (leBytes 4)
  b ++ leBytes 4 (crc32c b)

/-- The words of a frame. -/
def wordsOf : List Byte → List Nat
  | a :: b :: c :: d :: r => fromLe [a, b, c, d] :: wordsOf r
  | _ => []

/-- The line through points (instant, difference) read at `t`, and the residual sum of squares (R439). -/
def lineAt (l : List (Nat × Int)) (t : Nat) : Rat × Rat :=
  let pts := l.map (fun e => (e.1, (e.2 : Rat)))
  match lineFit pts with
  | none => (0, 0)
  | some (b, ss) =>
    let n : Rat := (l.length : Nat)
    let mt : Rat := (((l.foldl (fun a e => a + e.1) 0 : Nat) : Int) : Rat) / n
    let md : Rat := ((l.foldl (fun a e => a + e.2) 0 : Int) : Rat) / n
    (md + b * (((t : Int) : Rat) - mt), ss)

namespace State

def ulink (s : State) (k : Nat) : ULink := s.links.getD k ULink.blank
def modLink (s : State) (k : Nat) (f : ULink → ULink) : State := { s with links := s.links.modify k f }
def ulUp (s : State) (k : Nat) : Bool := s.flag (Fld.ULk_STAT_LINK k)

/-- UL_NODE: 0xFFF is refused and taken as 0 (R452). -/
def nodeAddr (s : State) : Nat := let a := bitsOf (s.rdN Reg.UL_NODE) 0 12; if a = 4095 then 0 else a
def tRate (s : State) (k : Nat) : Nat := let r := s.get (Fld.ULk_CFG_TRATE k); if 3 ≤ r && r ≤ 6 then r else 5

/-- A frame goes out on a link that is up; TYPE's sequence number advances (R434). -/
def sendFrame (s : State) (k typ dst src ttl : Nat) (payload : List Nat) : State :=
  let q := (s.ulink k).seqs.getD typ 0
  let s1 := s.modLink k (fun x => { x with seqs := x.seqs.set typ ((q + 1) % 65536), sent := x.sent ++ [usaurFrame typ dst src q ttl payload] })
  s1.wrapBy (Reg.ULk_TX_FRAMES k) 1

/-- A frame already built goes out with the link's own SEQ (R434, R447). -/
def resendFrame (s : State) (k : Nat) (w : List Nat) (ttl : Nat) : State :=
  s.sendFrame k (w.getD 0 0 / 2 ^ 28) (bitsOf (w.getD 0 0) 16 12) (bitsOf (w.getD 0 0) 4 12) ttl ((w.drop 4).dropLast)

/-! ### The tree (R442, R443) -/

/-- The class by which the node is a root now. -/
def rootClassNow (s : State) : Option Nat :=
  let r := s.get Fld.LS_STAT_ROLE
  if (r == 1 || r == 2) && s.get Fld.LS_STAT_LEASE == 2 then some 0
  else if r = 5 then some 1
  else if s.flag Fld.UL_FAB_CFG_ROOT_EN && (r == 4 || r == 6) then some 2
  else none

/-- What the node advertises: HOPS, ROOT_CLASS and root address (R442). -/
def advertised (s : State) : Nat × Nat × Nat :=
  match s.rootClassNow with
  | some c => (0, c, s.nodeAddr)
  | none =>
    if s.flag Fld.UL_TREE_ON_TREE && !s.flag Fld.UL_TREE_ROOT then (s.get Fld.UL_TREE_HOPS, s.get Fld.UL_TREE_ROOT_CLASS, s.get Fld.UL_TREE_ROOT_ADDR)
    else (15, 3, 0)

/-- A completed exchange within the last 1 ms. -/
def exchRecent (s : State) (k : Nat) : Bool := match (s.ulink k).lastExch with | some t => decide (s.tc.now ≤ t + msU) | none => false

/-- What a link offers as a parent (R443): root class and address, HOPS, bound and number, lower first. -/
def offer (s : State) (k : Nat) : Option (Nat × Nat × Nat × Nat) :=
  match (s.ulink k).peer with
  | some p => if s.ulUp k && s.exchRecent k && p.valid && !p.parent && p.hops ≤ 7 then some (p.rootClass, p.root, p.hops, p.bound) else none
  | none => none

/-- The order of candidates (R443). -/
def offerLt (a b : Nat × Nat × Nat × Nat) : Bool :=
  a.1 < b.1 || (a.1 == b.1 && (a.2.1 < b.2.1 || (a.2.1 == b.2.1 && (a.2.2.1 < b.2.2.1 || (a.2.2.1 == b.2.2.1 && a.2.2.2 < b.2.2.2)))))

/-- A strictly better root or strictly fewer HOPS. -/
def offerBeats (a b : Nat × Nat × Nat × Nat) : Bool :=
  a.1 < b.1 || (a.1 == b.1 && a.2.1 < b.2.1) || a.2.2.1 < b.2.2.1

/-- The best candidate, the lower link number first among equals. -/
def bestOffer (s : State) (l : List Nat) : Option (Nat × (Nat × Nat × Nat × Nat)) :=
  l.foldl (fun b k => match s.offer k, b with
    | none, _ => b
    | some o, none => some (k, o)
    | some o, some (j, p) => if offerLt o p then some (k, o) else some (j, p)) none

/-- The parent chosen at a boundary (R443): the present one while no candidate beats it. -/
def chooseParent (s : State) (cur : Option Nat) : Option (Nat × (Nat × Nat × Nat × Nat)) :=
  let best := s.bestOffer [0, 1, 2, 3]
  match cur with
  | some k =>
    match s.offer k with
    | some o => if [0, 1, 2, 3].any (fun j => match s.offer j with | some p => offerBeats p o | none => false) then best else some (k, o)
    | none => best
  | none => best

/-- UL_TREE is written (R443). -/
def putTree (s : State) (link : Nat) (on root : Bool) (hops cls addr : Nat) : State :=
  (((((s.set Fld.UL_TREE_PARENT link).setB Fld.UL_TREE_ON_TREE on).setB Fld.UL_TREE_ROOT root).set Fld.UL_TREE_HOPS hops).set
    Fld.UL_TREE_ROOT_CLASS cls).set Fld.UL_TREE_ROOT_ADDR addr

/-- The tree state of a boundary (R442 to R444). -/
def treeFrame (s : State) : State :=
  let r := s.get Fld.LS_STAT_ROLE
  let cur := if s.flag Fld.UL_TREE_ON_TREE && !s.flag Fld.UL_TREE_ROOT then some (s.get Fld.UL_TREE_PARENT) else none
  let changed := fun (s : State) => ((s.evt (Fld.ULk_EVT_TREE_CHG 0)).bump Reg.UL_TREE_CHG)
  match s.rootClassNow with
  | some c => s.putTree 0 true true 0 c s.nodeAddr
  | none =>
    if r = 4 || r = 6 then
      match s.chooseParent cur with
      | some (k, o) =>
        let s1 := s.putTree k true false (o.2.2.1 + 1) o.1 o.2.1
        if cur = some k then s1 else changed (s1.signalLoss 8)
      | none => let s1 := s.putTree 0 false false 15 3 0; if cur = none then s1 else changed (s1.signalLoss 8)
    else if r = 1 || r = 2 then
      match (s.ulink 0).peer with
      | some p => if s.ulUp 0 && p.hops ≤ 7 then s.putTree 0 true false (p.hops + 1) p.rootClass p.root else s.putTree 0 false false 15 3 0
      | none => s.putTree 0 false false 15 3 0
    else s.putTree 0 false false 15 3 0

/-! ### TIME frames (R437 to R439) -/

/-- The bound that goes with a time-core instant, ps. -/
def boundAtTime (s : State) (t : Nat) : Nat := match s.eb.snap with | some x => min (x.boundAt t) boundMax | none => boundMax

/-- A TIME frame goes out (R437, R438); one in each frame starts the link's interval unit (R205). -/
def sendTime (s : State) (k : Nat) : State :=
  let x := s.ulink k
  let q := x.seqs.getD 1 0
  let prev := x.txMarks.find? (fun m => m.1 == (q + 65535) % 65536)
  let ack := x.rxMarks.head?
  let (hops, cls, root) := s.advertised
  let valid := s.flag Fld.EB_STAT_VALID && !s.bridging
  let parent := s.flag Fld.UL_TREE_ON_TREE && !s.flag Fld.UL_TREE_ROOT && s.get Fld.UL_TREE_PARENT == k
  let b := fun (v : Bool) (n : Nat) => if v then 2 ^ n else 0
  let w0 := (match ack with | some a => a.1 | none => 0) + b ack.isSome 16 + b prev.isSome 17 + b valid 18 + b parent 19 + hops * 2 ^ 20 +
    cls * 2 ^ 24 + s.timeState * 2 ^ 26
  let tp := match prev with | some m => m.2 | none => 0
  let bnd := s.boundAtTime (match prev with | some m => m.2 * 2 ^ 32 | none => s.tc.now)
  let s1 := s.sendFrame k 1 4095 s.nodeAddr 0 ([w0, root] ++ linkWords tp ++ linkWords (match ack with | some a => a.2 | none => 0) ++
    [bnd % 2 ^ 32, bnd / 2 ^ 32, 0, 0])
  let s2 := s1.modLink k (fun y => { y with txWait := some q })
  if q % 2 ^ s.tRate k = 0 then s2.addStart (k + 1) ⟨⟨s.tc.now, s.tc.cycle, 0⟩, k⟩ else s2

/-- The TIME frame `seq` of the peer has its marker. -/
def rxMarked (s : State) (k seq t : Nat) : State := s.modLink k (fun x => { x with rxMarks := ((seq, t) :: x.rxMarks).take 64 })

/-- A link marker reaches the link (R205, R437): a transmit marker belongs to the latest TIME frame sent, a receive marker to the TIME frame
that arrived after it. -/
def linkMarker (s : State) (k : Nat) (tx : Bool) (t : Nat) : State :=
  let x := s.ulink k
  if tx then
    match x.txWait with
    | some q => s.modLink k (fun y => { y with txWait := none, txMarks := ((q, linkTime t) :: y.txMarks).take 64 })
    | none => s
  else
    match x.rxWait with
    | some w =>
      let s1 := s.modLink k (fun y => { y with rxWait := none })
      if t ≤ w.atTime then (match w.seq with | some q => s1.rxMarked k q (linkTime t) | none => s1)
      else s1.modLink k (fun y => { y with rxMark := some (linkTime t) })
    | none => s.modLink k (fun y => { y with rxMark := some (linkTime t) })

/-- A TIME frame that passed its checks (R438, R439). -/
def takeTime (s : State) (k seq : Nat) (p : List Nat) : State :=
  let w0 := p.getD 0 0
  let peer : PeerTime := { valid := bitAt w0 18, parent := bitAt w0 19, hops := bitsOf w0 20 4, rootClass := bitsOf w0 24 2,
                           timeState := bitsOf w0 26 3, root := bitsOf (p.getD 1 0) 0 12, bound := p.getD 8 0 + bitsOf (p.getD 9 0) 0 16 * 2 ^ 32 }
  let x := s.ulink k
  let inb := if bitAt w0 17 then (x.rxMarks.find? (fun m => m.1 == (seq + 65535) % 65536)).map (fun m => (m.2, linkDiff m.2 (ofLinkWords p 2))) else none
  let ackSeq := bitsOf w0 0 16
  let out := if bitAt w0 16 && x.acked != some ackSeq then
      (x.txMarks.find? (fun m => m.1 == ackSeq)).map (fun m => (m.2, linkDiff (ofLinkWords p 5) m.2)) else none
  let s1 := match x.rxMark with
    | some t => (s.modLink k (fun y => { y with rxMark := none })).rxMarked k seq t
    | none => s.modLink k (fun y => { y with rxWait := some ⟨s.tc.now, some seq⟩ })
  let s2 := s1.modLink k (fun y => { y with
    peer := some peer
    acked := if bitAt w0 16 then some ackSeq else y.acked
    ins := y.ins ++ inb.toList
    outs := y.outs ++ out.toList
    lastExch := if inb.isSome && out.isSome then some s.tc.now else y.lastExch })
  let s3 := ((((s2.set (Fld.ULk_PEER_HOPS k) peer.hops).set (Fld.ULk_PEER_ROOT_CLASS k) peer.rootClass).setB (Fld.ULk_PEER_VALID k) peer.valid).setB
    (Fld.ULk_PEER_PARENT k) peer.parent).wrN (Reg.ULk_PEER_ROOT k) peer.root
  s3.wr64 (Reg.ULk_UPB_L k) peer.bound

/-! ### Link events (R433, R447, R450) -/

/-- Every route over a link that has gone down loses VALID (R447). -/
def dropRoutes (s : State) (k : Nat) : State :=
  (List.range 128).foldl (fun t e => if t.get (Fld.UL_ROUTEe_LINK e) = k && t.flag (Fld.UL_ROUTEe_VALID e) then t.setB (Fld.UL_ROUTEe_VALID e) false else t) s

/-- The link is declared down. -/
def ulinkDown (s : State) (k : Nat) (lockLost : Bool) : State :=
  if !s.ulUp k then s else
  let s1 := (s.setB (Fld.ULk_STAT_LINK k) false).evt (Fld.ULk_EVT_LINK_DOWN k)
  let s2 := if lockLost then s1.setB (Fld.ULk_STAT_LOCK k) false else s1
  let s3 := (s2.setB (Fld.ULk_PEER_HELLO k) false).dropRoutes k
  let s4 := s3.modLink k (fun x => { x with held := [], txWait := none, rxMark := none, rxWait := none, badRun := 0 })
  (if k = 0 then s4.setB Fld.LS_STAT_PEER_LINK false else s4).emit (0x30 + k) 14 "LINK_DOWN"

/-- The link is declared up after 10 ms of lock. -/
def ulinkUp (s : State) (k : Nat) : State :=
  if s.ulUp k || !s.flag (Fld.ULk_CTL_EN k) || s.flag (Fld.ULk_STAT_FENCED k) || bitAt s.sw.sdrefLost (k / 2) then s else
  let s1 := (((s.setB (Fld.ULk_STAT_LINK k) true).setB (Fld.ULk_STAT_LOCK k) true).setB (Fld.ULk_STAT_CLASH k) false).evt (Fld.ULk_EVT_LINK_UP k)
  (if k = 0 then s1.setB Fld.LS_STAT_PEER_LINK true else s1).emit (0x30 + k) 14 "LINK_UP"

/-- A parity error in a link buffer, or a failed FEC self-check (R433). -/
def ulinkHw (s : State) (k : Nat) : State :=
  if s.flag (Fld.ULk_STAT_FENCED k) then s else
  ((s.ulinkDown k true).setB (Fld.ULk_STAT_FENCED k) true).evt (Fld.ULk_EVT_FENCED k)

/-! ### Service and journal frames (R435, R447, R450) -/

/-- Link k may carry SERVICE frames (R446, R451). -/
def serviceOk (s : State) (k : Nat) : Bool := s.flag (Fld.ULk_CFG_FAB_EN k) && !s.flag (Fld.ULk_STAT_CLASH k)

/-- A SERVICE message of this node goes out: R448's routing word and words 1 to 3. One that is not a HELLO waits for the neighbour's HELLO. -/
def sendService (s : State) (k word0 : Nat) (words : List Nat) : State :=
  if !s.ulUp k || !s.serviceOk k then s else
  let code := bitsOf word0 12 4
  let dst := bitsOf word0 0 12
  let s1 := s.tick
  let ttl := (Config.serviceTtl k s.freeCtr).toNat
  let pay := [word0 % 65536] ++ words
  if code = 1 || s.flag (Fld.ULk_PEER_HELLO k) then s1.sendFrame k 3 dst s.nodeAddr ttl pay
  else s1.modLink k (fun x => { x with held := x.held ++ [usaurFrame 3 dst s.nodeAddr 0 ttl pay] })

/-- The frames that waited for HELLO go out. -/
def releaseHeld (s : State) (k : Nat) : State :=
  ((s.ulink k).held.foldl (fun t f => let w := wordsOf f; t.resendFrame k w (bitsOf (w.getD 2 0) 0 8)) s).modLink k (fun x => { x with held := [] })

/-- The route entry of a destination (R447). -/
def routeOf (s : State) (d : Nat) : Nat := if d / 64 = s.nodeAddr / 64 then 64 + d % 64 else d / 64

/-- A SERVICE frame for another node is forwarded, or dropped (R447). -/
def forward (s : State) (k : Nat) (w : List Nat) : State :=
  let e := s.routeOf (bitsOf (w.getD 0 0) 16 12)
  let ttl := bitsOf (w.getD 2 0) 0 8 - 1
  let out := s.get (Fld.UL_ROUTEe_LINK e)
  if ttl = 0 || !s.flag (Fld.UL_ROUTEe_VALID e) || s.get (Fld.UL_ROUTEe_DIST e) = 63 || !s.ulUp out then s.bump (Reg.ULk_TTL_DROP k)
  else if !s.serviceOk out then s
  else if s.flag (Fld.ULk_PEER_HELLO out) then s.resendFrame out w ttl
  else s.modLink out (fun x => { x with held := x.held ++ [usaurFrame 3 (bitsOf (w.getD 0 0) 16 12) (bitsOf (w.getD 0 0) 4 12) 0 ttl ((w.drop 4).dropLast)] })

/-- The neighbour's HELLO (R446, R448, R450). -/
def takeHello (s : State) (k : Nat) (w1 : Nat) : State :=
  let a := bitsOf w1 0 12
  let s1 := ((s.set (Fld.ULk_PEER_ADDR k) a).set (Fld.ULk_PEER_ROLE k) (bitsOf w1 12 3)).setB (Fld.ULk_PEER_HELLO k) true
  let s2 := if a = s.nodeAddr then ((s1.setB (Fld.ULk_STAT_CLASH k) true).evt (Fld.ULk_EVT_ADDR_CLASH 0)) else s1.setB (Fld.ULk_STAT_CLASH k) false
  if s2.serviceOk k then s2.releaseHeld k else s2.modLink k (fun x => { x with held := [] })

/-- A journal frame of the peer is journalled as a remote event (R428, R435). -/
def takeRemote (s : State) (payload : List Byte) : State :=
  let s1 := s.emitWith false 0x70 15 "REMOTE" (fromLe (payload.take 8)) false false
  if payload.length < 256 then s1 else
  { s1 with jn := { s1.jn with inflight := s1.jn.inflight.modify (s1.jn.inflight.length - 1) (fun e => { e with lastGasp := true, pkt := payload }) } }

/-- A frame that fails a check other than its check value (R435). -/
def ulBad (s : State) (k : Nat) : State := s.bump (Reg.ULk_BAD k)

/-- A frame arrives (R435): its checks, its type's use, and what it leaves for the mirror or the link agent. -/
def ulReceive (s : State) (k : Nat) (bytes : List Byte) : UlRx × State :=
  if !s.ulUp k then (.none, s) else
  let n := bytes.length
  let body := bytes.take (n - 4)
  if n < 4 || fromLe (bytes.drop (n - 4)) != crc32c body then
    let x := s.ulink k
    let s1 := (s.bump (Reg.ULk_CRC_ERR k)).evt (Fld.ULk_EVT_CRC_ERR k)
    let s2 := s1.modLink k (fun y => { y with rxMark := none, badRun := y.badRun + 1,
                                              rxWait := if x.rxMark.isSome then none else some ⟨s.tc.now, none⟩ })
    (.none, if x.badRun + 1 = 8 then s2.ulinkDown k false else s2)
  else
    let s0 := s.modLink k (fun y => { y with badRun := 0 })
    let w := wordsOf bytes
    let w0 := w.getD 0 0; let w1 := w.getD 1 0
    let typ := w0 / 2 ^ 28
    let payload := (body.drop 16)
    let resv := w0 % 16 != 0 || w.getD 2 0 / 256 != 0 || w.getD 3 0 != 0
    if n % 4 != 0 || n < 68 || 4096 < n || w1 / 65536 != n || resv || typ = 0 || 4 < typ then (.none, s0.ulBad k)
    else if typ = 1 && n != 68 then (.none, s0.ulBad k)
    else
      let s1 := s0.wrapBy (Reg.ULk_RX_FRAMES k) 1
      if typ = 1 then (.none, s1.takeTime k (w1 % 65536) (wordsOf payload))
      else if typ = 2 then
        if k = 0 && (s.get Fld.LS_STAT_ROLE = 1 || s.get Fld.LS_STAT_ROLE = 2) then (.mirror payload, s1) else (.none, s0.ulBad k)
      else if typ = 4 then (.none, s1.takeRemote payload)
      else if !s.serviceOk k then (.none, s1)
      else
        let p := wordsOf payload
        let dst := bitsOf w0 16 12
        let code := bitsOf (p.getD 0 0) 12 4
        if dst = s.nodeAddr || dst = 4095 then
          let s2 := if code = 1 then s1.takeHello k (p.getD 1 0) else s1
          (.service (bitsOf w0 4 12) code ((p.drop 1).take 3), s2)
        else (.none, s1.forward k w)

/-- A JOURNAL frame goes to the peer; on a link that is down it is discarded and counted (R450). -/
def sendJournal (s : State) (k : Nat) (payload : List Nat) : State :=
  if s.ulUp k then s.sendFrame k 4 4095 s.nodeAddr 0 payload else s.ulBad k

/-! ### The frame's fits (R439, R440) -/

/-- The slots that measure link k. -/
def linkSlots (s : State) (k : Nat) : List Nat := [8, 9].filter (fun n => s.slotLink n == some k)

/-- Link k's two fits over the frame just ended, evaluated at the boundary `tb`. -/
def linkFit (s : State) (k tb : Nat) : State :=
  let x := s.ulink k
  let t := linkTime tb
  let clear := fun (s : State) => s.modLink k (fun y => { y with outs := [], ins := [] })
  if x.outs.length < 4 || x.ins.length < 4 then
    clear (if s.ulUp k && s.flag (Fld.ULk_CFG_TIME_EN k) then s.bumpBy (Reg.ULk_MISSED k) (2 ^ s.tRate k - min x.outs.length x.ins.length) else s)
  else
    let o := lineAt x.outs t
    let i := lineAt x.ins t
    let theta := s.ratFree ((o.1 - i.1) / 2 - (s.rdI (Reg.ULk_ASYM k) : Rat) * 65536 / 1000)
    let delay := s.ratFree ((o.1 + i.1) / 2 * 1000 / 65536)
    let n : Rat := (x.outs.length + x.ins.length : Nat)
    let ms := (o.2 + i.2) / n * 1000000 / (65536 * 65536)
    let resid := s.sqrtFree (s.ratFree ms).toNat
    let s1 := ((s.wrSat (Reg.ULk_DELAY k) delay.toNat).wrI64 (Reg.ULk_OFS_L k) theta).wrSat (Reg.ULk_RESID k) resid
    let half := x.outs.map (fun e => (e.1, (e.2 : Rat)))
    let slopeO := match lineFit half with | some r => r.1 | none => 0
    let slopeI := match lineFit (x.ins.map (fun e => (e.1, (e.2 : Rat)))) with | some r => r.1 | none => 0
    let freq := s.ratFree ((slopeO - slopeI) / 2 * 10 ^ 12)
    let bnd := (match x.peer with | some p => p.bound | none => 0) + s.rdN (Reg.ULk_HOP_ADD k) + s.rdN (Reg.ULk_ASYM_UNC k) + 3 * resid
    let smp : Sample := { phase := some theta, atTime := tb, freq := some freq, bound := satNat 32 bnd, stale := false, uncal := false, unsealed := false }
    clear ((s.linkSlots k).foldl (fun t n => t.deliver n smp) s1).tick

/-- What a boundary does for link k: the fit, the loss of exchanges, and the validity that the peer states (R111, R440). -/
def linkFrame1 (s : State) (k tb : Nat) : State :=
  let s1 := s.linkFit k tb
  let ok := s1.ulUp k && s1.exchRecent k
  let s2 := if s1.flag (Fld.ULk_STAT_EXCH_OK k) && !ok then s1.evt (Fld.ULk_EVT_EXCH_LOST k) else s1
  let s3 := s2.setB (Fld.ULk_STAT_EXCH_OK k) ok
  let v := match (s3.ulink k).peer with | some p => p.valid | none => false
  (s3.linkSlots k).foldl (fun t n =>
    let t1 := t.modSlot n (fun y => { y with valid := v })
    if ok then t1 else t1.signalLoss n) s3

/-- The links' part of a boundary: fits, then the tree. A slot 8 without a parent sees no signal (R444). -/
def linkFrame (s : State) (tb : Nat) : State :=
  let s1 := ([0, 1, 2, 3] : List Nat).foldl (fun t k => t.linkFrame1 k tb) s
  let s2 := s1.treeFrame
  if (s2.slotLink 8).isNone && (s2.slot 8).present then s2.signalLoss 8 else s2

end State

end Sys2Proof.Machine
end

