-- ==== Sys2Proof/Machine/KeyStore.lean ====
section
/-! DEFINITION. The key store, its commands, the life cycle, tamper and the Pit (chapter 14), and attestation statements (R235 to R237). -/

namespace Sys2Proof.Machine

/-- The bits of USAGE and of MASTER_MASK (R369). -/
inductive KeyUse where
  | derive
  | sign
  | mac
  | encrypt
  | verify
  | wrap
  deriving DecidableEq, Repr

def KeyUse.bit : KeyUse → Nat
  | .derive => 0
  | .sign => 1
  | .mac => 2
  | .encrypt => 3
  | .verify => 4
  | .wrap => 5

inductive KeyMaster where
  | host
  | pip
  | ptp
  | nts
  | shell
  | link
  deriving DecidableEq, Repr

def KeyMaster.bit : KeyMaster → Nat
  | .host => 0
  | .pip => 1
  | .ptp => 2
  | .nts => 3
  | .shell => 4
  | .link => 5

/-- The OP codes of R353. -/
def ksOpcodes : List Nat := [1, 2, 3, 4, 5, 6, 7, 8, 9, 10, 11, 12, 13]

/-- Commands that charge a KEYOP unit (R353). -/
def ksKeyop (op : Nat) : Bool := op != 6 && op != 9 && op != 12 && op != 13

/-- The first failed check of a list of (code, fails) in the order of R354; 0 where none fails. -/
def firstCode (l : List (Nat × Bool)) : Nat :=
  l.foldl (fun b e => if e.2 && (b = 0 || e.1 < b) then e.1 else b) 0

/-- Material length of a TYPE that a derivation or generation can fill (R348, R356). -/
def keyBytes (t : Nat) : Nat := if t = 1 then 16 else if t = 2 || t = 3 then 32 else if t = 4 then 48 else 0

/-- HKDF-SHA-256 to at most 32 octets (R356). -/
def hkdf (ikm salt info : List Byte) (n : Nat) : List Byte :=
  let prk := Config.hmac256 (if salt.isEmpty then List.replicate 32 0 else salt) ikm
  (Config.hmac256 prk (info ++ [1])).take n

/-! ### CBOR (R235) -/

/-- The head of a CBOR item in deterministic encoding. -/
def cborHead (major n : Nat) : List Byte :=
  let b := fun (x : Nat) => BitVec.ofNat 8 (major * 32 + x)
  if n < 24 then [b n] else if n < 256 then b 24 :: beBytes 1 n else if n < 65536 then b 25 :: beBytes 2 n
  else if n < 2 ^ 32 then b 26 :: beBytes 4 n else b 27 :: beBytes 8 n

def cborUint (n : Nat) : List Byte := cborHead 0 n
def cborBytes (b : List Byte) : List Byte := cborHead 2 b.length ++ b

namespace State

def setKs (s : State) (k : KeyStore) : State := { s with ks := k }

/-- Bytes of the DRBG. -/
def drawBytes (s : State) (n : Nat) : List Byte := (List.range n).map (fun i => Config.randomByte s.freeCtr i)

/-! ### Slots and rights (R348, R349) -/

def slotValid (s : State) (k : Nat) : Bool := s.flag (Fld.KS_SLOTs_ATTR0_VALID k)
def slotType (s : State) (k : Nat) : Nat := s.get (Fld.KS_SLOTs_ATTR0_TYPE k)
def keyOfSlot (s : State) (k : Nat) : List Byte := s.ks.keys.getD k []

/-- The effective life-cycle state (R350). -/
def lcEff (s : State) : Nat := if s.ks.zeroised && s.ks.lc ≠ 0 && s.ks.lc ≠ 4 then 3 else s.ks.lc

/-- KS_LC follows. -/
def refreshLc (s : State) : State :=
  ((s.set Fld.KS_LC_STATE s.lcEff).setB Fld.KS_LC_ZEROISED s.ks.zeroised).setB Fld.KS_LC_CERT s.ks.cert.isSome

def useOk (s : State) (k : Nat) (u : KeyUse) : Bool := bitAt (s.get (Fld.KS_SLOTs_ATTR0_USAGE k)) u.bit
def masterOk (s : State) (k : Nat) (m : KeyMaster) : Bool := bitAt (s.get (Fld.KS_SLOTs_ATTR0_MASTER k)) m.bit
def lcOk (s : State) (k : Nat) : Bool :=
  1 ≤ s.lcEff && s.lcEff ≤ 3 && bitAt (s.get (Fld.KS_SLOTs_ATTR0_LC_MASK k)) (s.lcEff - 1)

/-- The key an engine may use from a slot: material, where every check of R349 holds for that fixed-secure engine. -/
def engineKey (s : State) (k : Nat) (u : KeyUse) (m : KeyMaster) : Option (List Byte) :=
  if s.slotValid k && s.useOk k u && s.masterOk k m && s.lcOk k then some (s.keyOfSlot k) else none

/-- Who asks, as R349 sees it. -/
def masterOf : KsFrom → KeyMaster
  | .host => .host
  | .pip _ _ _ _ => .pip

/-- A host command arrives through BAR2; a Pip is NORMAL. -/
def worldOk (s : State) (f : KsFrom) (k : Nat) : Bool :=
  match f with | .host => true | .pip _ _ _ _ => !s.flag (Fld.KS_SLOTs_ATTR0_SECURE k)

/-- The checks of R349 on a slot, as result codes; `u` where the operation is a USAGE. -/
def rights (s : State) (f : KsFrom) (k : Nat) (u : Option KeyUse) : List (Nat × Bool) :=
  [(4, match u with | some v => !s.useOk k v | none => false), (5, !s.masterOk k (masterOf f)), (6, !s.worldOk f k), (7, !s.lcOk k)]

/-- A slot is written (R353): attributes, generation, parent and depth, and material. -/
def putSlot (s : State) (k attr0 gen : Nat) (parent : Option Nat) (depth : Nat) (key : List Byte) : State :=
  let a0 := bitsOf attr0 11 20 * 2 ^ 11 + 2 ^ 31
  let a1 := gen % 65536 * 65536 + (match parent with | some p => p * 256 | none => 2 ^ 15) + depth
  let s1 := (s.wrN (Reg.KS_SLOTs_ATTR0 k) a0).wrN (Reg.KS_SLOTs_ATTR1 k) a1
  s1.setKs { s1.ks with keys := s1.ks.keys.set k key }

/-- A slot is emptied. -/
def clearSlot (s : State) (k : Nat) : State :=
  let s1 := (s.wr (Reg.KS_SLOTs_ATTR0 k) (resetWord (Reg.KS_SLOTs_ATTR0 k))).wr (Reg.KS_SLOTs_ATTR1 k) (resetWord (Reg.KS_SLOTs_ATTR1 k))
  s1.setKs { s1.ks with keys := s1.ks.keys.set k [] }

/-- The chain of PARENT from `k` reaches `a`, within the seven levels of the tree (R356, R357). -/
def descends (s : State) (a : Nat) : Nat → Nat → Bool
  | 0, k => k == a
  | n + 1, k => k == a || (s.slotValid k && !s.flag (Fld.KS_SLOTs_ATTR1_PARENT_NIL k) && descends s a n (s.get (Fld.KS_SLOTs_ATTR1_PARENT k)))

/-- A slot and all that descend from it become invalid (R357). A statement being signed under one of them is discarded. -/
def invalidate (s : State) (a : Nat) : State :=
  let dead := (List.range 128).filter (fun k => s.slotValid k && s.descends a 8 k)
  let s1 := dead.foldl (fun t k => t.clearSlot k) s
  match s.eb.att with
  | some _ =>
    if dead.contains (bitsOf (s.rdN Reg.EB_ATT_KEY) 0 7) then
      (((s1.setEb { s1.eb with att := none }).bump Reg.KS_DISCARD).setB Fld.EB_ATT_STAT_BUSY false).set Fld.EB_ATT_STAT_RESULT 4 |>.evt Fld.EB_EVT_ATT_REFUSED
    else s1
  | none => s1

/-! ### Tamper (R361 to R366) -/

/-- The RTC's count at a Pit event (R346). -/
def setRtc (s : State) (rtc : Nat) : State :=
  let r := rtc % 2 ^ 48
  (s.setKs { s.ks with rtc := r }).wr64 Reg.TP_RTC_L r

/-- Power state as the log states it: RUN, STANDBY or SLEEP. -/
def powerState (s : State) : Nat := s.get Fld.CK_STAT_PSTATE

/-- A tamper-log entry (R366). -/
def tamperLog (s : State) (src : Nat) : State :=
  let unset := s.timeState == 0
  let sec := s.viewSec
  let e := [src + s.lcEff * 16 + s.powerState * 256 + (if s.ks.zeroised then 1024 else 0), s.ks.rtc % 2 ^ 32, s.ks.rtc / 2 ^ 32,
    if unset then 0 else sec % 2 ^ 32, if unset then 0 else s.viewNs, if unset then 0 else sec / 2 ^ 32, 0, 0]
  let n := s.get Fld.TP_LOG_IDX_NEXT
  let s1 := s.setKs { s.ks with log := s.ks.log.set n e }
  (s1.set Fld.TP_LOG_IDX_NEXT ((n + 1) % 16)).set Fld.TP_LOG_IDX_TOTAL (min 65535 (s.get Fld.TP_LOG_IDX_TOTAL + 1))

/-- A statement in progress ends at a zeroisation (R237, R364). -/
def abortStatement (s : State) : State :=
  match s.eb.att with
  | none => s
  | some _ =>
    ((((s.setEb { s.eb with att := none }).bump Reg.KS_ABORTED).setB Fld.EB_ATT_STAT_BUSY false).set Fld.EB_ATT_STAT_RESULT 5).evt Fld.EB_EVT_ATT_REFUSED

/-- A zeroisation before the seal reference is committed halts main boot (R364, R509). -/
def bootTampered (s : State) : State :=
  if 0 < s.get Fld.SYS_BOOT_STAGE && s.get Fld.SYS_BOOT_STAGE < 5 then
    { (s.set Fld.SYS_BOOT_STAGE 7).set Fld.SYS_BOOT_CAUSE 9 with boot := { s.boot with waiting := false } }
  else s

/-- A zeroisation with the sources that caused it (R363, R364). -/
def zeroise (s : State) (srcs : List Nat) : State :=
  let s1 := (List.range 128).foldl (fun t k => t.clearSlot k) s
  let s2 := s1.setKs { s1.ks with zeroised := true, cert := none, certParts := [], certNext := 0 }
  let s3 := match s2.ks.job with
    | some j => if j.op = 12 || j.aborted then s2 else
        (s2.setKs { s2.ks with job := some { j with aborted := true, waiting := false } }).bump Reg.KS_ABORTED
    | none => s2
  let s4 := s3.abortStatement.setB Fld.KS_STAT_DRBG_OK false
  let s5 := ((s4.setB Fld.TP_STAT_TAMPER true).refreshLc)
  let s6 := srcs.foldl (fun t c => t.tamperLog c) s5
  let s7 := (s6.evt Fld.TP_EVT_ZEROISED).evt Fld.TP_EVT_TAMPER
  (s7.bootTampered.raiseFault 23 0 false).emit 0x3B 10 "ZEROISED"

/-- The loops as sampled (R361): an enabled loop newly mismatching zeroises. -/
def tamperLoops (s : State) (opened : Nat) : State :=
  let en := bitsOf (s.rdN Reg.TP_LOOP_CFG) 0 4
  let was := s.get Fld.TP_STAT_LOOP_OPEN
  let now := opened &&& en
  let fresh := (setBits 4 now).filter (fun k => !bitAt was k)
  let s1 := (s.setKs { s.ks with loops := opened }).set Fld.TP_STAT_LOOP_OPEN now
  if fresh.isEmpty then s1 else s1.zeroise fresh

/-- A write of TP_LOOP_CFG or TP_DET_CFG: in DEPLOYED, one that clears an EN bit or makes a detector event-only is refused (R362). -/
def tpLocked (s : State) (addr v : Nat) : Bool :=
  s.lcEff == 2 && ((addr == Reg.TP_LOOP_CFG && (bitsOf (s.rdN addr) 0 4 &&& bitsOf v 0 4) != bitsOf (s.rdN addr) 0 4) ||
    (addr == Reg.TP_DET_CFG && (bitsOf (s.rdN addr) 0 3 &&& bitsOf v 0 3) != bitsOf (s.rdN addr) 0 3))

/-- TP_LOOP_CFG takes a value; a loop enabled while open is a tamper at once (R361). -/
def wrLoopCfg (s : State) (v : Nat) : State := (s.wrN Reg.TP_LOOP_CFG (v % 256)).tamperLoops s.ks.loops

/-- A detector fires (R362). -/
def detect (s : State) (d : Detector) : State :=
  let (code, zero) := match d with
    | .vdd => (4, bitAt (s.rdN Reg.TP_DET_CFG) 0)
    | .temp => (5, bitAt (s.rdN Reg.TP_DET_CFG) 1)
    | .clk => (6, bitAt (s.rdN Reg.TP_DET_CFG) 2)
    | .vbatLow => (7, false)
  let s1 := if d = .vbatLow then s.setB Fld.TP_STAT_VBAT_OK false else s
  if zero then s1.zeroise [code] else (s1.tamperLog code).evt Fld.TP_EVT_DETECT

/-! ### Cores, entropy (R358 to R360) -/

def aesInService (s : State) : Nat := 8 - popCount 8 s.ks.fenced
def pkFenced (s : State) : Bool := s.flag Fld.KS_STAT_PK_FENCED
def drbgOk (s : State) : Bool := s.flag Fld.KS_STAT_DRBG_OK

/-- A core fails its test (R359). -/
def fencePair (s : State) (k : Nat) : State :=
  if bitAt s.ks.fenced k then s else s.fencing 21 0 fun s =>
  let s1 := s.setKs { s.ks with fenced := setBitAt s.ks.fenced k }
  let n := s1.aesInService
  let s2 := (s1.set Fld.KS_CAP_AES n).set Fld.KS_CAP_SHA n
  ({ s2 with whl := { s2.whl with aesCores := n, rescaleDue := true } }).evt Fld.KS_EVT_CORE_FENCE
def fencePk (s : State) : State :=
  if s.pkFenced then s else s.fencing 21 0 fun s =>
  ((s.setB Fld.KS_STAT_PK_FENCED true).set Fld.KS_CAP_PK 0).evt Fld.KS_EVT_CORE_FENCE

/-! ### Commands (R353 to R356) -/

/-- KS_BUF's first `n` bytes; and bytes written to it, the rest of the last word zero. -/
def ksBuf (s : State) (n : Nat) : List Byte := ((List.range (ceilDiv n 4)).flatMap (fun k => leBytes 4 (s.rdN (Reg.KS_BUF k)))).take n
def putKsBuf (s : State) (b : List Byte) : State :=
  let b := b.take 1024
  s.wrWords (Reg.KS_BUF 0) (wordsOf (b ++ List.replicate (3 - (b.length + 3) % 4) 0))

/-- A command is given (R353). -/
def ksStart (s : State) (f : KsFrom) (op slot parent : Nat) : State :=
  if s.flag Fld.KS_RESULT_BUSY then s.evt Fld.KS_EVT_BUSY_REJ else
  let (a0, a1) := match f with | .host => (s.rdN Reg.KS_ARG0, s.rdN Reg.KS_ARG1) | .pip _ x y _ => (x, y)
  let n := bitsOf a1 16 11
  let input := match f with
    | .host => s.ksBuf (min n 1024)
    | .pip k _ _ off => memRead (s.pip k.val).dmem off (min n 1024)
  let adm := if ksKeyop op then s.admitFor 12 1 else (true, s)
  let j : KsJob := { who := f, op := op, slot := slot, parent := parent, arg0 := a0, arg1 := a1, input := input, waiting := !adm.1, aborted := false }
  let s1 := (adm.2.setKs { adm.2.ks with job := some j }).setB Fld.KS_RESULT_BUSY true
  if op = 12 && s.lcEff ≠ 4 then s1.zeroise [9] else s1

/-- A command given by a Pip is one of a service Pip (R379); other senders are not permitted. -/
def ksCommand (s : State) (f : KsFrom) (op slot parent : Nat) : State :=
  match f with
  | .host => s.ksStart f op slot parent
  | .pip k _ _ _ => if 24 ≤ k.val then s.ksStart f op slot parent else s

/-- The stalled command asks again for its KEYOP unit (R103). -/
def ksRetry (s : State) : State :=
  match s.ks.job with
  | some j =>
    if !j.waiting then s else
    let (ok, s1) := s.admitFor 12 1
    if ok then s1.setKs { s1.ks with job := some { j with waiting := false } } else s1
  | none => s

/-- The token of R351 is accepted. -/
def tokenOk (s : State) (b : List Byte) : Bool :=
  let at' := fun (o n : Nat) => (b.drop o).take n
  let target := fromLe (at' 4 2)
  let uid := (List.range 4).flatMap (fun k => leBytes 4 (s.rdN (Reg.SH_UID k)))
  let nonce := (List.range 4).flatMap (fun k => leBytes 4 (s.rdN (Reg.KS_NONCE k)))
  let hash := (List.range 12).flatMap (fun k => leBytes 4 (s.rdN (Reg.KS_AUTH_HASH k)))
  let frm := s.lcEff
  let legal := (target == 2 && (frm == 1 || frm == 3) && s.ks.cert.isSome) || (target == 3 && frm == 2) || (target == 4 && 1 ≤ frm && frm ≤ 3)
  b.length == 232 && fromLe (at' 0 4) == 0x4E4B5354 && fromLe (at' 6 2) == 0 && at' 8 16 == uid && at' 24 16 == nonce &&
    Config.sha384 (at' 40 96) == hash && Config.ecdsaCheck (at' 40 96) (Config.sha384 (b.take 136)) (at' 136 96) && legal

/-- The transition an accepted token makes (R350). -/
def lcMove (s : State) (target : Nat) : State :=
  let s1 := s.emit 0x3B 10 "LC"
  if target = 4 then ((s1.setKs { s1.ks with lc := 4 }).zeroise [10]).refreshLc
  else if target = 2 && s1.lcEff = 3 then ((s1.setKs { s1.ks with lc := 2, zeroised := false }).setB Fld.TP_STAT_TAMPER false).refreshLc
  else (s1.setKs { s1.ks with lc := target }).refreshLc

/-- A new nonce (R351). -/
def newKsNonce (s : State) : State := ((s.wrWords (Reg.KS_NONCE 0) (wordsOf (s.drawBytes 16)))).tick

/-- The identity key is made in slot 0 (R350): sign and derive; HOST and PIP; SECURE; all three states; not exportable. -/
def makeIdentity (s : State) : State :=
  let a0 := 4 * 2 ^ 28 + 3 * 2 ^ 22 + 3 * 2 ^ 16 + 2 ^ 15 + 7 * 2 ^ 12
  (s.putSlot 0 a0 0 none 0 (s.drawBytes 48)).tick

/-- CERT_LOAD (R355): whether the part is in order, and the state after. -/
def certLoad (s : State) (arg0 : Nat) (part : List Byte) : Nat × State :=
  let i := arg0 % 8
  let drop := s.setKs { s.ks with certParts := [], certNext := 0 }
  if arg0 / 16 ≠ 0 || (i ≠ 0 && i ≠ s.ks.certNext) then (9, drop)
  else
    let held := (if i = 0 then [] else s.ks.certParts) ++ part
    if bitAt arg0 3 then (0, (s.setKs { s.ks with cert := some held, certParts := [], certNext := 0 }).refreshLc)
    else (0, s.setKs { s.ks with certParts := held, certNext := i + 1 })

/-- The engines a command needs (R359): the P-384 engine, or an AES core with its SHA lane. -/
def coreMissing (s : State) (op : Nat) : Bool :=
  ((op == 3 || op == 4 || op == 5 || op == 6 || op == 10 || op == 11) && s.pkFenced) ||
    ((op == 2 || op == 3 || op == 7 || op == 8) && s.aesInService == 0)

/-- The command draws on the DRBG. -/
def drawsRng (op : Nat) : Bool := op == 1 || op == 4 || op == 10 || op == 11

/-- The blob of a slot under a wrap key (R353): the attribute words, then AES-SIV-CMAC-256 of the material with them as associated data. -/
def blobOf (s : State) (wrap slot : Nat) : List Byte :=
  let ad := leBytes 4 (s.rdN (Reg.KS_SLOTs_ATTR0 slot)) ++ leBytes 4 (s.rdN (Reg.KS_SLOTs_ATTR1 slot))
  ad ++ Config.sivSeal (s.keyOfSlot wrap) [ad] (s.keyOfSlot slot)

/-- A blob opened under a wrap key (R353). -/
def openBlob (s : State) (wrap : Nat) (b : List Byte) : Option (List Byte) := Config.sivOpen (s.keyOfSlot wrap) [b.take 8] (b.drop 8)

/-- A blob's key is written to a slot (R353): EXPORTABLE only if the wrap key's own attributes allow it. -/
def importBlob (s : State) (wrap slot : Nat) (b key : List Byte) : State :=
  let a0 := fromLe (b.take 4); let a1 := fromLe ((b.drop 4).take 4)
  let a0' := if s.flag (Fld.KS_SLOTs_ATTR0_EXPORTABLE wrap) then a0 else clearBitAt a0 11
  s.putSlot slot a0' (a1 / 65536) none (a1 % 8) key

/-- A command's result code, its output, and the state after (R353 to R357). -/
def ksRun (s : State) (j : KsJob) : Nat × List Byte × State :=
  let op := j.op; let k := j.slot; let p := j.parent; let inp := j.input
  let typ := bitsOf j.arg0 28 3
  let fresh := s.slotValid k
  let base := [(1, s.lcEff == 4), (2, !ksOpcodes.contains op || (op == 11 && !(s.lcEff == 0 || (s.lcEff == 3 && s.ks.zeroised)))),
    (9, decide (1024 < bitsOf j.arg1 16 11)), (11, drawsRng op && !s.drbgOk), (12, s.coreMissing op)]
  let own : List (Nat × Bool) :=
    if op = 1 then [(3, fresh || typ == 0 || 4 < typ)]
    else if op = 2 then
      let sl := fromLe (inp.take 2)
      [(3, fresh || !(1 ≤ typ && typ ≤ 3) || !s.slotValid p || s.slotType p == 5), (8, decide (7 ≤ s.get (Fld.KS_SLOTs_ATTR1_DEPTH p))),
       (9, decide (inp.length < 2 + sl))] ++ s.rights j.who p (some .derive)
    else if op = 3 then
      [(3, fresh || !(1 ≤ typ && typ ≤ 3) || !s.slotValid p || s.slotType p != 4), (8, decide (7 ≤ s.get (Fld.KS_SLOTs_ATTR1_DEPTH p))),
       (9, decide (inp.length < 96))] ++ s.rights j.who p (some .derive)
    else if op = 4 then
      [(3, !s.slotValid k || s.slotType k != 4), (9, bitAt j.arg1 31 && inp.length != 48)] ++ s.rights j.who k (some .sign)
    else if op = 5 then
      [(3, !s.slotValid k || !(s.slotType k == 4 || s.slotType k == 5)), (9, inp.length != 144)] ++ s.rights j.who k (some .verify)
    else if op = 6 then [(3, !s.slotValid k || !(s.slotType k == 4 || s.slotType k == 5))] ++ s.rights j.who k none
    else if op = 7 then
      [(3, !s.slotValid p || !s.slotValid k || s.slotType p != 2), ((Config.exportRefusal s.freeCtr).val + 1, !s.flag (Fld.KS_SLOTs_ATTR0_EXPORTABLE k))] ++
        s.rights j.who p (some .wrap)
    else if op = 8 then
      [(3, !s.slotValid p || fresh || s.slotType p != 2), (9, (s.openBlob p inp).isNone)] ++ s.rights j.who p (some .wrap)
    else if op = 9 then [(3, !s.slotValid k)] ++ s.rights j.who k none
    else if op = 10 then [(10, !s.tokenOk inp)]
    else if op = 11 then
      [(3, s.slotValid 0), (6, match j.who with | .host => false | .pip _ _ _ _ => true), (9, s.lcEff == 0 && inp.length != 96)]
    else []
  let code := firstCode (base ++ own)
  let s0 := if op = 10 && code ≠ 1 && code ≠ 2 && code ≠ 11 then s.newKsNonce else s
  let s0 := if 4 ≤ code && code ≤ 7 then s0.bump Reg.KS_REFUSED else s0
  let s0 := if code = 11 then s0.bump Reg.KS_RNG_REFUSED else s0
  if code ≠ 0 then (code, [], s0.tick)
  else if op = 1 then (0, [], (s0.putSlot k j.arg0 j.arg1 none 0 (s0.drawBytes (keyBytes typ))).tick)
  else if op = 2 then
    let sl := fromLe (inp.take 2)
    (0, [], s0.putSlot k j.arg0 j.arg1 (some p) (s0.get (Fld.KS_SLOTs_ATTR1_DEPTH p) + 1)
      (hkdf (s0.keyOfSlot p) ((inp.drop 2).take sl) (inp.drop (2 + sl)) (keyBytes typ)))
  else if op = 3 then
    (0, [], s0.putSlot k j.arg0 j.arg1 (some p) (s0.get (Fld.KS_SLOTs_ATTR1_DEPTH p) + 1)
      (hkdf (Config.p384Shared (s0.keyOfSlot p) (inp.take 96)) [] (inp.drop 96) (keyBytes typ)))
  else if op = 4 then
    let d := if bitAt j.arg1 31 then inp else Config.sha384 inp
    (0, Config.ecdsaSign (s0.keyOfSlot k) d (s0.drawBytes 48), s0.tick)
  else if op = 5 then
    let pub := if s0.slotType k = 4 then Config.p384Public (s0.keyOfSlot k) else s0.keyOfSlot k
    (if Config.ecdsaCheck pub (inp.take 48) (inp.drop 48) then 0 else 14, [], s0)
  else if op = 6 then (0, if s0.slotType k = 4 then Config.p384Public (s0.keyOfSlot k) else s0.keyOfSlot k, s0)
  else if op = 7 then (0, s0.blobOf p k, s0)
  else if op = 8 then
    match s0.openBlob p inp with
    | some key => (0, [], s0.importBlob p k inp key)
    | none => (9, [], s0)
  else if op = 9 then (0, [], s0.invalidate k)
  else if op = 10 then (0, [], s0.lcMove (fromLe ((inp.drop 4).take 2)))
  else if op = 11 then
    if s0.lcEff = 0 then
      let s1 := s0.wrWords (Reg.KS_AUTH_HASH 0) (wordsOf ((Config.sha384 inp).take 48))
      (0, [], ((s1.setKs { s1.ks with lc := 1 }).makeIdentity).refreshLc)
    else (0, [], ((s0.setKs { s0.ks with cert := none }).makeIdentity).refreshLc)
  else if op = 13 then let r := s0.certLoad j.arg0 inp; (r.1, [], r.2)
  else (0, [], s0)

/-- A command completes (R353): its output, KS_RESULT and DONE, and the message to a Pip (R379). -/
def ksDone (s : State) : State :=
  match s.ks.job with
  | none => s
  | some j =>
    if j.waiting then s else
    let (code, out, s1) := if j.aborted then (13, List.replicate (bitsOf j.arg1 16 11) 0, s) else s.ksRun j
    let len := if j.aborted then 0 else out.length
    let s2 := s1.setKs { s1.ks with job := none }
    let s3 := match j.who with
      | .host => s2.putKsBuf out
      | .pip k _ _ off => (s2.modPip k.val (fun x => { x with dmem := memStoreList x.dmem off (out.take (2048 - off)) })).tell k.val ⟨0x21, code * 256, []⟩
    (((s3.setB Fld.KS_RESULT_BUSY false).set Fld.KS_RESULT_RESULT code).set Fld.KS_RESULT_OUTLEN len).evt Fld.KS_EVT_DONE

/-! ### Attestation (R235 to R237) -/

/-- The words of a register array as bytes. -/
def regBytes (s : State) (a : Nat → Nat) (n : Nat) : List Byte := (List.range n).flatMap (fun k => leBytes 4 (s.rdN (a k)))

/-- The device identity public key held in slot EB_ATT_KEY. -/
def identityPub (s : State) : List Byte := Config.p384Public (s.keyOfSlot (bitsOf (s.rdN Reg.EB_ATT_KEY) 0 7))

/-- A CBOR item of the provenance (R235, key 9). -/
def provenanceOf (s : State) (n : Nat) : List Byte :=
  cborHead 4 4 ++ cborUint n ++ cborUint (s.slotState n) ++ cborUint (s.rdN (Reg.RSn_BOUND n)) ++ cborUint (if s.quarantined n then 1 else 0)

/-- The payload (R235). -/
def statementPayload (s : State) (x : Snapshot) : List Byte :=
  let t := s.tc.now
  let slots := (List.range 12).filter (fun n => s.slotEn n && s.slotIsTime n)
  let prov := match s.rs.cur with | some c => if slots.contains c then c :: slots.filter (fun n => n != c) else slots | none => slots
  let comps := (List.range 11).filter (fun k => s.rdN (Reg.EB_COMP k) != 0)
  let nonce := (s.regBytes Reg.EB_ATT_NONCE 8).take (min 32 (bitsOf (s.rdN Reg.EB_ATT_NLEN) 0 6))
  cborHead 5 15 ++ cborUint 1 ++ cborBytes (s.regBytes Reg.SH_UID 4) ++ cborUint 2 ++ cborBytes (Config.sha384 s.identityPub) ++
    cborUint 3 ++ cborBytes (s.regBytes Reg.SH_FWHASH 12) ++ cborUint 4 ++ cborBytes (s.regBytes Reg.SH_LRPHASH 12) ++
    cborUint 5 ++ cborUint (s.get Fld.SH_STAT_SEAL) ++ cborUint 6 ++ cborHead 4 3 ++ cborUint (secOf t) ++ cborUint (nsOf t) ++ cborUint (frac32Of t) ++
    cborUint 7 ++ cborUint (min boundMax (x.boundAt t)) ++ cborUint 8 ++ cborUint x.timeState ++
    cborUint 9 ++ cborHead 4 prov.length ++ prov.flatMap s.provenanceOf ++
    cborUint 10 ++ cborHead 5 comps.length ++ comps.flatMap (fun k => cborUint k ++ cborUint (s.rdN (Reg.EB_COMP k))) ++
    cborUint 11 ++ cborBytes nonce ++ cborUint 12 ++ cborUint (s.rdN Reg.CFG_EXP_REF) ++ cborUint 13 ++ cborUint (s.rdN Reg.CFG_OVL_ACT) ++
    cborUint 14 ++ cborUint x.gen ++ cborUint 15 ++ cborUint x.flags

/-- Why a statement is refused (R237); 0 where it is not. Several conditions together give the lowest code. -/
def statementRefusal (s : State) (req : Requester) : Nat :=
  let k := bitsOf (s.rdN Reg.EB_ATT_KEY) 0 7
  let m : KeyMaster := match req with | .pip _ => .pip | _ => .host
  let key := s.slotValid k && s.slotType k == 4 && s.useOk k .sign && s.masterOk k m && s.lcOk k && (s.lcEff == 2 || s.lcEff == 3) && !s.ks.zeroised &&
    !s.pkFenced && s.drbgOk
  firstCode [(2, !s.flag Fld.EB_STAT_VALID || s.eb.snap.isNone), (3, s.flag Fld.EB_STAT_UNSEALED), (4, !key), (6, bitAt (s.rdN Reg.FC_PEND) 2),
    (7, !s.flag Fld.EB_CTL_ATT_EN)]

/-- A statement is refused (R237). -/
def refuseStatement (s : State) (code : Nat) : State := (s.set Fld.EB_ATT_STAT_RESULT code).evt Fld.EB_EVT_ATT_REFUSED

/-- EB_ATT_CMD.REQ (R236). -/
def attReq (s : State) (req : Requester) : State :=
  if s.flag Fld.EB_ATT_STAT_BUSY then s.refuseStatement 1 else
  let c := s.statementRefusal req
  match s.eb.snap with
  | some x =>
    if c ≠ 0 then s.refuseStatement c else
    let (ok, s1) := s.admitFor 12 1
    (s1.setEb { s1.eb with att := some { req := req, payload := s.statementPayload x, admitted := ok } }).setB Fld.EB_ATT_STAT_BUSY true
  | none => s.refuseStatement c

/-- The statement's signing request asks again for its KEYOP unit (R103); a device now UNSEALED has it refused. -/
def attRetry (s : State) : State :=
  match s.eb.att with
  | some a =>
    if a.admitted then s
    else if s.flag Fld.EB_STAT_UNSEALED then ((s.setEb { s.eb with att := none }).setB Fld.EB_ATT_STAT_BUSY false).refuseStatement 3
    else let (ok, s1) := s.admitFor 12 1; if ok then s1.setEb { s1.eb with att := some { a with admitted := true } } else s1
  | none => s

/-- The COSE_Sign1 statement (R235). -/
def coseSign1 (s : State) (payload : List Byte) : List Byte :=
  let prot : List Byte := [0xA1, 0x01, 0x38, 0x22]
  let sigStruct := cborHead 4 4 ++ cborHead 3 10 ++ ("Signature1".toList.map (fun c => BitVec.ofNat 8 c.toNat)) ++ cborBytes prot ++ cborBytes [] ++ cborBytes payload
  let sig := Config.ecdsaSign (s.keyOfSlot (bitsOf (s.rdN Reg.EB_ATT_KEY) 0 7)) (Config.sha384 sigStruct) (s.drawBytes 48)
  [0xD2] ++ cborHead 4 4 ++ cborBytes prot ++ cborHead 5 1 ++ cborUint 4 ++ cborBytes ((Config.sha384 s.identityPub).take 8) ++ cborBytes payload ++ cborBytes sig

/-- The statement is signed and written to EB_ATT_BUF (R236). -/
def attDone (s : State) : State :=
  match s.eb.att with
  | some a =>
    if !a.admitted then s else
    let b := (s.coseSign1 a.payload).take 1024
    let s1 := s.wrWords (Reg.EB_ATT_BUF 0) (wordsOf (b ++ List.replicate (3 - (b.length + 3) % 4) 0))
    ((((s1.setEb { s1.eb with att := none }).tick.set Fld.EB_ATT_STAT_LEN b.length).set Fld.EB_ATT_STAT_RESULT 0).setB Fld.EB_ATT_STAT_BUSY false).evt
      Fld.EB_EVT_ATT_DONE
  | none => s

/-- The Pit records the RTC against time-core time (R346). -/
def anchorRecord (s : State) (rtc : Nat) : State :=
  let s1 := s.setRtc rtc
  if s.timeState = 0 then s1 else (s1.wr64 Reg.TP_ANCHOR_RTC_L s1.ks.rtc).wrN Reg.TP_ANCHOR_S (s.viewSec % 2 ^ 32)

end State

end Sys2Proof.Machine
end

