-- ==== Sys2Proof/Machine/Lease.lean ====
section
/-! DEFINITION. The redundant pair: heartbeat, lease, the arbiter's duties, Crewell messages, handover, and the power feeds (chapter 17). -/

namespace Sys2Proof.Machine

/-- The Crewell destination address, EtherType, id and version (R418). -/
def crewellDst : List Byte := [0x03, 0xC7, 0xE1, 0xC3, 0x57, 0x01]

namespace State

def setLs (s : State) (x : Lease) : State := { s with ls := x }
def role (s : State) : Nat := s.get Fld.LS_STAT_ROLE
def isMember (s : State) : Bool := s.role == 1 || s.role == 2
def leaseState (s : State) : Nat := s.get Fld.LS_STAT_LEASE

/-- An instant lies within the last `ms` milliseconds. -/
def within (s : State) (t : Option Nat) (ms : Nat) : Bool := match t with | some x => decide (s.tc.now ≤ x + ms * msU) | none => false

/-! ### Heartbeat and lease (R407 to R411) -/

/-- The conditions of R407. -/
def hbOk (s : State) : Bool :=
  let beat := max s.whl.lastRaised s.ls.interimAt
  let fresh := s.tc.cycle - beat ≤ (if s.bridging then 2500000 else 2000000)
  s.isMember && s.flag Fld.SYS_BOOT_READY && s.fc.baseLoaded && s.flag Fld.LS_CTL_EN && s.leaseState != 4 && !s.safe &&
    s.flag Fld.WHL_STAT_RUNNING && fresh && !bitAt (s.rdN Reg.FC_ACTIVE) 7 && s.timeState != 0 &&
    !(s.bridging && s.flag Fld.LS_CFG_HB_BRIDGE) && !s.flag Fld.LS_STAT_SILENCED && s.leaseState != 3 && !s.ls.pattern

/-- LS_STAT.HB_RUN follows. -/
def refreshHb (s : State) : State := s.setB Fld.LS_STAT_HB_RUN s.hbOk

/-- The lease state moves (R410). -/
def leaseTo (s : State) (st : Nat) : State :=
  let s1 := (s.set Fld.LS_STAT_LEASE st).emit 0x3E 0 "LEASE"
  let s2 := if st = 0 then s1.setLs { s1.ls with noLeaseAt := some s1.tc.now } else s1.setLs { s1.ls with noLeaseAt := none, stbyStilled := false }
  if st = 2 then s2 else s2.setLs { s2.ls with release := none, cut := none }

/-- PSTATE returns to RUN (R511). -/
def toRun (s : State) : State :=
  if s.get Fld.CK_STAT_PSTATE = 1 then (s.set Fld.CK_STAT_PSTATE 0).evt Fld.CK_EVT_PSTATE_CHG else s

/-- The lease is fenced (R410). -/
def leaseFence (s : State) : State :=
  if s.leaseState = 4 then s
  else let s1 := (s.leaseTo 4).evt Fld.LS_EVT_FENCED; (s1.setLs { s1.ls with pattern := false }).refreshHb

/-- The second accepted edge: the member is HOLDER (R410, R424). -/
def becomeHolder (s : State) : State :=
  let cold := s.get Fld.LS_STAT_READY != 2
  let s1 := ((s.leaseTo 2).bump Reg.LS_TAKEOVERS).evt Fld.LS_EVT_LEASE_GAIN
  let s2 := s1.setLs { s1.ls with grantAt := s1.tc.now, coldBlank := cold, pattern := false, blobs := [] }
  if cold then (s2.setB Fld.LS_STAT_COLD_TAKE true).emit 0x3E 0 "COLD_TAKEOVER" else s2.setB Fld.LS_STAT_COLD_TAKE false

/-- An edge on GRANT_IN, `gap` ps after the edge before it (R409 to R411). -/
def grantEdge (s : State) (gap : Nat) : State :=
  if !s.isMember || !s.flag Fld.SYS_BOOT_READY || s.leaseState = 4 then s
  else if gap < 35000 || 65000 < gap then s.bump Reg.LS_GRANT_GAPS
  else
    let s1 := ((s.setB Fld.LS_STAT_GRANT_OK true).setB Fld.LS_STAT_SILENCED false).toRun
    let s2 := if s1.leaseState = 0 then (if s1.hbOk then s1.leaseTo 1 else s1)
      else if s1.leaseState = 1 then (if s1.hbOk then s1.becomeHolder else s1)
      else s1
    s2.refreshHb

/-- 4 µs after the last accepted edge (R410). -/
def leaseExpire (s : State) : State :=
  if s.leaseState = 2 then (((s.leaseTo 0).bump Reg.LS_EXPIRIES).evt Fld.LS_EVT_EXPIRED).refreshHb
  else if s.leaseState = 3 then
    let s1 := (s.leaseTo 0).evt Fld.LS_EVT_RELEASED
    (s1.setLs { s1.ls with pattern := false }).refreshHb
  else s

/-- No accepted edge for 200 ns (R411). -/
def grantSilence (s : State) : State :=
  let s1 := s.setB Fld.LS_STAT_GRANT_OK false
  if s.leaseState = 2 && !s.flag Fld.LS_STAT_SILENCED then ((s1.setB Fld.LS_STAT_SILENCED true).evt Fld.LS_EVT_GRANT_GAP).refreshHb else s1

/-! ### Crewell messages (R417 to R419) -/

/-- AB_MAC as octets. -/
def abMac (s : State) : List Byte := beBytes 2 (bitsOf (s.rdN Reg.AB_MAC_H) 0 16) ++ beBytes 4 (s.rdN Reg.AB_MAC_L)

/-- The ICV of octets 0 to 29 under slot AB_KEY (R418, R419). -/
def crewellIcv (s : State) (b : List Byte) : Option (List Byte) :=
  (s.engineKey (bitsOf (s.rdN Reg.AB_KEY) 0 7) .mac .link).map (fun k => (Config.hmac256 k b).take 16)

/-- This node's sender code: member A, member B, or arbiter. -/
def senderCode (s : State) : Nat := s.role

/-- A frame goes to the wire's queue. -/
def abQueue (s : State) (f : List Byte) : State := s.setLs { s.ls with txq := s.ls.txq ++ [f] }

/-- A message is sent (R418): type, flags and body; charged one LEASE unit, and waiting where LEASE does not admitFor it. -/
def crewellSend (s : State) (typ flags : Nat) (body : List Byte) : State :=
  if !s.flag Fld.AB_CTL_EN then s else
  let epoch := if s.role = 3 then s.ls.epoch else s.rdN Reg.LS_EPOCH
  let auth := s.flag Fld.AB_CTL_AUTH
  let head := beBytes 2 0x4357 ++ [1, BitVec.ofNat 8 typ, BitVec.ofNat 8 s.senderCode, BitVec.ofNat 8 (flags + (if auth then 1 else 0))] ++
    beBytes 2 (bitsOf (s.rdN Reg.LS_PAIR_ID) 0 16) ++ beBytes 4 s.ls.seq ++ beBytes 4 epoch ++ (body ++ List.replicate (14 - body.length) 0)
  match (if auth then s.crewellIcv head else some (List.replicate 16 0)) with
  | none => s
  | some icv =>
    let f := crewellDst ++ s.abMac ++ [0x88, 0xB5] ++ head ++ icv
    let s1 := s.setLs { s.ls with seq := (s.ls.seq + 1) % 2 ^ 32 }
    let (ok, s2) := s1.admitFor 9 1
    if ok then s2.abQueue f else s2.setLs { s2.ls with unadmitted := s2.ls.unadmitted ++ [f] }

/-- The messages LEASE had not admitted ask again (R103). -/
def abRetry (s : State) : State :=
  s.ls.unadmitted.foldl (fun t f =>
    let (ok, t1) := t.admitFor 9 1
    if ok then t1.abQueue f else t1.setLs { t1.ls with unadmitted := t1.ls.unadmitted ++ [f] }) (s.setLs { s.ls with unadmitted := [] })

/-- Frames whose transmission has met no collision are away (R417). -/
def abDrain (s : State) : State :=
  if s.ls.backoff.isSome || !s.flag Fld.AB_CTL_EN then s
  else (s.bumpBy Reg.AB_TX s.ls.txq.length).setLs { s.ls with sent := s.ls.sent ++ s.ls.txq, txq := [], attempts := 0 }

/-- A bound in nanoseconds, rounded upward, saturating at 32 bits. -/
def boundNs (s : State) : Nat := match s.eb.snap with | some x => satNat 32 (ceilDiv x.b0 1000) | none => 2 ^ 32 - 1

/-- Readiness (R422): 0 NOT_READY, 1 COLD, 2 WARM. -/
def readiness (s : State) : Nat :=
  let linkSel := [8, 9].any (fun n => s.slotLink n == some 0 && s.slotState n == 3)
  if s.leaseState = 2 then 2
  else if !s.hbOk then 0
  else if s.ulUp 0 && linkSel && s.flag Fld.RS_STAT_LOCKED &&
      s.rdN Reg.LS_MIRROR_LAG ≤ clampNat 10 10000 (bitsOf (s.rdN Reg.LS_LAG_MAX) 0 16) && s.ls.resyncDone then 2
  else 1

/-- LS_STAT.READY follows, with READY_CHG at each change. -/
def refreshReady (s : State) : State :=
  let r := s.readiness
  if r = s.get Fld.LS_STAT_READY || !s.isMember then s else (s.set Fld.LS_STAT_READY r).evt Fld.LS_EVT_READY_CHG

/-- HEALTH of a member or of the arbiter (R418). -/
def sendHealth (s : State) : State :=
  let b := fun (v : Bool) (n : Nat) => if v then 2 ^ n else 0
  if s.role = 3 then
    let held := s.get Fld.LS_ARB_STAT_HOLDER
    let since := if held = 0 then 0 else satNat 32 ((s.tc.now - s.ls.grantAt) / msU)
    let flags := b (s.flag Fld.LS_ARB_STAT_A_LIVE) 0 + b (s.flag Fld.LS_ARB_STAT_B_LIVE) 1 + b (s.flag Fld.LS_ARB_STAT_A_HBFAULT) 2 +
      b (s.flag Fld.LS_ARB_STAT_B_HBFAULT) 3 + b (s.flag Fld.LS_ARB_STAT_WAIT) 4
    s.crewellSend 1 0 ([BitVec.ofNat 8 held, BitVec.ofNat 8 flags] ++ beBytes 4 since)
  else
    let feeds := b (s.flag Fld.PF_STAT_A_OK) 0 + b (s.flag Fld.PF_STAT_B_OK) 1 + b (s.flag Fld.PF_STAT_PREDICT) 2
    let lag := s.rdN Reg.LS_MIRROR_LAG
    let cur := b (s.ulUp 0) 0 + b (s.ls.resyncDone && lag ≤ clampNat 10 10000 (bitsOf (s.rdN Reg.LS_LAG_MAX) 0 16)) 1
    s.crewellSend 1 0 ([BitVec.ofNat 8 s.leaseState, BitVec.ofNat 8 (s.get Fld.LS_STAT_READY), BitVec.ofNat 8 s.timeState,
      BitVec.ofNat 8 (match s.rs.cur with | some n => n | none => 15)] ++ beBytes 4 s.boundNs ++ [BitVec.ofNat 8 feeds, BitVec.ofNat 8 cur] ++
      beBytes 2 (satNat 16 lag))

/-- CLAIM with a reason (R419). -/
def sendClaim (s : State) (reason : Nat) : State :=
  if s.flag Fld.LS_STAT_ROLE_CLASH then s
  else s.crewellSend 2 (if reason = 2 then 4 else 0) ([BitVec.ofNat 8 reason, BitVec.ofNat 8 s.timeState] ++ beBytes 4 s.boundNs)

/-- The lease's part of a frame boundary (R419, R422): HEALTH, and a CLAIM while there is no holder. -/
def lsFrame (s : State) : State :=
  let s0 := s.abDrain.refreshReady
  let s1 := if s0.within s0.ls.carrierAt 5 then s0 else s0.setB Fld.AB_STAT_CRS_SEEN false
  if !(s1.isMember || s1.role = 3) then s1
  else
    let s2 := s1.sendHealth
    let st := s2.timeState
    if s2.isMember && s2.leaseState = 0 && s2.flag Fld.LS_STAT_ARB_HEALTH && s2.ls.arbHolder = 0 && 1 ≤ st && st ≤ 4 &&
        bitAt (s2.get Fld.LS_CFG_CLAIM_STATES) (st - 1) then s2.sendClaim 0
    else s2

/-! ### Planned handover (R415, R416) -/

/-- The nominal rising edges of an output in pulse or IRIG-B mode near `t`: its next edge at or after `t` − 2 µs. -/
def edgeNear (s : State) (n t : Nat) : Option Nat :=
  let o := s.out n
  let m := o.cfg.mode
  if !s.outLive n || !(m = 1 || m = 3) then none
  else
    let frm := ((t - 2000 * nsU : Nat) : Int) + s.outAdvance n
    some (s.edgeAt n (s.nominalFrom o.cfg frm.toNat))

/-- The first instant from `t` on that lies at least 2 µs away from every such edge. -/
def clearOfEdges (s : State) : Nat → Nat → Nat
  | 0, t => t
  | k + 1, t =>
    match (List.range 16).filterMap (fun n => match s.edgeNear n t with | some e => if e < t + 2000 * nsU then some e else none | none => none) with
    | [] => t
    | e :: r => clearOfEdges s k (r.foldl max e + 2000 * nsU)

/-- A release at `t` is scheduled and announced (R416). -/
def scheduleRelease (s : State) (t : Nat) (gasp : Bool) : State :=
  let s1 := s.setLs { s.ls with release := some ⟨t, gasp⟩ }
  s1.crewellSend 3 (if gasp then 2 else 0) (beBytes 4 (secOf t % 2 ^ 32) ++ beBytes 4 (nsOf t) ++ [BitVec.ofNat 8 (3 - s.role)])

/-- LS_SWAP_MIN, s (R430). -/
def swapMin (s : State) : Nat := max 10 (bitsOf (s.rdN Reg.LS_SWAP_MIN) 0 16)

/-- A SWAP, or a DEMOTE that is honoured (R415). -/
def requestSwap (s : State) : State :=
  if s.leaseState ≠ 2 then s else
  let warm := match s.ls.peer with | some p => s.within (some p.atTime) 5 && p.ready == 2 | none => false
  if warm && s.ls.release.isNone && s.ls.grantAt + s.swapMin * secU ≤ s.tc.now && !s.flag Fld.LS_STAT_ROLE_CLASH then
    let sec := ceilDiv (s.tc.now + 2 * msU) secU
    s.scheduleRelease (s.clearOfEdges 64 (sec * secU + min 999 (bitsOf (s.rdN Reg.LS_PH_OFS) 0 10) * msU)) false
  else s.evt Fld.LS_EVT_SWAP_REFUSED

/-- t_r − 20 µs (R416). -/
def releaseCutoff (s : State) : State :=
  match s.ls.release with
  | some r => let s1 := s.advanceTo (r.instant - 20000 * nsU); s1.setLs { s1.ls with cut := some r.instant }
  | none => s

/-- t_r (R416): RELEASING, and the release pattern. -/
def releaseInstant (s : State) : State :=
  match s.ls.release with
  | some r =>
    if s.leaseState ≠ 2 then s else
    let s1 := (s.advanceTo r.instant).leaseTo 3
    (s1.setLs { s1.ls with pattern := true }).refreshHb
  | none => s

/-! ### The arbiter (R412, R413) -/

def member (s : State) (m : Nat) : ArbMember := s.ls.members.getD m ⟨false, 0, 0, none, none⟩
def modMember (s : State) (m : Nat) (f : ArbMember → ArbMember) : State := s.setLs { s.ls with members := s.ls.members.modify m f }
def isArbiter (s : State) : Bool := s.role == 3 && s.flag Fld.LS_ARB_CFG_EN && s.flag Fld.SYS_BOOT_READY

def liveFld (m : Nat) : Fld := if m = 0 then Fld.LS_ARB_STAT_A_LIVE else Fld.LS_ARB_STAT_B_LIVE
def hbFaultFld (m : Nat) : Fld := if m = 0 then Fld.LS_ARB_STAT_A_HBFAULT else Fld.LS_ARB_STAT_B_HBFAULT

/-- A grant starts (R412). -/
def startGrant (s : State) (m : Nat) : State :=
  let s1 := ((s.set Fld.LS_ARB_STAT_HOLDER (m + 1)).setB Fld.LS_ARB_STAT_WAIT false).bump Reg.LS_ARB_SWAPS
  s1.setLs { s1.ls with epoch := (s1.ls.epoch + 1) % 2 ^ 32, grantAt := s1.tc.now, waitFor := none }

/-- The order of claimants: TRACKING, HOLDOVER, any other; then the bound; then the preferred member (R413). -/
def claimKey (s : State) (m : Nat) (c : Nat × Nat × Nat) : Nat :=
  let st := if c.2.1 = 2 then 0 else if c.2.1 = 3 then 1 else 2
  let pref := if (m = 1) = s.flag Fld.LS_ARB_CFG_PREF_B then 0 else 1
  st * 2 ^ 34 + c.2.2 * 2 + pref

/-- With no holder, the eligible member that has sent a CLAIM within the last 2 ms (R413). -/
def arbChoose (s : State) : State :=
  let cand := [0, 1].filterMap (fun m => match (s.member m).claim with
    | some c => if (s.member m).elig && s.within (some c.1) 2 then some (m, s.claimKey m c) else none
    | none => none)
  match cand with
  | [] => s
  | (m, k) :: r => s.startGrant (r.foldl (fun b e => if e.2 < b.2 then e else b) (m, k)).1

/-- An edge on HB_A or HB_B, `gap` ps after the one before it (R412). -/
def heartbeatEdge (s : State) (m gap : Nat) : State :=
  if s.role ≠ 3 then s else
  let x := s.member m
  let good := 400000 ≤ gap && gap ≤ 600000
  let short := 60000 ≤ gap && gap ≤ 140000
  let was := s.flag (liveFld m)
  let s1 := (s.setB (liveFld m) true).setB (hbFaultFld m) false
  s1.modMember m (fun y => { y with
    runPs := if good && was then x.runPs + gap else 0
    elig := x.elig && (good || short)
    fast := if short then x.fast + 1 else 0 })

/-- No edge for 2 µs (R412). -/
def heartbeatLoss (s : State) (m : Nat) : State :=
  if s.role ≠ 3 || !s.flag (liveFld m) then s else
  let s1 := (s.setB (liveFld m) false).modMember m (fun y => { y with elig := false, runPs := 0, fast := 0 })
  if s.get Fld.LS_ARB_STAT_HOLDER = m + 1 then
    ((s1.set Fld.LS_ARB_STAT_HOLDER 0).setB Fld.LS_ARB_STAT_WAIT true).setLs { s1.ls with waitFor := some (1 - m) }
  else s1

/-- The wait of 4.5 µs is over (R412, R413). -/
def arbGrantStart (s : State) : State :=
  if !s.flag Fld.LS_ARB_STAT_WAIT then s else
  let s1 := s.setB Fld.LS_ARB_STAT_WAIT false
  if !s1.isArbiter then s1 else
  match s1.ls.waitFor with
  | some m => if (s1.member m).elig then s1.startGrant m else s1.setLs { s1.ls with waitFor := none }
  | none => s1

/-- A release pattern is recognised (R412): the other member is granted at once if it is eligible. -/
def releaseDetect (s : State) (m : Nat) : State :=
  if !s.isArbiter || s.get Fld.LS_ARB_STAT_HOLDER ≠ m + 1 || (s.member m).fast < 4 then s else
  let s1 := s.set Fld.LS_ARB_STAT_HOLDER 0
  if (s1.member (1 - m)).elig then s1.startGrant (1 - m) else s1

/-- The arbiter's choice may be made: no holder, no wait. -/
def arbFree (s : State) : Bool := s.isArbiter && s.get Fld.LS_ARB_STAT_HOLDER == 0 && !s.flag Fld.LS_ARB_STAT_WAIT

/-- A member's message reaches the arbiter (R412, R413, R419). -/
def arbReceive (s : State) (m typ : Nat) (body : List Byte) : State :=
  let be := fun (o n : Nat) => fromBe ((body.drop o).take n)
  if typ = 1 then
    let s1 := s.modMember m (fun y => { y with health := some s.tc.now })
    let s2 := if s1.flag (liveFld m) then s1 else (s1.setB (hbFaultFld m) true).modMember m (fun y => { y with elig := false })
    if s2.arbFree && (s2.member 0).elig && (s2.member 1).elig && s2.within (s2.member 0).health 2 && s2.within (s2.member 1).health 2 then s2.arbChoose else s2
  else if typ = 2 then
    let s1 := s.modMember m (fun y => { y with claim := some (s.tc.now, be 1 1, be 2 4) })
    let holder := s1.get Fld.LS_ARB_STAT_HOLDER
    if s1.isArbiter && holder = 2 - m && (s1.member m).elig && s1.ls.grantAt + 10 * secU ≤ s1.tc.now then
      s1.crewellSend 4 0 [BitVec.ofNat 8 holder, if be 0 1 = 2 then 1 else 0]
    else s1
  else s

/-- A message reaches a member (R411, R415, R416, R419). -/
def memberReceive (s : State) (sender typ epoch : Nat) (body : List Byte) : State :=
  let be := fun (o n : Nat) => fromBe ((body.drop o).take n)
  let s0 := if sender = 3 then s.wrN Reg.LS_EPOCH epoch else s
  if typ = 1 && sender = 3 then
    (s0.setLs { s0.ls with arbAt := some s0.tc.now, arbHolder := be 0 1 }).setB Fld.LS_STAT_ARB_HEALTH true
  else if typ = 1 then (s0.setLs { s0.ls with peer := some ⟨s0.tc.now, be 1 1⟩ }).setB Fld.LS_STAT_PEER_HEALTH true
  else if typ = 3 then (if be 8 1 = s0.role then s0.toRun else s0)
  else if typ = 4 && be 0 1 = s0.role then
    let s1 := s0.evt Fld.LS_EVT_DEMOTE_RX
    if s1.flag Fld.LS_CFG_HONOR_DEMOTE then s1.requestSwap else s1
  else s0

/-- A Crewell frame is received (R406, R418, R419). -/
def crewellReceive (s : State) (b : List Byte) : State :=
  if !s.flag Fld.AB_CTL_EN then s else
  let s0 := (s.setB Fld.AB_STAT_CRS_SEEN true).setLs { s.ls with carrierAt := some s.tc.now }
  if b.take 6 ≠ crewellDst || beAt b 12 2 ≠ 0x88B5 || b.length < 60 then s0 else
  let p := (b.drop 14).take 46
  let typ := beAt p 3 1; let sender := beAt p 4 1
  let known := beAt p 0 2 == 0x4357 && beAt p 2 1 == 1 && 1 ≤ typ && typ ≤ 4 && 1 ≤ sender && sender ≤ 3
  let pair := beAt p 6 2 == bitsOf (s0.rdN Reg.LS_PAIR_ID) 0 16
  let auth := !s0.flag Fld.AB_CTL_AUTH || (bitAt (beAt p 5 1) 0 && s0.crewellIcv (p.take 30) == some (p.drop 30))
  if !known || !pair || !auth then (s0.bump Reg.AB_BAD).evt Fld.AB_EVT_BAD
  else
    let s1 := s0.bump Reg.AB_RX
    if s1.isMember && sender = s1.role then
      (if sliceOf b 6 6 ≠ s1.abMac then (s1.setB Fld.LS_STAT_ROLE_CLASH true).evt Fld.LS_EVT_ROLE_CLASH else s1)
    else if s1.isMember then s1.memberReceive sender typ (beAt p 12 4) ((p.drop 16).take 14)
    else if s1.role = 3 && sender ≤ 2 then s1.arbReceive (sender - 1) typ ((p.drop 16).take 14)
    else s1

/-- No HEALTH for 5 ms (R419). -/
def healthLost (s : State) (arb : Bool) : State :=
  if arb then (if s.flag Fld.LS_STAT_ARB_HEALTH then (s.setB Fld.LS_STAT_ARB_HEALTH false).evt Fld.LS_EVT_ARB_LOST else s)
  else (if s.flag Fld.LS_STAT_PEER_HEALTH then (s.setB Fld.LS_STAT_PEER_HEALTH false).evt Fld.LS_EVT_PEER_LOST else s)

/-- A collision of the frame on the wire (R417); PLCA has none. -/
def abCollision (s : State) : State :=
  match s.ls.txq with
  | [] => s
  | _ :: rest =>
    if s.flag Fld.AB_CTL_PLCA_EN || !s.flag Fld.AB_CTL_EN || s.ls.backoff.isSome then s else
    let n := s.ls.attempts + 1
    let s1 := s.bump Reg.AB_COLL
    if 16 ≤ n then ((s1.bump Reg.AB_EXCESS).evt Fld.AB_EVT_EXCESS).setLs { s1.ls with txq := rest, attempts := 0 }
    else (s1.setLs { s1.ls with attempts := n, backoff := some (Config.backoffDraw s1.freeCtr % 2 ^ min n 10) }).tick

/-- The backoff ends, and the frame is sent again (R417). -/
def abBackoff (s : State) : State := s.setLs { s.ls with backoff := none }

/-! ### Power feeds (R426 to R428) -/

def feedEn (s : State) (b : Bool) : Bool := s.flag (if b then Fld.PF_CTL_B_EN else Fld.PF_CTL_A_EN)
def feedFld (b : Bool) : Fld := if b then Fld.PF_STAT_B_OK else Fld.PF_STAT_A_OK
def feedOk (s : State) (b : Bool) : Bool := s.feedEn b && s.flag (feedFld b)
def feedLo (s : State) (b : Bool) : Nat := bitsOf (s.rdN (if b then Reg.PF_FEEDB_LO else Reg.PF_FEEDA_LO)) 0 12
def feedOkThr (s : State) (b : Bool) : Nat := max (s.feedLo b) (bitsOf (s.rdN (if b then Reg.PF_FEEDB_OK else Reg.PF_FEEDA_OK)) 0 12)
def feedIdx (b : Bool) : Nat := if b then 1 else 0
def feedHist (s : State) (b : Bool) : List Nat := s.ls.feeds.getD (feedIdx b) []
def feedDeb (s : State) : Nat := max 1 (bitsOf (s.rdN Reg.PF_DEB) 0 8)

/-- Samples of a feed arrive; the latest is reported (R426). -/
def addSamples (s : State) (b : Bool) (l : List Nat) : State :=
  let h := s.feedHist b ++ l
  let h := h.drop (h.length - 255)
  let s1 := s.setLs { s.ls with feeds := s.ls.feeds.set (feedIdx b) h }
  match l.getLast? with
  | some v => s1.wrN (if b then Reg.PF_FEEDB_NOW else Reg.PF_FEEDA_NOW) v
  | none => s1

/-- The last PF_DEB samples of a feed all satisfy a test. -/
def lastSamples (s : State) (b : Bool) (p : Nat → Bool) : Bool :=
  let h := s.feedHist b
  s.feedDeb ≤ h.length && (h.drop (h.length - s.feedDeb)).all p

/-- Last gasp (R428): the record in the journal and to the peer, the flush, and the planned handover. -/
def lastGasp (s : State) (cause : Nat) : State :=
  if !s.flag Fld.PF_CTL_LG_EN || s.ls.gasp ≠ 0 then s else
  let last := fun (b : Bool) => let h := s.feedHist b; h.drop (h.length - 64)
  let ext := Config.gaspLayout (last false) (last true)
    [s.tc.now, s.timeState, (match s.eb.snap with | some x => x.b0 | none => boundMax), s.leaseState, s.rdN Reg.LS_EPOCH, cause]
  let s1 := s.emitWith true 0x3E 15 "LAST_GASP" cause false false
  let s2 := { s1 with jn := { s1.jn with inflight := s1.jn.inflight.modify (s1.jn.inflight.length - 1) (fun e => { e with lastGasp := true, pkt := ext }) } }
  let s3 := s2.setLs { s2.ls with gasp := 1 }
  let s4 := if s3.isMember then s3.sendJournal 0 (wordsOf (List.replicate 32 0 ++ ext)) else s3
  let peerOk := match s4.ls.peer with | some p => s4.within (some p.atTime) 5 && 1 ≤ p.ready | none => false
  if s4.leaseState = 2 && s4.flag Fld.LS_CFG_LG_HANDOVER && peerOk then
    let t := s4.clearOfEdges 64 (s4.tc.now + 20000 * nsU)
    s4.scheduleRelease (match s4.ls.release with | some r => min r.instant t | none => t) true
  else s4

/-- Collapse (R428): every enabled feed is lost. -/
def checkCollapse (s : State) : State :=
  if (s.feedEn false || s.feedEn true) && !s.feedOk false && !s.feedOk true then (s.evt Fld.PF_EVT_BOTH_LOST).lastGasp 0 else s

/-- A feed is declared lost (R426). -/
def feedLoss (s : State) (b : Bool) (l : List Nat) : State :=
  let s1 := s.addSamples b l
  if s1.feedOk b && s1.lastSamples b (fun v => decide (v < s1.feedLo b)) then
    ((((s1.setB (feedFld b) false).evt (if b then Fld.PF_EVT_B_LOST else Fld.PF_EVT_A_LOST)).emit 0x3E 15 "FEED_LOST")).checkCollapse
  else s1

/-- A feed is back (R426). -/
def feedReturn (s : State) (b : Bool) (l : List Nat) : State :=
  let s1 := s.addSamples b l
  if s1.feedEn b && !s1.feedOk b && s1.lastSamples b (fun v => decide (s1.feedOkThr b ≤ v)) then
    (s1.setB (feedFld b) true).evt (if b then Fld.PF_EVT_B_BACK else Fld.PF_EVT_A_BACK)
  else s1

/-- The line through the last 64 samples, one a microsecond, crosses LO within PF_PRED_T (R427). -/
def crossesLo (s : State) (b : Bool) : Bool :=
  let h := s.feedHist b
  let l := h.drop (h.length - 64)
  let pts := l.zipIdx.map (fun e => (e.2, (e.1 : Rat)))
  match lineFit pts with
  | none => false
  | some (slope, _) =>
    let n : Rat := (l.length : Nat)
    let mv := (pts.foldl (fun a e => a + e.2) 0) / n
    let atEnd := mv + slope * ((n - 1) / 2)
    let lo : Rat := (s.feedLo b : Nat)
    let t : Rat := (clampNat 100 10000 (bitsOf (s.rdN Reg.PF_PRED_T) 0 16) : Nat)
    64 ≤ l.length && decide (atEnd + slope * t < lo) && decide (slope < 0)

/-- Collapse is predicted (R427, R428). -/
def feedPredict (s : State) (b : Bool) (l : List Nat) : State :=
  let s1 := s.addSamples b l
  let otherLost := !s1.feedOk (!b)
  if s1.flag Fld.PF_CTL_PRED_EN && s1.feedOk b && otherLost && !s1.flag Fld.PF_STAT_PREDICT && s1.crossesLo b then
    ((s1.setB Fld.PF_STAT_PREDICT true).evt Fld.PF_EVT_PREDICT).lastGasp 1
  else s1

/-- The flush of staging ends (R428). -/
def gaspFlushed (s : State) : State :=
  if s.ls.gasp ≠ 1 then s else
  let s1 := s.flushStaging
  ((s1.setLs { s1.ls with gasp := 2 }).setB Fld.PF_STAT_LG_DONE true).evt Fld.PF_EVT_LASTGASP |>.bump Reg.PF_LG_CNT

/-- Feeds that are not enabled never count as present (R426). -/
def refreshFeeds (s : State) : State :=
  let s1 := if s.feedEn false then s else s.setB Fld.PF_STAT_A_OK false
  if s1.feedEn true then s1 else s1.setB Fld.PF_STAT_B_OK false

/-- The levels of the lease: LS_CTL.EN written 0 and the safe state fence it, HB_RUN and PLCA_ACTIVE follow (R407, R410, R417). -/
def refreshLs (s : State) : State :=
  let s1 := if s.isMember && s.safe then s.leaseFence else s
  let s2 := s1.refreshHb.refreshFeeds
  s2.setB Fld.AB_STAT_PLCA_ACTIVE (s2.flag Fld.AB_CTL_EN && s2.flag Fld.AB_CTL_PLCA_EN)

end State

end Sys2Proof.Machine
end

