-- ==== Sys2Proof/Machine/PtpTable.lean ====
section
/-! DEFINITION. The PTP engine's client table, its calendar and its cache (R301 to R306), the messages' layout and their authentication
(R292, R308 to R311). -/

namespace Sys2Proof.Machine

/-- The words of a free entry that was never used: HEAD, NEXT and SNEXT nil (R302). -/
def entryFree : List Nat := [0, 2 ^ 31, 2 ^ 31, 2 ^ 31] ++ List.replicate 12 0

/-- The key of a client (R301): instance, transport, front port, address words 4 to 7, clockIdentity words, port number. -/
structure ClientKey where
  svc : Nat
  trans : Nat
  port : Nat
  addr : List Nat
  ident : List Nat
  num : Nat
  deriving DecidableEq, Repr

/-- The home index: the low 20 bits of the CRC-32C of the key. -/
def ClientKey.home (k : ClientKey) : Nat :=
  crc32c ([BitVec.ofNat 8 k.svc] ++ k.addr.flatMap (beBytes 4) ++ k.ident.flatMap (beBytes 4) ++ beBytes 2 k.num ++ [BitVec.ofNat 8 k.port]) % 2 ^ 20

/-- The words of an entry. -/
def entryWord (e : List Nat) (n : Nat) : Nat := e.getD n 0
def entryValid (e : List Nat) : Bool := bitAt (entryWord e 0) 31
def entrySvc (e : List Nat) : Nat := bitsOf (entryWord e 0) 29 2
def entryTrans (e : List Nat) : Nat := bitsOf (entryWord e 0) 27 2
def entryAuth (e : List Nat) : Bool := bitAt (entryWord e 0) 26
def entryPort (e : List Nat) : Nat := bitsOf (entryWord e 0) 22 4
def entryKey (e : List Nat) : ClientKey :=
  ⟨entrySvc e, entryTrans e, entryPort e, (e.drop 4).take 4, (e.drop 8).take 2, entryWord e 10 / 65536⟩
def entryGranted (e : List Nat) (t : Nat) : Bool := bitAt (entryWord e 11) t
/-- logAnnounce, logSync and logDelayResp of types 0, 1 and 2. -/
def entryLog (e : List Nat) (t : Nat) : Int := signedOf 8 (bitsOf (entryWord e 11) (24 - 8 * t) 8)
def entryExpiry (e : List Nat) (t : Nat) : Nat := entryWord e (12 + t)

/-- The rate of a period, in sixteenths of a message per second (R299, within −7 to 4). -/
def rate16 (log : Int) : Nat := 2 ^ (4 - log).toNat

/-- A client's phase in the calendar (R303). -/
def clientPhase (i : Nat) : Nat := crc32c (leBytes 4 i) % 2 ^ 14

/-- Messages of a type fall due at a tick (R303). -/
def dueAt (i : Nat) (log : Int) (n : Nat) : Bool := n % 2 ^ (10 + log).toNat == clientPhase i % 2 ^ (10 + log).toNat

/-- The first tick after `n` at which a type falls due. -/
def nextDue (i : Nat) (log : Int) (n : Nat) : Nat :=
  let m := 2 ^ (10 + log).toNat
  n + 1 + (clientPhase i + (m - (n + 1) % m)) % m

/-- An association list sorted by key: look up, and replace or insert. -/
def alLook {α : Type} : List (Nat × α) → Nat → Option α
  | [], _ => none
  | (k, v) :: r, a => if k = a then some v else if a < k then none else alLook r a
def alPut {α : Type} : List (Nat × α) → Nat → α → List (Nat × α)
  | [], a, v => [(a, v)]
  | (k, w) :: r, a, v => if k = a then (a, v) :: r else if a < k then (a, v) :: (k, w) :: r else (k, w) :: alPut r a v
def alDrop {α : Type} : List (Nat × α) → Nat → List (Nat × α)
  | [], _ => []
  | (k, w) :: r, a => if k = a then r else (k, w) :: alDrop r a

/-- The lowest index that no entry of a sorted table lists. -/
def firstUnused {α : Type} : List (Nat × α) → Nat → Nat
  | [], n => n
  | (k, _) :: r, n => if k = n then firstUnused r (n + 1) else n

/-! ### Headers -/

/-- The header bytes before a PTP message with lengths and checksums made right for it. -/
def reframe (hdr msg : List Byte) : List Byte :=
  let b := hdr ++ msg
  if isIp4 b then
    let b1 := putBe b (ipOff b + 2) 2 (b.length - ipOff b)
    fixUdp (putBe (fixIp b1) (l4Off b1 + 4) 2 (b.length - l4Off b))
  else if isIp6 b then
    fixUdp (putBe (putBe b (ipOff b + 4) 2 (b.length - ipOff b - 40)) (l4Off b + 4) 2 (b.length - l4Off b))
  else b

/-- Ethernet, IP and UDP headers towards an address: transport, MACs, the bytes between them and the EtherType, IP addresses, UDP port. -/
def ptpHeader (trans : Nat) (dstMac srcMac tags dstIp srcIp : List Byte) (port : Nat) : List Byte :=
  let ttl := Config.ptpIpField 0; let tc := (Config.ptpIpField 1).toNat
  let udp := beBytes 2 port ++ beBytes 2 port ++ [0, 0, 0, 0]
  dstMac ++ srcMac ++ tags ++
    (if trans = 0 then [0x88, 0xF7]
     else if trans = 1 then
       [0x08, 0x00, 0x45, BitVec.ofNat 8 tc, 0, 0, 0, 0, 0x40, 0, ttl, 17, 0, 0] ++ srcIp ++ dstIp ++ udp
     else [0x86, 0xDD] ++ beBytes 4 (6 * 2 ^ 28 + tc * 2 ^ 20) ++ [0, 0, 17, ttl] ++ srcIp ++ dstIp ++ udp)

/-- A frame's transport (0 IEEE 802.3, 1 IPv4, 2 IPv6). -/
def frameTrans (b : List Byte) : Nat := if isIp4 b then 1 else if isIp6 b then 2 else 0

/-- The transport address words of a frame's sender (R302, words 4 to 7). -/
def senderAddr (b : List Byte) : List Nat :=
  if isIp4 b then [0, 0, 0, fromBe (ipSrc b)]
  else if isIp6 b then [beAt (ipSrc b) 0 4, beAt (ipSrc b) 4 4, beAt (ipSrc b) 8 4, beAt (ipSrc b) 12 4]
  else [0, 0, beAt b 6 2, beAt b 8 4]

/-- A group destination. -/
def isGroup (b : List Byte) : Bool := bitAt (beAt b 0 1) 0

/-- The multicast MAC and IP destinations of PTP (IEEE 1588-2019 Annexes C to F). -/
def mcMac (profile trans : Nat) (pdelay : Bool) : List Byte :=
  if trans = 0 then
    (if pdelay || (profile = 4 && Config.g8275Link) then [0x01, 0x80, 0xC2, 0, 0, 0x0E] else [0x01, 0x1B, 0x19, 0, 0, 0])
  else if trans = 1 then [0x01, 0, 0x5E, 0, if pdelay then 0 else 1, if pdelay then 0x6B else 0x81]
  else [0x33, 0x33, 0, 0, if pdelay then 0 else 1, if pdelay then 0x6B else 0x81]
def mcIp (trans : Nat) (pdelay : Bool) : List Byte :=
  if trans = 1 then (if pdelay then [224, 0, 0, 107] else [224, 0, 1, 129])
  else [0xFF, if pdelay then 0x02 else 0x0E] ++ List.replicate 12 0 ++ (if pdelay then [0, 0x6B] else [0x01, 0x81])

/-- The common header of a message (IEEE 1588-2019), its messageLength still 0. -/
def ptpHead (typ domain major minor flags : Nat) (corr : Int) (src : List Byte) (seq ctl : Nat) (log : Nat) : List Byte :=
  [BitVec.ofNat 8 (major * 16 + typ), 0x12, 0, 0, BitVec.ofNat 8 domain, BitVec.ofNat 8 minor] ++ beBytes 2 flags ++ beBytes 8 (wordOf 64 corr) ++
    [0, 0, 0, 0] ++ src ++ beBytes 2 (seq % 65536) ++ [BitVec.ofNat 8 ctl, BitVec.ofNat 8 log]

/-- A Timestamp of whole nanoseconds: seconds (6 octets) and nanoseconds (4 octets). -/
def ptpStamp (ns : Nat) : List Byte := beBytes 6 (ns / 1000000000 % 2 ^ 48) ++ beBytes 4 (ns % 1000000000)
/-- The Timestamp at an offset, in units of 2^-16 ns. -/
def ptpStampAt (b : List Byte) (o : Nat) : Int := ((beAt b o 6 * 1000000000 + beAt b (o + 6) 4) * 65536 : Nat)

/-- PTPAUTH units of an ICV over `l` octets (R311). -/
def authUnits (gmac : Bool) (l : Nat) : Nat := if gmac then ceilDiv l 16 + 2 else ceilDiv (l + 9) 64 + 1

namespace State

def setPe (s : State) (x : Ptp) : State := { s with pe := x }

/-! ### Mirroring queue (R421, R423) -/

/-- Bytes a mirroring record takes. -/
def mirBytes (r : MirRec) : Nat := 8 + 4 * r.words.length

/-- A record enters the staging region of a mirroring holder; one that no longer fits discards what is queued, and a resync follows. -/
def mirQueue (s : State) (kind index : Nat) (words : List Nat) : State :=
  if !s.isMember || s.leaseState ≠ 2 || !s.flag Fld.LS_CTL_MIRROR_EN then s else
  let r : MirRec := ⟨kind, index, words, s.tc.now⟩
  let used := s.ls.staging.foldl (fun n x => n + mirBytes x) 0
  if used + mirBytes r ≤ 134217728 then s.setLs { s.ls with staging := s.ls.staging ++ [r] }
  else s.setLs { s.ls with staging := [⟨6, 0, [], s.tc.now⟩], resyncLeft := 1048576 }

/-! ### Entries (R301, R302) -/

def tblEntry (s : State) (i : Nat) : List Nat := (alLook s.pe.table i).getD entryFree

/-- An entry is written; a change of words 0 to 14 is mirrored whole, a change of word 15 alone by that word. -/
def putEntry (s : State) (i : Nat) (e : List Nat) : State :=
  let old := s.tblEntry i
  let s1 := s.setPe { s.pe with table := alPut s.pe.table i e }
  if old.take 15 ≠ e.take 15 then s1.mirQueue 1 i e
  else if old ≠ e then s1.mirQueue 2 i [entryWord e 15]
  else s1

/-- The walk of a chain from an index: the entry found, and the indices read, the latest first. -/
def walkChain (s : State) (key : ClientKey) : Nat → Nat → List Nat → Option Nat × List Nat
  | 0, _, seen => (none, seen)
  | n + 1, i, seen =>
    let e := s.tblEntry i
    if entryValid e && entryKey e == key then (some i, i :: seen)
    else if bitAt (entryWord e 2) 31 then (none, i :: seen)
    else walkChain s key n (bitsOf (entryWord e 2) 0 20) (i :: seen)

/-- lookup(key) of R301: the entry, and the indices read. -/
def lookup (s : State) (key : ClientKey) : Option Nat × List Nat :=
  let h := key.home
  let e := s.tblEntry h
  if bitAt (entryWord e 1) 31 then (none, [h])
  else
    let r := s.walkChain key (s.pe.table.length + 1) (bitsOf (entryWord e 1) 0 20) []
    (r.1, if r.2.contains h then r.2 else h :: r.2)

/-- PE_PROBE_MAX takes the longest chain walked. -/
def noteProbe (s : State) (n : Nat) : State := s.wrN Reg.PE_PROBE_MAX (max (s.rdN Reg.PE_PROBE_MAX) (min 255 n))

/-- PE_TBL_USED, PE_TBL_COMMIT, TABLE_FULL and the instances' counts follow. -/
def refreshTable (s : State) : State :=
  let l := s.pe.table.filter (fun e => entryValid e.2)
  let n := l.length
  let s1 := ((s.wrN Reg.PE_TBL_USED n).wrN Reg.PE_TBL_COMMIT (s.roundFreeN s.pe.commit 16)).setB Fld.PE_STAT_TABLE_FULL (decide (1048576 ≤ n))
  (List.range 4).foldl (fun t k => t.wrN (Reg.PE_SVCk_CLIENTS k) (l.filter (fun e => entrySvc e.2 == k)).length) s1

/-- insert(key) of R301: the index taken; none where the table is full. The entry's words but HEAD are those given. -/
def insertEntry (s : State) (key : ClientKey) (w : List Nat) : Option (Nat × State) :=
  if 1048576 ≤ s.rdN Reg.PE_TBL_USED then none else
  let h := key.home
  let free := fun (i : Nat) => !entryValid (s.tblEntry i)
  let i := if free h then h else match s.pe.freed with | f :: _ => f | [] => firstUnused s.pe.table 0
  let s1 := s.setPe { s.pe with freed := s.pe.freed.filter (fun x => x != i) }
  let headOld := entryWord (s1.tblEntry h) 1
  let own := entryWord (s1.tblEntry i) 1
  let next := if bitAt headOld 31 then 2 ^ 31 else bitsOf headOld 0 20
  let s2 := s1.putEntry i (((w.set 1 own).set 2 next).set 3 (2 ^ 31))
  some (i, (s2.putEntry h ((s2.tblEntry h).set 1 i)).refreshTable)

/-- The entries of the chain that heads at `h`, in order. -/
def chainOf (s : State) (h : Nat) : List Nat :=
  let e := s.tblEntry h
  if bitAt (entryWord e 1) 31 then []
  else
    let rec go : Nat → Nat → List Nat
      | 0, _ => []
      | n + 1, i => i :: (if bitAt (entryWord (s.tblEntry i) 2) 31 then [] else go n (bitsOf (entryWord (s.tblEntry i) 2) 0 20))
    go (s.pe.table.length + 1) (bitsOf (entryWord e 1) 0 20)

/-- An entry leaves the calendar. -/
def unlist (s : State) (i : Nat) : State :=
  s.setPe { s.pe with cal := s.pe.cal.map (fun e => (e.1, e.2.filter (fun x => x != i))), late := s.pe.late.filter (fun x => x.1 != i) }

/-- Rate of an entry's grants. -/
def entryRate (e : List Nat) : Nat := ([0, 1, 2].filter (fun t => entryGranted e t)).foldl (fun n t => n + rate16 (entryLog e t)) 0

/-- An entry is freed (R299, R306): out of its chain and the calendar, onto the free list, keeping HEAD. -/
def freeEntry (s : State) (i : Nat) : State :=
  let e := s.tblEntry i
  if !entryValid e then s else
  let h := (entryKey e).home
  let next := entryWord e 2
  let s1 := s.setPe { s.pe with commit := s.pe.commit - entryRate e }
  let s2 :=
    if !bitAt (entryWord (s1.tblEntry h) 1) 31 && bitsOf (entryWord (s1.tblEntry h) 1) 0 20 = i then s1.putEntry h ((s1.tblEntry h).set 1 next)
    else match (s1.chainOf h).find? (fun j => !bitAt (entryWord (s1.tblEntry j) 2) 31 && bitsOf (entryWord (s1.tblEntry j) 2) 0 20 == i) with
      | some j => s1.putEntry j ((s1.tblEntry j).set 2 next)
      | none => s1
  let s3 := s2.putEntry i (entryFree.set 1 (entryWord (s2.tblEntry i) 1))
  ((s3.setPe { s3.pe with freed := i :: s3.pe.freed }).unlist i).refreshTable

/-- The entry is listed under the next tick after `n` at which a message of it falls due (R303). -/
def listEntry (s : State) (i n : Nat) : State :=
  let e := s.tblEntry i
  let due := ([0, 1].filter (fun t => entryGranted e t)).map (fun t => nextDue i (entryLog e t) n)
  let s1 := s.unlist i
  match due with
  | [] => s1
  | d :: r =>
    let tick := (r.foldl min d) % 16384
    s1.setPe { s1.pe with cal := alPut s1.pe.cal tick (i :: ((alLook s1.pe.cal tick).getD [])) }

/-- An entry's words as a reader sees them: SNEXT is the next entry of its calendar list. -/
def entryView (s : State) (i : Nat) : List Nat :=
  let e := s.tblEntry i
  match s.pe.cal.find? (fun x => x.2.contains i) with
  | some (_, l) => match ((l.dropWhile (fun x => x != i)).drop 1).head? with | some j => e.set 3 j | none => e.set 3 (2 ^ 31)
  | none => e

/-! ### The cache (R305) -/

/-- One access to entry `i`, with a write-back due if `w`: the units it costs, and the state after. -/
def cacheAccess (s : State) (i : Nat) (w : Bool) : Nat × State :=
  let set := i % 16384
  let l := (alLook s.pe.cache set).getD []
  let put := fun (s : State) (l : List (Nat × Bool)) => s.setPe { s.pe with cache := alPut s.pe.cache set l }
  match l.find? (fun x => x.1 == i) with
  | some _ => (0, (put s (l.map (fun x => if x.1 = i then (i, x.2 || w) else x))).wrapBy Reg.PE_CACHE_HIT 1)
  | none =>
    let s1 := s.wrapBy Reg.PE_CACHE_MISS 1
    if l.length < 8 then (1, put s1 (l ++ [(i, w)]))
    else
      let v := (Config.cacheVictim s.freeCtr).val
      (1 + (match l[v]? with | some x => if x.2 then 1 else 0 | none => 0), (put s1 (l.set v (i, w))).tick)

/-- Accesses to several entries. -/
def cacheAll (s : State) (l : List Nat) (w : Bool) : Nat × State :=
  l.foldl (fun a i => let r := a.2.cacheAccess i w; (a.1 + r.1, r.2)) (0, s)

/-- Both CSTATE and PTPAUTH admitFor, or the class that does not stalls (R307). `s` is the state before the accesses, `after` the one after them. -/
def admitBoth (s after : State) (cstate auth : Nat) : Bool × State :=
  if !s.admits 4 cstate then (false, s.stall 4)
  else if !s.admits 3 auth then (false, s.stall 3)
  else
    let a := if cstate = 0 then after else after.admitted 4 cstate
    (true, if auth = 0 then a else a.admitted 3 auth)

/-! ### Authentication (R308 to R311) -/

/-- AUTH of an instance, 3 taken as 2. -/
def svcAuth (s : State) (k : Nat) : Nat := min 2 (s.get (Fld.PE_SVCk_CFG_AUTH k))

/-- The current key of a security-parameter entry: ALG, keyID and material, where it may be used. -/
def spCurrent (s : State) (spp : Nat) : Option (Bool × Nat × List Byte) :=
  if !s.flag (Fld.PE_SPs_CFG_EN spp) then none
  else (s.engineKey (s.get (Fld.PE_SPs_CFG_CUR spp)) .mac .ptp).map (fun k => (s.flag (Fld.PE_SPs_CFG_ALG spp), s.rdN (Reg.PE_SPs_KID spp), k))

/-- The ICV of a covered message under a key. -/
def ptpIcv (alg : Bool) (key m : List Byte) : List Byte :=
  if alg then Config.gmac key (sliceOf m 20 8 ++ sliceOf m 30 2 ++ [BitVec.ofNat 8 (beAt m 0 1 % 16)] ++ sliceOf m 4 1) m
  else (Config.hmac256 key m).take 16

/-- A message's final form under AUTH and SPP (R308): messageLength, and the AUTHENTICATION TLV where it is due; none without a usable key. -/
def sealMsg (s : State) (auth spp : Nat) (msg : List Byte) : Option (List Byte) :=
  let total := msg.length + (if auth = 0 then 0 else 26)
  let m := putBe msg 2 2 total
  if auth = 0 then some m
  else match s.spCurrent spp with
    | none => none
    | some (alg, kid, key) =>
      let cov := m ++ beBytes 2 0x8009 ++ beBytes 2 22 ++ [BitVec.ofNat 8 spp, 0] ++ beBytes 4 kid
      some (cov ++ ptpIcv alg key cov)

/-- PTPAUTH units of sealing a message of `n` octets before its AUTHENTICATION TLV. -/
def sealCost (s : State) (auth spp n : Nat) : Nat := if auth = 0 then 0 else authUnits (s.flag (Fld.PE_SPs_CFG_ALG spp)) (n + 10)

/-- What verification finds (R309): no TLV, a good one, or a bad one; and its cost. -/
inductive AuthSeen where
  | absent
  | good
  | bad
  deriving DecidableEq, Repr

def verifyMsg (s : State) (b : List Byte) (o : Nat) : AuthSeen × Nat :=
  match ptpTlv b o 0x8009 with
  | none => (.absent, 0)
  | some (_, t, len) =>
    let spp := beAt b (t + 4) 1
    let kid := beAt b (t + 6) 4
    let slot := if kid = s.rdN (Reg.PE_SPs_KID spp) then some (s.get (Fld.PE_SPs_CFG_CUR spp))
      else if s.flag (Fld.PE_SPs_CFG_PREV_EN spp) && kid = s.rdN (Reg.PE_SPs_PKID spp) then some (s.get (Fld.PE_SPs_CFG_PREV spp)) else none
    let alg := s.flag (Fld.PE_SPs_CFG_ALG spp)
    let cov := sliceOf b o (t + 10 - o)
    let ok := match slot with
      | some k => (match s.engineKey k .mac .ptp with | some key => ptpIcv alg key cov == sliceOf b (t + 10) 16 | none => false)
      | none => false
    (if s.flag (Fld.PE_SPs_CFG_EN spp) && len = 22 && beAt b (t + 5) 1 = 0 && ok then .good else .bad, authUnits alg cov.length)

end State

end Sys2Proof.Machine
end

