-- ==== Sys2Proof/Machine/Ptp.lean ====
section
/-! DEFINITION. The PTP engine's service (chapter 12, R288 to R312): instances and ports, messages, requests, unicast negotiation and the
calendar. -/

namespace Sys2Proof.Machine

/-- Lexicographic order of equally long lists. -/
def lexLt : List Nat → List Nat → Bool
  | a :: r, b :: t => a < b || (a == b && lexLt r t)
  | _, _ => false

/-- Fields of an Announce at an offset (IEEE 1588-2019). -/
def announceSet (b : List Byte) (o : Nat) : DataSet :=
  { prio1 := beAt b (o + 47) 1, cls := beAt b (o + 48) 1, acc := beAt b (o + 49) 1, var := beAt b (o + 50) 2, prio2 := beAt b (o + 52) 1,
    gm := beAt b (o + 53) 8, steps := beAt b (o + 61) 2 }

/-- The key by which data sets compare (R291), the better one lower: the default comparison, or the alternate one of ITU-T G.8275 with the
localPriority given. -/
def setKey (alternate : Bool) (localPrio : Nat) (d : DataSet) : List Nat :=
  if alternate then
    [d.cls, d.acc, d.var, d.prio2, localPrio] ++ (if d.cls ≤ 127 then [d.steps, d.gm] else [d.gm, d.steps])
  else [d.prio1, d.cls, d.acc, d.var, d.prio2, d.gm, d.steps]

/-- A profile permits a domain and a transport (R289). -/
def profileOk (prof dom trans : Nat) : Bool :=
  trans ≤ 2 && (
    if prof = 0 || prof = 1 then dom ≤ 127
    else if prof = 2 then trans = 0 && dom ≤ 127
    else if prof = 3 then trans = 0
    else if prof = 4 then trans = 0 && 24 ≤ dom && dom ≤ 43
    else if prof = 5 then trans ≠ 0 && 44 ≤ dom && dom ≤ 63
    else false)

/-- A profile permits unicast negotiation (R289). -/
def profileUnicast (prof : Nat) : Bool := prof == 0 || prof == 5
/-- A profile measures by peer delay, and compares by the alternate rule (R289, R291). -/
def profileP2P (prof : Nat) : Bool := prof == 1 || prof == 2 || prof == 3
def profileAlt (prof : Nat) : Bool := prof == 4 || prof == 5

/-- A frame padded to the least length without FCS. -/
def pad60 (b : List Byte) : List Byte := b ++ List.replicate (60 - b.length) 0

namespace State

/-! ### Instances and ports (R288 to R291) -/

def svcOn (s : State) (k : Nat) : Bool := s.pe.svcOn.getD k false
def svcProfile (s : State) (k : Nat) : Nat := s.get (Fld.PE_SVCk_CFG_PROFILE k)
def svcTrans (s : State) (k : Nat) : Nat := s.get (Fld.PE_SVCk_CFG_TRANS k)
def svcDomain (s : State) (k : Nat) : Nat := s.get (Fld.PE_SVCk_CFG_DOMAIN k)
def svcPort (s : State) (k p : Nat) : Bool := bitAt (s.rdN (Reg.PE_SVCk_PORTS k)) p
def svcBmca (s : State) (k p : Nat) : Bool := bitAt (s.rdN (Reg.PE_SVCk_PORTS k)) (16 + p)
/-- logAnnounce, logSync and logMinDelayReq. -/
def svcLog (s : State) (k j : Nat) : Int := signedOf 8 (bitsOf (s.rdN (Reg.PE_SVCk_INTV k)) (8 * j) 8)
def pePort (s : State) (k p : Nat) : PePort := (s.pe.ports.getD k []).getD p PePort.blank
def modPePort (s : State) (k p : Nat) (f : PePort → PePort) : State := s.setPe { s.pe with ports := s.pe.ports.modify k (fun l => l.modify p f) }

/-- PSTATE of a port: 0 disabled, 1 MASTER, 2 PASSIVE, 3 waiting. -/
def pState (s : State) (k p : Nat) : Nat := bitsOf (s.rdN (Reg.PE_SVCk_PSTATE k)) (2 * p) 2
def putPState (s : State) (k p v : Nat) : State := s.wrN (Reg.PE_SVCk_PSTATE k) (withBits (s.rdN (Reg.PE_SVCk_PSTATE k)) (2 * p) 2 v)

/-- What a port's state is at a boundary (R291, R316): a port starts once its STAMP bits and transmit gate allow it. -/
def pStateNow (s : State) (k p : Nat) : Nat :=
  if !s.svcOn k || !s.svcPort k p then 0
  else if (s.pePort k p).passive then 2
  else if !s.gateOpen p then 3
  else if (s.stampRx p && s.stampTx p) || (s.bridging && s.pState k p == 1) then 1
  else 3

/-- The states of all ports, and SERVING. -/
def refreshPStates (s : State) : State :=
  let s1 := (List.range 4).foldl (fun t k => t.wrN (Reg.PE_SVCk_PSTATE k)
    ((List.range 16).foldl (fun n p => n + t.pStateNow k p * 4 ^ p) 0)) s
  s1.setB Fld.PE_STAT_SERVING ((List.range 4).any (fun k => (List.range 16).any (fun p => s1.pState k p == 1)))

/-- Why an instance is refused (R288), against the instances already accepted. -/
def svcRefused (s : State) (k : Nat) (others : List Nat) : Bool :=
  !profileOk (s.svcProfile k) (s.svcDomain k) (s.svcTrans k) ||
  (s.flag (Fld.PE_SVCk_CFG_UNICAST k) && !profileUnicast (s.svcProfile k)) ||
  others.any (fun j => s.svcDomain j == s.svcDomain k && s.svcTrans j == s.svcTrans k &&
    (bitsOf (s.rdN (Reg.PE_SVCk_PORTS j)) 0 16 &&& bitsOf (s.rdN (Reg.PE_SVCk_PORTS k)) 0 16) != 0)

/-- An instance stops: its entries are freed, and its ports' states go (chapter 12, coinciding events). -/
def svcStop (s : State) (k : Nat) : State :=
  let s1 := s.setPe { s.pe with svcOn := s.pe.svcOn.set k false, ports := s.pe.ports.set k (List.replicate 16 PePort.blank) }
  (s1.pe.table.filter (fun e => entryValid e.2 && entrySvc e.2 == k)).foldl (fun t e => t.freeEntry e.1) s1

/-- One instance at a frame boundary (R288). -/
def svcFrame (s : State) (k : Nat) : State :=
  let want := s.flag Fld.PE_CTL_EN && s.flag (Fld.PE_SVCk_CFG_EN k)
  let others := (List.range 4).filter (fun j => j != k && s.svcOn j)
  let mark := (s.rdN (Reg.PE_SVCk_CFG k), s.rdN (Reg.PE_SVCk_PORTS k))
  if !want then (if s.svcOn k then s.svcStop k else s.setPe { s.pe with svcBad := s.pe.svcBad.set k (0, 0) })
  else if s.svcRefused k others then
    let s1 := if s.svcOn k then s.svcStop k else s
    if s.pe.svcBad.getD k (0, 0) = mark then s1
    else (s1.setPe { s1.pe with svcBad := s1.pe.svcBad.set k mark }).evt Fld.PE_EVT_SVC_REFUSED
  else if s.svcOn k then s
  else s.setPe { s.pe with svcOn := s.pe.svcOn.set k true, svcBad := s.pe.svcBad.set k (0, 0) }

/-- An instance whose current key cannot be used (R310). -/
def svcHalted (s : State) (k : Nat) : Bool :=
  s.svcOn k && s.svcAuth k != 0 && (s.spCurrent (s.get (Fld.PE_SVCk_CFG_SPP k))).isNone

/-- AUTH_HALT follows the keys (R310). -/
def refreshPe (s : State) : State :=
  let h := (List.range 4).any s.svcHalted
  if h && !s.flag Fld.PE_STAT_AUTH_HALT then (s.setB Fld.PE_STAT_AUTH_HALT true).evt Fld.PE_EVT_AUTH_HALT
  else s.setB Fld.PE_STAT_AUTH_HALT h

/-- The instance that serves a message's port, domain and transport. -/
def svcOf (s : State) (p : Nat) (b : List Byte) (o : Nat) : Option Nat :=
  (List.range 4).find? (fun k => s.svcOn k && s.svcPort k p && s.svcDomain k == ptpDomain b o && s.svcTrans k == frameTrans b)

/-- clockIdentity and portNumber of a front port (R290). -/
def ptpIdent (s : State) (p : Nat) : List Byte := beBytes 4 (s.rdN Reg.PE_CLOCK_ID_H) ++ beBytes 4 (s.rdN Reg.PE_CLOCK_ID_L) ++ beBytes 2 (p + 1)

/-- A delay in ps in units of 2^-16 ns. -/
def unitsOf (s : State) (ps : Int) : Int := s.roundFree (ps * 65536) 1000
def rxExt (s : State) (p : Nat) : Int := s.unitsOf (s.rdI (Reg.PTp_RX_EXT p))
def txExt (s : State) (p : Nat) : Int := s.unitsOf (s.rdI (Reg.PTp_TX_EXT p))
def asym (s : State) (p : Nat) : Int := s.unitsOf (s.rdI (Reg.PTp_ASYM p))

/-- The data set of an instance's own clock. -/
def ownSet (s : State) : DataSet :=
  { prio1 := bitsOf (s.rdN Reg.PE_DS) 0 8, prio2 := bitsOf (s.rdN Reg.PE_DS) 8 8, var := bitsOf (s.rdN Reg.PE_DS) 16 16,
    cls := s.get (Fld.EB_MAP_CLASS (match s.eb.snap with | some x => x.timeState | none => s.timeState)),
    acc := (match s.validSnap with | some x => clockAccuracy (s.served x s.tc.now 0) | none => 0xFE),
    gm := s.rdN Reg.PE_CLOCK_ID_H * 2 ^ 32 + s.rdN Reg.PE_CLOCK_ID_L, steps := 0 }

/-! ### Frames (R292, R295 to R297) -/

/-- An engine may send a message that carries a time (R293). -/
def timeAllowed (s : State) (p : Nat) : Bool := s.validSnap.isSome && !s.bridging && s.stampTx p

/-- The latest departure of a message that is not a scheduled launch, units of 2^-48 ns (R297). -/
def lateAt (s : State) : Nat := (s.view + clampNat 10 10000 (bitsOf (s.rdN Reg.SW_AGE) 0 14) * 1000) * nsU

/-- A frame of an engine goes to a front port through the switch core (R263, R297). -/
def engSend (s : State) (eng p : Nat) (b : List Byte) (late : Option Nat) : State :=
  let f := pad60 b
  s.swEnter { id := 0, src := eng, dest := p, bytes := f, prio := (Config.enginePrio eng).val, ring := 0, code := 0, strip := none, stamp := none,
              cells := cellsOf (f.length + 4), admitted := 0, tsReq := none, late := late } [p] (cellsOf (f.length + 4))

/-- A message has been sent. -/
def peSent (s : State) : State := (s.bump64 Reg.PE_TX_L 1).pcEvent 0x0E01 0 1

/-- A sealed message with its headers goes out through switch port 16. Without a usable key nothing goes (R310). -/
def peSend (s : State) (p auth spp : Nat) (hdr msg : List Byte) (late : Option Nat) : State :=
  match s.sealMsg auth spp msg with
  | some m => (s.engSend 16 p (reframe hdr m) late).peSent
  | none => s

/-- The bound TLV for a departure at `t`, where TLV_EN asks for it (R233). -/
def tlvFor (s : State) (t p : Nat) : List Byte :=
  match s.validSnap with
  | some x => if s.flag Fld.EB_CTL_TLV_EN then s.boundTlv x (s.served x t p) else []
  | none => []
def tlvLen (s : State) : Nat := if s.flag Fld.EB_CTL_TLV_EN then 30 else 0

/-- The bytes of a port's own MAC address. -/
def macBytes (p : Nat) : List Byte := beBytes 6 (Config.portMac p).toNat

/-- The headers of a multicast message of an instance. -/
def mcHeader (s : State) (k p : Nat) (pdelay : Bool) (port : Nat) : List Byte :=
  let t := s.svcTrans k
  ptpHeader t (mcMac (s.svcProfile k) t pdelay) (macBytes p) [] (mcIp t pdelay) (Config.portIp p (t == 2)) port

/-- The headers of an answer to a frame, to its sender or in multicast. -/
def answerHeader (s : State) (k p : Nat) (b : List Byte) (mc pdelay : Bool) (port : Nat) : List Byte :=
  let t := frameTrans b
  ptpHeader t (if mc then mcMac (s.svcProfile k) t pdelay else sliceOf b 6 6) (if isGroup b then macBytes p else sliceOf b 0 6)
    (sliceOf b 12 (etherOff b - 12)) (if mc then mcIp t pdelay else ipSrc b) (if isGroup b then Config.portIp p (t == 2) else ipDst b) port

/-- The address words 4 to 7 as MAC and IP addresses. -/
def addrMac (p trans : Nat) (w : List Nat) : List Byte :=
  if trans = 0 then beBytes 2 (w.getD 2 0 % 65536) ++ beBytes 4 (w.getD 3 0)
  else beBytes 6 (Config.nextHop p (if trans = 1 then beBytes 4 (w.getD 3 0) else w.flatMap (beBytes 4))).toNat
def addrIp (trans : Nat) (w : List Nat) : List Byte := if trans = 1 then beBytes 4 (w.getD 3 0) else if trans = 2 then w.flatMap (beBytes 4) else []

/-- The headers towards a client of the table (R302). -/
def entryHeader (s : State) (e : List Nat) (port : Nat) : List Byte :=
  let p := entryPort e; let t := entryTrans e; let w := (e.drop 4).take 4
  let vid := entryWord e 10 % 4096
  ptpHeader t (addrMac p t w) (macBytes p) (if vid = 0 then [] else beBytes 2 (s.tpid p) ++ beBytes 2 (s.get (Fld.PTp_VLAN_PCP p) * 2 ^ 13 + vid))
    (addrIp t w) (Config.portIp p (t == 2)) port

/-- The header of an instance's message. -/
def svcHead (s : State) (k p typ flags : Nat) (uni : Bool) (corr : Int) (seq ctl log : Nat) : List Byte :=
  let sdo := s.rdN (Reg.PE_SVCk_SDO k)
  ptpHead typ (s.svcDomain k) (sdo % 16) (bitsOf sdo 8 8) (flags + if uni then 1024 else 0) corr (s.ptpIdent p) seq ctl log

/-- timeSource (R292). -/
def timeSource (s : State) : Nat :=
  match s.rs.cur with
  | some n =>
    if !s.selected then 0xA0
    else if n ≤ 1 then 0x20
    else if n ≤ 5 then (if s.get (Fld.RSn_CFG_KIND n) = 1 then 0x39 else 0x90)
    else if n = 6 || n = 7 then 0x40
    else if n = 8 || n = 9 then 0x90
    else if n = 11 then 0x60
    else 0xA0
  | none => 0xA0

/-- Flags of an Announce (R292). -/
def announceFlags (s : State) : Nat :=
  let st := match s.eb.snap with | some x => x.timeState | none => s.timeState
  let li := s.leapInd s.viewSec
  let soon := s.leapSoon s.viewSec
  let tr := st == 1 || st == 2 || st == 3
  (if soon && li = 1 then 1 else 0) + (if soon && li = 2 then 2 else 0) + (if st != 0 then 4 else 0) + 8 + (if tr then 48 else 0)

/-- An Announce before its authentication (R292). -/
def announceMsg (s : State) (k p seq : Nat) (uni : Bool) (log : Int) : List Byte :=
  let d := s.ownSet
  let acc := match s.validSnap with | some x => clockAccuracy (s.served x s.tc.now p) | none => 0xFE
  s.svcHead k p 11 s.announceFlags uni 0 seq 5 (if uni then 0x7F else wordOf 8 log) ++ List.replicate 10 0 ++
    beBytes 2 (wordOf 16 (s.utcOffsetAt s.viewSec)) ++ [0, BitVec.ofNat 8 d.prio1, BitVec.ofNat 8 d.cls, BitVec.ofNat 8 acc] ++ beBytes 2 d.var ++
    [BitVec.ofNat 8 d.prio2] ++ beBytes 8 d.gm ++ [0, 0, BitVec.ofNat 8 s.timeSource]

/-- PTPAUTH units of an instance's message of `n` octets before its AUTHENTICATION TLV. -/
def svcCost (s : State) (k n : Nat) : Nat := s.sealCost (s.svcAuth k) (s.get (Fld.PE_SVCk_CFG_SPP k)) n
def svcSend (s : State) (k p : Nat) (hdr msg : List Byte) (late : Option Nat) : State :=
  s.peSend p (s.svcAuth k) (s.get (Fld.PE_SVCk_CFG_SPP k)) hdr msg late

/-- The cost of one Sync, its Follow_Up not counted. -/
def syncCost (s : State) (k : Nat) : Nat := s.svcCost k (44 + if s.flag (Fld.PE_SVCk_CFG_TWO_STEP k) then 0 else s.tlvLen)

/-- The number of a port's next two-step message: one more than its latest still waiting. -/
def nextTwoStep (s : State) (p : Nat) : Nat := match (s.pe.twoStep.getD p []).getLast? with | some x => x.id + 1 | none => 0

/-- A port's FOLLOW_UP that PTPAUTH has withheld. -/
def followHeld (s : State) (p n : Nat) : Bool := s.whl.withheld.any (fun c => match c with | .followUp q m _ => q.val == p && m == n | _ => false)

/-- A Sync sets out (R294, R295): a scheduled launch, or a two-step Sync through the switch core. `hdr` and `ghdr` are the headers of event and of
general messages. -/
def sendSync (s : State) (k p seq : Nat) (uni : Bool) (log : Int) (hdr ghdr : List Byte) : State :=
  let lg := if uni then 0x7F else wordOf 8 log
  if s.svcHalted k then s
  else if s.flag (Fld.PE_SVCk_CFG_TWO_STEP k) then
    let s1 := s.svcSend k p hdr (s.svcHead k p 0 512 uni 0 seq 0 lg ++ List.replicate 10 0) (some s.lateAt)
    let fu := ghdr ++ s.svcHead k p 8 0 uni 0 seq 2 lg
    s1.setPe { s1.pe with twoStep := s1.pe.twoStep.modify p (· ++ [⟨s1.nextTwoStep p, k, false, fu⟩]) }
  else
    let base := s.svcHead k p 0 0 uni 0 seq 0 lg ++ List.replicate 10 0
    let len := max 64 (hdr.length + 44 + s.tlvLen + (if s.svcAuth k = 0 then 0 else 26) + 4)
    s.setSw { s.sw with jobs := s.sw.jobs ++ [⟨16, 0, p, len, hdr ++ base, [k, hdr.length], 4000⟩] }

/-- The frame of a scheduled launch for the T granted (R294): with its generation, and whether it is authenticated. None where no time may be
stated or no key used. -/
def peSeal (s : State) (j : LaunchJob) (t : Nat) : Option (List Byte × Nat × Bool) :=
  let k := j.args.getD 0 0
  let o := j.args.getD 1 0
  let tq := t / 2 ^ 32
  let msg := j.tmpl.drop o
  let m := if j.kind = 0 then
      putBytes (putBe msg 8 8 (wordOf 64 ((tq % 65536 : Nat) + s.txExt j.port))) 34 (ptpStamp (tq / 65536))
    else putBe msg 8 8 (wordOf 64 (signedOf 64 (j.args.getD 3 0) + (tq : Int) - (j.args.getD 2 0 : Nat)))
  match s.validSnap with
  | none => none
  | some x =>
    if !s.timeAllowed j.port then none
    else (s.sealMsg (s.svcAuth k) (s.get (Fld.PE_SVCk_CFG_SPP k)) (m ++ s.tlvFor t j.port)).map
      (fun f => (pad60 (reframe (j.tmpl.take o) f), x.gen, s.svcAuth k != 0))

/-- A launch of an authenticated instance whose key has failed (R310). -/
def peKeyGone (s : State) (j : LaunchJob) : Bool :=
  let k := j.args.getD 0 0
  j.eng == 16 && s.svcAuth k != 0 && (s.sealMsg (s.svcAuth k) (s.get (Fld.PE_SVCk_CFG_SPP k)) []).isNone

/-- Instant `u` (2^-16 ns) as whole nanoseconds and remainder. -/
def splitQ (u : Int) : Nat × Int := ((u / 65536).toNat, u % 65536)

/-- What follows a two-step message once its egress stamp is known (R295). Frames of a port leave in order, so that a message before it which is not
withheld did not leave and is forgotten; a message whose Follow_Up is withheld keeps waiting. -/
def sendFollowUp (s : State) (p n t1 : Nat) : State :=
  match (s.pe.twoStep.getD p []).find? (fun x => x.id == n) with
  | none => s
  | some x =>
    let done := s.setPe { s.pe with twoStep := s.pe.twoStep.modify p (fun l => l.filter (fun y => decide (n < y.id) || s.followHeld p y.id)) }
    match ptpOff x.tmpl with
    | none => done
    | some o =>
      let u := splitQ ((t1 : Int) + s.txExt p)
      let cost := s.svcCost x.svc (44 + s.tlvLen)
      if !s.timeAllowed p || !s.svcOn x.svc then done
      else if cost ≠ 0 && !s.admits 3 cost then (s.stall 3).withhold (.followUp (Fin.ofNat 16 p) n t1)
      else
        let s1 := if cost = 0 then done else done.admitted 3 cost
        let msg := (putBe x.tmpl (o + 8) 8 (wordOf 64 u.2)).drop o
        let body := if x.pdelay then msg.take 34 ++ ptpStamp u.1 ++ msg.drop 34 else msg ++ ptpStamp u.1
        s1.svcSend x.svc p (x.tmpl.take o) (body ++ s.tlvFor s.lateAt p) (some s.lateAt)

/-! ### BMCA (R291) -/

/-- The foreign masters of a list after an Announce from `src`. -/
def noteForeign (l : List Foreign) (src : List Byte) (now : Nat) (d : DataSet) : List Foreign :=
  match l.find? (fun f => f.source == src) with
  | some _ => l.map (fun f => if f.source = src then ⟨src, (now :: f.seen).take 2, d⟩ else f)
  | none => l ++ [⟨src, [now], d⟩]

/-- Two Announces within four announce intervals qualify a foreign master (foreignMasterThreshold 2). -/
def foreignOk (s : State) (log : Int) (f : Foreign) : Bool :=
  f.seen.length == 2 && f.ds.steps < 255 && f.seen.all (fun t => decide (s.tc.now ≤ t + secU * 4 * 2 ^ (16 + log).toNat / 65536))

/-- The best qualified foreign master. -/
def bestForeign (s : State) (alt : Bool) (log : Int) (l : List Foreign) : Option Foreign :=
  (l.filter (s.foreignOk log)).foldl (fun b f => match b with
    | none => some f
    | some g => if lexLt (setKey alt 128 f.ds) (setKey alt 128 g.ds) then some f else some g) none

/-- A better foreign master than the instance's own clock is qualified on a port. -/
def betterForeign (s : State) (k p : Nat) : Bool :=
  let alt := profileAlt (s.svcProfile k)
  match s.bestForeign alt (s.svcLog k 0) (s.pePort k p).foreign with
  | some f => lexLt (setKey alt 128 f.ds) (setKey alt (bitsOf (s.rdN (Reg.PE_SVCk_SDO k)) 16 8) s.ownSet)
  | none => false

/-- An Announce joins a port's foreign masters. -/
def takeForeign (s : State) (k p : Nat) (b : List Byte) (o : Nat) : State :=
  (s.bump64 Reg.PE_RX_L 1).modPePort k p (fun x => { x with foreign := noteForeign x.foreign (ptpSource b o) s.tc.now (announceSet b o) })

/-- An Announce for an instance's BMCA (R291). -/
def svcAnnounce (s : State) (k p : Nat) (b : List Byte) (o : Nat) : State :=
  if !s.svcBmca k p || (ptpSource b o).take 8 = (s.ptpIdent p).take 8 then s else
  let s1 := s.takeForeign k p b o
  if s1.betterForeign k p then
    ((s1.modPePort k p (fun x => { x with passive := true })).putPState k p 2).refreshPStates
  else s1

/-- No better foreign master for announceReceiptTimeout intervals (R291). -/
def announceTimeout (s : State) (k p : Nat) : State :=
  if !(s.pePort k p).passive then s
  else (s.modPePort k p (fun x => { x with passive := false, foreign := [] })).refreshPStates

/-! ### Verification of requests (R309) -/

/-- A message that fails its verification (R309). -/
def authFail (s : State) (p : Nat) (b : List Byte) : State :=
  ((s.bump Reg.PE_AUTH_FAIL).evt Fld.PE_EVT_AUTH_FAIL).emitPkt 0x38 8 "AUTH_FAIL" p b

/-! ### Delay_Req and Pdelay_Req (R293 to R297, R300) -/

/-- The client key of a request. -/
def clientKey (k p : Nat) (b : List Byte) (o : Nat) : ClientKey :=
  ⟨k, frameTrans b, p, senderAddr b, [beAt b (o + 20) 4, beAt b (o + 24) 4], beAt b (o + 28) 2⟩

/-- One more multicast Delay_Req in this second, if the rate allows it (R300). -/
def mcRate (s : State) : Bool × State :=
  let n := if s.pe.mcSec = s.viewSec then s.pe.mcCount else 0
  if n < s.rdN Reg.PE_MC_DREQ_MAX then (true, s.setPe { s.pe with mcSec := s.viewSec, mcCount := n + 1 }) else (false, s.bump Reg.PE_RATE_DROP)

/-- A Delay_Resp (R296). -/
def delayResp (s : State) (k p t2 : Nat) (b : List Byte) (o : Nat) (mc : Bool) : State :=
  let u := splitQ ((t2 : Int) - s.rxExt p)
  let log := if mc then wordOf 8 (s.svcLog k 2) else 0x7F
  let msg := s.svcHead k p 9 0 (!mc) (ptpCorr b o - u.2) (ptpSeq b o) 3 log ++ ptpStamp u.1 ++ ptpSource b o
  (s.svcSend k p (s.answerHeader k p b mc false 320) (msg ++ s.tlvFor s.lateAt p) (some s.lateAt)).bump64 Reg.PE_RX_L 1

/-- An expired Delay_Resp grant of a client without scheduled messages ends at its request (R299). -/
def endIfExpired (s : State) (i : Nat) : State :=
  let e := s.tblEntry i
  if entryExpiry e 2 < secOf s.tc.now % 2 ^ 32 && !entryGranted e 0 && !entryGranted e 1 then s.freeEntry i else s

/-- A received Delay_Req (R293, R296, R300, R307, R309). -/
def delayReq (s : State) (p : Nat) (stamp : Option Nat) (b : List Byte) : State :=
  match ptpOff b with
  | none => s
  | some o =>
    match s.svcOf p b o with
    | none => s
    | some k =>
      if s.pState k p ≠ 1 || profileP2P (s.svcProfile k) || ptpType b o ≠ 1 then s
      else match stamp with
        | none => s.bump Reg.PE_NO_STAMP
        | some t2 =>
          if !s.timeAllowed p || !s.stampRx p then s.bump Reg.PE_NO_STAMP
          else
            let v := s.verifyMsg b o
            let mc := isGroup b && s.flag (Fld.PE_SVCk_CFG_MC k)
            let look := if mc || !s.flag Fld.PE_CTL_TABLE_EN then (none, []) else s.lookup (clientKey k p b o)
            let after := s.cacheAll look.2 false
            let cost := v.2 + s.svcCost k (54 + s.tlvLen)
            let a := s.admitBoth after.2 after.1 cost
            if !a.1 then a.2.withhold (.delayReq (Fin.ofNat 16 p) stamp b)
            else
              let s1 := if look.2.isEmpty then a.2 else a.2.noteProbe look.2.length
              if v.1 = .bad then s1.authFail p b
              else if v.1 = .absent && s.svcAuth k = 2 then s1.bump Reg.PE_NOAUTH_DROP
              else if s.svcHalted k then s1
              else if mc then (if s1.mcRate.1 then s1.mcRate.2.delayResp k p t2 b o true else s1.mcRate.2)
              else match look.1 with
                | none => s1.bump Reg.PE_NO_CLIENT
                | some i =>
                  let s2 := s1.endIfExpired i
                  let e := s2.tblEntry i
                  if !entryValid e || !entryGranted e 2 then s2.bump Reg.PE_NO_CLIENT
                  else if entryAuth e && v.1 = .absent then s2.bump Reg.PE_NOAUTH_DROP
                  else s2.delayResp k p t2 b o false

/-- A received Pdelay_Req (R293 to R295). -/
def pdelayReq (s : State) (p : Nat) (stamp : Option Nat) (b : List Byte) : State :=
  match ptpOff b with
  | none => s
  | some o =>
    match s.svcOf p b o with
    | none => s
    | some k =>
      if s.pState k p ≠ 1 || !profileP2P (s.svcProfile k) || ptpType b o ≠ 2 then s
      else match stamp with
        | none => s.bump Reg.PE_NO_STAMP
        | some t2 =>
          if !s.timeAllowed p || !s.stampRx p then s.bump Reg.PE_NO_STAMP
          else
            let v := s.verifyMsg b o
            let a := s.admitBoth s 0 (v.2 + s.svcCost k (54 + s.tlvLen))
            if !a.1 then a.2.withhold (.pdelayReq (Fin.ofNat 16 p) stamp b)
            else if v.1 = .bad then a.2.authFail p b
            else if v.1 = .absent && s.svcAuth k = 2 then a.2.bump Reg.PE_NOAUTH_DROP
            else if s.svcHalted k then a.2
            else
              let s1 := a.2.bump64 Reg.PE_RX_L 1
              let mc := isGroup b
              let hdr := s.answerHeader k p b mc true 319
              let fhdr := s.answerHeader k p b mc true 320
              let seq := ptpSeq b o
              let ask := ptpSource b o
              if s.flag (Fld.PE_SVCk_CFG_TWO_STEP k) then
                let u := splitQ ((t2 : Int) - s.rxExt p)
                let msg := s.svcHead k p 3 512 (!mc) u.2 seq 5 0x7F ++ ptpStamp u.1 ++ ask
                let s2 := s1.svcSend k p hdr (msg ++ s.tlvFor s.lateAt p) (some s.lateAt)
                let fu := fhdr ++ s.svcHead k p 10 0 (!mc) 0 seq 5 0x7F ++ ask
                s2.setPe { s2.pe with twoStep := s2.pe.twoStep.modify p (· ++ [⟨s2.nextTwoStep p, k, true, fu⟩]) }
              else
                let base := s.svcHead k p 3 0 (!mc) 0 seq 5 0x7F ++ List.replicate 10 0 ++ ask
                let len := max 64 (hdr.length + 54 + s.tlvLen + (if s.svcAuth k = 0 then 0 else 26) + 4)
                s1.setSw { s1.sw with jobs := s1.sw.jobs ++ [⟨16, 1, p, len, hdr ++ base, [k, hdr.length, t2, wordOf 64 (ptpCorr b o)], 4000⟩] }

/-! ### Unicast negotiation (R299) -/

/-- Grant types by messageType: Announce, Sync, Delay_Resp. -/
def grantType (m : Nat) : Option Nat := if m = 0xB then some 0 else if m = 0 then some 1 else if m = 9 then some 2 else none
def grantMsg (t : Nat) : Nat := ([0xB, 0, 9] : List Nat).getD t 0

/-- PE_SVCk_ULIM, within −7 to 4. -/
def logRange (s : State) (k : Nat) : Int × Int :=
  let v := s.rdN (Reg.PE_SVCk_ULIM k)
  (clampInt (-7) 4 (signedOf 8 (bitsOf v 0 8)), clampInt (-7) 4 (signedOf 8 (bitsOf v 8 8)))

/-- The calendar's tick at time-core time (R303). -/
def tickOf (t : Nat) : Nat := 1024 * t / secU

/-- The entry with a grant of a type for `dur` seconds at a period. -/
def putGrant (s : State) (e : List Nat) (t : Nat) (log : Int) (dur : Nat) : List Nat :=
  (e.set 11 (setBitAt (withBits (entryWord e 11) (24 - 8 * t) 8 (wordOf 8 log)) t)).set (12 + t) ((secOf s.tc.now + dur) % 2 ^ 32)

/-- One request decided (R299): the duration granted, whether renewal is invited, and the state after. -/
def grantOne (s : State) (key : ClientKey) (vid : Nat) (auth : Bool) (m : Nat) (log : Int) (dur : Nat) : Nat × State :=
  let deny := fun (s : State) => (0, s.bump Reg.PE_DENY)
  match grantType m with
  | none => (0, s)
  | some t =>
    let r := s.logRange key.svc
    let have_ := (s.lookup key).1
    let old := match have_ with | some i => if entryGranted (s.tblEntry i) t then rate16 (entryLog (s.tblEntry i) t) else 0 | none => 0
    if log < r.1 || r.2 < log then deny s
    else if dur < bitsOf (s.rdN Reg.PE_GRANT) 16 16 then deny s
    else if have_.isNone && 1048576 ≤ s.rdN Reg.PE_TBL_USED then deny (s.evt Fld.PE_EVT_TABLE_FULL)
    else if s.rdN Reg.PE_RATE_MAX * 2 * s.get Fld.PE_CAP_LANES < s.pe.commit - old + rate16 log then deny s
    else
      let g := min dur (bitsOf (s.rdN Reg.PE_GRANT) 0 16)
      let blank := [2 ^ 31 + key.svc * 2 ^ 29 + key.trans * 2 ^ 27 + (if auth then 2 ^ 26 else 0) + key.port * 2 ^ 22, 0, 0, 0] ++ key.addr ++ key.ident ++
        [key.num * 65536 + vid] ++ List.replicate 5 0
      let at_ := match have_ with | some i => some (i, s) | none => s.insertEntry key blank
      match at_ with
      | none => deny s
      | some (i, s1) =>
        let e := s1.tblEntry i
        let e1 := if auth then e.set 0 (setBitAt (entryWord e 0) 26) else e
        let s2 := (s1.setPe { s1.pe with commit := s1.pe.commit - old + rate16 log }).putEntry i (s1.putGrant e1 t log g)
        (g, (s2.listEntry i (max s2.pe.lastTick (tickOf s2.tc.now))).refreshTable)

/-- A grant of an entry ends; an entry left with none is freed (R299). -/
def endGrant (s : State) (i t : Nat) : State :=
  let e := s.tblEntry i
  if !entryGranted e t then s else
  let e1 := e.set 11 (clearBitAt (entryWord e 11) t)
  let s1 := (s.setPe { s.pe with commit := s.pe.commit - rate16 (entryLog e t) }).putEntry i e1
  if entryWord e1 11 % 8 = 0 then s1.freeEntry i else (s1.listEntry i (max s1.pe.lastTick (tickOf s1.tc.now))).refreshTable

/-- The TLVs of a Signaling message answered in order (R299): the answers, and the state after. -/
def answerTlvs (s : State) (key : ClientKey) (vid : Nat) (auth : Bool) (b : List Byte) (l : List (Nat × Nat × Nat)) : List Byte × State :=
  l.foldl (fun a x =>
    let m := beAt b (x.2.1 + 4) 1 / 16
    if x.1 = 4 && 6 ≤ x.2.2 then
      let lg := beAt b (x.2.1 + 5) 1
      let g := a.2.grantOne key vid auth m (signedOf 8 lg) (beAt b (x.2.1 + 6) 4)
      (a.1 ++ beBytes 2 5 ++ beBytes 2 8 ++ [BitVec.ofNat 8 (m * 16), BitVec.ofNat 8 lg] ++ beBytes 4 g.1 ++ [0, if g.1 = 0 then 0 else 1], g.2)
    else if x.1 = 6 && 2 ≤ x.2.2 then
      let s1 := match grantType m, (a.2.lookup key).1 with | some t, some i => a.2.endGrant i t | _, _ => a.2
      (a.1 ++ beBytes 2 7 ++ beBytes 2 2 ++ [BitVec.ofNat 8 (m * 16), 0], s1)
    else a) ([], s)

/-- A received Signaling message (R299, R307, R309). -/
def signaling (s : State) (p : Nat) (b : List Byte) : State :=
  match ptpOff b with
  | none => s
  | some o =>
    match s.svcOf p b o with
    | none => s
    | some k =>
      if !s.flag (Fld.PE_SVCk_CFG_UNICAST k) || !s.flag Fld.PE_CTL_TABLE_EN || ptpType b o ≠ 12 then s
      else
        let v := s.verifyMsg b o
        let key := clientKey k p b o
        let l := (ptpTlvs b o).filter (fun x => x.1 == 4 || x.1 == 6)
        let n := l.foldl (fun n x => n + if x.1 = 4 then 12 else 6) 0
        let look := s.lookup key
        let after := s.cacheAll look.2 true
        let a := s.admitBoth after.2 after.1 (v.2 + s.svcCost k (44 + n))
        if !a.1 then a.2.withhold (.signaling (Fin.ofNat 16 p) b)
        else
          let s1 := a.2.noteProbe look.2.length
          if v.1 = .bad then s1.authFail p b
          else if v.1 = .absent && s.svcAuth k = 2 then s1.bump Reg.PE_NOAUTH_DROP
          else if s.svcHalted k || l.isEmpty then s1
          else
            let vid := match outerTag b (s.tpid p) with | some tci => tci % 4096 | none => 0
            let r := s1.answerTlvs key vid (v.1 == .good) b l
            let msg := s.svcHead k p 12 0 true 0 (ptpSeq b o) 5 0x7F ++ ptpSource b o ++ r.1
            (r.2.bump64 Reg.PE_RX_L 1).svcSend k p (s.answerHeader k p b false false 320) msg none

/-! ### The calendar (R303, R304) -/

/-- The messages of a visit of entry `i` that are due from tick `a` to tick `n`. -/
def dueTypes (i a n : Nat) (e : List Nat) : List Nat := [0, 1].filter (fun t => entryGranted e t && nextDue i (entryLog e t) (a - 1) ≤ n)

/-- One message of a visit. -/
def visitSend (s : State) (i t : Nat) : State :=
  let e := s.tblEntry i
  let k := entrySvc e; let p := entryPort e
  if s.pState k p ≠ 1 then s
  else if t = 0 then
    let q := entryWord e 15 / 65536
    (s.svcSend k p (s.entryHeader e 320) (s.announceMsg k p q true (entryLog e 0)) none).putEntry i (e.set 15 ((q + 1) % 65536 * 65536 + entryWord e 15 % 65536))
  else if !s.timeAllowed p then s
  else
    let q := entryWord e 15 % 65536
    (s.sendSync k p q true (entryLog e 1) (s.entryHeader e 319) (s.entryHeader e 320)).putEntry i
      (e.set 15 (entryWord e 15 / 65536 * 65536 + (q + 1) % 65536))

/-- A client's visit (R303): listed under tick `a`, served at tick `n`. -/
def visit (s : State) (i a n : Nat) : State :=
  let e := s.tblEntry i
  if !entryValid e then s.unlist i else
  let due := dueTypes i a n e
  let cost := due.foldl (fun c t => c + if t = 0 then s.svcCost (entrySvc e) 64 else s.syncCost (entrySvc e)) 0
  let after := s.cacheAccess i true
  let adm := s.admitBoth after.2 after.1 cost
  if !adm.1 then (adm.2.unlist i).setPe { (adm.2.unlist i).pe with late := (adm.2.unlist i).pe.late ++ [(i, a)] }
  else
    let s1 := due.foldl (fun t m => t.visitSend i m) adm.2
    let s2 := [0, 1, 2].foldl (fun t m => if entryExpiry (t.tblEntry i) m < secOf t.tc.now % 2 ^ 32 then t.endGrant i m else t) s1
    if entryValid (s2.tblEntry i) then s2.listEntry i n else s2

/-- Visits that waited are served as soon as possible (R303, R307). -/
def lateVisits (s : State) : State :=
  s.pe.late.foldl (fun t x => t.visit x.1 x.2 (max t.pe.lastTick (tickOf t.tc.now))) (s.setPe { s.pe with late := [] })

/-- The lists of the ticks after `lo` up to `hi`, each once, in order (R303, R304). -/
def walkTicks (s : State) (lo hi : Nat) : State :=
  let l := s.pe.cal.map (fun x => (lo + 1 + (x.1 + 16384 - (lo + 1) % 16384) % 16384, x.2))
  let inOrder := (l.filter (fun x => x.1 ≤ hi)).foldr insertTick []
  inOrder.foldl (fun t x => x.2.foldl (fun u i => u.visit i x.1 hi) t) (s.setPe { s.pe with lastTick := hi })
where
  insertTick (x : Nat × List Nat) : List (Nat × List Nat) → List (Nat × List Nat)
    | [] => [x]
    | y :: r => if x.1 ≤ y.1 then x :: y :: r else y :: insertTick x r

/-- The next calendar tick (R303, R304): ticks that a forward step skipped are walked at once; ticks that a backward step repeats are not walked. -/
def calendarTick (s : State) : State :=
  let cur := tickOf s.tc.now
  let s1 := if s.pe.lastTick < cur then s else s.advanceTo ((cur + 1) * (secU / 1024))
  let n := if s.pe.lastTick < cur then cur else cur + 1
  let s2 := s1.lateVisits
  if n ≤ s2.pe.lastTick then s2
  else if !s2.flag Fld.PE_CTL_EN || !s2.flag Fld.PE_CTL_TABLE_EN then s2.setPe { s2.pe with lastTick := n }
  else s2.walkTicks s2.pe.lastTick n

/-! ### Multicast service, table queries and lanes -/

/-- A multicast interval falls due (R292, R294, R295). -/
def multicastDue (s : State) (k p : Nat) (sync : Bool) : State :=
  if !s.svcOn k || s.pState k p ≠ 1 || !s.flag (Fld.PE_SVCk_CFG_MC k) || (sync && !s.timeAllowed p) || s.svcHalted k then s
  else
    let cost := if sync then s.syncCost k else s.svcCost k 64
    let a := s.admitBoth s 0 cost
    if !a.1 then a.2.withhold (.multicastMessageDue (Fin.ofNat 4 k) (Fin.ofNat 16 p) sync)
    else if sync then
      (a.2.sendSync k p (s.pePort k p).seqSync false (s.svcLog k 1) (s.mcHeader k p false 319) (s.mcHeader k p false 320)).modPePort k p
        (fun x => { x with seqSync := (x.seqSync + 1) % 65536 })
    else
      (a.2.svcSend k p (s.mcHeader k p false 320) (s.announceMsg k p (s.pePort k p).seqAnn false (s.svcLog k 0)) none).modPePort k p
        (fun x => { x with seqAnn := (x.seqAnn + 1) % 65536 })

/-- A write to PE_TBL_QIDX (R318): the read is charged to CSTATE, and BUSY stands until the words are valid. -/
def tableQuery (s : State) (v : Nat) : State :=
  ((s.wrN Reg.PE_TBL_QIDX (v % 2 ^ 20)).charge 4 1).wrN Reg.PE_TBL_QSTAT 1

/-- The words of the queried entry become valid, or its read failed (R306, R318). -/
def tableQueryDone (s : State) (ue : Bool) : State :=
  if !s.flag Fld.PE_TBL_QSTAT_BUSY then s
  else
    let i := bitsOf (s.rdN Reg.PE_TBL_QIDX) 0 20
    if ue then (s.freeEntry i).wrN Reg.PE_TBL_QSTAT 2
    else (s.wrWords (Reg.PE_TBL_QW 0) (s.entryView i)).wrN Reg.PE_TBL_QSTAT 0

/-- The oldest request that the engine withholds. -/
def peHeld : Instr → Bool
  | .delayReq _ _ _ => true
  | .pdelayReq _ _ _ => true
  | .signaling _ _ => true
  | _ => false

/-- A lane is fenced (R312). -/
def peLane (s : State) (busy : Bool) : State :=
  let n := s.get Fld.PE_CAP_LANES
  let s1 := if n = 0 then s else s.set Fld.PE_CAP_LANES (n - 1)
  (if busy then s1.bump Reg.PE_LANE_LOST else s1).evt Fld.PE_EVT_LANE_FENCE

end State

end Sys2Proof.Machine
end

