-- ==== Sys2Proof/Machine/PtpClient.lean ====
section
/-! DEFINITION. The PTP engine's client instances (R313 to R315), what Announce does (R291), and the engine's part of a frame boundary. -/

namespace Sys2Proof.Machine

/-- The value that a clockAccuracy code states, ps (R314). -/
def accuracyPs (acc unk : Nat) : Nat :=
  if acc = 0xFE then unk
  else if 0x17 ≤ acc && acc ≤ 0x30 then
    ([1, 2, 10, 25, 100, 250, 1000, 2500, 10000, 25000, 100000, 250000, 1000000, 2500000, 10000000, 25000000, 100000000,
      250000000, 1000000000, 2500000000, 10000000000, 25000000000, 100000000000, 250000000000, 1000000000000, 10000000000000] : List Nat).getD (acc - 0x17) 0
  else Config.accuracyOther acc

/-- The bound that a message's bound TLV states, ps (R233). -/
def boundIn (b : List Byte) (o : Nat) : Option Nat :=
  (ptpTlvs b o).findSome? (fun x =>
    if x.1 = 3 && x.2.2 = 26 && beAt b (x.2.1 + 4) 3 = 0x4A7EC2 && beAt b (x.2.1 + 7) 3 = 1 then some (beAt b (x.2.1 + 14) 8) else none)

namespace State

def client (s : State) (i : Nat) : PeClient := s.pe.clients.getD i PeClient.blank
def modClient (s : State) (i : Nat) (f : PeClient → PeClient) : State := s.setPe { s.pe with clients := s.pe.clients.modify i f }
def clOn (s : State) (i : Nat) : Bool := s.flag Fld.PE_CTL_EN && s.flag (Fld.PE_CLi_CFG_EN i)
def clPort (s : State) (i : Nat) : Nat := s.get (Fld.PE_CLi_CFG_PORT i)
def clProfile (s : State) (i : Nat) : Nat := s.get (Fld.PE_CLi_CFG_PROFILE i)
def clTrans (s : State) (i : Nat) : Nat := s.get (Fld.PE_CLi_CFG_TRANS i)
def clUni (s : State) (i : Nat) : Bool := s.flag (Fld.PE_CLi_CFG_UNICAST i)
def clAuth (s : State) (i : Nat) : Nat := min 2 (s.get (Fld.PE_CLi_CFG_AUTH i))
/-- logSync, logAnnounce and logDelayReq. -/
def clLog (s : State) (i j : Nat) : Int := signedOf 8 (bitsOf (s.rdN (Reg.PE_CLi_INTV i)) (8 * j) 8)
/-- PE_CLi_MADDR0 to 3. -/
def clAddr (s : State) (i : Nat) : List Nat := (List.range 4).map (fun j => s.rdN (Reg.PE_CLi_MADDR0 i + 4 * j))

/-- A message is for a client instance: its port, domain and transport, and with UNICAST its master's address. -/
def clTakes (s : State) (i p : Nat) (b : List Byte) (o : Nat) : Bool :=
  s.clOn i && s.clPort i == p && s.get (Fld.PE_CLi_CFG_DOMAIN i) == ptpDomain b o && s.clTrans i == frameTrans b &&
    (!s.clUni i || senderAddr b == s.clAddr i)

/-- PE_CLi_STAT.STATE: off, listening, negotiating, following. -/
def refreshClient (s : State) (i : Nat) : State :=
  s.set (Fld.PE_CLi_STAT_STATE i) (if !s.clOn i then 0 else if (s.client i).master.isSome then 3 else if s.clUni i then 2 else 1)

/-- The master's foreign record. -/
def clMaster (s : State) (i : Nat) : Option Foreign :=
  match (s.client i).master with
  | some m => (s.client i).foreign.find? (fun f => f.source == m)
  | none => none

/-- The validity that R315 states, for the selector (R113). -/
def clValid (s : State) (i : Nat) : Bool :=
  match s.clMaster i with
  | some f => s.foreignOk (s.clLog i 1) f && f.ds.cls ≤ bitsOf (s.rdN (Reg.PE_CLi_TMO i)) 8 8 && (s.clAuth i != 2 || (s.client i).authOk)
  | none => false

/-- VALID, the master's class and identity, and the slot's validity follow the client. -/
def putClient (s : State) (i : Nat) : State :=
  let v := s.clValid i
  let s1 := (s.setB (Fld.PE_CLi_STAT_VALID i) v).setB (Fld.PE_CLi_STAT_AUTH_OK i) (s.client i).authOk
  let s2 := match s1.clMaster i with
    | some f => ((s1.set (Fld.PE_CLi_STAT_CLASS i) f.ds.cls).wrN (Reg.PE_CLi_GMID_H i) (f.ds.gm / 2 ^ 32)).wrN (Reg.PE_CLi_GMID_L i) (f.ds.gm % 2 ^ 32)
    | none => s1
  (s2.modSlot (6 + i) (fun x => { x with valid := v })).refreshClient i

/-- UTC data from the master's Announce, where its slot is the selection (R83, R315). -/
def clUtc (s : State) (i : Nat) (b : List Byte) (o : Nat) : State :=
  if s.rs.cur ≠ some (6 + i) || !s.selected || !bitAt (ptpFlags b o) 2 then s else
  let cur := signedOf 16 (beAt b (o + 44) 2)
  let pend := if bitAt (ptpFlags b o) 0 then cur + 1 else if bitAt (ptpFlags b o) 1 then cur - 1 else cur
  let utc : Int := (s.viewSec : Int) - cur
  s.utcDeliver cur pend ((utc / 86400 + 1) * 86400 + pend).toNat

/-- An Announce for a client (R313, R315). -/
def clAnnounce (s : State) (i : Nat) (b : List Byte) (o : Nat) (good : Bool) : State :=
  let src := ptpSource b o
  let s1 := (s.bump64 Reg.PE_RX_L 1).modClient i (fun x => { x with foreign := noteForeign x.foreign src s.tc.now (announceSet b o) })
  let best := s1.bestForeign (profileAlt (s1.clProfile i)) (s1.clLog i 1) (s1.client i).foreign
  let pick := if s1.clUni i then (s1.client i).foreign.find? (fun f => f.source == src && s1.foreignOk (s1.clLog i 1) f) else best
  let s2 : State := match pick with
    | some f =>
      if (s1.client i).master = some f.source then s1
      else (s1.modClient i (fun x => { x with master := some f.source, sync := none, last := none, req := none, pd := none })).setB
        (Fld.PE_CLi_STAT_BOUND_TLV i) false
    | none => s1
  if (s2.client i).master = some src then
    ((s2.modClient i (fun x => { x with authOk := good })).putClient i).clUtc i b o
  else s2.putClient i

/-- A received Announce (R291, R309): for the port's instance under BMCA, and for the clients on the port. -/
def announceReceive (s : State) (p : Nat) (b : List Byte) : State :=
  match ptpOff b with
  | none => s
  | some o =>
    if ptpType b o ≠ 11 then s else
    let svc := s.svcOf p b o
    let cls := [0, 1].filter (fun i => s.clTakes i p b o)
    if svc.isNone && cls.isEmpty then s
    else
      let v := s.verifyMsg b o
      let a := s.admitBoth s 0 v.2
      if !a.1 then a.2.withhold (.announceReceive (Fin.ofNat 16 p) b)
      else if v.1 = .bad then a.2.authFail p b
      else
        let s1 := match svc with | some k => a.2.svcAnnounce k p b o | none => a.2
        cls.foldl (fun t i => t.clAnnounce i b o (v.1 == .good)) s1

/-! ### Phase samples (R313, R314) -/

/-- B_up (R314). -/
def clUp (s : State) (i : Nat) : Nat :=
  if s.flag (Fld.PE_CLi_STAT_BOUND_TLV i) then s.rd64 (Reg.PE_CLi_UPB_L i)
  else match s.clMaster i with
    | some f => accuracyPs f.ds.acc (s.rdN (Reg.PE_CLi_ACC_UNK i))
    | none => s.rdN (Reg.PE_CLi_ACC_UNK i)

/-- A usable bound TLV is taken. -/
def clBound (s : State) (i : Nat) (b : List Byte) (o : Nat) (good : Bool) : State :=
  match boundIn b o with
  | some v => if s.clAuth i = 0 || good then (s.wr64 (Reg.PE_CLi_UPB_L i) v).setB (Fld.PE_CLi_STAT_BOUND_TLV i) true else s
  | none => s

/-- A Sync is complete: t1 with its corrections, and t2; the phase sample goes to the selector (R313, R314). -/
def clSample (s : State) (i : Nat) (t1 t2 : Int) : State :=
  let mpd := (s.client i).mpd
  let off := t2 - t1 - mpd
  let mpdPs : Int := -((-(mpd * 1000)) / 65536)
  let up := s.clUp i
  let bound : Int := (up + s.rdN (Reg.PE_CLi_LOCAL i) : Nat) + (if s.flag (Fld.PE_CLi_CFG_PD_WORST i) then mpdPs else 0)
  let s1 := (s.wrI64 (Reg.PE_CLi_OFS_L i) off).wr64 (Reg.PE_CLi_UPB_L i) up
  let s2 := (s1.modClient i (fun x => { x with last := some (t1, t2), sync := none })).putClient i
  s2.deliver (6 + i) { phase := some (-off), atTime := (t2 * 2 ^ 32).toNat, freq := none, bound := satNat 32 bound.toNat, stale := false, uncal := false,
                       unsealed := false }

/-- Messages for a client are verified; whether the message may be used, and the state after (R309). -/
def clVerify (s : State) (i p : Nat) (b : List Byte) (o : Nat) (again : Instr) : Option Bool × State :=
  let v := s.verifyMsg b o
  let a := s.admitBoth s 0 v.2
  if !s.clOn i || s.clPort i ≠ p then (none, s)
  else if !a.1 then (none, a.2.withhold again)
  else if v.1 = .bad then (none, a.2.authFail p b)
  else (some (v.1 == .good), a.2.bump64 Reg.PE_RX_L 1)

/-- A received Sync (R313). -/
def clSync (s : State) (i : Nat) (stamp : Option Nat) (b : List Byte) : State :=
  match ptpOff b, stamp with
  | some o, some t =>
    if ptpType b o ≠ 0 || !s.clTakes i (s.clPort i) b o || (s.client i).master ≠ some (ptpSource b o) then s else
    let p := s.clPort i
    let a := s.clVerify i p b o (.clientSync (Fin.ofNat 2 i) stamp b)
    match a.1 with
    | none => a.2
    | some good =>
      let t2 : Int := (t : Int) - s.rxExt p
      let corr := ptpCorr b o + s.asym p
      let s1 := (a.2.modClient i (fun x => { x with authOk := good })).clBound i b o good
      if ptpTwoStep b o then s1.modClient i (fun x => { x with sync := some (ptpSeq b o, t2.toNat, corr) })
      else s1.clSample i (ptpStampAt b (o + 34) + corr) t2
  | _, _ => s

/-- meanPathDelay is taken (R313). -/
def putMpd (s : State) (i : Nat) (twice : Int) : State :=
  let m := s.roundFree twice 2
  let s1 := s.modClient i (fun x => { x with mpd := m, req := none, pd := none })
  let ps := s1.roundFree (m * 1000) 65536
  if ps < 0 then s1.wr (Reg.PE_CLi_MPD i) (Config.negativeDelay ps) else s1.wrSat (Reg.PE_CLi_MPD i) ps.toNat

/-- A received Follow_Up or Pdelay_Resp_Follow_Up (R313, R315). -/
def clFollowUp (s : State) (i : Nat) (b : List Byte) : State :=
  match ptpOff b with
  | none => s
  | some o =>
    let p := s.clPort i
    if !s.clTakes i p b o then s else
    let a := s.clVerify i p b o (.clientFollowUp (Fin.ofNat 2 i) b)
    match a.1 with
    | none => a.2
    | some good =>
      let x := a.2.client i
      if ptpType b o = 8 then
        match x.sync with
        | some (q, t2, corr) =>
          if x.master = some (ptpSource b o) && q = ptpSeq b o then
            let s1 := (a.2.modClient i (fun y => { y with authOk := good })).clBound i b o good
            s1.clSample i (ptpStampAt b (o + 34) + ptpCorr b o + corr) t2
          else a.2
        | none => a.2
      else if ptpType b o = 10 then
        match x.pd with
        | some (q, t2, t41, corr) =>
          if q = ptpSeq b o && sliceOf b (o + 44) 10 = s.ptpIdent p then a.2.putMpd i (t41 - (ptpStampAt b (o + 34) - t2) - corr - ptpCorr b o) else a.2
        | none => a.2
      else a.2

/-! ### Requests to the master (R313) -/

/-- The headers of a client's message. -/
def clHeader (s : State) (i port : Nat) (pdelay : Bool) : List Byte :=
  let p := s.clPort i; let t := s.clTrans i
  if s.clUni i then ptpHeader t (addrMac p t (s.clAddr i)) (macBytes p) [] (addrIp t (s.clAddr i)) (Config.portIp p (t == 2)) port
  else ptpHeader t (mcMac (s.clProfile i) t pdelay) (macBytes p) [] (mcIp t pdelay) (Config.portIp p (t == 2)) port

/-- A client's message goes out through switch port 16. -/
def clSend (s : State) (i : Nat) (hdr msg : List Byte) : State :=
  let a := s.admitBoth s 0 (s.sealCost (s.clAuth i) (s.get (Fld.PE_CLi_CFG_SPP i)) msg.length)
  if !a.1 then a.2 else a.2.peSend (s.clPort i) (s.clAuth i) (s.get (Fld.PE_CLi_CFG_SPP i)) hdr msg none

/-- A client's message header. -/
def clHead (s : State) (i typ : Nat) (corr : Int) (seq ctl : Nat) : List Byte :=
  ptpHead typ (s.get (Fld.PE_CLi_CFG_DOMAIN i)) 0 0 (if s.clUni i then 1024 else 0) corr (s.ptpIdent (s.clPort i)) seq ctl 0x7F

/-- Delay_Req or Pdelay_Req is sent (R298, R313). -/
def clDelayReq (s : State) (i : Nat) : State :=
  if !s.clOn i || (s.client i).master.isNone then s else
  let p := s.clPort i
  let q := (s.client i).seq
  let pd := profileP2P (s.clProfile i)
  let msg := if pd then s.clHead i 2 0 q 5 ++ List.replicate 20 0 else s.clHead i 1 (-s.asym p) q 1 ++ List.replicate 10 0
  (s.clSend i (s.clHeader i 319 pd) msg).modClient i (fun x => { x with seq := (q + 1) % 65536, req := some q, pd := none })

/-- A received Delay_Resp or Pdelay_Resp for the request in flight, whose egress stamp was `t3` (R313). -/
def clDelayResp (s : State) (i t3 : Nat) (stamp : Option Nat) (b : List Byte) : State :=
  match ptpOff b with
  | none => s
  | some o =>
    let p := s.clPort i
    if !s.clTakes i p b o || (s.client i).req ≠ some (ptpSeq b o) || sliceOf b (o + 44) 10 ≠ s.ptpIdent p then s else
    let a := s.clVerify i p b o (.clientDelayResp (Fin.ofNat 2 i) t3 stamp b)
    match a.1 with
    | none => a.2
    | some _ =>
      let sent : Int := (t3 : Int) + s.txExt p
      if ptpType b o = 9 then
        match (a.2.client i).last with
        | some (t1, t2) => a.2.putMpd i ((t2 - sent) + (ptpStampAt b (o + 34) - ptpCorr b o - t1))
        | none => a.2
      else if ptpType b o = 3 then
        match stamp with
        | some t =>
          let t41 : Int := (t : Int) - s.rxExt p - sent
          if ptpTwoStep b o then a.2.modClient i (fun x => { x with pd := some (ptpSeq b o, ptpStampAt b (o + 34), t41, ptpCorr b o) })
          else a.2.putMpd i (t41 - ptpCorr b o)
        | none => a.2
      else a.2

/-- A request for a unicast grant is sent to the master (R313). -/
def clRequest (s : State) (i typ : Nat) : State :=
  if !s.clOn i || !s.clUni i then s else
  let q := (s.client i).seq
  let lg := wordOf 8 (s.clLog i (if typ = 0 then 1 else if typ = 1 then 0 else 2))
  let msg := s.clHead i 12 0 q 5 ++ List.replicate 10 0xFF ++ beBytes 2 4 ++ beBytes 2 6 ++ [BitVec.ofNat 8 (grantMsg typ * 16), BitVec.ofNat 8 lg] ++
    beBytes 4 (Config.clientDuration i).toNat
  (s.clSend i (s.clHeader i 320 false) msg).modClient i (fun x => { x with seq := (q + 1) % 65536 })

/-- The grants that a client needs: Announce and Sync, and Delay_Resp under end-to-end delay. -/
def clWanted (s : State) (i : Nat) : List Nat := if profileP2P (s.clProfile i) then [0, 1] else [0, 1, 2]

/-- A Signaling message with grants from the master (R313). -/
def clGrant (s : State) (i : Nat) (b : List Byte) : State :=
  match ptpOff b with
  | none => s
  | some o =>
    if ptpType b o ≠ 12 || !s.clTakes i (s.clPort i) b o || !s.clUni i then s else
    let a := s.clVerify i (s.clPort i) b o (.clientGrant (Fin.ofNat 2 i) b)
    match a.1 with
    | none => a.2
    | some _ =>
      ((ptpTlvs b o).filter (fun x => x.1 == 5 && 8 ≤ x.2.2)).foldl (fun t x =>
        match grantType (beAt b (x.2.1 + 4) 1 / 16) with
        | some k =>
          let d := beAt b (x.2.1 + 6) 4
          t.modClient i (fun y => { y with grants := y.grants.filter (fun g => g.typ != k) ++ (if d = 0 then [] else [⟨k, d⟩]) })
        | none => t) a.2

/-- Announce or Sync has been missing too long (R315): the slot's signal is lost, and a master whose Announces have stopped is left. -/
def clTimeout (s : State) (i : Nat) : State :=
  if !s.clOn i then s else
  let tmo := bitsOf (s.rdN (Reg.PE_CLi_INTV i)) 24 8
  let gone := match s.clMaster i with
    | some f => match f.seen with
      | t :: _ => decide (t + secU * tmo * 2 ^ (16 + s.clLog i 1).toNat / 65536 ≤ s.tc.now)
      | [] => true
    | none => true
  let s1 := s.modClient i (fun x => { x with sync := none })
  let s2 := if gone then s1.modClient i (fun x => { x with master := none, foreign := [], last := none, req := none, pd := none }) else s1
  (s2.putClient i).signalLoss (6 + i)

/-- A client's part of a frame boundary: it starts or stops with EN. -/
def clFrame (s : State) (i : Nat) : State :=
  let was := s.get (Fld.PE_CLi_STAT_STATE i) != 0
  if s.clOn i && !was then
    let s1 := s.refreshClient i
    if s1.clUni i then (s1.clWanted i).foldl (fun t g => t.clRequest i g) s1 else s1
  else if !s.clOn i && was then
    ((s.modClient i (fun _ => PeClient.blank)).putClient i).signalLoss (6 + i)
  else s

/-- The engine's part of a frame boundary (R288, R310, R316). -/
def peFrame (s : State) : State :=
  let s1 := [0, 1, 2, 3].foldl (fun t k => t.svcFrame k) s
  ([0, 1].foldl (fun t i => t.clFrame i) s1).refreshPe.refreshPStates

end State

end Sys2Proof.Machine
end

