-- ==== Sys2Proof/Machine/Ntp.lean ====
section
/-! DEFINITION. The NTP and NTS engine (chapter 13), and the client estimate that goes with its sketch (R468). -/

namespace Sys2Proof.Machine

/-- ln n for n > 0, to far below the resolution of any register, by the series of atanh on n's mantissa. -/
def lnSeries (z : Rat) : Nat → Rat → Nat → Rat
  | 0, _, _ => 0
  | k + 1, p, n => 2 * p / (n : Nat) + lnSeries z k (p * z * z) (n + 2)
def ln2 : Rat := lnSeries (1 / 3) 40 (1 / 3) 1
def lnOf (n : Nat) : Rat :=
  let k := Nat.log2 n
  let x : Rat := (n : Nat) / ((2 ^ k : Nat) : Rat)
  let z := (x - 1) / (x + 1)
  (k : Nat) * ln2 + lnSeries z 40 z 1

/-- E of R468 from the registers that are not 0. -/
def hllEstimate (l : List (Nat × Nat)) : Rat :=
  let m : Rat := 16384
  let alpha : Rat := (7213 / 10000) / (1 + (1079 / 1000) / m)
  let v := 16384 - l.length
  let sum := l.foldl (fun (a : Rat) e => a + 1 / ((2 ^ e.2 : Nat) : Rat)) (v : Nat)
  let e := alpha * m * m / sum
  if e ≤ 5 / 2 * m && v ≠ 0 then m * (lnOf 16384 - lnOf v) else e

/-- The UDP payload of a frame. -/
def udpPayload (b : List Byte) : List Byte := sliceOf b (l4Off b + 8) (beAt b (l4Off b + 4) 2 - 8)

/-- The extension fields of a payload after the header (R321): (type, offset, length); none where they do not parse. -/
def ntpFields : Nat → List Byte → Nat → Option (List (Nat × Nat × Nat))
  | 0, _, _ => none
  | k + 1, p, o =>
    if o = p.length then some []
    else
      let n := beAt p (o + 2) 2
      if p.length < o + 4 || n % 4 ≠ 0 || n < 16 || p.length < o + n then none
      else (ntpFields k p (o + n)).map (fun r => (beAt p o 2, o, n) :: r)

/-- The types that make a request an NTS request (R322). -/
def ntsType (t : Nat) : Bool := t == 0x0104 || t == 0x0204 || t == 0x0304 || t == 0x0404

/-- A request that has passed R321. -/
structure NtpReq where
  pay : List Byte
  fields : List (Nat × Nat × Nat)
  deriving DecidableEq, Repr

def NtpReq.nts (r : NtpReq) : Bool := r.fields.any (fun f => ntsType f.1)
def NtpReq.ofType (r : NtpReq) (t : Nat) : List (Nat × Nat × Nat) := r.fields.filter (fun f => f.1 == t)
/-- The Unique Identifier, the Cookie's body and the Authenticator's parts. -/
def NtpReq.uid (r : NtpReq) : List Byte := match r.ofType 0x0104 with | (_, o, n) :: _ => sliceOf r.pay o n | [] => []
def NtpReq.cookie (r : NtpReq) : List Byte := match r.ofType 0x0204 with | (_, o, _) :: _ => sliceOf r.pay (o + 4) 100 | [] => []
def NtpReq.authOff (r : NtpReq) : Nat := match r.ofType 0x0404 with | (_, o, _) :: _ => o | [] => 0
def NtpReq.places (r : NtpReq) : Nat := (r.ofType 0x0304).length

/-- The form of an NTS request (R330). -/
def NtpReq.ntsOk (r : NtpReq) : Bool :=
  let body := fun (f : Nat × Nat × Nat) => f.2.2 - 4
  (r.ofType 0x0104).length == 1 && (r.ofType 0x0104).all (fun f => 32 ≤ body f && body f ≤ 64) &&
  (r.ofType 0x0204).length == 1 && (r.ofType 0x0204).all (fun f => body f == 100) &&
  r.places ≤ 7 && (r.ofType 0x0304).all (fun f => body f == 100) &&
  (r.ofType 0x0404).length == 1 &&
  (r.ofType 0x0404).all (fun f => beAt r.pay (f.2.1 + 4) 2 == 16 && beAt r.pay (f.2.1 + 6) 2 == 16 && f.2.2 == 40 && f.2.1 + f.2.2 == r.pay.length)

/-- NTS units of one AES-SIV operation (R333). -/
def sivCost (client : Bool) (a p : Nat) : Nat := (if client then 2 else 0) + ceilDiv a 16 + 1 + max 1 (ceilDiv p 16) + ceilDiv p 16

/-- An NTP extension field. -/
def ntpField (t : Nat) (body : List Byte) : List Byte := beBytes 2 t ++ beBytes 2 (body.length + 4) ++ body

/-- What a timestamp field and the text fields of a response hold. -/
structure NtpHead where
  li : Nat
  stratum : Nat
  poll : Nat
  disp : Nat
  refid : Nat
  ref : Nat
  org : Nat
  rx : Nat
  tx : Nat
  deriving DecidableEq, Repr

/-- The 48 octets of a response header for a request (R323). -/
def ntpHeader (r : NtpReq) (h : NtpHead) : List Byte :=
  [BitVec.ofNat 8 (h.li * 64 + beAt r.pay 0 1 / 8 % 8 * 8 + 4), BitVec.ofNat 8 h.stratum, BitVec.ofNat 8 h.poll, 0xE2, 0, 0, 0, 0] ++
    beBytes 4 h.disp ++ beBytes 4 h.refid ++ beBytes 8 h.ref ++ beBytes 8 h.org ++ beBytes 8 h.rx ++ beBytes 8 h.tx

/-- Four ASCII octets as a number. -/
def ascii (a b c d : Nat) : Nat := a * 2 ^ 24 + b * 2 ^ 16 + c * 2 ^ 8 + d

namespace State

def setNe (s : State) (x : Ntp) : State := { s with ne := x }

/-! ### Generations (R335, R336) -/

def genReg (j : Nat) : Nat := if j = 0 then Reg.NE_GEN_CUR else if j = 1 then Reg.NE_GEN_VO0 else Reg.NE_GEN_VO1
def genHeld (s : State) (j : Nat) : Bool := bitAt (s.rdN (genReg j)) 31
def genSlotOf (s : State) (j : Nat) : Nat := bitsOf (s.rdN (genReg j)) 16 7
def genNum (s : State) (j : Nat) : Nat := bitsOf (s.rdN (genReg j)) 0 16

/-- The key of a generation that is held and whose slot may still be used. -/
def genKey (s : State) (j : Nat) : Option (List Byte) :=
  if s.genHeld j then
    (if s.slotValid (s.genSlotOf j) && s.masterOk (s.genSlotOf j) .nts && s.lcOk (s.genSlotOf j) then some (s.keyOfSlot (s.genSlotOf j)) else none)
  else none

/-- A generation is released: the key store invalidates its slot (R335). -/
def releaseGen (s : State) (j : Nat) : State :=
  if s.genHeld j then (s.invalidate (s.genSlotOf j)).wrN (genReg j) (s.genNum j) else s

/-- The service master: the lowest slot that NTS_ENG may derive from (R335). -/
def serviceMaster (s : State) : Option Nat :=
  (List.range 128).find? (fun k => s.slotValid k && s.useOk k .derive && s.masterOk k .nts && s.lcOk k)

/-- A rotation starts (R335): the next generation's key is derived; it comes into force at the next frame boundary. -/
def rotate (s : State) : State :=
  if s.ne.rot.isSome then s else
  match s.serviceMaster with
  | none => s
  | some m =>
    let free := (List.range 128).filter (fun k => !s.slotValid k)
    match free[Config.genSlot s.freeCtr % max 1 free.length]? with
    | none => s
    | some k =>
      let g := (s.genNum 0 + 1) % 65536
      let attr := 2 * 2 ^ 28 + bitsOf (s.rdN (Reg.KS_SLOTs_ATTR0 m)) 11 17 * 2 ^ 11
      let key := hkdf (s.keyOfSlot m) [] (Config.genInfo g) 32
      let depth := (s.get (Fld.KS_SLOTs_ATTR1_DEPTH m) + 1) % 8
      let s1 := ((s.charge 12 1).putSlot k attr g (some m) depth key).tick
      s1.setNe { s1.ne with rot := some (k, g) }

/-- Generation `g` in slot `k` becomes CURRENT, and the former one VERIFY_ONLY (R335). -/
def genCurrent (s : State) (k g : Nat) : State :=
  let third := s.genHeld 0 && s.genHeld 1 && s.genHeld 2
  let s1 := if third then (s.releaseGen 2).evt Fld.NE_EVT_EARLY_RETIRE else s
  let now := secOf s1.tc.now
  let s2 := if s1.genHeld 0 then
      let t := if s1.genHeld 1 then (s1.wrN Reg.NE_GEN_VO1 (s1.rdN Reg.NE_GEN_VO0)) else s1
      (t.wrN Reg.NE_GEN_VO0 (t.rdN Reg.NE_GEN_CUR)).setNe { t.ne with voSince := [now, t.ne.voSince.getD 0 0] }
    else s1
  ((s2.wrN Reg.NE_GEN_CUR (2 ^ 31 + k * 65536 + g)).evt Fld.NE_EVT_ROTATED).emit 0x39 10 "GENERATION"

/-- The generation derived comes into force (R335), and goes to the pair's standby (R421). -/
def rotateFrame (s : State) : State :=
  match s.ne.rot with
  | none => s
  | some (k, g) =>
    let s0 := s.setNe { s.ne with rot := none }
    if !s0.slotValid k then s0 else (s0.genCurrent k g).mirQueue 3 k [g, s0.tc.now / msU % 2 ^ 32]

/-- The generations whose grace has passed are released at a boundary (R335). -/
def graceOver (s : State) (j : Nat) : Bool :=
  s.genHeld j && decide (s.ne.voSince.getD (j - 1) 0 + clampNat 3600 2592000 (s.rdN Reg.NE_GRACE) ≤ secOf s.tc.now)

/-- The smear window is in force at a time (R326). -/
def smearing (s : State) (t : Nat) : Bool :=
  s.flag Fld.NE_CTL_SMEAR && s.utcArmed && (s.utcE ≤ secOf t + 86400) && secOf t < s.utcE

/-- NTS_HALT, TAMPERED and SMEARING follow (R326, R336, R337). -/
def refreshNe (s : State) : State :=
  let halt := s.flag Fld.NE_CTL_EN && (s.genKey 0).isNone
  let s1 := if halt && !s.flag Fld.NE_STAT_NTS_HALT then (s.setB Fld.NE_STAT_NTS_HALT true).evt Fld.NE_EVT_NTS_HALT else s.setB Fld.NE_STAT_NTS_HALT halt
  let s2 := if s1.ks.zeroised then s1.setB Fld.NE_STAT_TAMPERED true
    else if s1.lcEff = 2 then s1.setB Fld.NE_STAT_TAMPERED false else s1
  s2.setB Fld.NE_STAT_SMEARING (s2.smearing s2.tc.now)

/-! ### Time on the wire (R325 to R327) -/

/-- The smear offset at a time, in seconds (R326). -/
def smearOffset (s : State) (t : Nat) : Rat :=
  let d : Int := (t : Int) - ((s.utcE : Int) - 86400) * (secU : Nat)
  ((d : Int) : Rat) / ((secU : Nat) : Rat) / 86400 * ((s.utcDelta : Int) : Rat)

/-- A time-core time as an NTP timestamp (R325, R326). -/
def ntpTime (s : State) (t : Nat) : Nat :=
  if s.smearing t then
    let u : Rat := ((t : Nat) : Rat) / ((secU : Nat) : Rat) - (((signedOf 16 (s.rdN Reg.TC_UTC_CUR)) : Int) : Rat) - s.smearOffset t + 2208988800
    wordOf 64 (u * (2 ^ 32 : Nat) + 1 / 2).floor
  else
    let sec := secOf t
    let u := s.utcView sec - (if s.utcInserted sec then 1 else 0) + 2208988800
    let f : Nat := ((nsOf t * 2 ^ 32 + frac32Of t) * 2 + 1000000000) / 2000000000
    wordOf 64 (u * (2 ^ 32 : Nat) + ((f : Nat) : Int))

/-- B_served, and B_NTP of R327 (ps), for a departure at `t` from a port. -/
def ntpBound (s : State) (x : Snapshot) (t p : Nat) : Nat :=
  let sm := if s.smearing t then (ratAbs (s.smearOffset t) * 1000000000000).ceil.toNat else 0
  s.served x t p + 117 + sm

/-- The Reference ID (R324). -/
def refId (s : State) (stratum : Nat) : Nat :=
  if stratum = 16 then ascii 73 78 73 84
  else if stratum ≠ 1 then s.rdN Reg.NE_REFID2
  else match s.rs.cur with
    | some n =>
      if !s.selected then ascii 76 79 67 76
      else if n ≤ 1 then
        (match s.get Fld.GN_CFG_TREF with | 0 => ascii 71 80 83 0 | 1 => ascii 71 65 76 0 | _ => ascii 66 68 83 0)
      else if n ≤ 5 then (if s.get (Fld.RSn_CFG_KIND n) = 1 then ascii 73 82 73 71 else ascii 80 80 83 0)
      else if n = 6 || n = 7 then ascii 80 84 80 0
      else if n = 8 || n = 9 then ascii 76 73 78 75
      else if n = 11 then ascii 72 79 83 84
      else ascii 76 79 67 76
    | none => ascii 76 79 67 76

/-- Poll limits, and the poll of a response (R323). -/
def pollMax (s : State) : Int := signedOf 8 (bitsOf (s.rdN Reg.NE_POLL) 8 8)
def pollOf (s : State) (r : NtpReq) : Nat := wordOf 8 (clampInt (signedOf 8 (bitsOf (s.rdN Reg.NE_POLL) 0 8)) s.pollMax (signedOf 8 (beAt r.pay 2 1)))

/-- The header of a timed response for a departure at `t` (R323, R327). -/
def timedHead (s : State) (r : NtpReq) (x : Snapshot) (rx t p : Nat) : NtpHead :=
  let st := s.mapStratum x
  let li := if s.mapLi3 x || clampNat 1000 4000000000 (s.rdN Reg.NE_MAX_BOUND) * 1000 < s.served x t p then 3
    else if s.smearing t then 0 else s.leapInd s.viewSec
  { li := li, stratum := st, poll := s.pollOf r, disp := rootDispersion (s.ntpBound x t p), refid := s.refId st,
    ref := match s.eb.selSnap with | some y => s.ntpTime y.t0 | none => 0, org := beAt r.pay 40 8,
    rx := s.ntpTime (rx * 2 ^ 32), tx := s.ntpTime t }

/-- The header while VALID is 0 (R329). -/
def unsyncHead (s : State) (r : NtpReq) : NtpHead :=
  let st := s.get (Fld.EB_MAP_STRATUM s.timeState)
  { li := 3, stratum := st, poll := s.pollOf r, disp := (Config.unsyncDispersion s.freeCtr).toNat, refid := s.refId st, ref := 0,
    org := beAt r.pay 40 8, rx := 0, tx := 0 }

/-- Kiss-o'-Death headers: RATE (R339) and NTS NAK (R332). -/
def rateHead (s : State) (r : NtpReq) : NtpHead :=
  { li := 3, stratum := 0, poll := wordOf 8 s.pollMax, disp := 0, refid := ascii 82 65 84 69, ref := 0, org := beAt r.pay 40 8, rx := 0, tx := 0 }
def nakHead (s : State) (r : NtpReq) : NtpHead :=
  { li := 3, stratum := 0, poll := s.pollOf r, disp := 0, refid := ascii 78 84 83 78, ref := 0, org := 0, rx := 0, tx := 0 }

/-- The headers before a response (R323). -/
def ntpFrame (s : State) (b : List Byte) (pay : List Byte) : List Byte :=
  let v := s.rdN Reg.NE_TXCFG
  let ttl := BitVec.ofNat 8 (v % 256)
  let tc := bitsOf v 8 6 * 4
  let udp := beBytes 2 123 ++ beBytes 2 (udpSrc b) ++ [0, 0, 0, 0]
  let l2 := sliceOf b 6 6 ++ sliceOf b 0 6 ++ sliceOf b 12 (etherOff b - 12)
  let l3 := if isIp4 b then [0x08, 0x00, 0x45, BitVec.ofNat 8 tc, 0, 0, 0, 0, 0x40, 0, ttl, 17, 0, 0] ++ ipDst b ++ ipSrc b
    else [0x86, 0xDD] ++ beBytes 4 (6 * 2 ^ 28 + tc * 2 ^ 20) ++ [0, 0, 17, ttl] ++ ipDst b ++ ipSrc b
  pad60 (reframe (l2 ++ l3 ++ udp) pay)

/-- The bound field where the request asks for it (R234). -/
def wantsBound (s : State) (r : NtpReq) : Bool :=
  let t := bitsOf (s.rdN Reg.EB_NTP_EFTYPE) 0 16
  t != 0 && r.fields.any (fun f => f.1 == t)
def boundPart (s : State) (r : NtpReq) (x : Snapshot) (t p : Nat) : List Byte :=
  if s.wantsBound r then s.boundField x (s.ntpBound x t p) else []

/-- A cookie for a pair of keys under CURRENT (R331). -/
def mintCookie (s : State) (key : List Byte) (gen : Nat) (keys : List Byte) : List Byte × State :=
  let nonce := s.drawBytes 16
  (beBytes 2 gen ++ [0, 0] ++ nonce ++ Config.sivSeal key [nonce] keys, s.tick)

/-- `n` cookies. -/
def mintCookies (s : State) (key : List Byte) (gen : Nat) (keys : List Byte) : Nat → List (List Byte) × State
  | 0 => ([], s)
  | n + 1 => let c := s.mintCookie key gen keys; let r := c.2.mintCookies key gen keys n; (c.1 :: r.1, r.2)

/-- The Authenticator of a response over what precedes it (R332). -/
def authField (s : State) (s2c ad plain : List Byte) : List Byte :=
  let nonce := s.drawBytes 16
  let c := Config.sivSeal s2c [ad, nonce] plain
  ntpField 0x0404 (beBytes 2 16 ++ beBytes 2 c.length ++ nonce ++ c)

/-- A response leaves through switch port 17 (R329, R332, R339). -/
def neSend (s : State) (p : Nat) (b pay : List Byte) : State := s.engSend 17 p (s.ntpFrame b pay) none

/-! ### The rate policy (R338, R339, R468) -/

/-- The client key. -/
def rateKey (s : State) (b : List Byte) : List Byte :=
  if isIp4 b then ipSrc b
  else
    let n := clampNat 32 128 (bitsOf (s.rdN Reg.NE_RATE_CFG) 0 8)
    beBytes (ceilDiv n 8) (fromBe (ipSrc b) / 2 ^ (128 - n) * 2 ^ (8 * ceilDiv n 8 - n))

/-- Salt r of the sketch (0 to 3) or of the estimate (4). -/
def salt (s : State) (r : Nat) : List Byte := (List.range 4).map (fun j => Config.randomByte s.ne.saltDraw (4 * r + j))

/-- Counters that a key uses. -/
def sketchCells (s : State) (key : List Byte) : List Nat := (List.range 4).map (fun r => r * 65536 + crc32c (s.salt r ++ key) % 65536)

/-- The request is counted; its estimate. -/
def countClient (s : State) (b : List Byte) : Nat × State :=
  let key := s.rateKey b
  let cells := s.sketchCells key
  let sk := cells.foldl (fun l c => alPut l c (min (2 ^ 32 - 1) ((alLook l c).getD 0 + 1))) s.ne.sketch
  let est := cells.foldl (fun m c => min m ((alLook sk c).getD 0)) (2 ^ 32 - 1)
  let h := crc32c (s.salt 4 ++ key)
  let top := h / 2 ^ 14
  let rho := if top = 0 then 19 else 18 - Nat.log2 top
  let hll := alPut s.jn.hll (h % 2 ^ 14) (max ((alLook s.jn.hll (h % 2 ^ 14)).getD 0) rho)
  let n := min (2 ^ 32 - 1) (s.rdN Reg.NE_SK_N + 1)
  let s1 := (s.setNe { s.ne with sketch := sk }).wrN Reg.NE_SK_N n
  (est, ({ s1 with jn := { s1.jn with hll := hll } }).wrSat Reg.NE_SK_EPS (ceilDiv (n * Config.eulerQ64) (2 ^ 80)))

/-- What the rate policy says. -/
inductive RateSays where
  | serve
  | kiss
  | drop
  deriving DecidableEq, Repr

/-- The rate check (R338, R339). -/
def rateCheck (s : State) (b : List Byte) : RateSays × State :=
  if !s.flag Fld.NE_CTL_RATE_EN then (.serve, s) else
  let a := s.admitFor 13 1
  if !a.1 then (.serve, a.2.bump Reg.NE_RATE_SKIP)
  else
    let c := a.2.countClient b
    let lim := s.rdN Reg.NE_RATE_LIM
    let drop := max lim (s.rdN Reg.NE_RATE_DROP)
    if c.1 ≤ lim then (.serve, c.2) else if c.1 ≤ drop then (.kiss, c.2.bump Reg.NE_KOD) else (.drop, c.2.bump Reg.NE_RATE_DROP_CNT)

/-- A sketch period ends (R338, R467, R468). -/
def sketchPeriod (s : State) : State :=
  let est := s.ratFree (hllEstimate s.jn.hll)
  let s1 := s.setNe { s.ne with sketchOld := s.ne.sketch, sketch := [], skMs := 0 }
  let s2 := (((s1.wrN Reg.NE_SK_N 0).wrN Reg.NE_SK_EPS 0).setB Fld.NE_SK_STAT_CUR (!s.flag Fld.NE_SK_STAT_CUR)).wrapF Fld.NE_SK_STAT_PERIODS
  let s3 := (s2.setB Fld.NE_SK_STAT_CLEARING false).wrSat Reg.JN_HLL_EST est.toNat
  ({ s3 with jn := { s3.jn with hll := [], hllExport := if s3.flag Fld.JN_STAT_CFG_HLL_EN then some s.jn.hll else none,
                                skExport := if s3.flag Fld.JN_STAT_CFG_SK_EN then 1048576 else 0 } }).tick

/-! ### Requests (R321 to R333) -/

/-- The service address matches (R321). -/
def neAddr (s : State) (b : List Byte) : Bool :=
  let en := s.rdN Reg.NE_ADDR_EN
  let d := ipDst b
  if isIp4 b then (List.range 4).any (fun k => bitAt en k && beBytes 4 (s.rdN (Reg.NE_ADDR4_ k)) == d)
  else (List.range 4).any (fun k => bitAt en (4 + k) && (List.range 4).flatMap (fun j => beBytes 4 (s.rdN (Reg.NE_ADDR6_ (4 * k + j)))) == d)

/-- The checks of R321 in order: the counter of the first that fails, or the request. -/
def ntpChecks (s : State) (stamp : Option Nat) (b : List Byte) : Nat ⊕ NtpReq :=
  let p := udpPayload b
  let ver := beAt p 0 1 / 8 % 8
  if !s.flag Fld.NE_CTL_EN then .inl Reg.NE_OFF_DROP
  else if !s.neAddr b then .inl Reg.NE_ADDR_DROP
  else if stamp.isNone then .inl Reg.NE_NO_STAMP
  else if p.length < 48 || clampNat 48 1400 (bitsOf (s.rdN Reg.NE_MAXLEN) 0 11) < p.length then .inl Reg.NE_FMT_DROP
  else if beAt p 0 1 % 8 ≠ 3 then .inl Reg.NE_MODE_DROP
  else if !(ver == 4 || (ver == 3 && p.length == 48)) then .inl Reg.NE_MODE_DROP
  else match ntpFields 100 p 48 with
    | none => .inl Reg.NE_FMT_DROP
    | some l => .inr ⟨p, l⟩

/-- Length of a response's frame with the FCS. -/
def ntpLen (b : List Byte) (n : Nat) : Nat := max 64 (etherOff b + 2 + (if isIp4 b then 20 else 40) + 8 + n + 4)

/-- A timed answer sets out: a reservation is due for it (R328). -/
def neJob (s : State) (p rx : Nat) (b : List Byte) (len kind : Nat) (args : List Nat) : State :=
  let lead := clampNat 4000 20000 (bitsOf (s.rdN Reg.NE_LEAD) 0 16)
  s.setSw { s.sw with jobs := s.sw.jobs ++ [⟨17, kind, p, len, b, rx :: args, lead⟩] }

/-- A plain request (R328, R329, R337, R339). -/
def plainRequest (s : State) (p rx : Nat) (b : List Byte) (r : NtpReq) : State :=
  if !s.flag Fld.NE_CTL_PLAIN_EN then s.bump Reg.NE_MODE_DROP
  else if s.flag Fld.NE_STAT_TAMPERED && !s.flag Fld.NE_CTL_TAMPER_PLAIN then s.bump Reg.NE_TAMPER_DROP
  else
    let c := s.rateCheck b
    match c.1 with
    | .drop => c.2
    | .kiss => c.2.neSend p b (ntpHeader r (s.rateHead r))
    | .serve =>
      if c.2.validSnap.isNone then (c.2.neSend p b (ntpHeader r (s.unsyncHead r))).bump Reg.NE_UNSYNC
      else c.2.neJob p rx b (ntpLen b (48 + if s.wantsBound r then 20 else 0)) 0 []

/-- NTS units of a whole request (R333). -/
def ntsCost (s : State) (r : NtpReq) (kiss : Bool) : Nat :=
  let n := if kiss then 0 else 1 + r.places
  let a := 48 + r.uid.length + (if s.wantsBound r && s.validSnap.isSome && !kiss then 20 else 0)
  9 + sivCost true r.authOff 0 + 9 * n + sivCost true a (104 * n)

/-- A response with its Authenticator: header, Unique Identifier, the bound field, and cookies sealed (R332). -/
def ntsPay (s : State) (r : NtpReq) (h : NtpHead) (bound s2c : List Byte) (cookies : List (List Byte)) : List Byte :=
  let ad := ntpHeader r h ++ r.uid ++ bound
  ad ++ s.authField s2c ad (cookies.flatMap (fun c => ntpField 0x0204 c))

/-- An NTS NAK (R332). -/
def ntsNak (s : State) (p : Nat) (b : List Byte) (r : NtpReq) : State := (s.neSend p b (ntpHeader r (s.nakHead r) ++ r.uid)).bump Reg.NE_NAK
def ntsFail (s : State) (p : Nat) (b : List Byte) (r : NtpReq) : State :=
  ((s.ntsNak p b r).bump Reg.NE_AUTH_FAIL).evt Fld.NE_EVT_AUTH_FAIL

/-- An NTS request whose units are admitted (R332, R339). -/
def ntsAnswer (s : State) (p rx : Nat) (b : List Byte) (r : NtpReq) (kiss : Bool) : State :=
  match s.genKey 0 with
  | none => s.bump Reg.NE_NTS_HALT_DROP
  | some cur =>
    let g := beAt r.cookie 0 2
    match [0, 1, 2].findSome? (fun j => if s.genHeld j && s.genNum j = g then s.genKey j else none) with
    | none => s.ntsNak p b r
    | some key =>
      match Config.sivOpen key [sliceOf r.cookie 4 16] (r.cookie.drop 20) with
      | none => s.ntsFail p b r
      | some keys =>
        let c2s := keys.take 32
        let s2c := (keys.drop 32).take 32
        let nonce := sliceOf r.pay (r.authOff + 8) 16
        if (Config.sivOpen c2s [r.pay.take r.authOff, nonce] (sliceOf r.pay (r.authOff + 24) 16)).isNone then s.ntsFail p b r
        else if kiss then (s.neSend p b (s.ntsPay r (s.rateHead r) [] s2c [])).tick
        else
          let m := s.mintCookies cur (s.genNum 0) keys (1 + r.places)
          if s.validSnap.isNone then
            ((m.2.neSend p b (m.2.ntsPay r (s.unsyncHead r) [] s2c m.1)).tick.bump Reg.NE_UNSYNC).pcEvent 0x0F01 0 1
          else
            let n := 48 + r.uid.length + (if s.wantsBound r then 20 else 0) + 40 + 104 * m.1.length
            m.2.neJob p rx b (ntpLen b n) 1 (s.genSlotOf 0 :: (s2c ++ m.1.flatten).map (·.toNat))

/-- A received NTP datagram (R321, R322, R333). -/
def ntpRequest (s : State) (p : Nat) (stamp : Option Nat) (b : List Byte) : State :=
  match s.ntpChecks stamp b with
  | .inl c => s.bump c
  | .inr r =>
    let rx := stamp.getD 0
    let s0 := s.bump64 Reg.NE_RX_L 1
    if !r.nts then s0.plainRequest p rx b r
    else if !s.flag Fld.NE_CTL_NTS_EN || !r.ntsOk then s0.bump Reg.NE_FMT_DROP
    else
      let c := s0.rateCheck b
      if c.1 = .drop then c.2
      else if (s.genKey 0).isNone then c.2.bump Reg.NE_NTS_HALT_DROP
      else
        let units := s.ntsCost r (c.1 == .kiss)
        if !c.2.admits 2 units then (s.stall 2).withhold (.ntpRequest (Fin.ofNat 16 p) stamp b)
        else (c.2.admitted 2 units).ntsAnswer p rx b r (c.1 == .kiss)

/-- The frame of a timed answer for the T granted (R323, R332): with the generation of its snapshot and whether it is authenticated; none where no
time may be stated, or where the key has gone (R336). -/
def neSeal (s : State) (j : LaunchJob) (t : Nat) : Option (List Byte × Nat × Bool) :=
  let r : NtpReq := ⟨udpPayload j.tmpl, (ntpFields 100 (udpPayload j.tmpl) 48).getD []⟩
  let rx := j.args.getD 0 0
  match s.validSnap with
  | none => none
  | some x =>
    let h := s.timedHead r x rx t j.port
    let bound := s.boundPart r x t j.port
    if j.kind = 0 then some (s.ntpFrame j.tmpl (ntpHeader r h ++ bound), x.gen, false)
    else
      let bytes := (j.args.drop 2).map (fun n => BitVec.ofNat 8 n)
      let cookies := (List.range ((bytes.length - 32) / 100)).map (fun k => sliceOf bytes (32 + 100 * k) 100)
      if s.slotValid (j.args.getD 1 0) then some (s.ntpFrame j.tmpl (s.ntsPay r h bound (bytes.take 32) cookies), x.gen, true) else none

/-- A sealed answer was discarded because its key has gone (R336). -/
def neKeyGone (s : State) (j : LaunchJob) : Bool := j.eng == 17 && j.kind == 1 && !s.slotValid (j.args.getD 1 0)

/-! ### The mint queue (R334) -/

def mqSize (s : State) : Nat := let n := s.get Fld.NE_MQ_CFG_LOG2SIZE; if 4 ≤ n && n ≤ 12 then 2 ^ n else 16
def mqHead (s : State) : Nat := bitsOf (s.rdN Reg.NE_MQ_HEAD) 0 12 % s.mqSize
def mqBase (s : State) : Nat := s.rd64 Reg.NE_MQ_BASE_L / 4096 * 4096
def mqWaiting (s : State) : Bool := s.mqHead != bitsOf (s.rdN Reg.NE_MQ_TAIL) 0 12 % s.mqSize

/-- The entry at HEAD ends with a RESULT: cookies first, then the keys zeroed, then bytes 0 to 9. -/
def mintDone (s : State) (a result gen : Nat) (cookies : List (List Byte)) : State :=
  let s1 := (cookies.zipIdx).foldl (fun t c => t.hostWrite (a + 80 + 100 * c.2) c.1) s
  let s2 := s1.hostWrite (a + 16) (List.replicate 64 0)
  let w := s2.hostWord a
  let w1 := withBits (putBitAt (setBitAt w 31) 30 (result != 0)) 24 4 result
  let s3 := (s2.hostWrite (a + 8) (leBytes 2 gen)).hostWrite a (leBytes 4 w1)
  let s4 := ((s3.wrN Reg.NE_MQ_HEAD ((s.mqHead + 1) % s.mqSize)).wrapBy Reg.NE_MQ_DONE 1).setB Fld.NE_STAT_MQ_BUSY false
  let s5 := if result ≠ 0 then s4.bump Reg.NE_MQ_ERR else s4
  { s5 with msix := s5.msix ++ [Msi.mk 0x079 0] }

/-- The mint entry at HEAD is processed (R334, R337). -/
def mintEntry (s : State) (readError : Bool) : State :=
  if !s.flag Fld.NE_MQ_CFG_EN || !s.mqWaiting then s else
  let a := s.mqBase + 1024 * s.mqHead
  let n := s.hostWord a % 16
  let busy := s.setB Fld.NE_STAT_MQ_BUSY true
  if readError then (busy.mintDone a 3 0 []).raiseFault 18 0 false
  else if n = 0 || 8 < n then (busy.charge 5 90).mintDone a 1 0 []
  else
    match s.genKey 0 with
    | none => (busy.charge 5 90).mintDone a 2 0 []
    | some key =>
      if s.flag Fld.NE_STAT_TAMPERED then (busy.charge 5 90).mintDone a 2 0 []
      else if !busy.admits 2 (9 * n) then (busy.stall 2).withhold (.mintEntry readError)
      else if !busy.admits 5 (80 + 74 + 100 * n) then (busy.stall 5).withhold (.mintEntry readError)
      else
        let s1 := (busy.admitted 2 (9 * n)).admitted 5 (80 + 74 + 100 * n)
        let m := s1.mintCookies key (s.genNum 0) (s.hostRead (a + 16) 64) n
        m.2.mintDone a 0 (s.genNum 0) m.1

/-! ### Frame boundary and lanes -/

/-- The engine's part of a frame boundary (R335, R338, SERVING). -/
def neFrame (s : State) : State :=
  let s1 := s.rotateFrame
  let s2 := (s1.setB Fld.NE_STAT_SERVING (s1.ne.launched != 0)).setNe { s1.ne with launched := 0, skMs := s1.ne.skMs + 1 }
  let per := clampNat 100 60000 (bitsOf (s2.rdN Reg.NE_SK_PER) 0 16)
  let s3 := if per ≤ 2 * s2.ne.skMs then
      (s2.setNe { s2.ne with sketchOld := [] }).setB Fld.NE_SK_STAT_CLEARING (!s2.ne.sketchOld.isEmpty)
    else s2
  s3.refreshNe

/-- A lane is fenced (R341). -/
def neLane (s : State) (busy : Bool) : State :=
  let n := s.get Fld.NE_CAP_LANES
  let s1 := if n = 0 then s else s.set Fld.NE_CAP_LANES (n - 1)
  (if busy then s1.bump Reg.NE_LANE_LOST else s1).evt Fld.NE_EVT_LANE_FENCE

end State

end Sys2Proof.Machine
end

