-- ==== Sys2Proof/Machine/Pips.lean ====
section
/-! DEFINITION. The Pip engines (chapter 15): instruction words, budgets, failure and restart, and the instructions, up to the register
accesses of PEEK and POKE, which `PipFabric` completes. -/

namespace Sys2Proof.Machine

/-! ### Instruction words (R373, R374) -/

/-- The words of the four formats. -/
def encR (op d a b m : Nat) : Nat := op * 2 ^ 26 + d * 2 ^ 22 + a * 2 ^ 18 + b * 2 ^ 14 + m
def encI (op d a imm : Nat) : Nat := op * 2 ^ 26 + d * 2 ^ 22 + a * 2 ^ 18 + imm
def encB (op a b t : Nat) : Nat := op * 2 ^ 26 + a * 2 ^ 22 + b * 2 ^ 18 + t
def encL (op d imm : Nat) : Nat := op * 2 ^ 26 + d * 2 ^ 22 + imm

/-- Whether a word is legal: its OP is in the table, its reserved bits are 0, and its operands are permitted (R373, R374, R376, R379). -/
def legalWord (w : Nat) : Bool :=
  let op := bitsOf w 26 6
  let rd := bitsOf w 22 4
  let mod := bitsOf w 0 14
  if op = 0 || op = 0x26 || op = 0x38 then w % 2 ^ 26 = 0
  else if op ≤ 0x0B then mod = 0
  else if 0x10 ≤ op && op ≤ 0x16 || op = 0x18 || op = 0x19 then true
  else if op = 0x17 then bitsOf w 16 6 = 0
  else if 0x20 ≤ op && op ≤ 0x23 then bitsOf w 10 8 = 0
  else if op = 0x24 || op = 0x25 then bitsOf w 10 16 = 0
  else if op = 0x30 then rd = 0 && mod = 0
  else if op = 0x31 then mod ≤ 1 && rd ≤ 14 && bitsOf w 14 8 = 0
  else if op = 0x32 then mod < 64
  else if op = 0x33 then mod < 256 && rd = 0 && bitsOf w 14 4 = 0
  else if op = 0x34 then mod < 1024 && bitsOf w 14 4 = 0 && bitsOf w 18 4 + bitsOf mod 8 2 + 1 ≤ 16
  else if op = 0x35 then mod ≤ 1 && rd ≤ 12 && bitsOf w 14 8 = 0
  else (op = 0x36 || op = 0x37) && mod = 0

/-- An arithmetic immediate, sign-extended to a word (R374). -/
def sext18 (imm : BitVec 18) : Nat := wordOf 32 (signedOf 18 imm.toNat)

namespace State

/-! ### Registers and state of a Pip -/

/-- Whether a Pip is a service Pip, an output Pip, a classifier (R371). -/
def isService (k : Nat) : Bool := 24 ≤ k
def isOutPip (k : Nat) : Bool := 8 ≤ k && k < 24
def isClassifier (k : Nat) : Bool := k < 8

/-- A Pip register, and the state with one changed. -/
def p (s : State) (k r : Nat) : Nat := (s.pip k).regs.getD r 0
def setP (s : State) (k r v : Nat) : State := s.modPip k (fun x => { x with regs := x.regs.set r (v % 2 ^ 32) })

/-- The next instruction index, and the state with it changed. -/
def pcOf (s : State) (k : Nat) : Nat := s.get (Fld.PPk_PC_PC k)
def setPc (s : State) (k v : Nat) : State := s.set (Fld.PPk_PC_PC k) v

/-- What a Pip waits for, with WAITING of PPk_STAT and PPk_PC. -/
def setWait (s : State) (k : Nat) (w : PipWait) : State :=
  let b := match w with | .time _ _ => true | .recv _ => true | _ => false
  ((s.modPip k (fun x => { x with wait := w })).setB (Fld.PPk_STAT_WAITING k) b).setB (Fld.PPk_PC_WAITING k) b

/-- A yield point is passed (R384). -/
def yieldPoint (s : State) (k : Nat) : State := s.modPip k (fun x => { x with wdog := 0 })

/-- The word a Pip would execute next: none where its program is a ROM program, whose words the spec does not give. -/
def pipWord (s : State) (k : Nat) : Option Nat :=
  let m := (s.pip k).imem
  if m.isEmpty then none else some (m.getD (s.pcOf k) (Config.imemFill k (s.pcOf k)).toNat)

/-! ### Triggers, lines and holds -/

/-- The triggers that a Pip owns. -/
def pipTriggers (s : State) (k : Nat) : List Nat := (List.range 32).filter (fun n => s.trgOwner n == 0x20 + k)

/-- The Pip's triggers are disarmed (R385, R386). -/
def disarmAll (s : State) (k : Nat) : State := (s.pipTriggers k).foldl (fun t n => if (t.trgArmed n).isSome then t.setTrigger n none else t) s

/-- A Pip's level reaches its output (R378, R392). -/
def pipLevel (s : State) (k : Nat) (l : Bool) : State :=
  if isOutPip k then (s.modPip k (fun x => { x with level := l })).pipEdge (k - 8) l else s

/-- The Pip's lines are released (R385). -/
def releaseLines (s : State) (k : Nat) : State :=
  let s1 := s.modPip k (fun x => { x with nextLevel := none })
  if (s.pip k).level then s1.pipLevel k false else s1

/-- Indirect set 2 is released by its holder (R50): an access in progress completes, and its data are discarded. -/
def indFree (s : State) (k : Nat) : State :=
  if s.get (Fld.IND_STAT_OWNER 2) = k then
    let s1 := (s.set (Fld.IND_STAT_OWNER 2) 0xFF).set (Fld.IND_CTL_HOLD 2) 0
    { s1 with ind := { s1.ind with sets := s1.ind.sets.modify 2 (fun x => { x with drop := x.pending.isSome }) } }
  else s

/-- After a trigger's fire: the level that its owner has set for it reaches the output (R378). -/
def firePip (s : State) (n : Nat) : State :=
  match s.trgOutput n with
  | some o =>
    match (s.pip (o + 8)).nextLevel with
    | some l => (s.modPip (o + 8) (fun x => { x with nextLevel := none })).pipLevel (o + 8) l
    | none => s
  | none => s

/-- Time reaches an armed trigger's target, less the advance of its owner's output (R84, R396). -/
def fireAt (s : State) (n : Nat) (a : ArmedTrigger) : State :=
  let at' := ((a.target : Int) - s.trgAdvance n).toNat
  let s1 := s.advanceTo at'
  (s1.trgFire n a (at' - s1.tc.now) false).firePip n

/-- What an applied step does to the armed triggers (R87). -/
def trgStepAll (s : State) (t t' : Nat) : State :=
  (List.range 32).foldl (fun u n =>
    let v := u.trgStep t t' n
    if v.get (Fld.TRGn_STAT_FIRES n) = u.get (Fld.TRGn_STAT_FIRES n) then v else v.firePip n) s

/-! ### Classifier verdicts (R381) -/

/-- A frame goes on with a verdict. -/
def verdict (s : State) (f : RunFrame) (mask prio ring code : Nat) : State :=
  s.swReceive { f.rep with prio := prio, ring := ring, code := code } mask (cellsOf (s.maxLen f.rep.src))

/-- A frame takes the FALLBACK mask of its rule (R381, R386). -/
def fallback (s : State) (k : Nat) (f : RunFrame) : State :=
  let act := s.rdN (Reg.PPk_RULEj_ACT k f.rule)
  if f.rule < 32 then s.verdict f f.fallback (bitsOf act 20 3) (bitsOf act 24 4) (s.rdN (Reg.PPk_RULEj_CODE k f.rule))
  else s.verdict f f.fallback 0 0 0

/-- The classifier is called for the head of its queue (R381). -/
def callHead (s : State) (k : Nat) : State :=
  match (s.pip k).queue with
  | [] => s
  | f :: _ =>
    let r := if f.rule < 32 then f.rule else (Config.noRule s.freeCtr).toNat
    let s1 := ((s.tick.setP k 0 (f.rep.src * 2 ^ 16 + f.len % 2 ^ 14)).setP k 1 r).setWait k .none
    s1.setPc k ((s1.pip k).entries.getD 1 0)

/-- A frame that matched a RUN rule or none (R381). -/
def runFrame (s : State) (k : Nat) (f : RunFrame) : State :=
  if !s.pipAlive k then s.fallback k f
  else if 64 ≤ (s.pip k).queue.length then (s.bump (Reg.PPk_CLS_DROP k)).verdict f 0 0 0 0
  else
    let s1 := s.modPip k (fun x => { x with queue := x.queue ++ [f] })
    if (s.pip k).queue.isEmpty then s1.callHead k else s1

/-- The verdict that a classifier returns at YIELD (R381). -/
def giveVerdict (s : State) (k : Nat) : State :=
  match (s.pip k).queue with
  | [] => s
  | f :: r =>
    let s1 := (s.modPip k (fun x => { x with queue := r })).verdict f (s.p k 0 % 2 ^ 20) (s.p k 1 % 8) (bitsOf (s.p k 1) 8 4) (s.p k 2)
    s1.callHead k

/-! ### The data store (R372, R374, R381) -/

/-- A data word. The frame that a classifier is called for shows at 0x780. -/
def dataByte (s : State) (k a : Nat) : Byte :=
  match (s.pip k).queue with
  | f :: _ => if isClassifier k && 0x780 ≤ a then f.rep.bytes.getD (a - 0x780) 0 else memByte (s.pip k).dmem a
  | [] => memByte (s.pip k).dmem a
def dataWord (s : State) (k a : Nat) : Nat := fromLe ((List.range 4).map (fun i => s.dataByte k (a + i)))

/-- A data word is stored; the window of a called frame ignores it. -/
def storeWord (s : State) (k a v : Nat) : State :=
  if isClassifier k && !(s.pip k).queue.isEmpty && 0x780 ≤ a then s
  else s.modPip k (fun x => { x with dmem := memStoreList x.dmem a (leBytes 4 v) })

/-! ### Restart, failure and fencing (R385 to R387) -/

/-- What a restart and a stop have in common: waits, stalls, lines, triggers and holds end. -/
def pipClear (s : State) (k : Nat) : State :=
  (((((s.setWait k .none).setB (Fld.PPk_STAT_STALLED k) false).disarmAll k).releaseLines k).indFree k).modPip k
    (fun x => { x with inbox := [], wdog := 0, block := 0 })

/-- A restart (R385). -/
def pipRestart (s : State) (k : Nat) : State :=
  let s1 := (s.pipClear k).modPip k (fun x => { x with regs := List.replicate 16 0, dmem := x.init, queue := [] })
  (s1.setPc k ((s1.pip k).entries.getD (s1.pip k).entry 0)).setB (Fld.PPk_STAT_RUNNING k) true

/-- The effects of R386 on what depends on the Pip. -/
def pipGone (s : State) (k : Nat) : State :=
  let q := (s.pip k).queue
  let s1 := ((s.pipClear k).modPip k (fun x => { x with queue := [] })).setB (Fld.PPk_STAT_RUNNING k) false
  let s2 := q.foldl (fun t f => t.fallback k f) s1
  let d := (s2.pip k).decode
  if isOutPip k && 1 ≤ d && d ≤ 4 then s2.signalLoss (1 + d) else s2

/-- A Pip is fenced until chip reset (R385, R386). -/
def pipFence (s : State) (k : Nat) : State :=
  let s1 := ((s.pipGone k).setB (Fld.PPk_STAT_FENCED k) true).wrN (Reg.PPk_CAP k) (putBitAt (s.rdN (Reg.PPk_CAP k)) 0 false)
  let s2 := s1.evt (Fld.PPk_EVT_FENCE k)
  if isService k then { s2 with whl := { s2.whl with servicePips := s2.whl.servicePips - 1, rescaleDue := true } } else s2

/-- The code of a cause (R385). -/
def causeCode : PipCause → Nat
  | .wdog => 1
  | .illegal => 2
  | .dataRange => 3
  | .parity => 4

/-- A Pip fails at an instruction index (R385): a second failure within 1 s of a restart fences it, otherwise it restarts. -/
def pipFail (s : State) (k cause index : Nat) : State :=
  if !s.pipAlive k then s else
  let again := match (s.pip k).failedAt with | some t => decide (s.tc.now ≤ t + secU) | none => false
  let s1 := ((s.set (Fld.PPk_LASTFAIL_CAUSE k) cause).set (Fld.PPk_LASTFAIL_INDEX k) index).bump (Reg.PPk_FAILS k)
  let s2 := (s1.emit (0x40 + k) 3 "PIP_FAIL").evt (Fld.PPk_EVT_FAIL k)
  if again && !s.consequential 24 then s2.pipFence k
  else (s2.pipRestart k).modPip k (fun x => { x with failedAt := some s.tc.now })

/-- A write of PPk_CMD (R387). -/
def wrPipCmd (s : State) (k v : Nat) : State := if bitAt v 0 && s.pipAlive k then s.pipRestart k else s

/-- A write of PPk_MBOX_CMD (R379, R391): the host's words reach the inbox. -/
def wrMboxCmd (s : State) (k v : Nat) : State :=
  if !bitAt v 8 then s else
  let w := (List.range (v % 4 + 1)).map (fun i => s.rdN (Reg.PPk_MBOX k i))
  s.tell k ⟨0x2A, w.headD 0 % 2 ^ 16, w.tail⟩

/-! ### The frame boundary (R382, R383, R387) -/

/-- The decoder in service for REFINn. -/
def decoderOf (s : State) (n : Nat) : Option Nat :=
  ((List.range 16).map (· + 8)).find? (fun k => s.pipAlive k && (s.pip k).decode == n + 1)

/-- DECODE as asked for; two Pips that name the same REFIN are refused (R382). -/
def decodeFrame (s : State) : State :=
  let want := fun (k : Nat) => s.get (Fld.PPk_CFG_DECODE k)
  let clash := fun (k : Nat) => 1 ≤ want k && want k ≤ 4 && ((List.range 16).any (fun j => j + 8 != k && want (j + 8) == want k))
  ((List.range 16).map (· + 8)).foldl (fun t k =>
    if clash k then (if t.flag (Fld.PPk_EVT_CFG_REFUSED k) then t else t.evt (Fld.PPk_EVT_CFG_REFUSED k))
    else t.modPip k (fun x => { x with decode := if want k ≤ 4 then want k else 0 })) s

/-- EN and ENTRY as they stand at the boundary, and the cycles of the frame just completed (R383, R387). -/
def pipFrameOne (s : State) (k : Nat) : State :=
  let x := s.pip k
  let s1 := (s.wrSat (Reg.PPk_CYC k) x.cycles).modPip k (fun y => { y with cycles := 0 })
  if s.flag (Fld.PPk_STAT_FENCED k) then s1
  else
    let en := s.flag (Fld.PPk_CFG_EN k)
    let entry := s.get (Fld.PPk_CFG_ENTRY k)
    let s2 := s1.modPip k (fun y => { y with entry := entry, en := en })
    if x.en && !en then s2.pipGone k
    else if en && (!x.en || entry != x.entry) then s2.pipRestart k
    else s2

/-- The Pips at a frame boundary. A slot of KIND 1 without a decoder Pip loses its signal (R382). -/
def pipFrame (s : State) : State :=
  let s1 := (List.range 28).foldl pipFrameOne s.decodeFrame
  (List.range 4).foldl (fun t n =>
    if t.get (Fld.RSn_CFG_KIND (2 + n)) = 1 && (t.rs.slots.getD (2 + n) Slot.blank).present && (t.decoderOf n).isNone then t.signalLoss (2 + n)
    else t) s1

/-! ### Execution -/

/-- A service Pip obtains a block of 64 cycles (R383), or is held. -/
def pipBlock (s : State) (k : Nat) : State :=
  let held := fun (t : State) => (t.setB (Fld.PPk_STAT_STALLED k) true).bump (Reg.PPk_STALLS k)
  if bitsOf (s.rdN (Reg.PPk_CEIL k)) 0 20 ≤ (s.pip k).cycles then held s
  else
    let a := s.admitFor 6 64
    if a.1 then (a.2.modPip k (fun x => { x with block := x.block + 64 })).setB (Fld.PPk_STAT_STALLED k) false else held a.2

/-- A held Pip asks again (R103). -/
def pipRetry (s : State) (k : Nat) : State := if s.pipAlive k && s.flag (Fld.PPk_STAT_STALLED k) then s.pipBlock k else s

/-- The Pip is at an instruction whose word is `w`, and nothing holds it. -/
def pipReady (s : State) (k w : Nat) : Bool :=
  s.pipAlive k && !s.safe && (s.pip k).wait == .none && !s.flag (Fld.PPk_STAT_STALLED k) &&
    (s.pip k).wdog ≤ bitsOf (s.rdN (Reg.PPk_WDOG k)) 0 16 && (match s.pipWord k with | some x => x == w | none => true)

/-- One instruction: `w` is its word, `cost` its Pip cycles, `f` what it does once the next index is in place. -/
def pipStep (s : State) (k w cost : Nat) (f : State → State) : State :=
  if !s.pipReady k w then s
  else
    let s1 := if isService k && (s.pip k).block < cost then s.pipBlock k else s
    if s1.flag (Fld.PPk_STAT_STALLED k) then s1
    else f ((s1.modPip k (fun x => { x with wdog := x.wdog + 1, cycles := x.cycles + cost, block := x.block - cost })).setPc k (s.pcOf k + 1))

/-- The instruction just fetched fails (R385). -/
def failHere (s : State) (k cause : Nat) : State := s.pipFail k cause ((s.pcOf k + 1023) % 1024)

/-- A load or store at a data address, which must be aligned and within the store (R374). -/
def atData (s : State) (k a : Nat) (f : State → State) : State := if a % 4 = 0 && a < 0x800 then f s else s.failHere k 3

/-- An R-format operation on two registers. -/
def alu (s : State) (k op d a b : Nat) (g : Nat → Nat → Nat) : State :=
  s.pipStep k (encR op d a b 0) 1 (fun t => t.setP k d (g (t.p k a) (t.p k b)))

/-- An I-format operation on a register and an immediate. -/
def aluI (s : State) (k op d a imm : Nat) (g : Nat → Nat) : State :=
  s.pipStep k (encI op d a imm) 1 (fun t => t.setP k d (g (t.p k a)))

/-- A branch. -/
def branch (s : State) (k op a b tgt : Nat) (c : Nat → Nat → Bool) : State :=
  s.pipStep k (encB op a b tgt) 1 (fun t => if c (t.p k a) (t.p k b) then t.setPc k tgt else t)

/-! ### Time and messages (R375 to R379) -/

/-- The time view has reached the operand of WAITT (R375). -/
def reached (s : State) (sec ns : Nat) : Bool :=
  let d := signedOf 32 (wordOf 32 ((s.viewSec : Int) - sec))
  0 < d || (d == 0 && ns ≤ s.viewNs)

/-- The time-core time that the operand of WAITT stands for. -/
def waitTarget (s : State) (sec ns : Nat) : Nat :=
  let d := signedOf 32 (wordOf 32 ((sec : Int) - s.viewSec))
  timeOf ((s.viewSec : Int) + d).toNat ns 0

/-- A waiting Pip resumes as the view reaches its operand. -/
def waitResume (s : State) (k : Nat) : State :=
  match (s.pip k).wait with
  | .time sec ns =>
    let s1 := if s.reached sec ns then s else s.advanceTo (s.waitTarget sec ns + 4 * nsU)
    if s.counting || s.reached sec ns then s1.tick.setWait k .none else s
  | _ => s

/-- TRIG (R377). -/
def pipTrig (s : State) (k d sec ns n : Nat) (disarm : Bool) : State :=
  if s.trgOwner n ≠ 0x20 + k then (s.evt Fld.TC_EVT_TRG_DENIED).setP k d 1
  else
    let s1 := if disarm then s.setTrigger n none
      else s.tick.trgArmAt n (timeOf (s.viewSec / 2 ^ 32 * 2 ^ 32 + sec) ns 0)
    s1.setP k d 0

/-- EMIT (R378). -/
def pipEmit (s : State) (k line : Nat) (v : Bool) : State :=
  let own := isOutPip k && 3 ≤ (s.out (k - 8)).cfg.mode && (s.pip k).decode = 0
  if line < 0x20 && bitAt (s.rdN (Reg.PPk_EMIT k)) line then (if v then s.capture 3 (some line) s.tc.now else s)
  else if line = 0x40 && own then s.modPip k (fun x => { x with nextLevel := some v })
  else if line = 0x41 && own then s.pipLevel k v
  else s.evt (Fld.PPk_EVT_ACL_DENY k)

/-- A Pip's event for the journal (R462). -/
def pipEvent (s : State) (k : Nat) (w : List Nat) : State :=
  if s.safe then s else
  { s with freeCtr := s.freeCtr + 1, jn := { s.jn with inflight := s.jn.inflight ++
      [{ stamp := s.view * 1024, epoch := s.jn.epoch, source := 0x40 + k, code := w.getD 1 0 % 1024, conseq := false, forced := false,
         payload := w.getD 2 0 + 2 ^ 32 * w.getD 3 0, cls := 11, pkt := [], lastGasp := false }] } }

/-- A decoder's report of an IRIG-B frame reaches its slot (R382, R111). -/
def irigFrame (s : State) (n : Nat) (w : List Nat) : State :=
  if bitAt (w.getD 0 0) 1 || !bitAt (w.getD 0 0) 0 then s.signalLoss n
  else match (s.rs.slots.getD n Slot.blank).edges.find? (fun e => e.1 == w.getD 2 0) with
    | none => s
    | some e =>
      let near := (secOf e.2.atTime : Int) + signedOf 32 (wordOf 32 ((w.getD 1 0 : Int) - secOf e.2.atTime))
      s.deliver n { e.2 with phase := some (near * (secU : Int) - e.2.atTime) }

/-- SEND to a destination (R379): the result, and the state after. -/
def pipSend (s : State) (k dest : Nat) (w : List Nat) : Nat × State :=
  if dest ≤ 0x1B then
    if !isService k then (1, s)
    else if s.pipAlive dest && 16 ≤ (s.pip dest).inbox.length then (2, s)
    else (0, s.tell dest ⟨k, w.headD 0 % 2 ^ 16, w.tail⟩)
  else if dest = 0x20 then (0, s.pipEvent k w)
  else if dest = 0x21 then
    if !isService k then (1, s)
    else
      let c := w.getD 0 0
      let r := if s.flag Fld.KS_RESULT_BUSY then 2 else 0
      (r, if bitAt c 31 then s.ksCommand (KsFrom.pip (Fin.ofNat 28 k) (w.getD 1 0) (w.getD 2 0) (w.getD 3 0)) (bitsOf c 0 8) (bitsOf c 8 7) (bitsOf c 16 7)
        else s)
  else if dest = 0x22 then (if k = 25 then 0 else 1, s)
  else if 0x26 ≤ dest && dest ≤ 0x29 then
    if k = 27 then (0, s.sendService (dest - 0x26) (w.headD 0) w.tail) else (1, s)
  else if dest = 0x2B then
    let d := (s.pip k).decode
    if isOutPip k && 1 ≤ d then (0, s.irigFrame (1 + d) w) else (1, s)
  else (1, s)

/-- RECV of the oldest message into four registers (R379); the words that the message does not give are free. -/
def takeMsg (s : State) (k rd : Nat) : State :=
  let put := fun (t : State) (i : Nat) (v : Nat) => t.setP k (rd + i) v
  match (s.pip k).inbox with
  | [] => [1, 2, 3].foldl (fun t i => put t.tick i (Config.inboxPad t.freeCtr).toNat) (put s 0 0)
  | m :: r =>
    let s1 := put (s.modPip k (fun x => { x with inbox := r })) 0 (m.src * 2 ^ 24 + (m.words.length + 1) * 2 ^ 16 + m.info)
    [1, 2, 3].foldl (fun t i =>
      match m.words[i - 1]? with
      | some v => put t i v
      | none => put t.tick i (Config.inboxPad t.freeCtr).toNat) s1

/-- RECV (R379). -/
def pipRecv (s : State) (k rd : Nat) (wait : Bool) : State :=
  if !wait then s.takeMsg k rd
  else if (s.pip k).inbox.isEmpty then s.setWait k (.recv rd)
  else (s.takeMsg k rd).yieldPoint k

/-- A message is there for a Pip that waits in RECV. -/
def recvResume (s : State) (k : Nat) : State :=
  match (s.pip k).wait with
  | .recv rd => if (s.pip k).inbox.isEmpty || s.safe then s else ((s.setWait k .none).takeMsg k rd).yieldPoint k
  | _ => s

/-- Consecutive registers of a Pip. -/
def pRange (s : State) (k a n : Nat) : List Nat := (List.range n).map (fun i => s.p k (a + i))

end State

/-! ### The instructions (R374) -/

/-- The arithmetic right shift. -/
def sraWord (x n : Nat) : Nat := wordOf 32 (signedOf 32 x / (2 ^ (n % 32) : Nat))

end Sys2Proof.Machine
end

