-- ==== Sys2Proof/Machine/Network.lean ====
section
/-! DEFINITION. Frames at the front ports: reception with classification and cut-through (R242, R255 to R257, R264, R271, R272, R381), reservations
and launches (R247 to R251), port failure and restart (R259), and the lane references (R259, R433). -/

namespace Sys2Proof.Machine

/-- What a classifier's table says of a frame (R381). -/
inductive RuleHit where
  | direct (mask prio ring code : Nat)
  | run (rule fallback : Nat)
  deriving DecidableEq, Repr

namespace State

/-! ### Classification (R381) -/

/-- A rule's key matches a frame. -/
def ruleMatches (key : Nat) (b : List Byte) : Bool :=
  let v := bitsOf key 0 16
  bitAt key 31 && (match bitsOf key 28 2 with
    | 0 => etherType b == v
    | 1 => udpDst b == some v
    | 2 => ipProto b == some (v % 256) && v < 256
    | _ => true)

/-- The first enabled rule that matches; a frame that matches none is handled as a RUN rule with FALLBACK 0. -/
def classify (s : State) (k : Nat) (b : List Byte) : RuleHit :=
  match (List.range 32).find? (fun j => ruleMatches (s.rdN (Reg.PPk_RULEj_KEY k j)) b) with
  | none => .run 32 0
  | some j =>
    let act := s.rdN (Reg.PPk_RULEj_ACT k j)
    if bitAt act 31 then .run j (bitsOf (s.rdN (Reg.PPk_RULEj_FB k j)) 0 20)
    else .direct (bitsOf act 0 20) (bitsOf act 20 3) (bitsOf act 24 4) (s.rdN (Reg.PPk_RULEj_CODE k j))

/-! ### Reception -/

/-- A received frame as it goes on: its outer tag removed where R257 says, padded to 64 B with its FCS; and the removed TCI. -/
def rxForm (s : State) (p : Nat) (b : List Byte) : List Byte × Option Nat :=
  match outerTag b (s.tpid p) with
  | some tci =>
    if s.flag (Fld.PTp_VLAN_RX_STRIP p) && tci % 4096 = s.get (Fld.PTp_VLAN_PVID p) then
      let x := b.take 12 ++ b.drop 16
      (x ++ List.replicate (60 - x.length) 0, some tci)
    else (b, none)
  | none => (b, none)

/-- The replica that a received frame enters the switch core with. -/
def rxReplica (p : Nat) (b : List Byte) (strip stamp : Option Nat) : Replica :=
  { id := 0, src := p, dest := 0, bytes := b, prio := 0, ring := 0, code := 0, strip := strip, stamp := stamp, cells := cellsOf (b.length + 4),
    admitted := 0, tsReq := none, late := none }

/-- The ingress stamp, in units of 2^-48 ns; none where STAMP_RX_OK is 0 (R243, R245). -/
def rxStamp (s : State) (p : Nat) (pos : WirePos) : Option Nat :=
  if s.stampRx p then (s.stampAt p false pos).map (· * 2 ^ 32) else none

/-- The tail of a frame that left by cut-through: a frame found bad, or too long for its egress port, ends with an inverted FCS (R255, R272). -/
def cutTail (s : State) (i : Nat) (c : CutThrough) (bad : Bool) (len : Nat) : State :=
  let e := c.egress
  let s1 := s.modPort i (fun x => { x with cut := none })
  let s2 := s1.modPort e (fun x => { x with busyUntil := min x.busyUntil (s1.occTo e c.x len) })
  if bad || c.bad then s2.bump (Reg.SW_STOMPp e)
  else if s.maxLen e < len then (s2.bump (Reg.PTp_TX_DROP e)).evt (Fld.PTp_EVT_TX_DROP e)
  else s2

/-- A good frame goes to the classifier and on to the switch core (R264, R381). -/
def rxSwitch (s : State) (p : Nat) (b : List Byte) (stamp : Option Nat) : State :=
  let f := s.rxForm p b
  let r := rxReplica p f.1 f.2 stamp
  match s.classify (p / 2) f.1 with
  | .direct mask prio ring code => s.swReceive { r with prio := prio, ring := ring, code := code } mask (cellsOf (s.maxLen p))
  | .run rule fb => s.runFrame (p / 2) ⟨r, f.1.length + 4, rule, fb⟩

/-- A frame has been received, its FCS last (R242, R255 to R257). -/
def frameReceive (s : State) (p : Nat) (all : List Byte) (pos : WirePos) : State :=
  if !s.linkUp p || s.fenced p || s.safe then s
  else
    let stamp := s.rxStamp p pos
    let s1 := (s.tick.bump64 (Reg.PTp_RX_FRAMES_L p) 1).pcEvent 0x0B01 p 1
    let s2 := match stamp with | some t => s1.startCheck p t | none => s1
    let len := all.length
    let b := all.take (len - 4)
    let good := all.drop (len - 4) == fcsOf b
    let tooLong := s.maxLen p < len
    let s3 := if len < 64 then (s2.bump (Reg.PTp_RUNT p)).evt (Fld.PTp_EVT_RUNT p)
      else if tooLong then (s2.bump (Reg.PTp_OVERSIZE p)).evt (Fld.PTp_EVT_OVERSIZE p)
      else if !good then s2.bump (Reg.PTp_FCS_ERR p)
      else s2
    match (s.port p).cut with
    | some c => s3.cutTail p c (len < 64 || tooLong || !good) len
    | none =>
      if len < 64 || tooLong || !good then s3
      else if beAt b 12 2 = 0x8808 then s3.macControl p b
      else s3.rxSwitch p b stamp

/-- Conditions of R271 on the ports. -/
def cutPorts (s : State) (i e : Nat) : Bool :=
  s.flag Fld.SW_CTL_CT_EN && bitAt (s.rdN Reg.SW_CT_PORTS) i && bitAt (s.rdN Reg.SW_CT_PORTS) e &&
    modeBytePs (s.port i).mode == modeBytePs (s.port e).mode && (s.queue e).isEmpty && (s.port e).next.isNone &&
    s.linkUp i && !s.fenced i && (s.port i).cut.isNone

/-- The head of a frame may leave by cut-through (R271), its timestamp point crossing the egress balls at `x`. An event message that the transparent
clock drops, and a suppressed Follow_Up, are stored instead. -/
def cutStart (s : State) (i : Nat) (head : List Byte) (pos : WirePos) (x : Nat) : State :=
  let f := s.rxForm i head
  let r0 := rxReplica i f.1 f.2 (s.rxStamp i pos)
  if beAt head 12 2 = 0x8808 then s else
  match s.classify (i / 2) f.1 with
  | .run _ _ => s
  | .direct mask _ _ _ =>
    match (s.resolveLag mask f.1).1 with
    | [e] =>
      let r := { r0 with dest := e }
      let held := match followUpOf f.1 with | some m => (s.sw.missed.getD e []).contains m | none => false
      if 16 ≤ e || !s.cutPorts i e || !s.mayStart e x f.1 || !s.slotClear e x (s.maxLen i) || s.tcDrop r || held || s.safe then s
      else
        let c := s.corrected e x r (s.txForm e r)
        let s1 := s.modPort i (fun y => { y with cut := some ⟨e, x, false⟩ })
        let s2 := (s1.modPort e (fun y => { y with busyUntil := s.occTo e x (s.maxLen i) })).bump64 (Reg.PTp_TX_FRAMES_L e) 1
        (if c.2 then s2.bump (Reg.SW_TC_CORRp e) else if s.tcAuth i e f.1 then s2.bump (Reg.SW_TC_DROPp e) else s2).tick
    | _ => s

/-! ### Reservations and launches (R247 to R251) -/

/-- The engine's switch port. -/
def engPort : Engine → Nat
  | .ptp => 16
  | .ntp => 17

/-- An engine's oldest message for a port asks for its slot (R247). -/
def askSlot (s : State) (p : Nat) (e : Engine) (grid : List Nat) : State :=
  match s.sw.jobs.find? (fun j => j.eng == engPort e && j.port == p) with
  | none => s
  | some j => ((s.setSw { s.sw with jobs := s.sw.jobs.erase j }).requestRes p j grid).tick

/-- An engine hands over the frame of its oldest open reservation, sealed for its T (R20, R249); without one it hands over nothing. -/
def handOverFrame (s : State) (p : Nat) (e : Engine) : State :=
  match s.openRes p (engPort e) with
  | none => s
  | some r =>
    match (match e with | .ptp => s.peSeal r.job r.t | .ntp => s.neSeal r.job r.t) with
    | some x => s.takeFrame p r x.1 (some x.2.1) x.2.2
    | none => if s.neKeyGone r.job then s.bump Reg.NE_KEY_DISCARD else if s.peKeyGone r.job then s.bump Reg.PE_KEY_DISCARD else s

/-- What an engine counts of a launched message (R320, R343). -/
def launched (s : State) (j : LaunchJob) : State :=
  if j.eng = 16 then s.peSent
  else
    let s1 := (s.bump64 Reg.NE_TX_L 1).setNe { s.ne with launched := s.ne.launched + 1 }
    if j.kind = 1 then s1.pcEvent 0x0F01 0 1 else s1

/-! ### Failure, restart and references (R259, R433) -/

/-- A write of PTp_CMD.RESTART (R259, R261). -/
def portRestart (s : State) (p : Nat) : State :=
  if (s.port p).held || s.safe then s
  else
    let s1 := if s.fenced p then (s.setB (Fld.PTp_STAT_FENCED p) false).setInService p true
      else if s.linkUp p then s.linkDown p true else s
    (s1.reload (fun g => g == 0x50 + p)).modPort p (fun x => { x with restartAt := some s.tc.now })

/-- A write of PTp_CMD that has passed the access checks. -/
def wrPtCmd (s : State) (p v : Nat) : State := if bitAt v 0 then s.portRestart p else s

/-- An SDREF is lost: its ports and links go down (R259, R433). -/
def sdrefLoss (s : State) (bank : Nat) : State :=
  if bitAt s.sw.sdrefLost bank then s
  else
    let s1 := (s.setSw { s.sw with sdrefLost := setBitAt s.sw.sdrefLost bank }).setActive 4 true
    let s2 := (List.range 8).foldl (fun t k => t.linkDown (8 * bank + k) true) s1
    let s3 := (List.range 2).foldl (fun t k => t.ulinkDown (2 * bank + k) true) s2
    s3.raiseFault 4 0 false

/-- An SDREF returns. -/
def sdrefReturn (s : State) (bank : Nat) : State :=
  let m := clearBitAt s.sw.sdrefLost bank
  (s.setSw { s.sw with sdrefLost := m }).setActive 4 (m != 0)

end State

end Sys2Proof.Machine
end

