-- ==== Sys2Proof/Machine/Cycles.lean ====
section
/-! DEFINITION. The counting of CCLK cycles by the performance counters (R486, R488): CYC, thresholds, occupancy sums and lane slots. -/

namespace Sys2Proof.Machine

namespace State

/-- The occupancy that a code selects (R487). -/
def occupancy (s : State) (ev inst : Nat) : Nat :=
  if ev = 0x0B40 then (s.port inst).res.length
  else if ev = 0x0C40 then s.cellsUsed
  else if ev = 0x1840 then s.stageUsed / 1024
  else 0

/-- The lanes of an engine: in service, and in all (R312, R341). -/
def lanesOf (s : State) (ev : Nat) : Nat × Nat :=
  if ev = 0x0E00 then (s.get Fld.PE_CAP_LANES, 8) else (s.get Fld.NE_CAP_LANES, 12)

/-- The slots of a category over `c` cycles (R488): fenced lanes are FENCED; how the lanes in service divide is free, and sums to their slots. -/
def slotsIn (s : State) (ev cat c : Nat) : Nat :=
  let (live, all) := s.lanesOf ev
  let part := fun (k : Nat) => Config.slotSplit s.freeCtr k
  let upTo := fun (k : Nat) => min (live * c) (((List.range k).map (fun i => part (i + 1))).foldl (· + ·) 0)
  if cat = 0 then (all - live) * c
  else if cat ≤ 5 then upTo cat - upTo (cat - 1)
  else if cat = 6 then live * c - upTo 5
  else 0

/-- What a selection adds over `c` cycles. -/
def cycleCount (s : State) (g j c : Nat) : Nat :=
  let ev := s.get (Fld.PCg_SELj_EVENT g j)
  let m := s.get (Fld.PCg_SELj_MODE g j)
  if m = 0 || !(pcModes ev).contains m then 0
  else if m = 2 then s.slotsIn ev (s.get (Fld.PCg_SELj_CAT g j)) c
  else
    let o := s.occupancy ev (s.get (Fld.PCg_SELj_INST g j))
    if m = 3 then o * c
    else
      let over' : Bool := decide (s.rdN (Reg.PCg_THRj g j) ≤ o)
      if over' != s.flag (Fld.PCg_SELj_INV g j) then c else 0

/-- The counters catch up with CCLK: TCLK cycles counted are taken by TC_RATIO, and CCLK cycles counted in BRIDGE as they are (R78). -/
def pcSync (s : State) : State :=
  let n := s.tc.cycle - s.pc.upTo
  if n = 0 then s
  else
    let r := s.ratio
    let x := n * 2 ^ 48 + s.pc.rest
    let c := if s.bridging || r = 0 then n else x / r
    let rest := if s.bridging || r = 0 then s.pc.rest else x % r
    let s1 := { s with pc := { s.pc with upTo := s.tc.cycle, rest := rest } }
    ((List.range 4).foldl (fun t g =>
      if !s.pcRunning g then t
      else (List.range 8).foldl (fun u j => if u.pcRunning g then u.pcAdd g j (s.cycleCount g j c) else u) (t.bump64 (Reg.PCg_CYC_L g) c)) s1).tick

end State

end Sys2Proof.Machine
end

