-- ==== Sys2Proof/Machine/Publish.lean ====
section
/-! DEFINITION. Publications (chapter 08) and what each KIND does at its consumer (R193), the frame records, the interval units' outcomes and the
loss of the Shell. -/

namespace Sys2Proof.Machine

namespace State

/-! ### Consumers (R193, R196) -/

/-- A consumer is in a block reset, so that its records are dropped (R196). -/
def inReset (s : State) (t inst : Nat) : Bool := s.fc.shadows.any (fun x => x.target == t && x.inst == inst && !x.done)

/-- The bound that a record's uncertainty stands for, ps. -/
def pubBound (p : Pub) : Nat := ceilDiv p.unc 4

/-- A record as a selector sample. -/
def pubSample (p : Pub) (phase freq : Option Int) (t : Nat) : Sample :=
  { phase := phase, atTime := t, freq := freq, bound := pubBound p, stale := bitAt p.flags 2, uncal := bitAt p.flags 0 || bitAt p.flags 1,
    unsealed := bitAt p.flags 9 }

/-- The pin-referred time of a record, in units of 2^-48 ns (R193). -/
def pinTime (s : State) (p : Pub) : Nat := ((p.time : Int) - Config.pinDelay s.sh.lrp p.src * 2 ^ 32).toNat

/-- The second nearest to a time. -/
def nearSecond (t : Nat) : Nat := (t + secU / 2) / secU

/-- The second label of a PPS edge (R109), as a time. -/
def ppsLabel (s : State) (n pin : Nat) : Nat :=
  if s.flag (Fld.RSn_CFG_LABEL_EN n) then
    nearSecond ((pin : Int) + s.phaseOf (s.get (Fld.RSn_CFG_LABEL_SLOT n)) * 2 ^ 32).toNat * secU
  else nearSecond pin * secU

/-- A KIND 2 record reaches the Pip that decodes its input (R379, R382). -/
def toDecoder (s : State) (p : Pub) : State :=
  let n := 2 + p.src
  let s1 := s.modSlot n (fun x => { x with edges := (s.sh.seq % 2 ^ 32, pubSample p none none (s.pinTime p)) :: x.edges.take 255 })
  match s.decoderOf p.src with
  | some k => s1.tell k ⟨0x25, 0, [nsOf p.time, secOf p.time % 2 ^ 32, p.payload % 2 ^ 32]⟩
  | none => s1

/-- The ratio reaches the time core (R78, R206). -/
def takeRatio (s : State) (p : Pub) : State :=
  let v := p.payload % 2 ^ 50
  let s1 := ((s.wrN Reg.TC_RATIO_L (v % 2 ^ 32)).wrN Reg.TC_RATIO_H (v / 2 ^ 32)).setB Fld.TC_STAT_RATIO_NOM false
  (s1.setSh { s1.sh with quiet := 0 }).setActive 7 false

/-- A path check's summary reaches its port (R229). -/
def takePath (s : State) (p : Pub) : State :=
  if p.src < 24 then s
  else
    let mean := ceilDiv ((signedOf 32 p.payload).natAbs * 1000) 65536
    s.setEb { s.eb with portRes := s.eb.portRes.set (p.src - 24) (some (mean, 0)) }

/-- A measured code point reaches its output (R398): a set is complete when all 64 have come in order. -/
def takePoint (s : State) (n i d : Nat) : State :=
  s.modOut n (fun o => if i = 0 then { o with next := [d] } else if o.next.length = i then { o with next := o.next ++ [d] } else { o with next := [] })

/-- What a record does at its consumer. -/
def consume (s : State) (p : Pub) : State :=
  let tag := p.tag; let owner := p.owner
  if p.kind = 0 then s.deliver (2 + p.src) (pubSample p (some (signedOf 64 p.payload)) none (s.pinTime p))
  else if p.kind = 1 then
    (s.deliver (2 + p.src) (pubSample p none (some (s.roundFree (signedOf 32 (p.payload / 2 ^ 32)) 100)) p.time)).tick
  else if p.kind = 2 then s.toDecoder p
  else if p.kind = 4 then s.takeRatio p
  else if p.kind = 5 then s.takePath p
  else if p.kind = 6 then
    let port := if p.src < 24 then p.src - 8 else p.src - 24
    if s.inReset 4 port then s else s.portMarker port (24 ≤ p.src) (tag - 1) (s.pinTime p)
  else if p.kind = 7 then (if s.inReset 7 (p.src - 40) then s else s.linkMarker (p.src - 40) (tag % 2 == 1) (s.pinTime p))
  else if p.kind = 8 then
    let v := signedOf 64 p.payload
    if p.src = 7 then (if s.inReset 13 owner then s else s.outCheck owner v)
    else if s.inReset 7 owner then s
    else (s.wrSatI (Reg.ULk_TXPATH owner) (s.roundFree (v * 1000) 65536)).tick
  else if p.kind = 9 then (if s.inReset 13 owner then s else s.takePoint owner (bitsOf p.payload 0 16 / 32) (bitsOf p.payload 16 32))
  else s

/-- A record is published, or withheld while SHPUB does not admitFor it (R195). -/
def publish (s : State) (p : Pub) : State :=
  if s.pubAdmits then (s.sendPub p).consume p
  else if s.sh.posted then s.holdPub p
  else s

/-! ### The drain (R189, R192) -/

/-- The KIND of an edge's own record: none for the edges that a frame record or an interval unit uses. -/
def edgeKind (s : State) (x tag : Nat) : Option Nat :=
  if x ≤ 3 then
    match (s.sh.refin.getD x ⟨0, 0, 0⟩).kind with
    | 0 => some 0
    | 1 => some 2
    | _ => none
  else if x ≤ 5 then some 3
  else if x ≤ 7 then none
  else if x ≤ 39 then (if tag = 0 then none else some 6)
  else some 7

/-- The payload of an edge's record, as 64 bits (R193). -/
def edgePayload (s : State) (p : Pub) : Nat :=
  let pin := s.pinTime p
  if p.kind = 0 then wordOf 64 (s.roundFree ((s.ppsLabel (2 + p.src) pin : Int) - pin) (2 ^ 32))
  else if p.kind = 7 then withBits (wordOf 64 (-(Config.pinDelay s.sh.lrp p.src))) 63 1 p.tag
  else wordOf 64 (-(Config.pinDelay s.sh.lrp p.src))

/-- An edge taken from the FIFO of channel c is converted and published for its source; a link's markers up to SH_LINK_PUB a frame (R205). -/
def drainEdge (s : State) (c : Nat) (e : TdcEdge) : State :=
  match s.sourceOf c with
  | none => s
  | some x =>
    let t := s.edgeTime c e
    let s1 := if x ≤ 3 && (s.sh.refin.getD x ⟨0, 0, 0⟩).kind = 2 || x = 6 then s.setSh { s.sh with frameEdges := s.sh.frameEdges ++ [(x, t)] } else s
    match s.edgeKind x e.tag with
    | none => s1
    | some k =>
      let (bin, cyc) := s.edgeBin c e
      let p : Pub := { chan := c, src := x, kind := k, flags := s.pubFlags c x, cyc := cyc, raw := e.raw, tgen := e.tgen, cbin := bin, time := t,
                       unc := (Config.pubUnc c s.freeCtr).toNat, payload := 0, tag := e.tag, owner := 0 }
      let n := s.sh.linkPubs.getD (x - 40) 0
      if 40 ≤ x && bitsOf (s.rdN Reg.SH_LINK_PUB) 0 16 ≤ n then s1
      else
        let s2 := if 40 ≤ x then s1.setSh { s1.sh with linkPubs := s1.sh.linkPubs.set (x - 40) (n + 1) } else s1
        (s2.publish { p with payload := s.edgePayload p }).tick

/-- PUBLICATION: the drain serves the next non-empty FIFO. -/
def drain (s : State) : State :=
  if !s.shMeasures then s else
  match s.drainNext with
  | none => s
  | some c =>
    match (s.tdc c).fifo with
    | [] => s
    | e :: _ => (s.popEdge c).drainEdge c e

/-! ### Interval units (R190, R191, R203 to R205) -/

/-- A residual of a path check joins its direction's frame (R203), in units of 2^-16 ns. -/
def addResidual (s : State) (dir : Nat) (v : Int) : State :=
  s.setSh { s.sh with paths := s.sh.paths.modify dir (fun x => { x with num := x.num + 1, sum := x.sum + v, big := max x.big v.natAbs }) }

/-- A KIND 8 record: the interval less the loopback constant of a checked output (R204). -/
def publishInterval (s : State) (c x owner : Nat) (v : Int) (tie reversed : Bool) : State :=
  let w := if x = 7 then v - Config.loopback s.sh.lrp owner else v
  let f := s.pubFlags c x + (if tie then 2 ^ 3 else 0) + (if reversed then 2 ^ 4 else 0)
  s.publish { s.framePub c x 8 (wordOf 64 w) with flags := f, owner := owner }

/-- A unit pairs a stop whose time is known (R191). -/
def pairStop (s : State) (u c : Nat) (stop : Resolved) : State :=
  if !s.shMeasures then s else
  match s.sourceOf c with
  | none => s
  | some x =>
    match pairOf ((s.sh.units.getD u []).filter (fun a => stopChan u a.owner == x)) stop with
    | none => s.bump (Reg.SHc_ORPHAN c)
    | some a =>
      let s1 := s.setSh { s.sh with units := s.sh.units.modify u (·.erase a) }
      let (i, tie, rev) := intervalOf a.ev stop
      let v := s1.roundFree i (2 ^ 32)
      (if u ≤ 4 then s1.publishInterval c x a.owner v tie rev else s1.addResidual a.owner v).tick

/-- The channel that serves a source. -/
def chanOf (s : State) (x : Nat) : Option Nat := s.sh.srcChan.getD x none

/-- One live check of an output (R204), from the interval measured, in units of 2^-16 ns. -/
def liveCheck (s : State) (n : Nat) (i : Int) : State :=
  if !s.shMeasures || !s.outLive n then s
  else match s.chanOf 7 with
    | some c => s.publishInterval c 7 n i false false
    | none => s

/-- A delay line has been measured (R204): 64 codes of 16 edges each. -/
def delayCal (s : State) (n : Nat) (d : List Nat) : State :=
  if !s.shMeasures || s.outLive n || !bitAt s.sh.ocal n || d.length ≠ 64 then s
  else match s.chanOf 7 with
    | some c =>
      let s1 := (s.setSh { s.sh with ocal := clearBitAt s.sh.ocal n }).charge 0 1024
      (List.range 64).foldl (fun t i => t.publish { t.framePub c 7 9 (32 * i + d.getD i 0 % 2 ^ 32 * 2 ^ 16) with owner := n }) s1
    | none => s

/-! ### Frame records (R188, R203, R206) -/

/-- The times of the frame's edges of a source. -/
def edgesOf (s : State) (x : Nat) : List Nat := (s.sh.frameEdges.filter (fun e => e.1 == x)).map (·.2)

/-- The KIND 1 record of a REFIN (R188): phase modulo P in 2^-16 ns, and frequency in 10^-14. -/
def freqRecord (s : State) (n : Nat) : State :=
  let l := s.edgesOf n
  let set := s.sh.refin.getD n ⟨0, 0, 0⟩
  match s.chanOf n with
  | none => s
  | some c =>
    if l.length < 2 || set.fnom = 0 || set.kind ≠ 2 then s
    else
      let pd := Config.pinDelay s.sh.lrp n
      let x : Rat := (l.foldl (· + ·) 0 : Nat) / (l.length : Nat)
      let k0 : Rat := ((l.length - 1 : Nat) : Rat) / 2
      let sxy := (l.zipIdx).foldl (fun (a : Rat) e => a + (((e.2 : Nat) : Rat) - k0) * (((e.1 : Nat) : Rat) - x)) 0
      let sxx := (l.zipIdx).foldl (fun (a : Rat) e => a + (((e.2 : Nat) : Rat) - k0) * (((e.2 : Nat) : Rat) - k0)) 0
      let b := sxy / sxx
      let a := x - b * k0 - ((pd * 2 ^ 32 : Int) : Rat)
      let now : Rat := (s.tc.now : Nat)
      let phase := now - (a + b * (((now - a) / b).floor : Int))
      let period : Rat := (secU : Nat) / (set.fnom : Nat)
      let m := phase - period * ((phase / period).floor : Int)
      let f := period * ((2 ^ set.div : Nat) : Rat) / b - 1
      let ph := s.ratFree (m / ((2 ^ 32 : Nat) : Rat))
      let fr := s.ratFree (f * ((10 ^ 14 : Nat) : Rat))
      (s.publish (s.framePub c n 1 (wordOf 32 ph + wordOf 32 (satSigned 32 fr) * 2 ^ 32))).tick

/-- The KIND 4 record (R206): the time of a whole number of profile periods over the CCLK cycles in them and the TCLK period. -/
def ratioRecord (s : State) : State :=
  match s.chanOf 6, s.edgesOf 6 with
  | some c, t0 :: r =>
    match r.getLast? with
    | some t1 =>
      let den := r.length * Config.profileCycles (s.rd Reg.CK_SAPLL_CFG) * s.incr
      if den = 0 then s else (s.publish (s.framePub c 6 4 (s.roundFreeN ((t1 - t0) * 2 ^ 48) den % 2 ^ 50))).tick
    | none => s
  | _, _ => s

/-- The KIND 5 record of a port direction, and its run of frames beyond the limit (R203). -/
def pathRecord (s : State) (dir : Nat) : State :=
  let x := s.sh.paths.getD dir ⟨0, 0, 0, 0, false⟩
  match s.chanOf (8 + dir) with
  | none => s
  | some c =>
    if x.num = 0 then s
    else
      let mean := s.roundFree x.sum x.num
      let big := satNat 16 (ceilDiv (x.big * 1000) 65536)
      let s1 := (s.publish (s.framePub c (8 + dir) 5 (wordOf 32 (satSigned 32 mean) + big * 2 ^ 32 + satNat 16 x.num * 2 ^ 48))).tick
      let beyond : Bool := decide (s.sh.limits.path * 65536 < mean.natAbs * 1000)
      let run := if beyond then x.run + 1 else 0
      let tell := beyond && s.sh.limits.frames ≤ run && !x.told
      let s2 := s1.setSh { s1.sh with paths := s1.sh.paths.set dir ⟨0, 0, 0, run, beyond && (x.told || tell)⟩ }
      if tell then s2.evt Fld.SH_EVT_PATH_CHK else s2

/-- The records withheld go out after the replenishment (R195), oldest first. -/
def releasePubs (s : State) : State :=
  let l := s.sh.held
  l.foldl (fun t p => if t.pubAdmits then (t.sendPub p).consume p else t.setSh { t.sh with held := t.sh.held ++ [p] }) (s.setSh { s.sh with held := [] })

/-- The Shell's part of a boundary: the frame's records over the edges of the frame just ended. -/
def shRecords (s : State) : State :=
  let s1 := if s.shMeasures then
      (List.range 32).foldl (fun t d => t.pathRecord d) ((List.range 4).foldl (fun t n => t.freqRecord n) s.ratioRecord)
    else s
  let s2 := s1.setSh { s1.sh with frameEdges := [], linkPubs := List.replicate 4 0 }
  if s.flag Fld.TC_STAT_TCLK_OK then s2.setSh { s2.sh with quiet := s2.sh.quiet + 1 } else s2

/-- The Shell's part of a boundary after the replenishment: the wheel posts the allowance, and parameters of a commit take effect (R195, R211). -/
def shFrame (s : State) : State :=
  let s1 := if 3 ≤ s.shState then s.setSh { s.sh with posted := true } else s
  let s2 := match s1.sh.nextLimits with
    | some l => s1.setSh { s1.sh with limits := l, nextLimits := none }
    | none => s1
  if s2.shMeasures then s2.releasePubs else s2

/-! ### Loss (R216, R217) -/

/-- Every source that the Shell measures is lost to its consumer (R217). -/
def shSourcesLost (s : State) : State :=
  let s1 := ([2, 3, 4, 5] : List Nat).foldl (fun t n => t.signalLoss n) s
  let s2 := ([0, 1] : List Nat).foldl (fun t a => if t.gifOk a then t.gifLost a else t) s1
  let s3 := (List.range 16).foldl (fun t p => (t.modPort p (fun x => { x with rxMarks := [], txMarks := [] })).refreshStamps p) s2
  let s4 := (List.range 4).foldl (fun t k => t.modLink k (fun x => { x with txWait := none, rxMark := none, rxWait := none, lastExch := none })) s3
  s4.signalLoss 10

/-- SHELL_LOST (R217). -/
def shellGone (s : State) : State := ((s.setActive 7 true).raiseFault 7 0 false).shSourcesLost

/-- No KIND 4 record for two frames while TCLK is present. -/
def shellLost (s : State) : State := if s.flag Fld.TC_STAT_TCLK_OK && 2 ≤ s.sh.quiet then s.shellGone else s

/-- SHELL_RST_N is asserted or VDD_SH falls (R212, R216): a commit that has blown its fuse is left incomplete. -/
def shellStop (s : State) (fuseBlown : Bool) : State :=
  let s1 := if fuseBlown && s.mbBusy && s.sessionResult = 0 then
      (s.setSh { s.sh with fuses := s.sh.fuses + 1, audit := s.sh.audit ++ [s.auditOf false] }).set Fld.SH_STAT_SEAL (s.sh.fuses + 1)
    else s
  (s1.shClear.set Fld.SH_STAT_STATE 0).shellGone

end State

end Sys2Proof.Machine
end

