-- ==== Sys2Proof/Machine/Boot.lean ====
section
/-! DEFINITION. Start-up, clocks and power states (chapter 22), and what main boot loads: base set, overlays and Pip records (chapters 02 and 15). -/

namespace Sys2Proof.Machine

/-- The class of an OSC_IN frequency (R500): the accepted frequency within ±0.5 % of which it lies. -/
def oscClass (hz : Nat) : Option Nat :=
  [0, 1, 2, 3].find? (fun k =>
    let f := ([5000000, 10000000, 20000000, 100000000] : List Nat).getD k 0
    ((hz : Int) - f).natAbs * 200 ≤ f)

/-- The bytes of an image are well-formed (R508). -/
def imageFormed (b : List Byte) : Bool :=
  let l := fromLe ((b.drop 4).take 4)
  208 ≤ b.length && fromLe (b.take 4) == 0x31474D49 && l == b.length && l ≤ 4194304

/-- The signature of an image verifies under a key whose hash is fused (R508). -/
def imageSigned (b : List Byte) : Bool :=
  let key := (b.drop 16).take 96
  let l := b.length
  Config.sha384 key == Config.imageKeyHash && Config.ecdsaVerify key (b.take (l - 96)) (b.drop (l - 96))

/-- A Pip record of the image (R388) is well-formed. -/
def pipRecordOk (b : List Byte) : Bool :=
  let at' := fun (o n : Nat) => fromLe ((b.drop o).take n)
  let rom := at' 5 1 == 1
  let n := at' 8 2
  let d := at' 10 2
  68 ≤ b.length && at' 0 4 == 0x50504950 && at' 4 1 < 28 && at' 5 1 ≤ 1 && at' 7 1 == 0 && at' 14 2 == 0 &&
    (if rom then n == 0 && 1 ≤ at' 6 1 && at' 6 1 ≤ 7 else 1 ≤ n && n ≤ 1024 && at' 6 1 == 0) && d ≤ 2048 && d % 4 == 0 && 16 ≤ at' 12 2 &&
    b.length == 68 + 4 * n + d

/-- A word address of an overlay entry (R58): page [24:16], byte offset [11:0]. -/
def ovlAddr (w : Nat) : Nat := bitsOf w 16 9 * 0x1000 + bitsOf w 0 12

/-- An overlay is rejected while loading (R59). -/
def ovlBad (o : OvlSection) : Bool :=
  256 < o.entries.length || o.entries.any (fun e =>
    let a := ovlAddr e.1
    let rwl := match findRow a with | some r => r.rwl | none => 0
    e.1 != bitsOf e.1 16 9 * 2 ^ 16 + bitsOf e.1 0 12 || !isCfg a || a % 0x1000 == 0x1C || (e.2.1 &&& rwl) != 0 || (e.2.2 &&& e.2.1) != e.2.2)

/-- Two overlays' masks share a bit of a word (R59). -/
def ovlShare (a b : OvlSection) : Bool := a.entries.any (fun x => b.entries.any (fun y => x.1 == y.1 && (x.2.1 &&& y.2.1) != 0))

namespace State

/-! ### Clocks (R500 to R505) -/

/-- The OSC_IN measurement completes (R500). -/
def oscMeasure (s : State) (hz : Nat) : State :=
  let s1 := s.wrSat Reg.CK_OSC_MEAS hz
  match oscClass hz with
  | some k => (s1.setB Fld.CK_STAT_OSC_OK true).set Fld.CK_STAT_OSC_CLASS k
  | none => s1.setB Fld.CK_STAT_OSC_OK false

/-- The Time APLL declares lock and TCLK runs (R501, R503). -/
def timeLock (s : State) : State :=
  if !s.flag Fld.CK_STAT_OSC_OK || s.flag Fld.CK_STAT_TLOCK then s
  else
    let s1 := (((s.setB Fld.CK_STAT_TLOCK true).setB Fld.CK_STAT_TCLK_RUN true).setB Fld.TC_STAT_TCLK_OK true).evt Fld.CK_EVT_TLOCK_GAIN
    let s2 := (s1.setActive 3 false).shTclkSeen
    if s2.bridging then { s2 with tc := { s2.tc with okSince := some s2.tc.now } } else s2

/-- TCLK is lost (R77, R78, R216, R501). -/
def tclkLost (s : State) : State :=
  if !s.flag Fld.TC_STAT_TCLK_OK then s
  else
    let s1 := ((s.setB Fld.CK_STAT_TLOCK false).setB Fld.CK_STAT_TCLK_RUN false).bump Reg.CK_TLOCK_LOSS
    let s2 := (s1.setActive 3 true).evt Fld.CK_EVT_TLOCK_LOST
    let s3 := if s2.timeState = 0 then s2 else s2.ebBridgeEnter
    s3.enterBridge.shTclkLost

/-! ### Main boot (R506 to R509) -/

/-- SYS_BOOT.STAGE. -/
def bootStage (s : State) : Nat := s.get Fld.SYS_BOOT_STAGE

/-- Main boot stops with a cause (R509). -/
def bootStop (s : State) (cause : Nat) : State :=
  { (s.set Fld.SYS_BOOT_STAGE (if cause = 9 then 7 else 6)).set Fld.SYS_BOOT_CAUSE cause with boot := { s.boot with waiting := false } }

/-- A word of the base set is written, whatever protects it (R52). -/
def baseWord (s : State) (a : Nat) (v : Word) : State :=
  match findRow a with
  | some r =>
    let m := r.rw ||| r.rwl ||| r.rsv
    let s1 := s.wrN a ((s.rdN a &&& (0xFFFFFFFF ^^^ m)) ||| (v.toNat &&& m))
    if r.rwl != 0 then { s1 with cfg := { s1.cfg with rwlDone := if s1.cfg.rwlDone.contains a then s1.cfg.rwlDone else s1.cfg.rwlDone ++ [a] } } else s1
  | none => s

/-- The overlays are loaded (R58, R59). -/
def loadOverlays (s : State) (l : List OvlSection) (compat : List Nat) : State :=
  let n := min 16 l.length
  let idx := List.range n
  let sec := fun k => l.getD k ⟨[], 0⟩
  let bad := fun k => ovlBad (sec k)
  let live := idx.filter (fun k => !bad k)
  let marked := fun i j => i != j && !(bitAt (compat.getD i 0) j && bitAt (compat.getD j 0) i)
  let overlap := fun i j => i != j && !marked i j && ovlShare (sec i) (sec j) && !bad i && !bad j
  let row := fun i => maskOf (idx.filter (fun j => marked i j || overlap i j))
  let s1 := (s.set Fld.CFG_OVL_LOADED_PRESENT (maskOf live)).set Fld.CFG_OVL_LOADED_BAD (maskOf (idx.filter bad))
  let s2 := { s1 with cfg := { s1.cfg with overlays := (List.range 16).map (fun k =>
    if live.contains k then (sec k).entries.map (fun e => OvlEntry.mk (ovlAddr e.1) e.2.1 e.2.2) else []) } }
  let s3 := (List.range 8).foldl (fun t i => t.wrN (Reg.CFG_OVL_INCOMPAT i) (row (2 * i) + row (2 * i + 1) * 2 ^ 16)) s2
  let s4 := live.foldl (fun t k => t.wrN (Reg.CFG_DELTA k) (sec k).delta) s3
  if idx.any (fun i => idx.any (fun j => overlap i j)) then s4.evt Fld.CFG_EVT_OVL_OVERLAP else s4

/-- A Pip record is loaded: the page's RWL registers and the stores (R388). -/
def loadPip (s : State) (b : List Byte) : State :=
  let at' := fun (o n : Nat) => fromLe ((b.drop o).take n)
  let k := at' 4 1
  let n := at' 8 2
  let img := (if at' 5 1 = 1 then 2 ^ 31 + at' 6 1 * 2 ^ 16 else 0) + n
  let data := memStoreList [] 0 ((b.drop (68 + 4 * n)).take (at' 10 2))
  let s1 := ((s.wrN (Reg.PPk_WDOG k) (at' 12 2)).wrN (Reg.PPk_EMIT k) (at' 16 4)).wrN (Reg.PPk_IMG k) img
  (s1.wrWords (Reg.PPk_ACL k 0) ((List.range 8).map (fun j => at' (20 + 4 * j) 4))).modPip k (fun p => { p with
    imem := (List.range n).map (fun i => at' (68 + 4 * i) 4), init := data, dmem := data,
    entries := (List.range 8).map (fun i => at' (52 + 2 * i) 2) })

/-- The image's sections are loaded and the seal reference is compared (R52, R388); then service may begin (R513). -/
def loadSections (s : State) (x : BootSections) (ms : Nat) : State :=
  if 16 < x.overlays.length || x.pips.any (fun r => !pipRecordOk r) then s.bootStop 5
  else
    let s1 := (x.baseSet.foldl (fun t e => t.baseWord e.1 e.2) (s.set Fld.SYS_BOOT_STAGE 4)).loadOverlays x.overlays x.compat
    let s2 := x.pips.foldl (fun t r => t.loadPip r) s1
    if BitVec.ofNat 32 s2.sealNow ≠ x.sealRef then s2.bootStop 7
    else
      let r := x.sealRef
      let s3 := (((s2.wr Reg.CFG_BASE_REF r).wr Reg.CFG_RUN_REF r).wr Reg.CFG_EXP_REF r).copyShadow
      let s4 := { s3 with cfg := { s3.cfg with scanning := true }, fc := { s3.fc with baseLoaded := true } }
      let s5 : State := ((s4.startScan.set Fld.SYS_BOOT_STAGE 5).setB Fld.SYS_BOOT_READY true).wrN Reg.SYS_BOOT_MS (satNat 16 ms)
      let mode := s5.get Fld.CK_SAPLL_CFG_SSC_MODE
      let s6 : State := s5.setB Fld.CK_STAT_SSC_ACTIVE (mode == 1 || mode == 2)
      if s6.get Fld.LS_STAT_ROLE = 3 then (s6.setB Fld.LS_ARB_STAT_WAIT true).setLs { s6.ls with waitFor := none } else s6

/-- What is wrong with an image before its sections are looked at, as the cause; none where nothing is. -/
def imageFault (i : Option BootImage) (selftest : Bool) : Option Nat :=
  match i with
  | none => some 4
  | some x =>
    if !imageFormed x.bytes then some 5
    else if !imageSigned x.bytes then some 6
    else if !selftest then some 8
    else if x.parts.isNone then some 5
    else none

/-- Main boot goes on with an image (R508). -/
def bootImage (s : State) (i : Option BootImage) (selftest : Bool) (ms : Nat) : State :=
  match imageFault i selftest, i with
  | some c, _ => s.bootStop c
  | none, some x =>
    let s1 := (s.wrN Reg.SYS_IMG_VER (fromLe ((x.bytes.drop 8).take 4))).set Fld.SYS_BOOT_STAGE 3
    let s2 := (s1.setB Fld.KS_STAT_SELFTEST_OK true).setB Fld.KS_STAT_DRBG_OK true
    match x.parts with
    | some p => s2.loadSections p ms
    | none => s2.bootStop 5
  | none, none => s.bootStop 4

/-- Whether main boot meets a tamper that stands (R364): an enabled loop is open. -/
def loopOpen (s : State) : Bool := (s.ks.loops &&& bitsOf (s.rdN Reg.TP_LOOP_CFG) 0 4) != 0

/-- PORST_N is released, or the reset of a CCLK loss ends: main boot (R506, R507). -/
def mainBoot (s : State) (b : BootInputs) : State :=
  if s.bootStage ≠ 0 then s
  else
    let s1 := ({ s with boot := { Boot.blank with mgmt := s.boot.mgmt } }).setB Fld.CK_STAT_SLOCK true
    let s2 := (s1.set Fld.SYS_BOOT_BOOTSRC b.bootsrc).set Fld.LS_STAT_ROLE b.role
    let s3 := (s2.setB Fld.SYS_BOOT_DDR0_FAIL (!b.ddr0)).setB Fld.SYS_BOOT_DDR1_FAIL (!b.ddr1)
    if s3.get Fld.LS_STAT_ROLE = 7 then s3.bootStop 1
    else if s3.get Fld.SYS_BOOT_BOOTSRC = 3 then s3.bootStop 2
    else if !b.ddr0 || !b.ddr1 then s3.bootStop 3
    else if s3.loopOpen then s3.bootStop 9
    else
      let s4 := s3.set Fld.SYS_BOOT_STAGE 2
      if s3.get Fld.SYS_BOOT_BOOTSRC = 2 then { s4 with boot := { s4.boot with waiting := true } }
      else if s3.get Fld.SYS_BOOT_BOOTSRC = 1 then
        let a := s4.bootImage b.imageA b.selftest b.ms
        if a.bootStage = 5 then a
        else if a.get Fld.SYS_BOOT_CAUSE = 8 || a.get Fld.SYS_BOOT_CAUSE = 7 then a
        else (s4.setB Fld.SYS_BOOT_IMAGE_B true).bootImage b.imageB b.selftest b.ms
      else s4.bootImage b.imageA b.selftest b.ms

/-- A word of the image is pushed (R507). -/
def imgData (s : State) (v : Word) : State := if s.boot.waiting then { s with boot := { s.boot with img := s.boot.img ++ [v] } } else s

/-- The bytes pushed so far. -/
def pushedBytes (s : State) : List Byte := s.boot.img.flatMap (fun w => leBytes 4 w.toNat)

/-- SYS_IMG_CMD.GO (R507). -/
def imgGo (s : State) (parts : Option BootSections) (selftest : Bool) (ms : Nat) : State :=
  if !s.boot.waiting then s
  else ({ s with boot := { s.boot with waiting := false, img := [] } }).bootImage (some ⟨s.pushedBytes, parts⟩) selftest ms

/-! ### Power states (R510 to R512) -/

/-- A request is refused. -/
def pstateRefused (s : State) : State := s.evt Fld.CK_EVT_PSTATE_REFUSED

/-- PSTATE changes. -/
def toPstate (s : State) (n : Nat) : State :=
  if s.get Fld.CK_STAT_PSTATE = n then s else (s.set Fld.CK_STAT_PSTATE n).evt Fld.CK_EVT_PSTATE_CHG

/-- A request for STANDBY (R511). -/
def reqStandby (s : State) : State := if !s.isMember || s.leaseState = 2 then s.pstateRefused else if s.boot.sleeping then s else s.toPstate 1

/-- A write of 0 to REQ (R511). -/
def reqRun (s : State) : State := (s.setLs { s.ls with stbyStilled := true }).toRun

/-- A write of 2 to REQ (R512): `rtc` is the Pit's count. -/
def reqSleep (s : State) (rtc : Nat) : State :=
  if s.leaseState = 2 || s.leaseState = 1 then s.pstateRefused
  else if s.boot.sleeping then s
  else
    let s1 := { (if s.isMember then s.leaseFence else s) with boot := { s.boot with sleeping := true } }
    let s2 := ((List.range 28).filter (fun k => s1.flag (Fld.PPk_STAT_RUNNING k))).foldl (fun t k =>
      (t.pipClear k).setB (Fld.PPk_STAT_RUNNING k) false) s1
    (s2.anchorRecord rtc).flushStaging

/-- The preparation for SLEEP ends (R512). -/
def sleepReady (s : State) : State :=
  if !s.boot.sleeping || s.flag Fld.CK_STAT_SLEEP_READY then s else ((s.setB Fld.CK_STAT_SLEEP_READY true).toPstate 2).evt Fld.CK_EVT_SLEEP_READY

/-- A write of CK_PWR_CMD (R515); 3 is ignored. -/
def wrPwrCmd (s : State) (v rtc : Nat) : State :=
  match v % 4 with
  | 0 => s.reqRun
  | 1 => s.reqStandby
  | 2 => s.reqSleep rtc
  | _ => s

/-- NO_LEASE has lasted 10 ms with AUTO_STBY (R511). -/
def autoStandby (s : State) : State :=
  if bitAt (s.rdN Reg.CK_PWR_CFG) 0 && s.isMember && s.leaseState = 0 && !s.ls.stbyStilled && !s.boot.sleeping then s.toPstate 1 else s

end State

end Sys2Proof.Machine
end

