-- ==== Sys2Proof/Machine/Collector.lean ====
section
/-! DEFINITION. The fault collector's registers, block resets and their shadows, and severity windows (chapter 20). -/

namespace Sys2Proof.Machine

/-- The sources that report a level (R474). -/
def levelSource (src : Nat) : Bool := src == 3 || src == 4 || src == 6 || src == 7 || src == 8 || src == 13 || src == 22

/-- The pages of a reset target (R37, R480); PT, UL and PP by instance. -/
def resetPages (t inst g : Nat) : Bool :=
  match t with
  | 0 => true
  | 1 => g == 0x20
  | 2 => 0x40 ≤ g && g ≤ 0x43
  | 3 => 0x30 ≤ g && g ≤ 0x3F
  | 4 => g == 0x50 + inst
  | 5 => 0x60 ≤ g && g ≤ 0x63
  | 6 => g == 0x68
  | 7 => g == 0xC8 + inst
  | 8 => 0x70 ≤ g && g ≤ 0x73
  | 9 => 0x78 ≤ g && g ≤ 0x7B
  | 10 => g == 0x80 || g == 0x81
  | 11 => g == 0xA0 + inst
  | 12 => 0x100 ≤ g && g ≤ 0x103
  | 13 => 0x90 ≤ g && g ≤ 0x9F
  | 14 => g == 0xC1
  | _ => false

/-- FC_SRCs_CFG as it is stored (R475, R478): levels above 4 as 4, and N 0 as 1. -/
def storedSrcCfg (v : Nat) : Nat :=
  let l := fun (x : Nat) => if 4 < x then 4 else x
  let n := bitsOf v 16 8
  withBits (withBits (withBits v 0 3 (l (bitsOf v 0 3))) 8 3 (l (bitsOf v 8 3))) 16 8 (if n = 0 then 1 else n)

namespace State

/-! ### Acknowledging and forcing (R474, R477, R479) -/

/-- FC_CLASSc.LAST returns to 0 where no source of the class is pending. -/
def clearLast (s : State) : State :=
  (List.range 12).foldl (fun t c =>
    if (List.range 27).any (fun k => fcClass k == c && bitAt (t.rdN Reg.FC_PEND) k) then t
    else t.set (Fld.FC_CLASSc_LAST c) 0) s

/-- A write of FC_PEND (R477). -/
def wrPend (s : State) (v : Nat) : State :=
  let asked := v &&& s.rdN Reg.FC_PEND
  let kept := maskOf ((List.range 27).filter (fun k => bitAt asked k && levelSource k && bitAt (s.rdN Reg.FC_ACTIVE) k))
  let gone := asked ^^^ kept
  let keep := fun (m : Nat) => m &&& (0xFFFFFFFF ^^^ gone)
  let s1 := s.wrN Reg.FC_PEND (keep (s.rdN Reg.FC_PEND))
  let s2 := { s1 with fc := { s1.fc with pinl := keep s1.fc.pinl, sql := keep s1.fc.sql, nmil := keep s1.fc.nmil } }
  let s3 := if kept ≠ 0 then s2.evt Fld.FC_EVT_ACK_ACTIVE else s2
  s3.clearLast.refreshFc

/-- A write of FC_FORCE (R474, R479): the sources in ascending order, each with the journal flag FORCED. -/
def wrForce (s : State) (v : Nat) : State := ((List.range 27).filter (fun k => bitAt v k)).foldl (fun t k => t.raiseFault k 0 true) s

/-! ### Block reset (R480, R481) -/

/-- The work in flight that a block reset discards. -/
def blockDiscard (s : State) (t inst : Nat) : State :=
  match t with
  | 1 => s.setHo { s.ho with count := 0, ySum := 0, tSum := 0, tempOkAll := true, held := [], tempFails := 0, carry := 0,
                             uart := s.ho.uart.map (fun u => { u with resend := true }) }
  | 3 =>
    let s1 := [0, 1].foldl (fun x a => x.gnWithdraw a) s
    s1.setGn { s1.gn with chans := List.replicate 256 GnChan.free, lostChans := [] }
  | 4 => if s.fenced inst then s else s.portRestart inst
  | 5 =>
    let all := s.sw.queues.flatten
    let s1 := all.foldl (fun x r => (x.noteMissed r.src r.dest r.bytes).noSend r.dest r.tsReq) s
    s1.setSw { s1.sw with queues := s1.sw.queues.map (fun _ => []), missed := s1.sw.missed }
  | 7 => if s.flag (Fld.ULk_STAT_FENCED inst) then s else s.ulinkDown inst true
  | 8 => (s.setPe { s.pe with twoStep := s.pe.twoStep.map (fun _ => []), late := [] }).setSw { s.sw with jobs := s.sw.jobs.filter (fun j => j.eng != 16) }
  | 9 => s.setSw { s.sw with jobs := s.sw.jobs.filter (fun j => j.eng != 17) }
  | 10 =>
    let s1 := s.abortStatement
    match s1.ks.job with
    | none => s1
    | some _ =>
      let s2 := s1.setKs { s1.ks with job := none, certParts := [], certNext := 0 }
      (((s2.setB Fld.KS_RESULT_BUSY false).set Fld.KS_RESULT_RESULT 12).set Fld.KS_RESULT_OUTLEN 0).evt Fld.KS_EVT_DONE
  | 11 => if s.pipAlive inst then s.pipRestart inst else s
  | 13 => ((List.range 16).filter (fun n => s.outLive n)).foldl (fun x n => x.squelchNow n) s
  | 14 => s.setLs { s.ls with feeds := s.ls.feeds.map (fun _ => []) }
  | _ => s

/-- The block reset of a target completes (R480): what was in flight is gone, and the configuration-class registers are those of the shadow. -/
def blockResetDone (s : State) (t : Nat) : State :=
  match s.fc.shadows.find? (fun x => x.target == t && !x.done) with
  | none => s
  | some x =>
    let s1 := (s.blockDiscard t x.inst).reload (fun g => resetPages t x.inst g)
    let s2 := if t = 0 then s1.startScan else if t = 2 then s1.forwardSettings else s1
    { s2 with fc := { s2.fc with shadows := s2.fc.shadows.map (fun y => if y.target = t && !y.done then { y with done := true } else y) } }

/-- The shadow of a completed block reset closes (R481). -/
def shadowClose (s : State) (t : Nat) : State :=
  { s with fc := { s.fc with shadows := s.fc.shadows.filter (fun x => !(x.target == t && x.done)) } }.refreshFc

/-! ### Severity windows (R478) -/

/-- A window closes whose last boundary has passed. -/
def windowClose (s : State) (src : Nat) : State :=
  match s.fc.windows.find? (fun w => w.source == src) with
  | none => s
  | some w =>
    if w.framesLeft ≠ 0 then s
    else { s with fc := { s.fc with windows := s.fc.windows.filter (fun x => x.source != src) } }.wrN Reg.FC_SEVERE
      (putBitAt (s.rdN Reg.FC_SEVERE) src false)

/-- A raised boundary counts in every open window. A window that has counted its last boundary is closed by SEVERITY_WINDOW_CLOSE (an occurrence
until then is one of the boundary's own cycle), and by the next boundary at the latest. -/
def windowsFrame (s : State) : State :=
  let out := s.fc.windows.filter (fun w => w.framesLeft == 0)
  let s1 := out.foldl (fun t w => t.windowClose w.source) s
  { s1 with fc := { s1.fc with windows := s1.fc.windows.map (fun w => { w with framesLeft := w.framesLeft - 1 }) } }

end State

end Sys2Proof.Machine
end

