-- ==== Sys2Proof/Machine/Mirror.lean ====
section
/-! DEFINITION. Mirroring from the holder to the standby over Usaur link 0 (R421 to R423). The spec gives the records' contents and not their
form on the link: a record is two words (kind, length and index; frame number) and its words, one record after another in a MIRROR frame. -/

namespace Sys2Proof.Machine

/-- A record's words on the link; kinds: 1 Entry, 2 Sequence, 3 Key blob, 4 Overlay, 5 UTC, 6 Resync marker, 7 resync complete, 8 resync request. -/
def recordWords (kind index frame : Nat) (w : List Nat) : List Nat :=
  [kind * 2 ^ 28 + w.length % 256 * 2 ^ 20 + index % 2 ^ 20, frame % 2 ^ 32] ++ w.map (· % 2 ^ 32)

/-- The records of a MIRROR payload: (kind, index, frame, words). -/
def recordsOf : Nat → List Nat → List (Nat × Nat × Nat × List Nat)
  | 0, _ => []
  | fuel + 1, h :: f :: r =>
    let n := bitsOf h 20 8
    if h / 2 ^ 28 = 0 then [] else (h / 2 ^ 28, h % 2 ^ 20, f, r.take n) :: recordsOf fuel (r.drop n)
  | _, _ => []

namespace State

/-- The pair wrap key (R356): the lowest slot of an AES-SIV key that LINK may wrap with. -/
def pairWrap (s : State) : Option Nat :=
  (List.range 128).find? (fun k => s.slotValid k && s.slotType k == 2 && s.useOk k .wrap && s.masterOk k .link && s.lcOk k)

/-- The number of the running millisecond of time-core time, by which key records name their frame. -/
def frameNumber (s : State) : Nat := s.tc.now / msU % 2 ^ 32

/-- This member is the mirroring holder, or the standby of one. -/
def mirrors (s : State) : Bool := s.isMember && s.leaseState == 2 && s.flag Fld.LS_CTL_MIRROR_EN
def mirrored (s : State) : Bool := s.isMember && s.leaseState != 2

/-- A staged record as it goes out; nothing for a key that has gone, or without a pair wrap key. -/
def stagedWords (s : State) (r : MirRec) : List Nat :=
  if r.kind = 3 then
    match s.pairWrap with
    | some w => if s.slotValid r.index then recordWords 3 r.index (r.words.getD 1 0) (r.words.take 1 ++ wordsOf (s.blobOf w r.index)) else []
    | none => []
  else recordWords r.kind r.index 0 r.words

/-- The end of a resync: a Key blob for every generation held, and the marker. -/
def resyncEnd (s : State) : List MirRec :=
  let f := s.frameNumber
  (([2, 1, 0].filter (fun j => s.genHeld j)).map (fun j => MirRec.mk 3 (s.genSlotOf j) [s.genNum j, f] s.tc.now)) ++ [⟨7, 0, [], s.tc.now⟩]

/-- The words that the staging region and a running resync give to one frame of at most `room` words. -/
def gather (s : State) : Nat → Nat → List Nat × State
  | 0, _ => ([], s)
  | fuel + 1, room =>
    match s.ls.staging with
    | r :: rest =>
      let w := s.stagedWords r
      if room < w.length then ([], s)
      else
        let x := (s.setLs { s.ls with staging := rest }).gather fuel (room - w.length)
        (w ++ x.1, x.2)
    | [] =>
      if s.ls.resyncLeft = 0 then ([], s)
      else
        let first := 1048576 - s.ls.resyncLeft
        match s.pe.table.find? (fun e => first ≤ e.1 && entryValid e.2) with
        | some (i, e) =>
          let w := recordWords 1 i 0 e
          if room < w.length then ([], s)
          else
            let x := (s.setLs { s.ls with resyncLeft := 1048575 - i }).gather fuel (room - w.length)
            (w ++ x.1, x.2)
        | none => (s.setLs { s.ls with resyncLeft := 0, staging := s.resyncEnd }).gather fuel room

/-- A MIRROR frame goes out if MIRROR admits it whole (R421, R435); otherwise the records stay where they are. -/
def mirrorSend (s : State) : State :=
  if !s.ulUp 0 || !(s.mirrors || s.mirrored) then s
  else
    let x := s.gather 512 1019
    if x.1 = [] then x.2
    else
      let n := max 68 (20 + 4 * x.1.length)
      let a := x.2.admitFor 10 n
      if a.1 then a.2.sendFrame 0 2 4095 s.nodeAddr 0 x.1 else s.stall 10

/-- A standby asks for a resync (R423). -/
def askResync (s : State) : State :=
  if !s.mirrored then s else (s.setLs { s.ls with resyncDone := false, staging := [⟨8, 0, [], s.tc.now⟩] }).mirrorSend

/-- A holder takes up a resync. -/
def startResync (s : State) : State :=
  if !s.mirrors then s else s.setLs { s.ls with staging := s.ls.staging ++ [⟨6, 0, [], s.tc.now⟩], resyncLeft := 1048576 }

/-- An entry received is written at its index, chains and calendar with it (R303, R421). -/
def mirrorEntry (s : State) (i : Nat) (e : List Nat) : State :=
  let old := s.tblEntry i
  let rate := fun (x : List Nat) => if entryValid x then entryRate x else 0
  let s1 := s.setPe { s.pe with table := alPut s.pe.table i e, commit := s.pe.commit - rate old + rate e,
                                freed := if entryValid e then s.pe.freed.filter (· != i) else if entryValid old then i :: s.pe.freed else s.pe.freed }
  (if entryValid e then s1.listEntry i (tickOf s1.tc.now) else s1.unlist i).refreshTable

/-- A key blob takes effect (R421): the key in its slot, and a generation as CURRENT. -/
def applyBlob (s : State) (b : BlobWait) : State :=
  match s.pairWrap with
  | none => s
  | some w =>
    let g := fromLe (b.blob.take 4)
    let blob := b.blob.drop 4
    match s.openBlob w blob with
    | none => s
    | some key =>
      let s1 := s.importBlob w b.slot blob key
      let held := (List.range 3).any (fun j => s1.genHeld j && s1.genNum j == g && s1.genSlotOf j == b.slot)
      if 65536 ≤ g || held then s1 else s1.genCurrent b.slot g

/-- A frame number has been reached. -/
def frameReached (s : State) (f : Nat) : Bool := (s.frameNumber + 2 ^ 32 - f) % 2 ^ 32 < 2 ^ 31

/-- Blobs whose frame has come are applied, in order. -/
def applyBlobs (s : State) : State :=
  let due := s.ls.blobs.filter (fun b => s.frameReached b.frame)
  due.foldl (fun t b => t.applyBlob b) (s.setLs { s.ls with blobs := s.ls.blobs.filter (fun b => !s.frameReached b.frame) })

/-- UTC values received are written as software's would be (R81). -/
def mirrorUtc (s : State) (w : List Nat) : State :=
  if s.utcLocked then s.utcRefuse
  else (((s.wrN Reg.TC_UTC_CUR (w.getD 0 0 % 65536)).wrN Reg.TC_UTC_PEND (w.getD 1 0 % 65536)).wrN Reg.TC_UTC_EFF_L (w.getD 2 0)).wrN
    Reg.TC_UTC_EFF_H (w.getD 3 0 % 65536)

/-- A record received is applied. -/
def applyRecord (s : State) (r : Nat × Nat × Nat × List Nat) : State :=
  let (kind, i, f, w) := r
  if kind = 8 then s.startResync
  else if !s.mirrored then s
  else if kind = 1 then (if w.length = 16 then s.mirrorEntry i w else s)
  else if kind = 2 then s.setPe { s.pe with table := alPut s.pe.table i ((s.tblEntry i).set 15 (w.getD 0 0)) }
  else if kind = 3 then
    (s.setLs { s.ls with blobs := s.ls.blobs ++ [⟨f, i % 128, w.flatMap (leBytes 4), s.tc.now⟩] }).applyBlobs
  else if kind = 4 then s.setLs { s.ls with ovlMask := w.getD 0 0 % 65536 }
  else if kind = 5 then s.mirrorUtc w
  else if kind = 6 then s.setLs { s.ls with resyncDone := false }
  else if kind = 7 then s.setLs { s.ls with resyncDone := true }
  else s

/-- A MIRROR frame has been received (R435). -/
def mirrorReceive (s : State) (payload : List Byte) : State := (recordsOf 1024 (wordsOf payload)).foldl (fun t r => t.applyRecord r) s

/-- The UTC registers that the holder mirrors. -/
def utcWords (s : State) : List Nat := [s.rdN Reg.TC_UTC_CUR, s.rdN Reg.TC_UTC_PEND, s.rdN Reg.TC_UTC_EFF_L, s.rdN Reg.TC_UTC_EFF_H]

/-- A mirroring holder notices changes of CFG_OVL_REQ and of the UTC registers (R421). -/
def mirrorWatch (s : State) : State :=
  if !s.mirrors then s
  else
    let o := bitsOf (s.rdN Reg.CFG_OVL_REQ) 0 16
    let u := s.utcWords
    let s1 := if o = s.ls.sentOvl then s else (s.setLs { s.ls with sentOvl := o }).mirQueue 4 0 [o]
    if u = s1.ls.sentUtc then s1 else (s1.setLs { s1.ls with sentUtc := u }).mirQueue 5 0 u

/-- The age of the oldest record not yet applied, in µs (R421). -/
def mirrorLag (s : State) : Nat :=
  let ts := if s.mirrors then s.ls.staging.map (·.queued) else s.ls.blobs.map (·.came)
  match ts with
  | [] => 0
  | t :: _ => ceilDiv (s.tc.now - t) (1000 * nsU)

/-- Mirroring's part of a frame boundary. -/
def mirrorFrame (s : State) : State :=
  let s1 := if s.mirrored then s.applyBlobs else s.mirrorWatch
  let s2 := if s1.mirrored && !s1.ls.staging.isEmpty then s1.mirrorSend else s1
  s2.wrSat Reg.LS_MIRROR_LAG s2.mirrorLag

/-- A key-store command ends (R353); a security-association key that it has made is mirrored (R421). -/
def ksDoneMirrored (s : State) : State :=
  let s1 := s.ksDone
  match s.ks.job with
  | some j =>
    let made : Bool := (j.op == 1 || j.op == 2 || j.op == 3 || j.op == 8) && !s.slotValid j.slot && s1.slotValid j.slot && s1.masterOk j.slot .ptp
    if made then s1.mirQueue 3 j.slot [0x10000, s1.frameNumber] else s1
  | none => s1

end State

end Sys2Proof.Machine
end

