-- ==== Sys2Proof/Machine/Indirect.lean ====
section
/-! DEFINITION. Indirect access (R46 to R50): the four register sets of the IND page and the domains behind them. -/

namespace Sys2Proof.Machine

/-- The path of an access: class and, of the host, whether it came through BAR2 (R35). -/
def isSecurePath (req : Requester) (ap : Aperture) : Bool := req == .host && ap == .bar2

/-- Bytes as 32-bit words, least significant byte first, the last word filled up with zeros. -/
def wordAt (b : List Byte) (k : Nat) : Nat := fromLe ((b.drop (4 * k)).take 4)

namespace State

/-- The set of a requester. -/
def indSet (s : State) (i : Nat) : IndSet := s.ind.sets.getD i ⟨0, none, false⟩
def modInd (s : State) (i : Nat) (f : IndSet → IndSet) : State := { s with ind := { s.ind with sets := s.ind.sets.modify i f } }

/-- Whether an offset lies in a domain. The spec gives the extents of the Shell read window (R222) and of the tamper log (R366); the others are the
implementation's. -/
def indInRange (dom off : Nat) : Bool :=
  if dom = 3 then off < 0x16800 else if dom = 6 then off < max 0x180 (Config.indSize 6) else 1 ≤ dom && dom ≤ 7 && off < Config.indSize dom

/-- A domain whose block is in block reset (R46, R480). -/
def indInReset (s : State) (dom : Nat) : Bool :=
  let busy := fun (t : Nat) => s.fc.shadows.any (fun x => x.target == t && !x.done)
  match dom with
  | 1 => busy 3
  | 2 => busy 3
  | 3 => busy 2
  | 4 => busy 4
  | 5 => busy 7
  | 7 => busy 12
  | _ => false

/-- A read window word of the Shell (R222). -/
def shellWord (s : State) (off : Nat) : Nat :=
  if off < 0x6000 then
    let c := off / 512
    let entry := fun (k : Nat) => match s.binTable c (s.tdc c).tgen with
      | some t => wordOf 16 (t.entries.getD k 0)
      | none => (Config.factoryBin c k).val
    entry (2 * (off % 512)) + 2 ^ 16 * entry (2 * (off % 512) + 1)
  else if off < 0x12000 then ((s.tdc ((off - 0x6000) / 1024)).lastHist.getD ((off - 0x6000) % 1024) 0) % 2 ^ 32
  else if off < 0x12030 then wordOf 32 (s.tdc (off - 0x12000)).skew
  else if 0x12100 ≤ off && off < 0x12180 then
    match s.sh.srcChan.getD (off - 0x12100) none with
    | some c => c
    | none => (Config.indWord 3 off).toNat
  else if 0x14000 ≤ off && off < 0x16000 then wordAt (lrpBytes s.sh.lrp) (off - 0x14000)
  else if 0x16000 ≤ off && off < 0x16800 then
    match s.sh.audit[(off - 0x16000) / 32]? with
    | some e =>
      let w := [e.sealCount, secOf e.time % 2 ^ 32, nsOf e.time, secOf e.time / 2 ^ 32, e.key] ++ wordsOf e.digest ++ [if e.complete then 1 else 0]
      w.getD ((off - 0x16000) % 32) 0 % 2 ^ 32
    | none => 0
  else (Config.indWord 3 off).toNat

/-- The word of a domain. What the spec does not describe is what was last stored there, or open. -/
def indRead (s : State) (dom off : Nat) : Nat :=
  if dom = 3 then s.shellWord off
  else if dom = 6 && 0x100 ≤ off && off < 0x180 then (s.ks.log.getD ((off - 0x100) / 8) []).getD ((off - 0x100) % 8) 0 % 2 ^ 32
  else match s.ind.ram.find? (fun e => e.1 == dom * 2 ^ 24 + off) with
    | some e => e.2
    | none => (Config.indWord dom off).toNat

/-- A store to a domain; the tamper log keeps its entries. -/
def indStore (s : State) (dom off v : Nat) : State :=
  if dom = 6 && 0x100 ≤ off && off < 0x180 then s
  else
    let k := dom * 2 ^ 24 + off
    { s with ind := { s.ind with ram := (k, v) :: s.ind.ram.filter (fun e => e.1 != k) } }

/-- The access in progress of a set completes (R48); data of a set released meanwhile are discarded (R50). -/
def indComplete (s : State) (i : Nat) : State :=
  let x := s.indSet i
  match x.pending with
  | none => s
  | some (.read d o) =>
    let w := if x.drop then x.word else s.indRead d o
    (s.modInd i (fun y => { y with word := w, pending := none, drop := false })).setB (Fld.IND_STAT_BUSY i) false
  | some (.store d o v) => ((s.indStore d o v).modInd i (fun y => { y with pending := none, drop := false })).setB (Fld.IND_STAT_BUSY i) false

/-- The current word of a set may be accessed: domain, extent, direction and path (R46). -/
def indAllowed (s : State) (i : Nat) (ap : Aperture) (write : Bool) : Bool :=
  let d := s.get (Fld.IND_ADDR_DOMAIN i)
  indInRange d (s.get (Fld.IND_ADDR_OFFSET i)) && !s.indInReset d && !(write && (d == 3 || d == 7)) && (d != 6 || (i == 0 && ap == .bar2))

/-- An access starts, or sets ERR (R46, R49). -/
def indStart (s : State) (i : Nat) (ap : Aperture) (op : Option Nat) : State :=
  if !s.indAllowed i ap op.isSome then s.setB (Fld.IND_STAT_ERR i) true
  else
    let d := s.get (Fld.IND_ADDR_DOMAIN i)
    let o := s.get (Fld.IND_ADDR_OFFSET i)
    let p := match op with | some v => IndOp.store d o v | none => IndOp.read d o
    (s.modInd i (fun y => { y with pending := some p, drop := false })).setB (Fld.IND_STAT_BUSY i) true

/-- The offset advances by IND_CTL.STEP (R48). -/
def indAdvance (s : State) (i : Nat) : State :=
  let n := match s.get (Fld.IND_CTL_STEP i) with | 1 => 1 | 2 => 4 | _ => 0
  s.set (Fld.IND_ADDR_OFFSET i) (s.get (Fld.IND_ADDR_OFFSET i) + n)

/-- A write of IND_ADDR; an access still in progress ends first (R48). -/
def wrIndAddr (s : State) (i : Nat) (ap : Aperture) (v : Nat) : State := ((s.indComplete i).wrN (Reg.IND_ADDR i) v).indStart i ap none

/-- A read of IND_DATA (R48, R49): its word, and the next read started. -/
def rdIndData (s : State) (i : Nat) (ap : Aperture) : Nat × State :=
  if s.flag (Fld.IND_STAT_ERR i) then (0xFFFFFFFF, s)
  else
    let s1 := s.indComplete i
    ((s1.indSet i).word, (s1.indAdvance i).indStart i ap none)

/-- A write of IND_DATA (R48, R49). -/
def wrIndData (s : State) (i : Nat) (ap : Aperture) (v : Nat) : State :=
  if s.flag (Fld.IND_STAT_ERR i) then s
  else
    let s1 := s.indComplete i
    if s1.indAllowed i ap true then (s1.indStart i ap (some v)).indAdvance i else s1.indStart i ap (some v)

/-- Set 2 is held by a Pip other than k (R50). -/
def heldByOther (s : State) (k : Nat) : Bool := s.get (Fld.IND_STAT_OWNER 2) != 0xFF && s.get (Fld.IND_STAT_OWNER 2) != k

/-- A write of IND_CTL (R48, R50): STEP, 3 stored as 0, and in set 2 HOLD. -/
def wrIndCtl (s : State) (i k v : Nat) : State :=
  let step := if v % 4 = 3 then 0 else v % 4
  let s1 := s.set (Fld.IND_CTL_STEP i) step
  if i ≠ 2 then s1
  else if bitAt v 8 then (s1.set (Fld.IND_STAT_OWNER 2) k).setB (Fld.IND_CTL_HOLD 2) true
  else s1.indFree k

/-- A read or write of a set's register by a requester whose set it is (R46, R50): the word read, the state, and whether the access counts in
SYS_BADACC. `op` is the word written. -/
def indAccess (s : State) (i : Nat) (req : Requester) (ap : Aperture) (reg : Nat) (op : Option Nat) : Nat × State × Bool :=
  if i ≠ reqClass req then (0, s, true)
  else if i = 2 && reg ≠ 3 && s.heldByOther (reqPip req) then (0, s, true)
  else match reg, op with
    | 0, none => (s.rdN (Reg.IND_ADDR i), s, false)
    | 0, some v => (0, s.wrIndAddr i ap v, false)
    | 1, none => let x := s.rdIndData i ap; (x.1, x.2, false)
    | 1, some v => (0, s.wrIndData i ap v, false)
    | 2, none => (s.rdN (Reg.IND_CTL i), s, false)
    | 2, some v => (0, s.wrIndCtl i (reqPip req) v, false)
    | _, none => (s.rdN (Reg.IND_STAT i), s, false)
    | _, some v => (0, if bitAt v 1 then s.setB (Fld.IND_STAT_ERR i) false else s, false)

end State

end Sys2Proof.Machine
end

