-- ==== Sys2Proof/Machine/Bus.lean ====
section
/-! DEFINITION. The register fabric (chapter 02): what an access of a requester reads and writes, page gating, locks, secure registers, change
windows, overlay-owned bits, 64-bit latches and staging words, and the effects of the registers that act when they are written. -/

namespace Sys2Proof.Machine

/-- The address of an access. -/
def addrOf (x : Access) : Nat := x.page * 0x1000 + x.offset

/-- The lower words of the 64-bit registers (R41): first and last page, and offsets. -/
def pairTable : List (Nat × Nat × List Nat) :=
  [(0x04, 0x04, [0x50, 0x58, 0x60, 0x8C, 0xA8]), (0x08, 0x08, [0x40]), (0x10, 0x1B, [0x48]), (0x1B, 0x1B, [0xC0]), (0x31, 0x31, [0xA8, 0xC8]),
   (0x32, 0x33, [0x80]), (0x40, 0x40, [0x18C]), (0x48, 0x48, [0xC0]), (0x50, 0x5F, [0xC0, 0xC8]), (0x70, 0x70, [0x80, 0x88]), (0x71, 0x71, [0x40]),
   (0x73, 0x73, [0x84, 0x90, 0x104, 0x110]), (0x78, 0x78, [0xC0, 0xC8]), (0x79, 0x79, [0x60]), (0x7A, 0x7A, [0x50]), (0x88, 0x88, [0x48, 0x50]),
   (0xC8, 0xCB, [0x84, 0x98]), (0xD0, 0xD0, [0x54, 0x60]), (0xD1, 0xD1, [0x40, 0x50, 0x58, 0x60]), (0xE0, 0xE3, [0x48]), (0xE9, 0xEB, [0x50])]

/-- Whether an address is the lower word of a 64-bit register. -/
def pairLow (a : Nat) : Bool :=
  let g := pageOf a
  let o := a % 0x1000
  pairTable.any (fun e => e.1 ≤ g && g ≤ e.2.1 && e.2.2.contains o) || ((g == 0x62 || g == 0x63) && 0x40 ≤ o && o < 0x240 && o % 0x20 == 0) ||
    (0xE0 ≤ g && g ≤ 0xE3 && 0x88 ≤ o && o < 0x108 && o % 0x10 == 8)

/-- Registers whose writes only BAR2 may make (R35, R370). -/
def secureOnly (a : Nat) (r : RegRow) : Bool := r.sec || pageOf a == 0x88

/-- The words that a read of EB_BOUND_L latches (R238). -/
def boundWords : List Nat := [Reg.EB_BOUND_H, Reg.EB_T0_NS, Reg.EB_T0_SECL, Reg.EB_T0_SECH, Reg.EB_G, Reg.EB_GEN]

namespace State

/-! ### Latches and staging words (R41, R42) -/

def latch (s : State) (req : Requester) (a : Nat) : Nat :=
  match s.latches.find? (fun e => e.1 == req && e.2.1 == a) with
  | some e => e.2.2.toNat
  | none => 0

def setLatch (s : State) (req : Requester) (a v : Nat) : State :=
  { s with latches := (req, a, BitVec.ofNat 32 v) :: s.latches.filter (fun e => !(e.1 == req && e.2.1 == a)) }

def setLatches (s : State) (req : Requester) (l : List (Nat × Nat)) : State := l.foldl (fun t e => t.setLatch req e.1 e.2) s

def staged (s : State) (req : Requester) (a : Nat) : Option Nat :=
  (s.staging.find? (fun e => e.1 == req && e.2.1 == a)).map (fun e => e.2.2.toNat)

def unstage (s : State) (req : Requester) (a : Nat) : State := { s with staging := s.staging.filter (fun e => !(e.1 == req && e.2.1 == a)) }

def stage (s : State) (req : Requester) (a v : Nat) : State :=
  let s1 := s.unstage req a
  { s1 with staging := (req, a, BitVec.ofNat 32 v) :: s1.staging }

/-! ### Who reaches what (R35, R364, R484, R505, R506, R509) -/

/-- How a page answers an access: 0 reads 0 and ignores writes, 1 can be read, 2 can be read and written. -/
def reach (s : State) (req : Requester) (ap : Aperture) (page : Nat) : Nat :=
  if s.boot.held then 0
  else if isSecurePath req ap && !s.flag Fld.SYS_SECURE_EN_EN then 0
  else if s.safe then (if page == 0 || page == 0xD8 || page == 0x88 then 2 else 0)
  else if s.bootStage = 7 then (if isSecurePath req ap then 0 else if page == 0 || page == 0x80 || page == 0x88 then 1 else 0)
  else if !s.flag Fld.SYS_BOOT_READY then (if page == 0 then 2 else 0)
  else 2

/-! ### Reads -/

/-- The seal scan in progress: words read so far (R497). -/
def sealDone (s : State) : Nat := if s.cfg.scanning then Config.scanProgress s.freeCtr % cfgAddrs.length else 0

/-- The value that a register word shows now, where it is more than what the register holds. -/
def live (s : State) (a : Nat) : Nat :=
  let v := s.rdN a
  let g := pageOf a
  let sec := secOf s.tc.now
  if a = Reg.TC_SLEW_OFS_L then wordOf 64 (s.tc.slew / 2 ^ 32) % 2 ^ 32
  else if a = Reg.TC_SLEW_OFS_H then wordOf 64 (s.tc.slew / 2 ^ 32) / 2 ^ 32
  else if a = Reg.TC_STAT then withBits v 16 16 (maskOf ((List.range 16).filter (fun p => !(s.tc.txqs.getD p ⟨[], false⟩).entries.isEmpty)))
  else if a = Reg.TC_UTC_STAT then
    withBits (withBits (withBits (withBits v 0 16 (wordOf 16 (s.utcOffsetAt sec))) 18 1 (if s.leapSoon sec then 1 else 0)) 19 1
      (if s.utcInserted sec then 1 else 0)) 20 2 (s.leapInd sec)
  else if 0x10 ≤ g && g ≤ 0x1B && a % 0x1000 = 0x64 then s.slotTimer (g - 0x10)
  else if a = Reg.SW_USED then s.cellsUsed
  else if a = Reg.SW_FREE then s.swFree
  else if 0x90 ≤ g && g ≤ 0x9F && a % 0x1000 = 0x84 then let o := s.out (g - 0x90); wordOf 32 (satSigned 32 (psOfI (if o.byComp then -o.lag else o.lag)))
  else if a = Reg.JN_STAGE_USED then bitsOf (s.stageUsed / 1024) 0 13
  else if a = Reg.LS_MIRROR_LAG then satNat 32 s.mirrorLag
  else if a = Reg.CVn_CTX 0 then (cfgAddrs.take s.sealDone).foldl (fun c w => crcBytes crc32cPoly c (leBytes 4 (s.rdN w &&& cfgMask w))) 0
  else if a = Reg.CVn_DONE_BYTES 0 then 4 * s.sealDone
  else if a = Reg.CVn_RESULT 0 then s.rdN Reg.CFG_LAST_CRC
  else if 0xE9 ≤ g && g ≤ 0xEB && (a % 0x1000 = 0x60 || a % 0x1000 = 0x68) then
    match s.cv.getD (g - 0xE8) none with
    | some x =>
      let n := s.cvProgress x
      if a % 0x1000 = 0x68 then n else cvRun x.cfg x.poly x.ctx (memRead s.dram x.start n)
    | none => v
  else v

/-- A read of TC_CAPn_POP (R89). -/
def popCapture (s : State) (req : Requester) (n : Nat) : Nat × State :=
  let a := Reg.TC_CAPn_POP n
  let c := s.tc.caps.getD n ⟨[], false⟩
  match c.fifo with
  | [] => (0, s.setLatches req [(a + 4, 0), (a + 8, 0), (a + 12, 0)])
  | e :: r =>
    let s1 := { s with tc := { s.tc with caps := s.tc.caps.set n ⟨r, c.dropped⟩ } }
    (2 ^ 31 + (if e.ovf then 2 ^ 30 else 0) + secOf e.stamp / 2 ^ 32 % 2 ^ 16,
      s1.setLatches req [(a + 4, frac32Of e.stamp), (a + 8, nsOf e.stamp), (a + 12, secOf e.stamp % 2 ^ 32)])

/-- A read of TC_TXQp_POP (R92). -/
def popTxq (s : State) (req : Requester) (p : Nat) : Nat × State :=
  let a := Reg.TC_TXQp_POP p
  let q := s.tc.txqs.getD p ⟨[], false⟩
  match q.entries with
  | [] => (0, s.setLatches req [(a + 4, 0), (a + 8, 0), (a + 12, 0)])
  | e :: r =>
    let s1 := { s with tc := { s.tc with txqs := s.tc.txqs.set p ⟨r, q.dropped⟩ } }
    let b := fun (x : Bool) (k : Nat) => if x then 2 ^ k else 0
    (2 ^ 31 + b e.ovf 30 + b e.nosend 29 + b e.nostamp 28 + e.tag % 65536,
      s1.setLatches req [(a + 4, nsOf e.stamp), (a + 8, secOf e.stamp % 2 ^ 32), (a + 12, fracOf e.stamp / 2 ^ 32 * 65536 + secOf e.stamp / 2 ^ 32 % 65536)])

/-- What a read of a known register word returns, and what it does. -/
def readWord (s0 : State) (req : Requester) (a : Nat) : Nat × State :=
  let g := pageOf a
  let o := a % 0x1000
  let s := if 0xE0 ≤ g && g ≤ 0xE3 then s0.pcSync else s0
  if a = Reg.TC_NOW_FRAC then
    let t := s.tc.now
    (frac32Of t, s.setLatches req [(Reg.TC_NOW_NS, nsOf t), (Reg.TC_NOW_SECL, secOf t % 2 ^ 32), (Reg.TC_NOW_SECH, secOf t / 2 ^ 32 % 65536)])
  else if g = 4 && 0x44 ≤ o && o ≤ 0x4C then (s.latch req a, s)
  else if g = 6 && 0x40 ≤ o && o < 0x140 && o % 0x20 = 8 then s.popCapture req ((o - 0x40) / 0x20)
  else if g = 6 && 0x40 ≤ o && o < 0x140 && 8 < o % 0x20 && o % 0x20 < 0x18 then (s.latch req a, s)
  else if g = 7 && 0x40 ≤ o && o < 0x140 then (if o % 0x10 = 0 then s.popTxq req ((o - 0x40) / 0x10) else (s.latch req a, s))
  else if a = Reg.EB_BOUND_L then (s.live a, s.setLatches req (boundWords.map (fun w => (w, s.live w))))
  else if boundWords.contains a then (s.latch req a, s)
  else if pairLow a then (s.live a, s.setLatch req (a + 4) (s.live (a + 4)))
  else if 4 ≤ a && pairLow (a - 4) then (s.latch req a, s)
  else if a = Reg.PE_PROBE_MAX then (s.live a, s.wrN a 0)
  else (s.live a, s)

/-- A read of the register fabric (R33, R34, R38). -/
def busRead (s : State) (x : Access) : State :=
  if s.reach x.req x.ap x.page = 0 then s.result x.req 0 0
  else if x.offset % 4 ≠ 0 || 0x1000 ≤ x.offset then s.badAccess x.req
  else if x.page = 2 && 0x40 ≤ x.offset && x.offset < 0x80 then
    let r := s.indAccess ((x.offset - 0x40) / 16) x.req x.ap (x.offset % 16 / 4) none
    if r.2.2 then s.badAccess x.req else r.2.1.result x.req (BitVec.ofNat 32 r.1) 0
  else if (x.offset = 0 && idWord x.page ≠ 0) || (findRow (addrOf x)).isSome then
    let r := s.readWord x.req (addrOf x)
    r.2.result x.req (BitVec.ofNat 32 r.1) 0
  else s.badAccess x.req

/-! ### Plain writes (R38 to R40, R43, R44, R60) -/

/-- An RSV bit has been given another value (R39): what that does is open, and stays on the page. -/
def rsvWritten (s : State) (a : Nat) (old new : Word) : State :=
  let l := Config.rsvEffect (pageOf a) (a % 0x1000) old new s.freeCtr
  (l.foldl (fun t e => let b := pageOf a * 0x1000 + e.1 % 0x1000; if (findRow b).isSome then t.wr b e.2 else t) s).tick

/-- A word is written as its fields' access types say: RW and RSV bits take the value, RWL bits the first time, W1C bits clear, and bits that an
overlay owns stay (R38, R60). -/
def wrWord (s : State) (req : Requester) (a : Nat) (r : RegRow) (v : Nat) : State :=
  let old := s.rdN a
  let owned := if r.cfg then s.ownedMask a else 0
  let again := r.rwl != 0 && s.cfg.rwlDone.contains a
  let m := r.rw ||| r.rsv ||| (if again then 0 else r.rwl)
  let want := (old &&& (0xFFFFFFFF ^^^ m)) ||| (v &&& m)
  let bad := (want ^^^ old) &&& owned
  let new := (want ^^^ bad) &&& (0xFFFFFFFF ^^^ (v &&& r.w1c))
  let s1 := s.wrN a new
  let s2 := if r.rwl != 0 && !again then { s1 with cfg := { s1.cfg with rwlDone := s1.cfg.rwlDone ++ [a] } } else s1
  let s3 := if again then s2.lockedWrite req a 0 else if bad ≠ 0 then s2.lockedWrite req a 1 else s2
  if ((new ^^^ old) &&& r.rsv) ≠ 0 then s3.rsvWritten a (BitVec.ofNat 32 old) (BitVec.ofNat 32 new) else s3

/-- A write of LOCK (R44): bits may be set; an attempt to clear one is a locked write. -/
def wrLock (s : State) (req : Requester) (a v : Nat) : State :=
  let old := s.rdN a
  let s1 := s.wrN a (old ||| v)
  if (old &&& (0xFFFFFFFF ^^^ v)) ≠ 0 then s1.lockedWrite req a 0 else s1

/-- The journal source of a requester (R453). -/
def reqSource : Requester → Nat
  | .host => 0x60
  | .mgmt => 0x61
  | .jtag => 0x61
  | .pip k => 0x40 + k.val

/-- A write of EVT_FORCE (R43): each force is journalled with its requester. -/
def wrForceEvt (s : State) (req : Requester) (page mask v : Nat) : State :=
  ((List.range 32).filter (fun b => bitAt (v &&& mask) b)).foldl (fun t b =>
    (t.emitWith false (reqSource req) 12 "EVT_FORCE" (page * 32 + b) false true).raiseEvt page b true) s

/-- A write of RECUR (R43). -/
def wrRecur (s : State) (a v : Nat) : State := if bitAt v 31 then s.wrN a 0 else s

/-- A bit was set by hardware in the cycle in which software cleared it (R43). -/
def collide (s : State) (page b : Nat) : State :=
  let f : Fld := ⟨page * 0x1000 + 0x20, 0, 16⟩
  (s.bumpF f).set ⟨page * 0x1000 + 0x20, 16, 5⟩ b

/-! ### Registers that act -/

/-- A ring's BASE or LOG2SIZE while its CFG.EN is 1 (R278). -/
def ringBusy (s : State) (a : Nat) : Bool :=
  let g := pageOf a
  let r := (a % 0x1000 - 0x40) / 0x20
  (g == 0x62 && s.flag (Fld.SW_RXr_CFG_EN r)) || (g == 0x63 && s.flag (Fld.SW_TXr_CFG_EN r))

/-- A write of a ring's CFG: LOG2SIZE stays while EN is 1 (R278). -/
def wrRingCfg (s : State) (req : Requester) (a : Nat) (r : RegRow) (v : Nat) : State :=
  if s.ringBusy a && bitsOf v 8 5 ≠ bitsOf (s.rdN a) 8 5 then
    (s.wrWord req a r (withBits v 8 5 (bitsOf (s.rdN a) 8 5))).evt Fld.SW_EVT_RING_CFG
  else s.wrWord req a r v

/-- The commands of LS_CMD (R410, R415, R419, R423). -/
def wrLsCmd (s : State) (v : Nat) : State :=
  let s1 := if bitAt v 0 then s.requestSwap else s
  let s2 := if bitAt v 1 then s1.leaseFence else s1
  let s3 := if bitAt v 2 then s2.askResync else s2
  if bitAt v 3 && s3.isMember && s3.leaseState ≠ 2 then s3.sendClaim 2 else s3

/-- A write of SYS_IMG_CMD that states nothing of the image's sections: they are what `Config.imageSections` reads in its bytes. -/
def wrImgCmd (s : State) (v : Nat) : State :=
  if bitAt v 0 then (s.imgGo (Config.imageSections s.pushedBytes) (Config.selftestOk s.freeCtr) (Config.bootMs s.freeCtr)).tick else s

/-- The effect of a write that has passed the access checks, on pages 0x000 to 0x03F. -/
def wrLowPage (s : State) (req : Requester) (a : Nat) (r : RegRow) (v : Nat) : State :=
  let g := pageOf a
  let o := a % 0x1000
  if a = Reg.SYS_IMG_DATA then s.imgData (BitVec.ofNat 32 v)
  else if a = Reg.SYS_IMG_CMD then s.wrImgCmd v
  else if a = Reg.TC_SLOPE then
    (if (s.ownedMask a &&& (s.rdN a ^^^ v)) ≠ 0 then s.wrWord req a r v else s.wrSlope (v % 2 ^ 27))
  else if a = Reg.TC_STEP_CTL then (s.wrWord req a r v).wrStepCtl v
  else if a = Reg.TC_UTC_CUR || a = Reg.TC_UTC_PEND then (if s.utcLocked then s.utcRefuse else s.wrWord req a r v)
  else if a = Reg.TC_UTC_CTL then s.wrUtcCtl v
  else if g = 5 && o % 0x20 = 4 then s.wrTrgCmd req ((o - 0x40) / 0x20) v
  else if g = 6 && o % 0x20 = 4 then
    let n := (o - 0x40) / 0x20
    if bitAt v 0 && s.get (Fld.TC_CAPn_CFG_SRC n) = 0 then s.capStamp n s.tc.now else s
  else if 0x10 ≤ g && g ≤ 0x1B && o = 0x68 then s.wrSlotCmd (g - 0x10) v
  else if a = Reg.RS11_HCMD then (if bitAt v 0 then s.hostPost else s)
  else if a = Reg.RS_INNER_BW || a = Reg.RS_OUTER_BW then
    (if (s.ownedMask a &&& (s.rdN a ^^^ v)) ≠ 0 then s.wrWord req a r v else s.wrBw (a == Reg.RS_INNER_BW) v)
  else if a = Reg.HO_CMD then s.wrHoCmd v
  else if a = Reg.GN_PRED_CMD then (if bitAt v 0 then s.predPost else s)
  else if a = Reg.GN_LEAP_CMD then (if bitAt v 0 then s.setGn { s.gn with leapDue := true } else s)
  else if a = Reg.GN_OSN_CMD then s.wrOsnCmd v
  else if a = Reg.GN_FE_XFER then s.feXfer v
  else s.wrWord req a r v

/-- The effect of a write that has passed the access checks, on pages 0x040 to 0x08F. -/
def wrMidPage (s : State) (req : Requester) (a : Nat) (r : RegRow) (v : Nat) : State :=
  let g := pageOf a
  let o := a % 0x1000
  if a = Reg.SH_CMD then (if bitAt v 0 then s.setSh { s.sh with ocal := s.sh.ocal ||| bitsOf (s.rdN Reg.SH_OCAL_MASK) 0 16 } else s)
  else if a = Reg.SH_MB_CMD then s.wrMbCmd v
  else if a = Reg.SH_MB_LEN || (g = 0x43 && 0x40 ≤ o) then (if s.mbBusy then s.mbReject else s.wrWord req a r v)
  else if a = Reg.EB_ATT_CMD then (if bitAt v 0 then s.attReq req else s)
  else if 0x50 ≤ g && g ≤ 0x5F && o = 0x80 then s.wrPtCmd (g - 0x50) v
  else if a = Reg.SW_LAG_CMD then (if bitAt v 8 then s.setSw { s.sw with redeal := setBitAt s.sw.redeal (v % 8) } else s)
  else if (g = 0x62 || g = 0x63) && 0x40 ≤ o && o < 0x240 && o % 0x20 = 8 then s.wrRingCfg req a r v
  else if a = Reg.PE_TBL_QIDX then s.tableQuery v
  else if a = Reg.NE_ROT_CMD then (if bitAt v 0 then s.rotate else s)
  else if a = Reg.KS_CMD then (if bitAt v 31 then s.ksCommand .host (bitsOf v 0 8) (bitsOf v 8 7) (bitsOf v 16 7) else s)
  else if a = Reg.TP_LOOP_CFG then (if tpLocked s a v then s.lockedWrite req a 0 else s.wrLoopCfg v)
  else if a = Reg.TP_DET_CFG then (if tpLocked s a v then s.lockedWrite req a 0 else s.wrWord req a r v)
  else s.wrWord req a r v

/-- The effect of a write that has passed the access checks, on pages from 0x090 on. -/
def wrHighPage (s : State) (req : Requester) (a : Nat) (r : RegRow) (v : Nat) : State :=
  let g := pageOf a
  let o := a % 0x1000
  if 0xA0 ≤ g && g ≤ 0xBB && o = 0x80 then s.wrPipCmd (g - 0xA0) v
  else if 0xA0 ≤ g && g ≤ 0xBB && o = 0xB0 then s.wrMboxCmd (g - 0xA0) v
  else if a = Reg.LS_CMD then s.wrLsCmd v
  else if a = Reg.JN_HEVT_CMD then s.wrHevt req v
  else if a = Reg.FC_PEND then s.wrPend v
  else if a = Reg.FC_FORCE then s.wrForce v
  else if a = Reg.FC_RST_CAUSE then (s.wrWord req a r v).refreshFc
  else if g = 0xD8 && 0x100 ≤ o && o < 0x300 && o % 0x10 = 0 then
    (if o = 0x100 then s else s.wrWord req a r (storedSrcCfg v))
  else if 0xE0 ≤ g && g ≤ 0xE3 then
    (let s1 := s.pcSync
     if o = 0x40 then s1.wrPcRun (g - 0xE0) v
     else if 0x80 ≤ o && o % 0x10 = 0 then s1.wrPcSel (g - 0xE0) ((o - 0x80) / 0x10) (v % 2 ^ 28)
     else s1.wrWord req a r v)
  else if 0xE9 ≤ g && g ≤ 0xEB && o = 0x5C then s.wrCvCmd (g - 0xE8) v
  else if 0xE9 ≤ g && g ≤ 0xEB && o = 0x60 then s.wrCvCtx (g - 0xE8) v
  else if a = Reg.CK_PWR_CMD then s.wrPwrCmd v s.ks.rtc
  else s.wrWord req a r v

/-- The effect of a write of one word that has passed the access checks. -/
def wrEffect (s : State) (req : Requester) (a : Nat) (r : RegRow) (v : Nat) : State :=
  let o := a % 0x1000
  if o = 0x18 then s.wrForceEvt req (pageOf a) r.wo v
  else if o = 0x1C then s.wrLock req a v
  else if o = 0x20 then s.wrRecur a v
  else if pageOf a < 0x40 then s.wrLowPage req a r v
  else if pageOf a < 0x90 then s.wrMidPage req a r v
  else s.wrHighPage req a r v

/-- A 64-bit write is complete (R42): `a` is the upper word's address. -/
def wrPair (s : State) (req : Requester) (a : Nat) (r : RegRow) (lo v : Nat) : State :=
  let whole := v * 2 ^ 32 + lo
  if a = Reg.TC_INCR_SW_H then s.wrIncrSw whole
  else if a = Reg.TC_SLEW_OFS_H then s.wrSlewOfs whole
  else if a = Reg.TC_UTC_EFF_H && s.utcLocked then s.utcRefuse
  else if s.ringBusy a then s.evt Fld.SW_EVT_RING_CFG
  else
    let s1 := if 0xE0 ≤ pageOf a && pageOf a ≤ 0xE3 then s.pcSync else s
    match findRow (a - 4) with
    | some l => (s1.wrWord req (a - 4) l lo).wrWord req a r v
    | none => s1

/-! ### Access checks (R35, R44, R45, R55) -/

/-- The registers that FC's LOCK bit 0 protects (R485). -/
def fcLocked (s : State) (a : Nat) (r : RegRow) : Bool :=
  pageOf a == 0xD8 && r.cfg && bitAt (s.rdN Reg.FC_LOCK) 0 && (a == Reg.FC_CTL || 0x40 ≤ a % 0x1000)

/-- A write to a known register passes the checks that hold for all of it, and then does `f`. -/
def guarded (s : State) (req : Requester) (ap : Aperture) (a : Nat) (r : RegRow) (f : State → State) : State :=
  if r.rw ||| r.rwl ||| r.w1c ||| r.wo ||| r.rsv = 0 then s
  else if secureOnly a r && !isSecurePath req ap then s.lockedWrite req a 2
  else if r.cfg && a ≠ Reg.CFG_CTL && s.flag Fld.CFG_STAT_WIN_OPEN && !s.ownsWindow req then s.lockedWrite req a 3
  else if s.fcLocked a r then s.lockedWrite req a 0
  else f s

/-- A write to a known register whose own effect is `f`, through the register fabric (R33 to R35). -/
def busWriteWith (s0 : State) (req : Requester) (ap : Aperture) (a : Nat) (f : State → State) : State :=
  let s := s0.result req 0 0
  if s.reach req ap (pageOf a) < 2 then s
  else match findRow a with
    | some r => s.guarded req ap a r f
    | none => s.badAccess req

/-- What a write does once its register is known: a lower word is staged, an upper word completes its pair, any other word takes effect. -/
def wrKnown (s : State) (req : Requester) (a : Nat) (r : RegRow) (v : Nat) : State :=
  if a = Reg.CFG_CTL then (s.wrWord req a r v).wrCfgCtl req v
  else if pairLow a then s.stage req a v
  else if 4 ≤ a && pairLow (a - 4) then
    match s.staged req (a - 4) with
    | some lo => (s.unstage req (a - 4)).wrPair req a r lo v
    | none => s
  else s.wrEffect req a r v

/-- A write of the register fabric (R33, R34, R38). -/
def busWrite (s0 : State) (x : Access) (v : Word) : State :=
  let s := s0.result x.req 0 0
  if s.reach x.req x.ap x.page < 2 then s
  else if x.offset % 4 ≠ 0 || 0x1000 ≤ x.offset || x.be % 16 ≠ 15 then s.badAccess x.req
  else if x.page = 2 && 0x40 ≤ x.offset && x.offset < 0x80 then
    let r := s.indAccess ((x.offset - 0x40) / 16) x.req x.ap (x.offset % 16 / 4) (some v.toNat)
    if r.2.2 then s.badAccess x.req else r.2.1
  else match findRow (addrOf x) with
    | some r => (s.guarded x.req x.ap (addrOf x) r (fun t => t.wrKnown x.req (addrOf x) r v.toNat)).mirrorWatch
    | none => if x.offset = 0 && idWord x.page ≠ 0 then s else s.badAccess x.req

/-- A write of a page's EVT word, with bits that hardware sets in the same cycle (R43). -/
def clearEvt (s : State) (req : Requester) (ap : Aperture) (page v hw : Nat) : State :=
  let s1 := s.busWrite ⟨req, ap, page, 0x10, 15⟩ (BitVec.ofNat 32 v)
  let a := page * 0x1000 + 0x10
  match findRow a with
  | none => s1
  | some r =>
    let taken : Bool := s.reach req ap page == 2 && !(secureOnly a r && !isSecurePath req ap)
    ((List.range 32).filter (fun b => bitAt (hw &&& r.w1c) b)).foldl (fun t b =>
      let t1 := t.raiseEvt page b false
      if taken && bitAt v b then t1.collide page b else t1) s1

/-- What a requester's last access returned: the word and the status. -/
def lastRead (s : State) (req : Requester) : Word × Nat :=
  match s.readData.find? (fun e => e.1 == req) with
  | some e => e.2
  | none => (0, 0)

end State

end Sys2Proof.Machine
end

