-- ==== Sys2Proof/Machine/PipFabric.lean ====
section
/-! DEFINITION. Register accesses that start inside the chip or at the management ports: PEEK and POKE (R380), and the transactions of the SPI slave
and of I²C (R525). -/

namespace Sys2Proof.Machine

/-- A read and a write of a word address by a requester. -/
def wordAccess (req : Requester) (ap : Aperture) (a : Nat) : Access := ⟨req, ap, a / 0x1000, a % 0x1000, 15⟩

namespace State

def readAt (s : State) (req : Requester) (ap : Aperture) (a : Nat) : State := s.busRead (wordAccess req ap a)
def writeAt (s : State) (req : Requester) (ap : Aperture) (a v : Nat) : State := s.busWrite (wordAccess req ap a) (BitVec.ofNat 32 v)

/-! ### PEEK and POKE (R380) -/

/-- Whether the access list of a Pip covers a page: every valid entry permits reads, and one with WRITE also writes. -/
def aclCovers (s : State) (k page : Nat) (write : Bool) : Bool :=
  (List.range 8).any (fun j =>
    let e := s.rdN (Reg.PPk_ACL k j)
    bitAt e 31 && bitsOf e 16 9 ≤ page && page ≤ bitsOf e 0 9 && (!write || bitAt e 30))

/-- The cycles that a PEEK or POKE took (R380, R383). -/
def fabricTime (s : State) (k : Nat) : State :=
  let c := (Config.fabricCycles s.freeCtr).val
  s.tick.modPip k (fun x => { x with cycles := x.cycles + c, block := x.block - c })

/-- An access under a Pip's access list: the word and the status (R380). -/
def aclAccess (s : State) (k : Fin 28) (rd : Bool) (addr value : Nat) : (Nat × Nat) × State :=
  let page := bitsOf addr 16 9
  if !s.aclCovers k.val page (!rd) then ((0, 1), s.evt (Fld.PPk_EVT_ACL_DENY k.val))
  else
    let a : Access := ⟨.pip k, .other, page, bitsOf addr 0 12, 15⟩
    let s1 := if rd then s.busRead a else s.busWrite a (BitVec.ofNat 32 value)
    let r := s1.lastRead (.pip k)
    ((r.1.toNat, r.2), s1)

/-- The fabric answers a Pip: the status goes to its register after the data; a read that was denied brings no data. -/
def fabricAnswer (s : State) (k : Fin 28) (rd : Bool) (addr value dataReg statusReg : Nat) : State :=
  let x := ((s.setWait k.val .none).fabricTime k.val).aclAccess k rd addr value
  let s1 := if rd && x.1.2 != 1 then x.2.setP k.val dataReg x.1.1 else x.2
  s1.setP k.val statusReg x.1.2

/-- A Pip's PEEK or POKE is completed. -/
def peekPokeDone (s : State) (k : Fin 28) : State :=
  match (s.pip k.val).wait with
  | .fabric rd addr value dataReg statusReg => s.fabricAnswer k rd addr value dataReg statusReg
  | _ => s

/-! ### The management ports (R525) -/

/-- Three address bytes: page [20:12] and offset [11:0]; the upper bits are not used. -/
def mgmtAddr (b : List Byte) : Access :=
  let a := b.foldl (fun x y => x * 256 + y.toNat) 0
  ⟨.mgmt, .other, bitsOf a 12 9, bitsOf a 0 12, 15⟩

/-- The status byte of a result: 0x01 for an error under R45, 0x02 for an access counted in SYS_BADACC. -/
def statusByte (r : Nat) : Nat := r - 1

/-- A write; its status waits for the next transaction. -/
def mgmtWrite (s : State) (addr data : List Byte) : State :=
  let s1 := s.busWrite (mgmtAddr addr) (BitVec.ofNat 32 (fromLe data))
  { s1 with boot := { s1.boot with mgmt := statusByte (s1.lastRead .mgmt).2 } }

/-- The status byte and the word of a read: the status that waits is returned in place of the read's own. -/
def mgmtStatus (s : State) : State :=
  let p := s.boot.mgmt
  let r := s.lastRead .mgmt
  ({ s with boot := { s.boot with mgmt := 0 } } : State).result .mgmt r.1 (if p = 0 then statusByte r.2 else p)

/-- A read. -/
def mgmtRead (s : State) (addr : List Byte) : State := (s.busRead (mgmtAddr addr)).mgmtStatus

/-- An SPI transaction, as the bytes that the controller sends. -/
def mspi (s : State) (b : List Byte) : State :=
  if s.boot.held then s
  else if b.head? = some 2 && b.length = 8 then s.mgmtWrite ((b.drop 1).take 3) (b.drop 4)
  else if b.head? = some 1 && b.length = 5 then s.mgmtRead ((b.drop 1).take 3)
  else s.badAccess .mgmt

/-- An I²C transaction, as the bytes written: a write of seven, or the three of a read. -/
def mi2c (s : State) (b : List Byte) : State :=
  if s.boot.held then s
  else if b.length = 7 then s.mgmtWrite (b.take 3) (b.drop 3)
  else if b.length = 3 then s.mgmtRead b
  else s.badAccess .mgmt

end State

end Sys2Proof.Machine
end

