-- ==== Sys2Proof/Machine/Agent.lean ====
section
/-! DEFINITION. The link agent, Pip 27's ROM program 0x07 (R448, R449), and what the links hand to it and to the mirror. -/

namespace Sys2Proof.Machine

namespace State

/-- The ROM link agent runs. -/
def agentRuns (s : State) : Bool := s.romRuns 27 7

/-- The entries that stand for this node. -/
def ownEntries (s : State) : List Nat := [s.nodeAddr / 64, 64 + s.nodeAddr % 64]

/-- HELLO on a link (R448). -/
def sendHello (s : State) (k : Nat) : State := s.sendService k (0x1000 + 0xFFF) [s.nodeAddr + s.role * 2 ^ 12, 0, 0]

/-- The distance that the agent advertises for an entry on link k: 0 for itself, 63 on the link that the route uses. -/
def advertisedDist (s : State) (k e : Nat) : Nat :=
  if s.ownEntries.contains e then 0
  else if !s.flag (Fld.UL_ROUTEe_VALID e) || s.get (Fld.UL_ROUTEe_LINK e) = k then 63
  else s.get (Fld.UL_ROUTEe_DIST e)

/-- A message of the distance vector, entries 8 m to 8 m + 7 (R448). -/
def sendVector (s : State) (k m : Nat) : State :=
  let d := fun (i : Nat) => s.advertisedDist k (8 * m + i)
  let w := fun (b : Nat) => d b + d (b + 1) * 2 ^ 8 + d (b + 2) * 2 ^ 16 + d (b + 3) * 2 ^ 24
  s.sendService k (0x2000 + 0xFFF) [8 * m, w 0, w 4]

/-- What a neighbour's vector says of an entry, on a link that is up; nothing of nodes of another cluster. -/
def heardDist (s : State) (k e : Nat) : Option Nat :=
  if !s.ulUp k || (64 ≤ e && s.get (Fld.ULk_PEER_ADDR k) / 64 ≠ s.nodeAddr / 64) then none
  else ((s.ulink k).dv.find? (fun x => x.1 == e)).map (fun x => if 3 ≤ x.2.2 then 63 else min 63 (x.2.1 + 1))

/-- The best route to an entry: link and distance; the lower link among equals. -/
def bestRoute (s : State) (e : Nat) : Option (Nat × Nat) :=
  ([0, 1, 2, 3] : List Nat).foldl (fun b k => match s.heardDist k e, b with
    | none, _ => b
    | some d, none => some (k, d)
    | some d, some (j, x) => if d < x then some (k, d) else some (j, x)) none

/-- An entry of the route table is computed (R448). -/
def computeRoute (s : State) (e : Nat) : State :=
  if s.ownEntries.contains e then s.set (Fld.UL_ROUTEe_DIST e) 0
  else match s.bestRoute e with
    | some (k, d) =>
      if d < 63 then ((s.set (Fld.UL_ROUTEe_LINK e) k).set (Fld.UL_ROUTEe_DIST e) d).setB (Fld.UL_ROUTEe_VALID e) true
      else s.set (Fld.UL_ROUTEe_DIST e) 63
    | none => s.set (Fld.UL_ROUTEe_DIST e) 63

def computeRoutes (s : State) : State := (List.range 128).foldl computeRoute s

/-- A vector message of the neighbour on link k (R448). -/
def takeVector (s : State) (k : Nat) (w : List Nat) : State :=
  let e0 := w.getD 0 0 % 128
  let dist := fun (i : Nat) => bitsOf (w.getD (1 + i / 4) 0) (8 * (i % 4)) 8
  let new := ((List.range 8).filter (fun i => e0 + i < 128)).map (fun i => (e0 + i, min 63 (dist i), 0))
  ((s.modLink k (fun x => { x with dv := new ++ x.dv.filter (fun y => !(e0 ≤ y.1 && y.1 < e0 + 8)) }))).computeRoutes

/-- A remote register request: carried out under Pip 27's access list and answered (R448). -/
def remoteRequest (s : State) (k src : Nat) (w : List Nat) : State :=
  let w1 := w.getD 0 0
  let x := s.aclAccess 27 (!bitAt w1 31) w1 (w.getD 1 0)
  x.2.sendService k (0x4000 + src) [x.1.2, x.1.1, w.getD 2 0]

/-- A service message for this node (R448, R449). -/
def serviceMessage (s : State) (k src code : Nat) (w : List Nat) : State :=
  if s.agentRuns then
    if code = 2 then s.takeVector k w else if code = 3 then s.remoteRequest k src w else s
  else if s.pipAlive 27 then s.tell 27 ⟨0x26 + k, code * 2 ^ 12 + src, w⟩
  else s.bump (Reg.PPk_INBOX_OVF 27)

/-- A Usaur frame arrives (R435). -/
def usaurFrame (s : State) (k : Nat) (bytes : List Byte) : State :=
  let r := s.ulReceive k bytes
  match r.1 with
  | .none => r.2
  | .mirror p => r.2.mirrorReceive p
  | .service src code w => r.2.serviceMessage k src code w

/-- A link comes up (R433, R450): HELLO, and a standby asks for a resync on link 0 (R423). -/
def usaurUp (s : State) (k : Nat) : State :=
  let s1 := s.ulinkUp k
  if s.ulUp k || !s1.ulUp k then s1
  else
    let s2 := s1.modLink k (fun x => { x with dv := [] })
    let s3 := if s2.agentRuns then s2.sendHello k else s2
    if k = 0 then s3.askResync else s3

/-- The frames between vectors (R448, R452). -/
def dvPeriod (s : State) : Nat := max 1 (s.get Fld.UL_FAB_CFG_DV_PER)

/-- The link agent at a frame boundary: every DV_PER frames routes age, and every link gets HELLO and a full vector (R448). -/
def agentFrame (s : State) : State :=
  if !s.agentRuns then s
  else if s.dvMs + 1 < s.dvPeriod then { s with dvMs := s.dvMs + 1 }
  else
    let s1 : State := { s with dvMs := 0, links := s.links.map (fun x => { x with dv := x.dv.map (fun y => (y.1, y.2.1, y.2.2 + 1)) }) }
    ((List.range 4).filter (fun k => s.ulUp k)).foldl (fun t k =>
      (List.range 16).foldl (fun u m => u.sendVector k m) (t.sendHello k)) s1.computeRoutes

end State

end Sys2Proof.Machine
end

