-- ==== Sys2Proof/Machine/Settle.lean ====
section
/-! DEFINITION. The chip reset (R482), the safe state (R484), and the levels that follow a command at once: gates, squelch, lease, stamps. -/

namespace Sys2Proof.Machine

namespace State

/-! ### The chip reset (R40, R184, R345, R482) -/

/-- Register words that a chip reset does not reach: what the Shell shows of itself, and the Pit's. -/
def keptWord (a : Nat) : Bool :=
  let g := pageOf a
  (0x40 ≤ g && g ≤ 0x43 && !isCfg a && a % 0x1000 != 0x10 && a % 0x1000 != 0x20) || g == 0x81 || g == 0x88 || a == Reg.KS_LC

/-- The key store after a chip reset: the Pit's contents, with no command in progress and no unit fenced. -/
def keptKeys (k : KeyStore) : KeyStore := { k with certParts := [], certNext := 0, job := none, fenced := 0 }

/-- A chip reset: the Shell, the Pit, the memories outside the chip and the lane references are as they were. FC_RST_CAUSE survives a reset by the
fault collector, and PORST_N clears it. -/
def chipReset (s : State) (porst : Bool) : State :=
  let r := State.reset
  let s1 : State := { r with
    pending := s.pending, freeCtr := s.freeCtr, msix := s.msix, dram := s.dram, hostMem := s.hostMem, sh := s.sh, ks := keptKeys s.ks,
    regs := s.regs.filter (fun e => keptWord e.1 || (e.1 == Reg.FC_RST_CAUSE && !porst)),
    sw := { r.sw with sdrefLost := s.sw.sdrefLost } }
  s1.refreshFc

/-! ### The safe state (R484) -/

/-- What the safe state does to ports, Pips and lease. -/
def applySafe (s : State) : State :=
  let s1 := ((List.range 16).filter (fun p => !s.fenced p)).foldl (fun t p => t.portHw p) s
  ((List.range 28).filter (fun k => s.flag (Fld.PPk_STAT_RUNNING k))).foldl (fun t k =>
    ((t.pipClear k).setB (Fld.PPk_STAT_RUNNING k) false)) s1

/-! ### Levels -/

/-- The transmit gate of a port is open (R252, R510, R512). -/
def gateWanted (s : State) (p : Nat) : Bool :=
  s.flag (Fld.PTp_CTL_TX_EN p) && !s.fenced p && s.leaseTx && s.get Fld.CK_STAT_PSTATE == 0 && !s.boot.sleeping

/-- The gate of a port follows; as it closes, reservations end and a frame on the wire is cut off (R250, R252). -/
def refreshGate (s : State) (p : Nat) : State :=
  let g := s.gateWanted p
  if g = s.gateOpen p then s
  else
    let s1 := s.setB (Fld.PTp_STAT_TX_GATE p) g
    if g then s1 else (s1.missAll p .gate).modPort p (fun x => { x with busyUntil := min x.busyUntil s.tc.now })

/-- A link whose ULk_CTL.EN is 0 goes down (R433). -/
def refreshLinks (s : State) : State :=
  (List.range 4).foldl (fun t k => if t.ulUp k && !t.flag (Fld.ULk_CTL_EN k) then t.ulinkDown k true else t) s

/-- Everything that follows a command at once. -/
def settle (s : State) : State :=
  if s.fc.chipResetDue && !s.safe then s.chipReset false
  else
    let s1 := if s.safe then s.applySafe else s
    let s2 := s1.refreshLs.refreshLinks
    let s3 := (List.range 16).foldl (fun t p => ((t.refreshGate p).refreshStamps p).refreshPause p) s2
    (s3.refreshOuts.refreshPe).refreshNe.lagSync

end State

/-- A command's state with what follows from it at once. -/
def finish (s : State) : Host.Outcome State Fault Refusal := .next s.settle

/-- A command of an engine: in the safe state, and from the preparation for SLEEP on, every engine has stopped (R484, R512). -/
def engine (was s : State) : Host.Outcome State Fault Refusal := finish (if was.safe || was.boot.sleeping then was else s)

end Sys2Proof.Machine
end

