-- ==== Sys2Proof/Machine/AgentExec.lean ====
section
/-! DEFINITION. The meanings of the commands that a link, the arbiter bus or the grant brings from outside (chapters 17 and 18). -/

namespace Sys2Proof.Machine

/-- USAUR_FRAME_RECEIVE (R435). -/
def execUsaurFrameReceive (k : Fin 4) (bytes : List Byte) (s : State) : Host.Outcome State Fault Refusal := finish (s.usaurFrame k.val bytes)

/-- ULINK_UP (R433). -/
def execUlinkUp (k : Fin 4) (s : State) : Host.Outcome State Fault Refusal := finish (s.usaurUp k.val)

/-- MIRROR_SEND (R421). -/
def execMirrorSend (s : State) : Host.Outcome State Fault Refusal := finish s.mirrorSend

/-- GRANT_EDGE (R409): an edge on GRANT_IN, with the time since the one before it. -/
def execGrantEdge (gapPs : Nat) (s : State) : Host.Outcome State Fault Refusal := finish (s.grantEdge gapPs)

/-- LEASE_EXPIRY (R410): 4 µs after the last accepted edge. -/
def execLeaseExpiry (s : State) : Host.Outcome State Fault Refusal := finish s.leaseExpire

/-- COLD_BLANK_EXPIRY (R424). -/
def execColdBlankExpiry (s : State) : Host.Outcome State Fault Refusal := finish (s.setLs { s.ls with coldBlank := false })

/-- RELEASE_INSTANT (R416). -/
def execReleaseInstant (s : State) : Host.Outcome State Fault Refusal := finish s.releaseInstant

/-- CREWELL_RECEIVE (R419): a frame of the arbiter bus. -/
def execCrewellReceive (bytes : List Byte) (s : State) : Host.Outcome State Fault Refusal := finish (s.crewellReceive bytes)

end Sys2Proof.Machine
end

