-- ==== Sys2Proof/Machine/BootExec.lean ====
section
/-! DEFINITION. The meanings of the commands of start-up, clocks and power (chapter 22). -/

namespace Sys2Proof.Machine

namespace State

/-- SYSREF_IN or the lock of the System APLL is lost (R505): the chip is reset, and the reset holds. -/
def cclkLost (s : State) : State :=
  let s1 := s.chipReset false
  { s1 with boot := { s1.boot with held := true } }

/-- PORST_N is asserted (R499): the chip is reset, its FC_RST_CAUSE cleared, and held until the release. -/
def porstAssert (s : State) : State :=
  let s1 := s.chipReset true
  { s1 with boot := { s1.boot with held := true } }

/-- The System APLL declares lock (R503, R505): a reset held since a loss of CCLK ends, and boot starts afresh. -/
def systemLock (s : State) (b : BootInputs) : State :=
  if s.boot.held then { s with boot := { s.boot with held := false } }.mainBoot b else s.setB Fld.CK_STAT_SLOCK true

end State

/-- TCLK_LOSS (R501). -/
def execTclkLoss (s : State) : Host.Outcome State Fault Refusal := finish s.tclkLost

/-- CCLK_LOSS (R505). -/
def execCclkLoss (s : State) : Host.Outcome State Fault Refusal := finish s.cclkLost

/-- PORST_ASSERT (R499, R505). -/
def execPorstAssert (s : State) : Host.Outcome State Fault Refusal := finish s.porstAssert

/-- MAIN_BOOT (R506): PORST_N is released. -/
def execMainBoot (b : BootInputs) (s : State) : Host.Outcome State Fault Refusal :=
  finish ({ s with boot := { s.boot with held := false } }.mainBoot b)

/-- OSC_MEASURE (R500). -/
def execOscMeasure (hz : Nat) (s : State) : Host.Outcome State Fault Refusal := finish (s.oscMeasure hz)

/-- TIME_APLL_LOCK (R503). -/
def execTimeApllLock (s : State) : Host.Outcome State Fault Refusal := finish s.timeLock

/-- SYSTEM_APLL_LOCK (R505). -/
def execSystemApllLock (b : BootInputs) (s : State) : Host.Outcome State Fault Refusal := finish (s.systemLock b)

/-- AUTO_STANDBY (R511). -/
def execAutoStandby (s : State) : Host.Outcome State Fault Refusal := finish s.autoStandby

/-- SLEEP_READY (R512). -/
def execSleepReady (s : State) : Host.Outcome State Fault Refusal := finish s.sleepReady

end Sys2Proof.Machine
end

