-- ==== Sys2Proof/Machine/Export.lean ====
section
/-! DEFINITION. The journal's export (R465 to R468), uncorrectable memory errors (R32, R306, R465), and counters that overflow (R490). -/

namespace Sys2Proof.Machine

/-- What an export frame carries: its type, the count of its first byte, the data, and the count reached once it is with the host. -/
structure ExportFrame where
  typ : Nat
  count : Nat
  data : List Byte
  next : Nat
  deriving DecidableEq, Repr

/-- The header of a block with DAMAGED set, RECORDS 0 and a new CRC (R465). -/
def damagedHeader (h : List Byte) : List Byte :=
  let w := (List.range 7).map (fun k => fromLe ((h.drop (4 * k)).take 4))
  let g := (w.set 0 (putBitAt (w.getD 0 0) 12 true)).set 5 0
  let b := g.flatMap (leBytes 4)
  b ++ leBytes 4 (crc32c b)

/-- The registers of the estimate as an export frame carries them: five bits each, from bit 0 of byte 0 on. -/
def hllBytes (l : List (Nat × Nat)) : List Byte :=
  (List.range 2048).flatMap (fun g => leBytes 5 ((List.range 8).foldl (fun v k => v + ((alLook l (8 * g + k)).getD 0) % 32 * 2 ^ (5 * k)) 0))

namespace State

/-- Bytes of the ring from a count of the JN_WR scale on, modulo the ring size (R465). -/
def ringRead (s : State) (start n : Nat) : List Byte :=
  let off := start % s.ringSize
  let first := min n (s.ringSize - off)
  memRead s.dram (s.ringBase + off) first ++ memRead s.dram s.ringBase (n - first)

/-- The block of the ring that holds a count. -/
def ringBlockAt (s : State) (c : Nat) : Option RingBlock := s.jn.ring.find? (fun b => b.start ≤ c && c < b.start + b.len)

/-- The next frame of the ring from JN_EXP on: a damaged block's header alone, or whole bytes up to the next damaged block (R465, R466). -/
def exportRing (s : State) : Option ExportFrame :=
  let e := s.rd64 Reg.JN_EXP_L
  let w := s.rd64 Reg.JN_WR_L
  if !s.flag Fld.JN_EXP_CFG_EN || w ≤ e then none
  else match s.ringBlockAt e with
    | some b =>
      if b.damaged then some ⟨0, b.start, damagedHeader (s.ringRead b.start 32), b.start + b.len⟩
      else
        let stop := match s.jn.ring.find? (fun x => x.damaged && e < x.start) with | some x => min w x.start | none => w
        let n := min 8192 (stop - e)
        some ⟨0, e, s.ringRead e n, e + n⟩
    | none => none

/-- A part of the previous period's sketch, rows after one another (R467). -/
def sketchBytes (s : State) (start n : Nat) : List Byte :=
  (List.range (n / 4)).flatMap (fun k => leBytes 4 ((alLook s.ne.sketchOld (start / 4 + k)).getD 0))

/-- The frame to send next: the estimate's registers, then the sketch, then the ring. -/
def exportNext (s : State) : Option ExportFrame :=
  match s.jn.hllExport with
  | some l => some ⟨2, 0, hllBytes l, 10240⟩
  | none =>
    if s.jn.skExport = 0 then s.exportRing
    else
      let c := 1048576 - s.jn.skExport
      let n := min 8192 s.jn.skExport
      some ⟨1, c, s.sketchBytes c n, c + n⟩

/-- An export frame is with the host. -/
def exported (s : State) (f : ExportFrame) : State :=
  if f.typ = 2 then { s with jn := { s.jn with hllExport := none } }
  else if f.typ = 1 then { s with jn := { s.jn with skExport := 1048576 - f.next } }
  else
    let dam : Bool := match s.ringBlockAt f.count with | some b => b.damaged | none => false
    let s1 := if dam then s.bump Reg.JN_DAMAGED else s
    let s2 := s1.wr64 Reg.JN_EXP_L f.next
    s2.setB Fld.JN_STAT_EXP_ACTIVE (s2.rd64 Reg.JN_EXP_L < s2.rd64 Reg.JN_WR_L)

/-- The journal sends an export frame to its host ring; one that the ring or HDMA does not take is sent again (R466). -/
def exportFrame (s : State) : State :=
  if s.safe then s
  else match s.exportNext with
    | none => s
    | some f =>
      let ring := s.get Fld.JN_EXP_CFG_RING
      let head := leBytes 8 f.count ++ leBytes 4 f.data.length ++ [BitVec.ofNat 8 f.typ, 0, 0, 0]
      let c := s.cvAppend 3 ring (head ++ f.data)
      let r := c.2.toRing ring c.1 ⟨19, none, none, 0⟩
      match r.1 with
      | .written => r.2.exported f
      | _ => r.2

/-! ### Uncorrectable memory errors -/

/-- An address of the journal ring lies in a block held. -/
def inBlock (s : State) (a : Nat) (b : RingBlock) : Bool :=
  s.ringBase ≤ a && a < s.ringBase + s.ringSize && (a - s.ringBase + s.ringSize - b.start % s.ringSize) % s.ringSize < b.len

/-- MEM_UE at a DRAM address (R32): the fault, raised for the channel, the client-table entry or the ring's block that holds the word. -/
def memUe (s : State) (a : Nat) : State :=
  let base := s.rd64 Reg.PE_TBL_BASE_L
  let s1 := s.raiseFault 25 (a / 4096 % 2) false
  let s2 := if base ≤ a && a < base + 67108864 then s1.freeEntry ((a - base) / 64) else s1
  { s2 with jn := { s2.jn with ring := s2.jn.ring.map (fun b => if s.inBlock a b then { b with damaged := true } else b) } }

end State

end Sys2Proof.Machine
end

