-- ==== Sys2Proof/Machine/TimeStep.lean ====
section
/-! DEFINITION. What an applied step of the time core does (R71 to R74, R87, R96, R97, R151): the time, the frame it opens, the phases measured
against it, and the instants from which blocks count an elapsed time. -/

namespace Sys2Proof.Machine

/-- An instant of the old time as the stepped time names it. DESIGN CHOICE: an elapsed time does not change because the time was stepped. -/
def shiftT (d : Int) (t : Nat) : Nat := ((t : Int) + d).toNat

namespace State

/-! ### Elapsed times -/

/-- A slot's samples after a step of `d`: their phases fall by it. -/
def shiftSlot (d : Int) (x : Slot) : Slot :=
  let q := d / 2 ^ 32
  let smp := fun (y : Sample) => { y with phase := y.phase.map (· - q), atTime := shiftT d y.atTime }
  { x with sample := x.sample.map smp, hist := x.hist.map (fun e => (shiftT d e.1, e.2 - q)),
           prev := x.prev.map (fun e => (shiftT d e.1, e.2.1, e.2.2)), devs := x.devs.map (fun e => (shiftT d e.1, e.2)),
           edges := x.edges.map (fun e => (e.1, smp e.2)) }

/-- The reference selector and holdover. -/
def shiftRef (s : State) (d : Int) : State :=
  let q := d / 2 ^ 32
  let avg := fun (a : Avg) => { a with atTime := shiftT d a.atTime }
  let s1 : State := { s with
    rs := { s.rs with slots := s.rs.slots.map (shiftSlot d), hostCap := s.rs.hostCap.map (shiftT d) },
    ho := { s.ho with tRef := shiftT d s.ho.tRef, held := s.ho.held.map avg, learned := s.ho.learned.map avg,
                      yHist := s.ho.yHist.map (fun e => (shiftT d e.1, e.2)),
                      hold := s.ho.hold.map (fun h => { h with start := shiftT d h.start }),
                      anchor := s.ho.anchor.map (fun a => { a with atTime := shiftT d a.atTime, phase := a.phase - q }) } }
  ((List.range 12).filter (fun n => s.slotIsTime n && s.slotState n != 0)).foldl (fun t n => t.wrI64 (Reg.RSn_PHASE_L n) (s.phaseOf n - q)) (s1.slotsStepped d)

/-- The error budget: BASE, HOLD and BRIDGE count the time that has really passed. -/
def shiftEb (d : Int) (e : BoundUnit) : BoundUnit :=
  let snap := fun (x : Snapshot) => { x with t0 := shiftT d x.t0 }
  { e with snap := e.snap.map snap, selSnap := e.selSnap.map snap, holdFrom := e.holdFrom.map (shiftT d), bridgeAt := e.bridgeAt.map (shiftT d),
           exitAt := e.exitAt.map (shiftT d) }

/-- A port, a link and a Pip. -/
def shiftPort (d : Int) (x : Port) : Port :=
  { x with busyUntil := shiftT d x.busyUntil, pause := shiftT d x.pause, pfc := x.pfc.map (shiftT d), restartAt := x.restartAt.map (shiftT d) }
def shiftLink (d : Int) (x : ULink) : ULink := { x with lastExch := x.lastExch.map (shiftT d) }
def shiftPip (d : Int) (x : Pip) : Pip := { x with failedAt := x.failedAt.map (shiftT d) }

/-- The redundant pair. -/
def shiftLease (d : Int) (l : Lease) : Lease :=
  { l with grantAt := shiftT d l.grantAt, peer := l.peer.map (fun p => { p with atTime := shiftT d p.atTime }), arbAt := l.arbAt.map (shiftT d),
           carrierAt := l.carrierAt.map (shiftT d), noLeaseAt := l.noLeaseAt.map (shiftT d),
           members := l.members.map (fun m => { m with health := m.health.map (shiftT d), claim := m.claim.map (fun c => (shiftT d c.1, c.2)) }),
           staging := l.staging.map (fun r => { r with queued := shiftT d r.queued }),
           blobs := l.blobs.map (fun b => { b with came := shiftT d b.came }) }

/-- The Shell, the GNSS baseband and the PTP engine. -/
def shiftShell (d : Int) (x : Shell) : Shell :=
  { x with chans := x.chans.map (fun c => { c with acceptedAt := c.acceptedAt.map (shiftT d) }), wdogAt := x.wdogAt.map (shiftT d) }
def shiftGnss (d : Int) (g : Gnss) : Gnss :=
  { g with bars := g.bars.map (fun b => (b.1, b.2.1, shiftT d b.2.2)), lastValid := g.lastValid.map (fun t => t.map (shiftT d)) }
def shiftPtp (d : Int) (p : Ptp) : Ptp :=
  let fm := fun (f : Foreign) => { f with seen := f.seen.map (shiftT d) }
  { p with ports := p.ports.map (fun l => l.map (fun x => { x with foreign := x.foreign.map fm })),
           clients := p.clients.map (fun c => { c with foreign := c.foreign.map fm }) }

/-- Every elapsed time that a block counts from an instant. -/
def shiftTimes (s : State) (d : Int) : State :=
  let s1 := s.shiftRef d
  { s1 with eb := shiftEb d s1.eb, ports := s1.ports.map (shiftPort d), links := s1.links.map (shiftLink d), pips := s1.pips.map (shiftPip d),
            ls := shiftLease d s1.ls, sh := shiftShell d s1.sh, gn := shiftGnss d s1.gn, pe := shiftPtp d s1.pe }

/-! ### Step 1 of R29 -/

/-- The time a pending step would give (R71); for the selector's step out of UNSET, the SELECTED slot's time at this instant (R75). -/
def stepTarget (s : State) (p : PendingStep) : Int :=
  if p.entersUnset then
    match s.rs.cur with
    | some n =>
      let (phase, t0) := match (s.slot n).sample with
        | some m => (m.phase.getD (s.phaseOf n), m.atTime)
        | none => (s.phaseOf n, match (s.slot n).prev with | some e => e.1 | none => s.tc.now)
      let drift : Int := (((s.tc.now - t0 : Nat) : Int) * s.freqOf n) / 1000000000000
      (s.tc.now : Int) + phase * 2 ^ 32 + drift
    | none => s.tc.now
  else if p.absolute then p.amount else (s.tc.now : Int) + p.amount

/-- The requester of a pending step is permitted (R72, R75). -/
def stepPermitted (s : State) (p : PendingStep) : Bool :=
  if p.entersUnset then s.timeState == 0
  else if p.bySelector then s.flag Fld.HO_STAT_ASTEP_BUSY
  else s.timeState == 0 || !s.loopClosed

/-- The four conditions of R72. -/
def stepAllowed (s : State) (p : PendingStep) : Bool :=
  let t := s.stepTarget p
  (List.range 16).all (fun n => !s.flag (Fld.OUn_STAT_LIVE n)) && !s.bridging && decide (0 ≤ t) && decide (t ≤ timeMax) && s.stepPermitted p

/-- A refused blanked step (R151): ASTEP_CANCEL, and the offset is pulled under R119. -/
def astepRefused (s : State) : State :=
  match s.ho.astep with
  | some a =>
    let s1 := (s.setHo { s.ho with astep := some { a with stage := 3, frames := 0 } }).evt Fld.HO_EVT_ASTEP_CANCEL
    s1.pullTo (s1.phaseOf a.slot)
  | none => s

/-- A step is refused (R72). -/
def refuseStep (s : State) (p : PendingStep) : State :=
  let s1 := s.stepCancel.evt Fld.TC_EVT_STEP_REFUSED
  if p.bySelector && !p.entersUnset then s1.astepRefused else s1

/-- T' of R96 and R97, counted from the boundary instant `b`. -/
def stepInstant (s : State) (p : PendingStep) (b : Nat) : Nat :=
  if p.absolute || p.entersUnset then (s.stepTarget p).toNat else ((b : Int) + p.amount).toNat

/-- The frame that a step to `new` opens at the boundary instant `b` (R96, R97); how many whole frames it skips. -/
def stepFrame (s : State) (b new : Nat) : Nat × State :=
  if new < b then
    let s1 := (s.setB Fld.WHL_STAT_EXTENDED true).evt Fld.WHL_EVT_EXTEND
    (0, { s1 with whl := { s1.whl with frameStart := new, extendedTo := some b } })
  else
    let k := (new - b) / msU
    let s1 : State := { s with whl := { s.whl with frameStart := new } }
    if k = 0 then (0, s1) else (k, (s1.wrSat Reg.WHL_SKIPPED (s1.rdN Reg.WHL_SKIPPED + k)).evt Fld.WHL_EVT_SKIP)

/-- What an applied step does to TIME_STATE (R74, R75): out of UNSET only. -/
def stepState (s : State) (p : PendingStep) : State :=
  if s.timeState ≠ 0 then s
  else if p.entersUnset then s.toState 1
  else if !p.absolute then s
  else if s.selected then s.toState 1
  else s.ebHostSet.toState 4

/-- A step is applied at the boundary instant `b` (R73): frames skipped, whether the frame is marked, and the state. -/
def applyStep (s : State) (p : PendingStep) (b : Nat) : Nat × Bool × State :=
  let old := s.tc.now
  let new := (s.stepTarget p).toNat
  let d : Int := (new : Int) - (old : Int)
  let zero := !p.absolute && !p.entersUnset && decide (p.amount = 0)
  let s1 := (s.stepCancel.retarget 0).evt Fld.TC_EVT_STEP_DONE
  let s2 : State := { s1 with tc := { s1.tc with now := new } }
  let s3 := if d = 0 then s2 else s2.shiftTimes d
  let s4 := s3.trgStepAll old new
  let s5 : State := { s4 with jn := { s4.jn with epoch := (s4.jn.epoch + 1) % 4 } }
  let s6 := s5.stepState p
  let s7 := match s6.ho.astep with
    | some a => if p.bySelector && !p.entersUnset then s6.setHo { s6.ho with astep := some { a with stage := 2, frames := 0 } } else s6
    | none => s6
  let (k, s8) := s7.stepFrame b (s.stepInstant p b)
  (k, !zero, s8)

/-- Step 1 of R29: the pending step, if any, is applied or refused. A step out of UNSET whose selection has gone is dropped. -/
def stepPhase (s : State) (b : Nat) : Nat × Bool × State :=
  match s.tc.step with
  | none => (0, false, s)
  | some p =>
    if p.entersUnset && !s.selected then (0, false, s.stepCancel)
    else if s.stepAllowed p then s.applyStep p b
    else (0, false, s.refuseStep p)

/-! ### The blanked step (R151) -/

/-- The selector requests the relative step (R151). -/
def astepRequest (s : State) : State :=
  match s.ho.astep with
  | some a =>
    if a.stage ≠ 0 then s
    else
      let s1 := s.setHo { s.ho with astep := some { a with stage := 1 } }
      ({ s1 with tc := { s1.tc with step := some ⟨false, s1.phaseOf a.slot * 2 ^ 32, true, false⟩ } }).setB Fld.TC_STAT_STEP_PENDING true
  | none => s

/-- The ASTEP squelch is released, after a step with ASTEP_DONE (R151). -/
def astepRelease (s : State) : State :=
  match s.ho.astep with
  | some a =>
    if a.stage < 2 then s
    else
      let s1 := (s.setHo { s.ho with astep := none }).setB Fld.HO_STAT_ASTEP_BUSY false
      if a.stage = 2 then s1.evt Fld.HO_EVT_ASTEP_DONE else s1
  | none => s

/-- A boundary of the blanked step: 499 frames to the request, 500 ms from the step or the cancellation to the release (R151). -/
def astepFrame (s : State) : State :=
  match s.ho.astep with
  | none => s
  | some a =>
    let s1 := s.setHo { s.ho with astep := some { a with frames := a.frames + 1 } }
    if a.stage = 0 && 499 ≤ a.frames + 1 then s1.astepRequest
    else if 2 ≤ a.stage && 500 ≤ a.frames + 1 then s1.astepRelease
    else s1

end State

end Sys2Proof.Machine
end

