-- ==== Sys2Proof/Machine/Boundary.lean ====
section
/-! DEFINITION. The boundary instants (R93 to R97) and what happens at them: the ordered actions of R29, the schedule (R105, R106), and each
block's part of a frame boundary. -/

namespace Sys2Proof.Machine

namespace State

/-! ### Instants (R93 to R97) -/

/-- The next boundary instant (R93). -/
def nextInstant (s : State) : Nat := (s.whl.frameStart / msU + 1) * msU

/-- The least distance between two raised boundaries, in cycles (R94). -/
def frameLimit (s : State) : Nat := if s.bridging then 625000 else 500000

/-- The instant `b` lies within a frame that a backward step has extended (R97). -/
def inExtension (s : State) (b : Nat) : Bool :=
  match s.whl.extendedTo with
  | some e => b ≤ e
  | none => false

/-- What the wheel makes of the instant `b` in the cycle of this state. -/
inductive InstantKind where
  | raised
  | suppressed
  | interim
  deriving DecidableEq, Repr

/-- A boundary is raised, suppressed (R94), or an interim point (R97). -/
def instantKind (s : State) (b : Nat) : InstantKind :=
  if s.inExtension b then (if s.frameLimit ≤ s.tc.cycle - s.whl.lastReplenish then .interim else .suppressed)
  else if s.frameLimit ≤ s.tc.cycle - s.whl.lastRaised then .raised
  else .suppressed

/-- The instant `b` has passed: the frame counts from it, and an extension that reaches it ends (R97). -/
def passInstant (s : State) (b : Nat) : State :=
  let over' := match s.whl.extendedTo with | some e => decide (e ≤ b) | none => false
  let s1 : State := { s with whl := { s.whl with frameStart := b, extendedTo := if over' then none else s.whl.extendedTo } }
  if over' then s1.setB Fld.WHL_STAT_EXTENDED false else s1

/-- The captures of an instant: every second boundary (R88). -/
def captureSecond (s : State) (b : Nat) : State := if b % secU = 0 then s.capture 5 none s.tc.now else s

/-- A suppressed instant (R94): counted, and SEAL alone is replenished. -/
def suppressed (s : State) (b : Nat) : State :=
  (((((s.captureSecond b).passInstant b).wrSat Reg.WHL_MERGED (s.rdN Reg.WHL_MERGED + 1)).evt Fld.WHL_EVT_MERGE).replenishSeal)

/-- An interim point (R97): allowances, its count, and the journal's continuation block (R457). -/
def interim (s : State) (b : Nat) : State :=
  let s1 := (((s.captureSecond b).passInstant b).replenish).wrSat Reg.WHL_INTERIM (s.rdN Reg.WHL_INTERIM + 1)
  let s2 := s1.openBlock (JBlock.fresh 1 s1.jnMode (s1.tc.now / 2 ^ 38) s1.jn.epoch (s1.rdN Reg.WHL_SEQ_L) false false 0)
  let s3 : State := { s2 with ls := { s2.ls with interimAt := s2.tc.cycle } }
  s3.jnResume

/-! ### The wheel's own part of a raised boundary -/

/-- WHL_LEN, WHL_SEQ, WHL_POS and the state of the wheel (R93, R95). -/
def countFrame (s : State) (b : Nat) : State :=
  let len := satNat 25 (s.tc.cycle - s.whl.lastRaised) + (if s.flag Fld.WHL_STAT_BRIDGE_TIMED then 2 ^ 31 else 0)
  let s1 := ((s.wrN Reg.WHL_LEN len).bump64 Reg.WHL_SEQ_L 1).wrN Reg.WHL_POS (b / msU % 1000)
  let s2 : State := { s1 with whl := { s1.whl with lastRaised := s.tc.cycle } }
  (s2.setB Fld.WHL_STAT_RUNNING true).setB Fld.WHL_STAT_BRIDGE_TIMED s.bridging

/-- A value in force of a class scaled anew: from `old` units in service to `new` (R104). -/
def rescaleClass (s : State) (i old new : Nat) : State :=
  if old = 0 then s.setB (Fld.WHLn_STAT_SCALED i) true
  else ((s.wrN (Reg.WHLn_FLOOR_IF i) (s.rdN (Reg.WHLn_FLOOR_IF i) * new / old)).wrN (Reg.WHLn_CEIL_IF i) (s.rdN (Reg.WHLn_CEIL_IF i) * new / old)).setB
    (Fld.WHLn_STAT_SCALED i) true

/-- The scaling that a fence since the last raised boundary asks for (R104). -/
def rescale (s : State) : State :=
  if !s.whl.rescaleDue then s else
  let a := s.get Fld.WHL_SCALE_AES; let p := s.get Fld.WHL_SCALE_PIPS
  let s1 := if a = s.whl.aesCores then s else ((s.rescaleClass 2 a s.whl.aesCores).rescaleClass 3 a s.whl.aesCores).set Fld.WHL_SCALE_AES s.whl.aesCores
  let s2 := if p = s.whl.servicePips then s1 else (s1.rescaleClass 6 p s.whl.servicePips).set Fld.WHL_SCALE_PIPS s.whl.servicePips
  ({ s2 with whl := { s2.whl with rescaleDue := false } }).evt Fld.WHL_EVT_RESCALE

/-- Step 6 of R29 with the reports of the frame just completed (R99 to R104). -/
def wheelFrame (s : State) : State :=
  let s1 := s.reportFrame.rescale.replenish
  let s2 : State := { s1 with whl := { s1.whl with stalledNow := 0 } }
  (List.range 15).foldl (fun t i => t.setB (Fld.WHLn_STAT_STALLED i) false) s2

/-- Step 7 of R29: the journal opens the frame's block (R457), after the records that JRN withheld. -/
def blockFrame (s : State) (stall : Nat) (step overlay : Bool) : State :=
  (s.openBlock (JBlock.fresh 0 s.jnMode (s.tc.now / 2 ^ 38) s.jn.epoch (s.rdN Reg.WHL_SEQ_L) step overlay stall)).jnResume

/-! ### The schedule (R105, R106) -/

/-- The entry is due in frame `a` (R105). -/
def dueAt (s : State) (k a : Nat) : Bool :=
  let per := bitsOf (s.rdN (Reg.WHL_SCHk_PER k)) 0 27
  let ph := bitsOf (s.rdN (Reg.WHL_SCHk_PHASE k)) 0 27
  per != 0 && decide ((((a : Nat) : Int) - ((ph : Nat) : Int)) % ((per : Nat) : Int) = 0)

/-- The entry is due in one of the `n` frames after `a` (R106). -/
def dueWithin (s : State) (k a n : Nat) : Bool :=
  let per := bitsOf (s.rdN (Reg.WHL_SCHk_PER k)) 0 27
  let ph := bitsOf (s.rdN (Reg.WHL_SCHk_PHASE k)) 0 27
  if per = 0 then false
  else
    let past := ((((a : Nat) : Int) - ((ph : Nat) : Int)) % ((per : Nat) : Int)).toNat
    decide (per - past ≤ n)

/-- A code reaches its target (R105): the wheel agent's message or its ROM program, the staging flush, the key rotation, the seal scan; the Shell and
the baseband have it as a delivery. -/
def deliverCode (s : State) (target code : Nat) : State :=
  let s1 : State := { s with whl := { s.whl with delivered := s.whl.delivered ++ [(target, code)] } }
  match target with
  | 0 => if s1.romRuns 24 4 then s1.wrN Reg.CFG_OVL_REQ code else s1.tell 24 ⟨0x23, code, []⟩
  | 3 => s1.flushStaging
  | 4 => s1.rotate
  | 5 => s1.startScan
  | _ => s1

/-- One schedule entry at the boundary of frame `a`, behind which a step has skipped `skipped` frames. -/
def scheduleEntry (s : State) (a skipped k : Nat) : State :=
  let late := s.dueWithin k a skipped
  let target := s.get (Fld.WHL_SCHk_ACT_TARGET k)
  if !s.flag (Fld.WHL_SCHk_ACT_EN k) || 6 ≤ target || !(late || s.dueAt k a) then s
  else
    let s1 := (s.deliverCode target (s.get (Fld.WHL_SCHk_ACT_CODE k))).wrapF (Fld.WHL_SCHk_STAT_RUNS k)
    if late then (s1.setB (Fld.WHL_SCHk_STAT_LATE_RUN k) true).evt Fld.WHL_EVT_SCHED_LATE else s1

/-- The schedule at a boundary, in ascending entry order. -/
def schedule (s : State) (a skipped : Nat) : State := (List.range 32).foldl (fun t k => t.scheduleEntry a skipped k) s

/-! ### The blocks' parts -/

/-- The time core leaves BRIDGE (R79). -/
def bridgeExit (s : State) : State :=
  match s.tc.okSince with
  | some t =>
    if s.bridging && t + clampNat 1 65535 (bitsOf (s.rdN Reg.TC_BRIDGE_HOLD) 0 16) * msU ≤ s.tc.now then
      let s1 := ((s.pcSync.ebBridgeExit.setB Fld.TC_STAT_TCLK_OK true).evt Fld.TC_EVT_BRIDGE_EXIT).allReturning
      let s2 : State := { s1 with tc := { s1.tc with okSince := none } }
      s2.toState (if s2.selected then 1 else 3)
    else s
  | none => s

/-- The selection out of UNSET asks for its absolute step (R75). -/
def acquireStep (s : State) : State :=
  if s.timeState = 0 && s.selected && s.tc.step.isNone then
    ({ s with tc := { s.tc with step := some ⟨true, 0, true, true⟩ } }).setB Fld.TC_STAT_STEP_PENDING true
  else s

/-- Step 2 of R29: the loop's increment, or the software's (R17, R66). -/
def takeIncr (s : State) : State :=
  if s.bridging then s
  else if s.loopClosed then
    match s.rs.nextIncr with
    | some v => ({ s with rs := { s.rs with nextIncr := none } }).setIncr v
    | none => s
  else
    match s.tc.swIncr with
    | some v => ({ s with tc := { s.tc with swIncr := none } }).setIncr v
    | none => s

/-- The host slot's POST grows old (R111): at the first boundary by which RS11_HTIMEOUT has passed, where SIGNAL_LOSS has not said so before. -/
def hostFrame (s : State) : State :=
  let n := s.rs.hostMs + 1
  let s1 : State := { s with rs := { s.rs with hostMs := n } }
  if bitsOf (s.rdN Reg.RS11_HTIMEOUT) 0 16 < n && (s1.slot 11).present then s1.signalLoss 11 else s1

/-- The model's refit every 10 s (R136). -/
def refitFrame (s : State) : State :=
  if s.ho.refitMs + 1 < 10000 then s.setHo { s.ho with refitMs := s.ho.refitMs + 1 } else (s.setHo { s.ho with refitMs := 0 }).refit

/-- The engines' parts of the frame just ended; in the safe state, and from the preparation for SLEEP on, they have stopped (R484, R512). -/
def enginesEnd (s : State) (b : Nat) : State := if s.safe || s.boot.sleeping then s else s.gnFrame.linkFrame b

/-- The engines' parts of the new frame. -/
def enginesBegin (s : State) : State :=
  if s.safe || s.boot.sleeping then s else s.peFrame.neFrame.pipFrame.agentFrame.mirrorFrame

/-- What is measured over the frame just ended, which lasted `cycles` cycles. -/
def frameEnd (s : State) (b cycles : Nat) : State :=
  let dt := cycles * s.cycleLen
  let s1 := s.shRecords.anchorFrame dt
  (if s1.bridging then s1 else s1.learnFrame).hostFrame.enginesEnd b

/-- The blanked step's count of a boundary, not of the one at which its stage changed (R151). -/
def astepCount (s : State) (was : Option Astep) : State :=
  if s.ho.astep.map (fun a => a.stage) = was.map (fun a => a.stage) then s.astepFrame else s

/-- Steps 1 and 2 of R29, with the selection between them: frames skipped, whether the frame is marked, and the state. -/
def timeSteps (s : State) (b : Nat) : Nat × Bool × State :=
  let s0 := s.bridgeExit
  let (k, marked, s1) := s0.stepPhase b
  (k, marked, ((s1.astepCount s0.ho.astep).rsFrame.hoFrame.acquireStep.takeIncr).tcUpdate true)

/-- Each block's part of the new frame, after the seven steps. -/
def frameBegin (s : State) : State :=
  let s1 := (s.shFrame.forwardSettings.liveCalFrame.applyModes.takeMins).lagRedeal
  let s2 := (s1.enginesBegin.refitFrame.pcFrame)
  let s3 := (List.range 16).foldl (fun t n => t.outFrame n) s2
  (s3.lsFrame.windowsFrame).windowFrame

/-- A raised boundary (R29): the frame just ended, steps 1 to 7 in order, the schedule, and the new frame. -/
def raised (s : State) (b : Nat) : State :=
  let s0 := ((s.capture 2 none s.tc.now).captureSecond b).pcSync
  let stall := s0.whl.stalledNow
  let s1 := ((s0.countFrame b).passInstant b).frameEnd b (s0.tc.cycle - s0.whl.lastRaised)
  let (skipped, marked, s2) := s1.timeSteps b
  let (overlay, s3) := s2.ovlBoundary
  let s4 := s3.sealRefUpdate.ebFrame.newSnapshot
  let s5 := (s4.wheelFrame.blockFrame stall marked overlay).jnFrame (bitAt stall 1)
  (s5.schedule (b / msU) skipped).frameBegin

/-! ### The instant reached -/

/-- Time runs to the next boundary instant, and it is dealt with if the wheel makes of it what `k` says; otherwise nothing happens. -/
def atInstant (s : State) (k : InstantKind) : State :=
  let b := s.nextInstant
  let t := s.advanceTo b
  if !s.counting || t.instantKind b ≠ k then s
  else
    match k with
    | .raised => t.raised b
    | .suppressed => t.suppressed b
    | .interim => t.interim b

/-! ### Withheld requests (R103) -/

/-- A request that a class stalled is presented again. -/
def heldCommand (s : State) (k : Nat) : Option Instr × State :=
  (s.whl.withheld[k]?, { s with whl := { s.whl with withheld := s.whl.withheld.eraseIdx k } })

end State

end Sys2Proof.Machine
end

