-- ==== Sys2Proof/Machine/BoundaryExec.lean ====
section
/-! DEFINITION. The meanings of the boundary commands (chapters 01, 04 and 06). -/

namespace Sys2Proof.Machine

/-- FRAME_BOUNDARY (R29, R93): time reaches the next boundary instant, and the wheel raises it; nothing happens where the wheel would not. -/
def execFrameBoundary (s : State) : Host.Outcome State Fault Refusal := finish (s.atInstant .raised)

/-- BOUNDARY_SUPPRESSED (R94): time reaches the next boundary instant, and the wheel suppresses it. -/
def execBoundarySuppressed (s : State) : Host.Outcome State Fault Refusal := finish (s.atInstant .suppressed)

/-- INTERIM_POINT (R97): time reaches the next boundary instant of an extended frame. -/
def execInterimPoint (s : State) : Host.Outcome State Fault Refusal := finish (s.atInstant .interim)

/-- EVENT_SNAPSHOT (R18): the snapshot that a change calls for. -/
def execEventSnapshot (s : State) : Host.Outcome State Fault Refusal := finish (if s.snapDue then s.newSnapshot else s)

/-- ANCHOR_SET (R140): the drift test's anchor is set at the selection's phase. -/
def execAnchorSet (s : State) : Host.Outcome State Fault Refusal :=
  finish (
    match s.rs.cur with
    | some n => if s.selected then s.setAnchor (s.phaseOf n) else s
    | none => s)

/-- ASTEP_RELEASE (R151): 500 ms after the step, or its cancellation, the ASTEP squelch is released. -/
def execAstepRelease (s : State) : Host.Outcome State Fault Refusal := finish s.astepRelease

end Sys2Proof.Machine
end

