-- ==== Sys2Proof/Machine/CheckValueExec.lean ====
section
/-! DEFINITION. The meanings of the commands of the memory scans (chapter 21). -/

namespace Sys2Proof.Machine

/-- CV_SCAN_COMPLETE (R494): a memory scan of CV1 to CV3 ends. -/
def execCvScanComplete (n : Fin 4) (ue : Option Nat) (s : State) : Host.Outcome State Fault Refusal := finish (s.cvComplete n.val ue)

end Sys2Proof.Machine
end

