-- ==== Sys2Proof/Machine/CollectorExec.lean ====
section
/-! DEFINITION. The meanings of the fault collector's own events (chapter 20). -/

namespace Sys2Proof.Machine

/-- BLOCK_RESET_COMPLETE (R480). -/
def execBlockResetComplete (t : Fin 15) (s : State) : Host.Outcome State Fault Refusal := finish (s.blockResetDone t.val)

/-- SHADOW_CLOSE (R481). -/
def execShadowClose (t : Fin 15) (s : State) : Host.Outcome State Fault Refusal := finish (s.shadowClose t.val)

/-- SEVERITY_WINDOW_CLOSE (R478). -/
def execSeverityWindowClose (src : Fin 27) (s : State) : Host.Outcome State Fault Refusal := finish (s.windowClose src.val)

/-- SAFE_STATE (R484): the collector's two copies differ. -/
def execSafeState (s : State) : Host.Outcome State Fault Refusal := finish (s.raiseFault 0 0 false)

end Sys2Proof.Machine
end

