-- ==== Sys2Proof/Machine/ErrorBudgetExec.lean ====
section
/-! DEFINITION. The meanings of the commands of the error budget (chapter 09). -/

namespace Sys2Proof.Machine

/-- HIT_HOLD_EXPIRY (R226): EB_HIT_HOLD has passed since the last accepted hit. -/
def execHitHoldExpiry (s : State) : Host.Outcome State Fault Refusal := finish (s.setEb { s.eb with hit := 0, hitMs := 0 })

/-- BOUND_LIMIT_CROSSED: the bound rises above EB_SVC_LIMIT within a frame, and EB_EVT.LIMIT is set at once (chapter 09, coinciding events). -/
def execBoundLimitCrossed (s : State) : Host.Outcome State Fault Refusal :=
  finish (if s.flag Fld.EB_STAT_VALID && !s.flag Fld.EB_STAT_OVER_LIMIT then (s.setB Fld.EB_STAT_OVER_LIMIT true).evt Fld.EB_EVT_LIMIT else s)

end Sys2Proof.Machine
end

