-- ==== Sys2Proof/Machine/ExportExec.lean ====
section
/-! DEFINITION. The meanings of EXPORT_FRAME, MEM_UE and COUNTER_OVERFLOW. -/

namespace Sys2Proof.Machine

/-- EXPORT_FRAME (R466). -/
def execExportFrame (s : State) : Host.Outcome State Fault Refusal := finish s.exportFrame

/-- MEM_UE (R32). -/
def execMemUe (addr : Nat) (s : State) : Host.Outcome State Fault Refusal := finish (s.memUe addr)

/-- COUNTER_OVERFLOW (R490): a running counter passes 2^48 − 1. -/
def execCounterOverflow (g : Fin 4) (j : Fin 16) (s : State) : Host.Outcome State Fault Refusal :=
  finish (
    let t := s.pcSync
    if 8 ≤ j.val || !t.pcRunning g.val then t
    else t.pcAdd g.val j.val
      (2 ^ 48 - (t.rdN (Reg.PCg_CNTj_L g.val j.val) + 2 ^ 32 * bitsOf (t.rdN (Reg.PCg_CNTj_H g.val j.val)) 0 16)))

end Sys2Proof.Machine
end

