-- ==== Sys2Proof/Machine/GnssExec.lean ====
section
/-! DEFINITION. The meanings of the commands of the GNSS baseband (chapter 07). -/

namespace Sys2Proof.Machine

/-- GIF_LOST (R156). -/
def execGifLost (ant : Fin 2) (s : State) : Host.Outcome State Fault Refusal := finish (s.gifLost ant.val)

/-- GIF_RETURN (R156). -/
def execGifReturn (ant : Fin 2) (s : State) : Host.Outcome State Fault Refusal := finish (s.gifReturn ant.val)

/-- ACQ_SEARCH (R158): a search ends; one that class 7 does not admitFor waits. -/
def execAcqSearch (ant : Fin 2) (sat : Sat) (found : Option GnTrack) (s : State) : Host.Outcome State Fault Refusal :=
  finish (
    if !s.antOn ant.val || !s.gifOk ant.val || !s.bandOn 0 || !s.sysOn sat.sys.val then s
    else
      let (ok, s1) := s.admitFor 7 1
      if ok then s1.acqDone ant.val sat found else s1.withhold (.acqSearch ant sat found))

/-- CHANNEL_INTEGRATION (R160). -/
def execChannelIntegration (k : Fin 256) (x : GnTrack) (s : State) : Host.Outcome State Fault Refusal := finish (s.integrate k.val x)

/-- TRACK_ENTRY (R159). -/
def execTrackEntry (k : Fin 256) (s : State) : Host.Outcome State Fault Refusal := finish (s.trackEntry k.val)

/-- COAST_EXPIRY (R156): a channel that has coasted longer than GN_COAST_MAX becomes FREE. -/
def execCoastExpiry (k : Fin 256) (s : State) : Host.Outcome State Fault Refusal :=
  finish (if (s.gnChan k.val).st = 4 then s.setChan k.val GnChan.free else s)

/-- SOLUTION_EPOCH (R166): an instant whose N is a multiple of 100,000,000, or the close of a burst window. -/
def execSolutionEpoch (obs : List GnObs) (s : State) : Host.Outcome State Fault Refusal :=
  finish (
    if s.bridging || !s.flag Fld.GN_CTL_EN then s
    else
      let s1 := (s.solve 0 obs).solve 1 obs
      s1.setGn { s1.gn with burstOpen := false })

/-- RAIM_BAR_EXPIRY (R168). -/
def execRaimBarExpiry (ant : Fin 2) (sat : Sat) (s : State) : Host.Outcome State Fault Refusal :=
  finish (s.setGn { s.gn with bars := s.gn.bars.filter (fun b => !(b.1 == ant.val && b.2.1 == sat)) })

/-- SOLUTION_TIMEOUT (R170). -/
def execSolutionTimeout (ant : Fin 2) (s : State) : Host.Outcome State Fault Refusal :=
  finish (if s.bridging then s else s.gnWithdraw ant.val)

/-- OSNMA_VERIFY (R172): one unit of KEYOP. -/
def execOsnmaVerify (prn iod : Nat) (isKey : Bool) (data tag : List Byte) (s : State) : Host.Outcome State Fault Refusal :=
  finish (
    if !s.osnmaActive || s.gn.root.isNone then s
    else
      let (ok, s1) := s.admitFor 12 1
      if ok then s1.osnmaCheck prn iod isKey data tag else s1.withhold (.osnmaVerify prn iod isKey data tag))

/-- BURST_WINDOW (R176): the second's window opens; a change between burst and continuous tracking is taken at the second. -/
def execBurstWindow (s : State) : Host.Outcome State Fault Refusal :=
  finish (
    let standby := s.get Fld.CK_STAT_PSTATE == 1
    let want := s.flag Fld.GN_CTL_BURST || standby
    let s1 := s.setB Fld.GN_STAT_BURST_ACT want
    s1.setGn { s1.gn with burstOpen := want })

/-- GNSS_CHANNEL_FAULT (R177). -/
def execGnssChannelFault (k : Fin 256) (s : State) : Host.Outcome State Fault Refusal := finish (s.chanFault k.val)

/-- FE_XFER_DONE (R178): the bits received on GFE_MISO. -/
def execFeXferDone (bits : Nat) (s : State) : Host.Outcome State Fault Refusal :=
  finish (if s.flag Fld.GN_FE_STAT_BUSY then (s.wrN Reg.GN_FE_RD bits).setB Fld.GN_FE_STAT_BUSY false else s)

end Sys2Proof.Machine
end

