-- ==== Sys2Proof/Machine/HoldoverExec.lean ====
section
/-! DEFINITION. The meanings of the commands of holdover and the oscillator (chapter 06). -/

namespace Sys2Proof.Machine

/-- AVERAGE_COMPLETE (R135): a 10 s interval of 10,000 samples ends. -/
def execAverageComplete (s : State) : Host.Outcome State Fault Refusal := finish s.averageComplete

/-- GUARD_EXPIRY (R135): the oldest held average has been held for HO_GUARD. -/
def execGuardExpiry (s : State) : Host.Outcome State Fault Refusal := finish s.admitHeld

/-- MODEL_REFIT (R136). -/
def execModelRefit (s : State) : Host.Outcome State Fault Refusal := finish s.refit

/-- DAC_INIT_WRITE (R141). -/
def execDacInitWrite (s : State) : Host.Outcome State Fault Refusal := finish s.dacInit

/-- UART_COMMAND (R142). -/
def execUartCommand (s : State) : Host.Outcome State Fault Refusal := finish s.uartCommand

/-- UART_REPLY (R142): a line, without its 0x0A, arrives on OSC_RXD. -/
def execUartReply (line : List Byte) (s : State) : Host.Outcome State Fault Refusal := finish (s.uartReply line)

/-- UART_TIMEOUT (R142). -/
def execUartTimeout (s : State) : Host.Outcome State Fault Refusal := finish s.uartTimeout

/-- TEMP_READ (R143): the sensor's 16-bit value, or none where the read failed. -/
def execTempRead (v : Option (BitVec 16)) (s : State) : Host.Outcome State Fault Refusal := finish (s.tempRead v)

end Sys2Proof.Machine
end

