-- ==== Sys2Proof/Machine/JournalExec.lean ====
section
/-! DEFINITION. The meanings of the commands of the event journal (chapter 19). -/

namespace Sys2Proof.Machine

/-- EVENT_ARRIVAL (R456): a stamped event reaches the merge unit. -/
def execEventArrival (e : Arriving) (s : State) : Host.Outcome State Fault Refusal :=
  finish (match e with
    | .queued k =>
      match s.jn.inflight[k]? with
      | none => s
      | some ev => ({ s with jn := { s.jn with inflight := s.jn.inflight.eraseIdx k } }).jnArrive ev
    | .given stamp epoch source code payload cls conseq forced pkt =>
      s.jnArrive { stamp := stamp, epoch := epoch % 4, source := source, code := code, conseq := conseq, forced := forced,
                   payload := payload % 2 ^ 64, cls := cls % 16, pkt := pkt, lastGasp := false })

/-- MERGE_RELEASE (R456): the lowest-key event that is old enough is released. -/
def execMergeRelease (s : State) : Host.Outcome State Fault Refusal := finish (if s.safe then s else s.jnRelease)

/-- RING_WRITE (R465): a closed block is written to the DRAM ring. -/
def execRingWrite (s : State) : Host.Outcome State Fault Refusal := finish (if s.safe then s else s.ringWrite)

/-- SK_ABANDON (R467): a sketch export still incomplete at half-period is abandoned. -/
def execSkAbandon (s : State) : Host.Outcome State Fault Refusal :=
  finish (if s.jn.skExport = 0 then s
    else ({ (s.bump Reg.JN_SK_ABANDON) with jn := { s.jn with skExport := 0 } }).evt Fld.JN_EVT_SK_ABANDON)

end Sys2Proof.Machine
end

