-- ==== Sys2Proof/Machine/KeyStoreExec.lean ====
section
/-! DEFINITION. The meanings of the commands of the key store and the Pit (chapter 14). -/

namespace Sys2Proof.Machine

/-- GENERATE (R353). -/
def execGenerate (f : KsFrom) (slot : Fin 128) (s : State) : Host.Outcome State Fault Refusal := finish (s.ksCommand f 1 slot.val 0)

/-- DERIVE (R356). -/
def execDerive (f : KsFrom) (slot parent : Fin 128) (s : State) : Host.Outcome State Fault Refusal := finish (s.ksCommand f 2 slot.val parent.val)

/-- AGREE (R356). -/
def execAgree (f : KsFrom) (slot parent : Fin 128) (s : State) : Host.Outcome State Fault Refusal := finish (s.ksCommand f 3 slot.val parent.val)

/-- SIGN (R353). -/
def execSign (f : KsFrom) (slot : Fin 128) (s : State) : Host.Outcome State Fault Refusal := finish (s.ksCommand f 4 slot.val 0)

/-- VERIFY (R353). -/
def execVerify (f : KsFrom) (slot : Fin 128) (s : State) : Host.Outcome State Fault Refusal := finish (s.ksCommand f 5 slot.val 0)

/-- GETPUB (R353). -/
def execGetpub (f : KsFrom) (slot : Fin 128) (s : State) : Host.Outcome State Fault Refusal := finish (s.ksCommand f 6 slot.val 0)

/-- WRAP_EXPORT (R353). -/
def execWrapExport (f : KsFrom) (slot parent : Fin 128) (s : State) : Host.Outcome State Fault Refusal := finish (s.ksCommand f 7 slot.val parent.val)

/-- WRAP_IMPORT (R353). -/
def execWrapImport (f : KsFrom) (slot parent : Fin 128) (s : State) : Host.Outcome State Fault Refusal := finish (s.ksCommand f 8 slot.val parent.val)

/-- INVALIDATE (R357). -/
def execInvalidate (f : KsFrom) (slot : Fin 128) (s : State) : Host.Outcome State Fault Refusal := finish (s.ksCommand f 9 slot.val 0)

/-- LC_TOKEN (R351). -/
def execLcToken (f : KsFrom) (s : State) : Host.Outcome State Fault Refusal := finish (s.ksCommand f 10 0 0)

/-- PROVISION (R350, R352). -/
def execProvision (f : KsFrom) (s : State) : Host.Outcome State Fault Refusal := finish (s.ksCommand f 11 0 0)

/-- ZEROISE (R363). -/
def execZeroise (f : KsFrom) (s : State) : Host.Outcome State Fault Refusal := finish (s.ksCommand f 12 0 0)

/-- CERT_LOAD (R355). -/
def execCertLoad (f : KsFrom) (s : State) : Host.Outcome State Fault Refusal := finish (s.ksCommand f 13 0 0)

/-- KS_COMMAND_DONE (R353). -/
def execKsCommandDone (s : State) : Host.Outcome State Fault Refusal := finish s.ksDoneMirrored

/-- ANCHOR_RECORD (R346): a second boundary, at the RTC count given. -/
def execAnchorRecord (rtc : Nat) (s : State) : Host.Outcome State Fault Refusal := finish (s.anchorRecord rtc)

/-- VBAT_LOSS (R347): the retention pattern is found damaged. -/
def execVbatLoss (rtc : Nat) (s : State) : Host.Outcome State Fault Refusal := finish (((s.setRtc rtc).evt Fld.TP_EVT_VBAT_LOSS).zeroise [8])

/-- TAMPER_LOOP (R361): the loops that two consecutive samples find mismatching. -/
def execTamperLoop (loops : Fin 16) (rtc : Nat) (s : State) : Host.Outcome State Fault Refusal := finish ((s.setRtc rtc).tamperLoops loops.val)

/-- DETECTOR_TRIP (R362). -/
def execDetectorTrip (d : Detector) (rtc : Nat) (s : State) : Host.Outcome State Fault Refusal := finish ((s.setRtc rtc).detect d)

/-- PERIODIC_SELF_TEST (R359). -/
def execPeriodicSelfTest (u : CryptoUnit) (pass : Bool) (s : State) : Host.Outcome State Fault Refusal :=
  finish (if pass then s else match u with | .aes k => s.fencePair k.val | .sha k => s.fencePair k.val | .pk => s.fencePk)

/-- DRBG_RESEED (R360): a reseed falls due, with entropy or without. -/
def execDrbgReseed (entropy : Bool) (s : State) : Host.Outcome State Fault Refusal := finish (s.setB Fld.KS_STAT_DRBG_OK entropy)

/-- ENTROPY_FAIL (R360): a health test fails. -/
def execEntropyFail (s : State) : Host.Outcome State Fault Refusal := finish (s.evt Fld.KS_EVT_ENTROPY)

/-- ATT_REQ (R236): EB_ATT_CMD.REQ is written 1. -/
def execAttReq (req : Requester) (s : State) : Host.Outcome State Fault Refusal := finish (s.attReq req)

/-- ATT_COMPLETE (R236). -/
def execAttComplete (s : State) : Host.Outcome State Fault Refusal := finish s.attDone

end Sys2Proof.Machine
end

