-- ==== Sys2Proof/Machine/LeaseExec.lean ====
section
/-! DEFINITION. The meanings of the commands of the redundant pair and the feeds (chapter 17). -/

namespace Sys2Proof.Machine

/-- PENDING_TIMEOUT (R410): no second edge within 65 ns. -/
def execPendingTimeout (s : State) : Host.Outcome State Fault Refusal := finish (if s.leaseState = 1 then s.leaseTo 0 else s)

/-- GRANT_SILENCE (R411): no accepted edge for 200 ns. -/
def execGrantSilence (s : State) : Host.Outcome State Fault Refusal := finish s.grantSilence

/-- ARB_HEARTBEAT_LOSS (R412): no edge on a member's HB line for 2 µs. -/
def execArbHeartbeatLoss (b : Bool) (s : State) : Host.Outcome State Fault Refusal := finish (s.heartbeatLoss (if b then 1 else 0))

/-- ARB_ELIGIBLE (R412): a member's heartbeat has run well for 10 ms. -/
def execArbEligible (b : Bool) (s : State) : Host.Outcome State Fault Refusal :=
  finish (
    let m := if b then 1 else 0
    if s.flag (State.liveFld m) && !s.flag (State.hbFaultFld m) && 10000000000 ≤ (s.member m).runPs then s.modMember m (fun y => { y with elig := true }) else s)

/-- RELEASE_PATTERN_DETECT (R412). -/
def execReleasePatternDetect (b : Bool) (s : State) : Host.Outcome State Fault Refusal := finish (s.releaseDetect (if b then 1 else 0))

/-- ARB_GRANT_START (R412, R413): the wait of at least 4.5 µs is over. -/
def execArbGrantStart (s : State) : Host.Outcome State Fault Refusal := finish s.arbGrantStart

/-- ARB_HEALTH_WAIT (R413): the wait of 2 ms for HEALTH is over. -/
def execArbHealthWait (s : State) : Host.Outcome State Fault Refusal := finish (if s.arbFree then s.arbChoose else s)

/-- LEASE_SWAP (R415): LS_CMD.SWAP. -/
def execLeaseSwap (s : State) : Host.Outcome State Fault Refusal := finish s.requestSwap

/-- CLAIM (R419): LS_CMD.CLAIM, from a standby. -/
def execClaim (s : State) : Host.Outcome State Fault Refusal := finish (if s.isMember && s.leaseState ≠ 2 then s.sendClaim 2 else s)

/-- RELEASE_CUTOFF (R416). -/
def execReleaseCutoff (s : State) : Host.Outcome State Fault Refusal := finish s.releaseCutoff

/-- PEER_HEALTH_LOST (R419). -/
def execPeerHealthLost (arb : Bool) (s : State) : Host.Outcome State Fault Refusal := finish (s.healthLost arb)

/-- AB_COLLISION (R417). -/
def execAbCollision (s : State) : Host.Outcome State Fault Refusal := finish s.abCollision

/-- AB_BACKOFF_EXPIRY (R417). -/
def execAbBackoffExpiry (s : State) : Host.Outcome State Fault Refusal := finish s.abBackoff

/-- FEED_LOSS (R426): samples of a feed, the last PF_DEB of which may declare it lost. -/
def execFeedLoss (b : Bool) (samples : List (Fin 4096)) (s : State) : Host.Outcome State Fault Refusal := finish (s.feedLoss b (samples.map Fin.val))

/-- FEED_RETURN (R426). -/
def execFeedReturn (b : Bool) (samples : List (Fin 4096)) (s : State) : Host.Outcome State Fault Refusal := finish (s.feedReturn b (samples.map Fin.val))

/-- FEED_PREDICT (R427). -/
def execFeedPredict (b : Bool) (samples : List (Fin 4096)) (s : State) : Host.Outcome State Fault Refusal := finish (s.feedPredict b (samples.map Fin.val))

/-- LAST_GASP_FLUSH (R428). -/
def execLastGaspFlush (s : State) : Host.Outcome State Fault Refusal := finish s.gaspFlushed

/-- HEARTBEAT_EDGE (R412). -/
def execHeartbeatEdge (b : Bool) (gapPs : Nat) (s : State) : Host.Outcome State Fault Refusal := finish (s.heartbeatEdge (if b then 1 else 0) gapPs)

end Sys2Proof.Machine
end

