-- ==== Sys2Proof/Machine/LinksExec.lean ====
section
/-! DEFINITION. The meanings of the commands of the Usaur links (chapter 18). -/

namespace Sys2Proof.Machine

/-- TIME_FRAME_SEND (R437): the link's rate has a TIME frame due. -/
def execTimeFrameSend (k : Fin 4) (s : State) : Host.Outcome State Fault Refusal :=
  finish (if s.ulUp k.val && s.flag (Fld.ULk_CFG_TIME_EN k.val) then s.sendTime k.val else s)

/-- ULINK_DOWN (R433): lock or eight check values lost. -/
def execUlinkDown (k : Fin 4) (lockLost : Bool) (s : State) : Host.Outcome State Fault Refusal := finish (s.ulinkDown k.val lockLost)

/-- LINK_HW (R433): a link buffer or the FEC self-check fails. -/
def execLinkHw (k : Fin 4) (s : State) : Host.Outcome State Fault Refusal := finish (s.fencing 17 k.val (fun t => t.ulinkHw k.val))

end Sys2Proof.Machine
end

