-- ==== Sys2Proof/Machine/NetworkExec.lean ====
section
/-! DEFINITION. The meanings of the commands of the front ports: frames, launches and failure (chapter 10). -/

namespace Sys2Proof.Machine

/-- FRAME_RECEIVE (R242): a frame has been received at a front port, with its FCS; `pos` is where its timestamp point lies in the port's stream. -/
def execFrameReceive (p : Fin 16) (bytes : List Byte) (pos : WirePos) (s : State) : Host.Outcome State Fault Refusal :=
  finish (s.frameReceive p.val bytes pos)

/-- CUT_THROUGH_START (R271): the first 128 B of a frame, or the whole of a shorter one, have been received. -/
def execCutThroughStart (i : Fin 16) (head : List Byte) (pos : WirePos) (x : Nat) (s : State) : Host.Outcome State Fault Refusal :=
  finish (s.cutStart i.val head pos x)

/-- RESERVATION_REQUEST (R247). -/
def execReservationRequest (p : Fin 16) (eng : Engine) (grid : List Nat) (s : State) : Host.Outcome State Fault Refusal :=
  finish (if s.safe then s else s.askSlot p.val eng grid)

/-- FRAME_HANDOVER (R249). -/
def execFrameHandover (p : Fin 16) (eng : Engine) (s : State) : Host.Outcome State Fault Refusal :=
  finish (if s.safe then s else s.handOverFrame p.val eng)

/-- LAUNCH (R249): time reaches the T of the port's earliest reservation. -/
def execLaunch (p : Fin 16) (pos : WirePos) (s : State) : Host.Outcome State Fault Refusal :=
  finish (
    let x := s.launch p.val pos
    match x.1 with
    | some j => x.2.launched j
    | none => x.2)

/-- PORT_HW (R259): a parity error in a port buffer, a lost transmit PLL, or a failed FEC self-check. -/
def execPortHw (p : Fin 16) (s : State) : Host.Outcome State Fault Refusal :=
  finish (if s.fenced p.val then s else s.fencing 15 p.val (fun t => t.portHw p.val))

/-- SDREF_LOSS (R259, R433). -/
def execSdrefLoss (bank : Fin 2) (s : State) : Host.Outcome State Fault Refusal := finish (s.sdrefLoss bank.val)

/-- SDREF_RETURN (R259). -/
def execSdrefReturn (bank : Fin 2) (s : State) : Host.Outcome State Fault Refusal := finish (s.sdrefReturn bank.val)

end Sys2Proof.Machine
end

