-- ==== Sys2Proof/Machine/NtpExec.lean ====
section
/-! DEFINITION. The meanings of the commands of the NTP engine (chapter 13). -/

namespace Sys2Proof.Machine

/-- NTP_REQUEST (R321). -/
def execNtpRequest (p : Fin 16) (stamp : Option Nat) (bytes : List Byte) (s : State) : Host.Outcome State Fault Refusal :=
  engine s (s.ntpRequest p.val stamp bytes)

/-- MINT_ENTRY (R334). -/
def execMintEntry (readError : Bool) (s : State) : Host.Outcome State Fault Refusal := engine s (s.mintEntry readError)

/-- GENERATION_RELEASE (R335): a VERIFY_ONLY generation whose grace has passed is released. -/
def execGenerationRelease (newer : Bool) (s : State) : Host.Outcome State Fault Refusal :=
  engine s (let j := if newer then 1 else 2; if s.graceOver j then s.releaseGen j else s)

/-- SKETCH_PERIOD (R338). -/
def execSketchPeriod (s : State) : Host.Outcome State Fault Refusal := engine s s.sketchPeriod

/-- NE_REQ_AGED (R333). -/
def execNeReqAged (s : State) : Host.Outcome State Fault Refusal :=
  engine s (
    match s.whl.withheld.find? (fun c => match c with | .ntpRequest _ _ _ => true | _ => false) with
    | some c => ({ s with whl := { s.whl with withheld := s.whl.withheld.erase c } }).bump Reg.NE_REQ_AGED
    | none => s)

/-- NE_LANE (R341). -/
def execNeLane (busy : Bool) (s : State) : Host.Outcome State Fault Refusal := engine s (s.fencing 20 0 (fun t => t.neLane busy))

end Sys2Proof.Machine
end

