-- ==== Sys2Proof/Machine/OutputsExec.lean ====
section
/-! DEFINITION. The meanings of the commands of the timing outputs (chapter 16). -/

namespace Sys2Proof.Machine

/-- OUTPUT_EDGE (R396): the output places its next edge. -/
def execOutputEdge (n : Fin 16) (s : State) : Host.Outcome State Fault Refusal := finish (s.outEdge n.val)

/-- OUTPUT_CFG_APPLY (R401): a pending change is applied at the next second boundary. -/
def execOutputCfgApply (n : Fin 16) (s : State) : Host.Outcome State Fault Refusal :=
  finish (
    if (s.out n.val).change ≠ 2 || s.outLive n.val || !s.counting then s
    else ((s.advanceTo ((secOf s.tc.now + 1) * secU)).takeCfg n.val).refreshOut n.val)

/-- OUTPUT_SLEW_DONE (R397): time runs until the output's lag has returned to zero. -/
def execOutputSlewDone (n : Fin 16) (s : State) : Host.Outcome State Fault Refusal :=
  finish (
    if (s.out n.val).lag = 0 then s
    else
      let s1 := s.advance s.slewCycles
      let o := s1.out n.val
      s1.advance (ceilDiv o.lag.natAbs (State.lagRate o.slew).toNat))

end Sys2Proof.Machine
end

