-- ==== Sys2Proof/Machine/PipFabricExec.lean ====
section
/-! DEFINITION. The meanings of PEEK_POKE_DONE and of the transactions at the management ports. -/

namespace Sys2Proof.Machine

/-- PEEK_POKE_DONE (R380). -/
def execPeekPokeDone (k : PipNo) (s : State) : Host.Outcome State Fault Refusal := finish (s.peekPokeDone k)

/-- MSPI_TRANSACTION (R525). -/
def execMspiTransaction (bytes : List Byte) (s : State) : Host.Outcome State Fault Refusal := finish (s.mspi bytes)

/-- MI2C_TRANSACTION (R525). -/
def execMi2cTransaction (bytes : List Byte) (s : State) : Host.Outcome State Fault Refusal := finish (s.mi2c bytes)

end Sys2Proof.Machine
end

