-- ==== Sys2Proof/Machine/PipsExec.lean ====
section
/-! DEFINITION. The meanings of the commands of the Pips (chapter 15). -/

namespace Sys2Proof.Machine

/-- TRIGGER_FIRE (R84): time reaches an armed trigger's target. -/
def execTriggerFire (n : Fin 32) (s : State) : Host.Outcome State Fault Refusal :=
  finish (match s.trgArmed n.val with
    | none => s
    | some a => if s.counting then s.fireAt n.val a else s)

/-- NOP. -/
def execNop (k : PipNo) (s : State) : Host.Outcome State Fault Refusal := finish (s.pipStep k.val (encR 0 0 0 0 0) 1 (fun t => t))

/-- ADD. -/
def execAdd (k : PipNo) (d a b : PReg) (s : State) : Host.Outcome State Fault Refusal := finish (s.alu k.val 1 d.val a.val b.val (· + ·))

/-- SUB. -/
def execSub (k : PipNo) (d a b : PReg) (s : State) : Host.Outcome State Fault Refusal :=
  finish (s.alu k.val 2 d.val a.val b.val (fun x y => x + 2 ^ 32 - y))

/-- AND. -/
def execAnd (k : PipNo) (d a b : PReg) (s : State) : Host.Outcome State Fault Refusal := finish (s.alu k.val 3 d.val a.val b.val (· &&& ·))

/-- OR. -/
def execOr (k : PipNo) (d a b : PReg) (s : State) : Host.Outcome State Fault Refusal := finish (s.alu k.val 4 d.val a.val b.val (· ||| ·))

/-- XOR. -/
def execXor (k : PipNo) (d a b : PReg) (s : State) : Host.Outcome State Fault Refusal := finish (s.alu k.val 5 d.val a.val b.val (· ^^^ ·))

/-- SHL. -/
def execShl (k : PipNo) (d a b : PReg) (s : State) : Host.Outcome State Fault Refusal :=
  finish (s.alu k.val 6 d.val a.val b.val (fun x y => x * 2 ^ (y % 32)))

/-- SHR. -/
def execShr (k : PipNo) (d a b : PReg) (s : State) : Host.Outcome State Fault Refusal :=
  finish (s.alu k.val 7 d.val a.val b.val (fun x y => x / 2 ^ (y % 32)))

/-- SRA. -/
def execSra (k : PipNo) (d a b : PReg) (s : State) : Host.Outcome State Fault Refusal := finish (s.alu k.val 8 d.val a.val b.val sraWord)

/-- MUL keeps the low 32 bits. -/
def execMul (k : PipNo) (d a b : PReg) (s : State) : Host.Outcome State Fault Refusal := finish (s.alu k.val 9 d.val a.val b.val (· * ·))

/-- SLT. -/
def execSlt (k : PipNo) (d a b : PReg) (s : State) : Host.Outcome State Fault Refusal :=
  finish (s.alu k.val 10 d.val a.val b.val (fun x y => if signedOf 32 x < signedOf 32 y then 1 else 0))

/-- SLTU. -/
def execSltu (k : PipNo) (d a b : PReg) (s : State) : Host.Outcome State Fault Refusal :=
  finish (s.alu k.val 11 d.val a.val b.val (fun x y => if x < y then 1 else 0))

/-- ADDI. -/
def execAddi (k : PipNo) (d a : PReg) (imm : BitVec 18) (s : State) : Host.Outcome State Fault Refusal :=
  finish (s.aluI k.val 0x10 d.val a.val imm.toNat (· + sext18 imm))

/-- ANDI. -/
def execAndi (k : PipNo) (d a : PReg) (imm : BitVec 18) (s : State) : Host.Outcome State Fault Refusal :=
  finish (s.aluI k.val 0x11 d.val a.val imm.toNat (· &&& imm.toNat))

/-- ORI. -/
def execOri (k : PipNo) (d a : PReg) (imm : BitVec 18) (s : State) : Host.Outcome State Fault Refusal :=
  finish (s.aluI k.val 0x12 d.val a.val imm.toNat (· ||| imm.toNat))

/-- XORI. -/
def execXori (k : PipNo) (d a : PReg) (imm : BitVec 18) (s : State) : Host.Outcome State Fault Refusal :=
  finish (s.aluI k.val 0x13 d.val a.val imm.toNat (· ^^^ imm.toNat))

/-- SHLI. -/
def execShli (k : PipNo) (d a : PReg) (imm : BitVec 18) (s : State) : Host.Outcome State Fault Refusal :=
  finish (s.aluI k.val 0x14 d.val a.val imm.toNat (· * 2 ^ (imm.toNat % 32)))

/-- SHRI. -/
def execShri (k : PipNo) (d a : PReg) (imm : BitVec 18) (s : State) : Host.Outcome State Fault Refusal :=
  finish (s.aluI k.val 0x15 d.val a.val imm.toNat (· / 2 ^ (imm.toNat % 32)))

/-- SRAI. -/
def execSrai (k : PipNo) (d a : PReg) (imm : BitVec 18) (s : State) : Host.Outcome State Fault Refusal :=
  finish (s.aluI k.val 0x16 d.val a.val imm.toNat (fun x => sraWord x (sext18 imm)))

/-- LUI. -/
def execLui (k : PipNo) (d : PReg) (imm : BitVec 16) (s : State) : Host.Outcome State Fault Refusal :=
  finish (s.pipStep k.val (encL 0x17 d.val imm.toNat) 1 (fun t => t.setP k.val d.val (imm.toNat * 2 ^ 16)))

/-- LD. -/
def execLd (k : PipNo) (d a : PReg) (imm : BitVec 18) (s : State) : Host.Outcome State Fault Refusal :=
  finish (s.pipStep k.val (encI 0x18 d.val a.val imm.toNat) 2 (fun t =>
    let x := (t.p k.val a.val + sext18 imm) % 2 ^ 32
    t.atData k.val x (fun u => u.setP k.val d.val (u.dataWord k.val x))))

/-- ST. -/
def execSt (k : PipNo) (d a : PReg) (imm : BitVec 18) (s : State) : Host.Outcome State Fault Refusal :=
  finish (s.pipStep k.val (encI 0x19 d.val a.val imm.toNat) 2 (fun t =>
    let x := (t.p k.val a.val + sext18 imm) % 2 ^ 32
    t.atData k.val x (fun u => u.storeWord k.val x (u.p k.val d.val))))

/-- BEQ. -/
def execBeq (k : PipNo) (a b : PReg) (t : BitVec 10) (s : State) : Host.Outcome State Fault Refusal :=
  finish (s.branch k.val 0x20 a.val b.val t.toNat (fun x y => x == y))

/-- BNE. -/
def execBne (k : PipNo) (a b : PReg) (t : BitVec 10) (s : State) : Host.Outcome State Fault Refusal :=
  finish (s.branch k.val 0x21 a.val b.val t.toNat (fun x y => x != y))

/-- BLT. -/
def execBlt (k : PipNo) (a b : PReg) (t : BitVec 10) (s : State) : Host.Outcome State Fault Refusal :=
  finish (s.branch k.val 0x22 a.val b.val t.toNat (fun x y => decide (signedOf 32 x < signedOf 32 y)))

/-- BLTU. -/
def execBltu (k : PipNo) (a b : PReg) (t : BitVec 10) (s : State) : Host.Outcome State Fault Refusal :=
  finish (s.branch k.val 0x23 a.val b.val t.toNat (fun x y => decide (x < y)))

/-- JMP. -/
def execJmp (k : PipNo) (t : BitVec 10) (s : State) : Host.Outcome State Fault Refusal :=
  finish (s.pipStep k.val (encB 0x24 0 0 t.toNat) 1 (fun u => u.setPc k.val t.toNat))

/-- CALL. -/
def execCall (k : PipNo) (t : BitVec 10) (s : State) : Host.Outcome State Fault Refusal :=
  finish (s.pipStep k.val (encB 0x25 0 0 t.toNat) 1 (fun u => (u.setP k.val 15 (u.pcOf k.val)).setPc k.val t.toNat))

/-- RET. -/
def execRet (k : PipNo) (s : State) : Host.Outcome State Fault Refusal :=
  finish (s.pipStep k.val (encR 0x26 0 0 0 0) 1 (fun u => u.setPc k.val (u.p k.val 15 % 1024)))

/-- WAITT (R375). -/
def execWaitt (k : PipNo) (a b : PReg) (s : State) : Host.Outcome State Fault Refusal :=
  finish (s.pipStep k.val (encR 0x30 0 a.val b.val 0) 1 (fun t =>
    let u := t.yieldPoint k.val
    if u.reached (u.p k.val a.val) (u.p k.val b.val) then u.tick else u.tick.setWait k.val (.time (u.p k.val a.val) (u.p k.val b.val))))

/-- WAITT_RESUME (R375). -/
def execWaittResume (k : PipNo) (s : State) : Host.Outcome State Fault Refusal := finish (if s.safe then s else s.waitResume k.val)

/-- STAMP (R376). -/
def execStamp (k : PipNo) (d : PReg) (m : BitVec 14) (s : State) : Host.Outcome State Fault Refusal :=
  finish (s.pipStep k.val (encR 0x31 d.val 0 0 m.toNat) 1 (fun t =>
    if 14 < d.val || 1 < m.toNat then t.failHere k.val 2
    else if m.toNat = 0 then ((t.setP k.val d.val t.viewSec).setP k.val (d.val + 1) t.viewNs).tick
    else (t.setP k.val d.val (t.rdN Reg.WHL_SEQ_L)).setP k.val (d.val + 1) (t.rdN Reg.WHL_POS)))

/-- TRIG (R377). -/
def execTrig (k : PipNo) (d a b : PReg) (m : BitVec 14) (s : State) : Host.Outcome State Fault Refusal :=
  finish (s.pipStep k.val (encR 0x32 d.val a.val b.val m.toNat) 1 (fun t =>
    if 63 < m.toNat then t.failHere k.val 2
    else t.pipTrig k.val d.val (t.p k.val a.val) (t.p k.val b.val) (m.toNat % 32) (bitAt m.toNat 5)))

/-- EMIT (R378). -/
def execEmit (k : PipNo) (a : PReg) (m : BitVec 14) (s : State) : Host.Outcome State Fault Refusal :=
  finish (s.pipStep k.val (encR 0x33 0 a.val 0 m.toNat) 1 (fun t =>
    if 255 < m.toNat then t.failHere k.val 2 else t.pipEmit k.val m.toNat (bitAt (t.p k.val a.val) 0)))

/-- SEND (R379). -/
def execSend (k : PipNo) (d a : PReg) (m : BitVec 14) (s : State) : Host.Outcome State Fault Refusal :=
  finish (s.pipStep k.val (encR 0x34 d.val a.val 0 m.toNat) 1 (fun t =>
    let n := bitsOf m.toNat 8 2 + 1
    if 1023 < m.toNat || 16 < a.val + n then t.failHere k.val 2
    else
      let r := t.pipSend k.val (m.toNat % 256) (t.pRange k.val a.val n)
      r.2.setP k.val d.val r.1))

/-- RECV (R379). -/
def execRecv (k : PipNo) (d : PReg) (m : BitVec 14) (s : State) : Host.Outcome State Fault Refusal :=
  finish (s.pipStep k.val (encR 0x35 d.val 0 0 m.toNat) 1 (fun t =>
    if 12 < d.val || 1 < m.toNat then t.failHere k.val 2 else t.pipRecv k.val d.val (m.toNat == 1)))

/-- RECV_RESUME (R379). -/
def execRecvResume (k : PipNo) (s : State) : Host.Outcome State Fault Refusal := finish (s.recvResume k.val)

/-- PEEK (R380): the access goes to the fabric. -/
def execPeek (k : PipNo) (d a b : PReg) (s : State) : Host.Outcome State Fault Refusal :=
  finish (s.pipStep k.val (encR 0x36 d.val a.val b.val 0) 1 (fun t => t.setWait k.val (.fabric true (t.p k.val a.val) 0 d.val b.val)))

/-- POKE (R380). -/
def execPoke (k : PipNo) (d a b : PReg) (s : State) : Host.Outcome State Fault Refusal :=
  finish (s.pipStep k.val (encR 0x37 d.val a.val b.val 0) 1 (fun t =>
    t.setWait k.val (.fabric false (t.p k.val a.val) (t.p k.val b.val) d.val d.val)))

/-- YIELD (R374, R381, R384). -/
def execYield (k : PipNo) (s : State) : Host.Outcome State Fault Refusal :=
  finish (s.pipStep k.val (encR 0x38 0 0 0 0) 1 (fun t =>
    let u := t.yieldPoint k.val
    if State.isClassifier k.val then u.giveVerdict k.val else u))

/-- PIP_WATCHDOG (R384). -/
def execPipWatchdog (k : PipNo) (s : State) : Host.Outcome State Fault Refusal :=
  finish (if !s.safe && bitsOf (s.rdN (Reg.PPk_WDOG k.val)) 0 16 < (s.pip k.val).wdog then s.failHere k.val 1 else s)

/-- PIP_FAIL (R385): a cause other than the watchdog is found at the instruction that is next. -/
def execPipFail (k : PipNo) (c : PipCause) (s : State) : Host.Outcome State Fault Refusal :=
  finish (
    let ok := match c with
      | .wdog => decide (bitsOf (s.rdN (Reg.PPk_WDOG k.val)) 0 16 < (s.pip k.val).wdog)
      | .illegal => (match s.pipWord k.val with | some w => !legalWord w | none => true)
      | .dataRange => (s.pipWord k.val).isNone
      | .parity => true
    if ok && !s.safe then s.pipFail k.val (State.causeCode c) (s.pcOf k.val) else s)

end Sys2Proof.Machine
end

