-- ==== Sys2Proof/Machine/PortsExec.lean ====
section
/-! DEFINITION. The meanings of the commands of the front ports: link and pause (chapter 10). -/

namespace Sys2Proof.Machine

/-- LAUNCH_MISS (R250): a reservation that cannot cross at T is discarded. -/
def execLaunchMiss (p : Fin 16) (k : Nat) (s : State) : Host.Outcome State Fault Refusal := finish (s.launchMiss p.val k)

/-- PAUSE_EXPIRY (R256). -/
def execPauseExpiry (p : Fin 16) (prio : Option (Fin 8)) (s : State) : Host.Outcome State Fault Refusal := finish (s.pauseExpiry p.val prio)

/-- LINK_DOWN (R258). -/
def execLinkDown (p : Fin 16) (lockLost : Bool) (s : State) : Host.Outcome State Fault Refusal := finish (s.linkDown p.val lockLost)

/-- LINK_UP (R258). -/
def execLinkUp (p : Fin 16) (s : State) : Host.Outcome State Fault Refusal := finish (s.linkComesUp p.val)

/-- MARKER_TIMEOUT (R245): the latest marker of a direction grows too old. -/
def execMarkerTimeout (p : Fin 16) (tx : Bool) (s : State) : Host.Outcome State Fault Refusal :=
  finish (
    let per := clampNat 1 255 (bitsOf (s.rdN Reg.SH_PCLK_PER) 0 8)
    match (if tx then (s.port p.val).txMarks else (s.port p.val).rxMarks) with
    | (_, t) :: _ => (s.advanceTo (t + (2 * per + 1) * 1000 * nsU + 2 * nsU)).refreshStamps p.val
    | [] => s.refreshStamps p.val)

end Sys2Proof.Machine
end

