-- ==== Sys2Proof/Machine/PtpClientExec.lean ====
section
/-! DEFINITION. The meanings of the commands of the PTP client instances (chapter 12). -/

namespace Sys2Proof.Machine

/-- ANNOUNCE_RECEIVE (R291). -/
def execAnnounceReceive (p : Fin 16) (bytes : List Byte) (s : State) : Host.Outcome State Fault Refusal := engine s (s.announceReceive p.val bytes)

/-- CLIENT_SYNC (R313). -/
def execClientSync (i : Fin 2) (stamp : Option Nat) (bytes : List Byte) (s : State) : Host.Outcome State Fault Refusal :=
  engine s (s.clSync i.val stamp bytes)

/-- CLIENT_FOLLOW_UP (R315). -/
def execClientFollowUp (i : Fin 2) (bytes : List Byte) (s : State) : Host.Outcome State Fault Refusal := engine s (s.clFollowUp i.val bytes)

/-- CLIENT_DELAY_REQ (R313). -/
def execClientDelayReq (i : Fin 2) (s : State) : Host.Outcome State Fault Refusal := engine s (s.clDelayReq i.val)

/-- CLIENT_DELAY_RESP (R313). -/
def execClientDelayResp (i : Fin 2) (t3 : Nat) (stamp : Option Nat) (bytes : List Byte) (s : State) : Host.Outcome State Fault Refusal :=
  engine s (s.clDelayResp i.val t3 stamp bytes)

/-- CLIENT_GRANT (R313). -/
def execClientGrant (i : Fin 2) (bytes : List Byte) (s : State) : Host.Outcome State Fault Refusal := engine s (s.clGrant i.val bytes)

/-- CLIENT_GRANT_RENEW (R313): half a grant's duration has passed. -/
def execClientGrantRenew (i : Fin 2) (typ : Fin 3) (s : State) : Host.Outcome State Fault Refusal := engine s (s.clRequest i.val typ.val)

/-- CLIENT_TIMEOUT (R315). -/
def execClientTimeout (i : Fin 2) (s : State) : Host.Outcome State Fault Refusal := engine s (s.clTimeout i.val)

end Sys2Proof.Machine
end

