-- ==== Sys2Proof/Machine/PtpExec.lean ====
section
/-! DEFINITION. The meanings of the commands of the PTP engine (chapter 12). -/

namespace Sys2Proof.Machine

/-- ANNOUNCE_RECEIPT_TIMEOUT (R291). -/
def execAnnounceReceiptTimeout (k : Fin 4) (p : Fin 16) (s : State) : Host.Outcome State Fault Refusal := engine s (s.announceTimeout k.val p.val)

/-- MULTICAST_MESSAGE_DUE (R292). -/
def execMulticastMessageDue (k : Fin 4) (p : Fin 16) (sync : Bool) (s : State) : Host.Outcome State Fault Refusal :=
  engine s (s.multicastDue k.val p.val sync)

/-- FOLLOW_UP (R295): the egress stamp of two-step message `n` of a port returns. -/
def execFollowUp (p : Fin 16) (n t1 : Nat) (s : State) : Host.Outcome State Fault Refusal := engine s (s.sendFollowUp p.val n t1)

/-- DELAY_REQ (R296). -/
def execDelayReq (p : Fin 16) (stamp : Option Nat) (bytes : List Byte) (s : State) : Host.Outcome State Fault Refusal :=
  engine s (s.delayReq p.val stamp bytes)

/-- PDELAY_REQ (R294). -/
def execPdelayReq (p : Fin 16) (stamp : Option Nat) (bytes : List Byte) (s : State) : Host.Outcome State Fault Refusal :=
  engine s (s.pdelayReq p.val stamp bytes)

/-- SIGNALING (R299). -/
def execSignaling (p : Fin 16) (bytes : List Byte) (s : State) : Host.Outcome State Fault Refusal := engine s (s.signaling p.val bytes)

/-- CALENDAR_TICK (R303). -/
def execCalendarTick (s : State) : Host.Outcome State Fault Refusal := engine s s.calendarTick

/-- PE_REQ_AGED (R307). -/
def execPeReqAged (s : State) : Host.Outcome State Fault Refusal :=
  engine s (
    match s.whl.withheld.find? State.peHeld with
    | some c => ({ s with whl := { s.whl with withheld := s.whl.withheld.erase c } }).bump Reg.PE_REQ_AGED
    | none => s)

/-- PE_LANE (R312). -/
def execPeLane (busy : Bool) (s : State) : Host.Outcome State Fault Refusal := engine s (s.fencing 19 0 (fun t => t.peLane busy))

/-- TABLE_QUERY_DONE (R318). -/
def execTableQueryDone (ue : Bool) (s : State) : Host.Outcome State Fault Refusal := engine s (s.tableQueryDone ue)

end Sys2Proof.Machine
end

