-- ==== Sys2Proof/Machine/PublishExec.lean ====
section
/-! DEFINITION. The meanings of the commands by which the Shell publishes (chapter 08). -/

namespace Sys2Proof.Machine

/-- PUBLICATION (R192): the Shell drains an event, converts it and publishes a record. -/
def execPublication (s : State) : Host.Outcome State Fault Refusal := finish s.drain

/-- INTERVAL_PAIRING (R191): a unit pairs a resolved stop. -/
def execIntervalPairing (u : Fin 16) (ch : Fin 48) (stop : Resolved) (s : State) : Host.Outcome State Fault Refusal :=
  finish (s.pairStop u.val ch.val stop)

/-- DELAY_LINE_CAL (R204): the measurement of a delay line ends with 64 KIND 9 records. -/
def execDelayLineCal (out : Fin 16) (delays : List Nat) (s : State) : Host.Outcome State Fault Refusal := finish (s.delayCal out.val delays)

/-- OUTPUT_LIVE_CHECK (R204): one live output edge is checked. -/
def execOutputLiveCheck (out : Fin 16) (interval : Int) (s : State) : Host.Outcome State Fault Refusal := finish (s.liveCheck out.val interval)

/-- SHELL_LOST (R217). -/
def execShellLost (s : State) : Host.Outcome State Fault Refusal := finish s.shellLost

/-- SHELL_RESET_ASSERT (R216): SHELL_RST_N is asserted or VDD_SH falls. -/
def execShellResetAssert (fuseBlown : Bool) (s : State) : Host.Outcome State Fault Refusal := finish (s.shellStop fuseBlown)

end Sys2Proof.Machine
end

