-- ==== Sys2Proof/Machine/RefSelExec.lean ====
section
/-! DEFINITION. The meanings of the commands of the reference selector (chapter 05). -/

namespace Sys2Proof.Machine

/-- SIGNAL_LOSS (R111): a slot's signal is lost by its source's condition. -/
def execSignalLoss (n : Fin 12) (s : State) : Host.Outcome State Fault Refusal := finish (s.signalLoss n.val)

/-- HOLDOFF_EXPIRY (R112). -/
def execHoldoffExpiry (n : Fin 12) (s : State) : Host.Outcome State Fault Refusal := finish (s.holdoffExpire n.val)

/-- QUAL_TIMER_EXPIRY (R113, R114): the running timer of a slot in QUALIFYING runs out; BRIDGE holds it (R129). -/
def execQualTimerExpiry (n : Fin 12) (s : State) : Host.Outcome State Fault Refusal := 
  finish (if s.bridging then s else s.qualTimerOut n.val)

/-- DWELL_EXPIRY (R112, R126, R127): RSn_DWELL has passed in the condition given, where that condition stands; BRIDGE
holds the timer (R129). -/
def execDwellExpiry (n : Fin 12) (d : Dwell) (s : State) : Host.Outcome State Fault Refusal :=
  finish (if s.bridging then s else
    let x := s.slot n.val
    let st := s.slotState n.val
    match d with
    | .soft => if st = 3 && x.softMs ≠ 0 then s.slotTo n.val 4 0 else s
    | .recover => if st = 4 && x.recMs ≠ 0 then s.slotTo n.val 3 0 else s
    | .drift =>
      if x.driftMs = 0 then s
      else
        let s1 := s.evt (Fld.RSn_EVT_DRIFT_RATE n.val)
        if s.flag (Fld.RSn_CFG_DRATE_ACT n.val) && st = 3 then s1.slotTo n.val 4 0 else s1)

/-- LOCK_TIMER_EXPIRY (R123): the lock conditions have held for RS_LOCK_T. -/
def execLockTimerExpiry (s : State) : Host.Outcome State Fault Refusal :=
  finish (if s.lockWithin 1 && !s.bridging then (s.setLocked true).tcUpdate false else s)

/-- ASTEP_STEP_REQUEST (R151): 499 ms after b0 the selector requests the step. -/
def execAstepStepRequest (s : State) : Host.Outcome State Fault Refusal := finish s.astepRequest

end Sys2Proof.Machine
end

