-- ==== Sys2Proof/Machine/RegCommands.lean ====
section
/-! DEFINITION. The meanings of the commands that are accesses of the register fabric (R33 to R63), each of its register. -/

namespace Sys2Proof.Machine

open State

abbrev Result := Host.Outcome State Fault Refusal

/-! ### Accesses by address (chapter 02) -/

/-- REGISTER_WRITE (R38): a write of any register. -/
def execRegisterWrite (x : Access) (v : Word) (s : State) : Result := finish (s.busWrite x v)

/-- W1C_CLEAR (R43): a write of a page's EVT, with the bits that hardware sets in the same cycle. -/
def execW1cClear (req : Requester) (ap : Aperture) (page : Fin 512) (v : Word) (hw : Nat) (s : State) : Result :=
  finish (s.clearEvt req ap page.val v.toNat hw)

/-- RECUR_CLEAR (R43). -/
def execRecurClear (req : Requester) (ap : Aperture) (page : Fin 512) (s : State) : Result :=
  finish (s.writeAt req ap (page.val * 0x1000 + 0x20) (2 ^ 31))

/-- EVT_FORCE_WRITE (R43). -/
def execEvtForceWrite (req : Requester) (ap : Aperture) (page : Fin 512) (v : Word) (s : State) : Result :=
  finish (s.writeAt req ap (page.val * 0x1000 + 0x18) v.toNat)

/-- LOWER_WORD_READ (R41). -/
def execLowerWordRead (x : Access) (s : State) : Result := finish (s.busRead x)

/-- LOWER_WORD_WRITE (R42). -/
def execLowerWordWrite (x : Access) (v : Word) (s : State) : Result := finish (s.busWrite x v)

/-- UPPER_WORD_WRITE (R42). -/
def execUpperWordWrite (x : Access) (v : Word) (s : State) : Result := finish (s.busWrite x v)

/-- IND_ADDR_WRITE (R48). -/
def execIndAddrWrite (x : Access) (v : Word) (s : State) : Result := finish (s.busWrite x v)

/-- IND_DATA_READ (R48). -/
def execIndDataRead (x : Access) (s : State) : Result := finish (s.busRead x)

/-- IND_DATA_WRITE (R48). -/
def execIndDataWrite (x : Access) (v : Word) (s : State) : Result := finish (s.busWrite x v)

/-- IND_WORD_COMPLETE (R48). -/
def execIndWordComplete (set : Fin 4) (s : State) : Result := finish (s.indComplete set.val)

/-- IND_HOLD_CLAIM (R50): a Pip writes IND_CTL of set 2 with HOLD 1. -/
def execIndHoldClaim (k : PipNo) (step : BitVec 2) (s : State) : Result :=
  finish (s.writeAt (.pip k) .other (Reg.IND_CTL 2) (0x100 + step.toNat))

/-- IND_HOLD_RELEASE (R50). -/
def execIndHoldRelease (k : PipNo) (step : BitVec 2) (s : State) : Result := finish (s.writeAt (.pip k) .other (Reg.IND_CTL 2) step.toNat)

/-- OUTPUT_CFG_WRITE (R401). -/
def execOutputCfgWrite (x : Access) (v : Word) (s : State) : Result := finish (s.busWrite x v)

/-! ### Change windows (R55 to R57, R63) -/
/-- CFG_OPEN (R55). -/
def execCfgOpen (req : Requester) (ap : Aperture) (s : State) : Result := finish (s.writeAt req ap Reg.CFG_CTL 1)

/-- CFG_COMMIT (R56). -/
def execCfgCommit (req : Requester) (ap : Aperture) (s : State) : Result := finish (s.writeAt req ap Reg.CFG_CTL 2)

/-- CFG_ABANDON (R56). -/
def execCfgAbandon (req : Requester) (ap : Aperture) (s : State) : Result := finish (s.writeAt req ap Reg.CFG_CTL 4)

/-- CFG_RESCAN (R56). -/
def execCfgRescan (req : Requester) (ap : Aperture) (s : State) : Result := finish (s.writeAt req ap Reg.CFG_CTL 8)


/-! ### Time core (chapter 03) -/
/-- TIME_SAMPLE_READ (R64). -/
def execTimeSampleRead (req : Requester) (ap : Aperture) (s : State) : Result := finish (s.readAt req ap Reg.TC_NOW_FRAC)

/-- SLOPE_WRITE (R68). -/
def execSlopeWrite (req : Requester) (ap : Aperture) (v : Word) (s : State) : Result := finish (s.writeAt req ap Reg.TC_SLOPE v.toNat)

/-- STEP_REQUEST (R71). -/
def execStepRequest (req : Requester) (ap : Aperture) (absolute : Bool) (s : State) : Result :=
  finish (s.writeAt req ap Reg.TC_STEP_CTL (if absolute then 5 else 1))

/-- STEP_CANCEL (R71). -/
def execStepCancel (req : Requester) (ap : Aperture) (s : State) : Result := finish (s.writeAt req ap Reg.TC_STEP_CTL 2)

/-- UTC_ARM (R81). -/
def execUtcArm (req : Requester) (ap : Aperture) (s : State) : Result := finish (s.writeAt req ap Reg.TC_UTC_CTL 1)

/-- UTC_DISARM (R81). -/
def execUtcDisarm (req : Requester) (ap : Aperture) (s : State) : Result := finish (s.writeAt req ap Reg.TC_UTC_CTL 2)

/-- TRG_ARM (R85). -/
def execTrgArm (req : Requester) (ap : Aperture) (n : Fin 32) (s : State) : Result := finish (s.writeAt req ap (Reg.TRGn_CMD n.val) 1)

/-- TRG_DISARM (R84). -/
def execTrgDisarm (req : Requester) (ap : Aperture) (n : Fin 32) (s : State) : Result := finish (s.writeAt req ap (Reg.TRGn_CMD n.val) 2)

/-- CAPTURE_NOW (R88). -/
def execCaptureNow (req : Requester) (ap : Aperture) (n : Fin 8) (s : State) : Result := finish (s.writeAt req ap (Reg.TC_CAPn_CMD n.val) 1)

/-- CAPTURE_POP (R89). -/
def execCapturePop (req : Requester) (ap : Aperture) (n : Fin 8) (s : State) : Result := finish (s.readAt req ap (Reg.TC_CAPn_POP n.val))

/-- TXQ_POP (R92). -/
def execTxqPop (req : Requester) (ap : Aperture) (p : Fin 16) (s : State) : Result := finish (s.readAt req ap (Reg.TC_TXQp_POP p.val))


/-! ### Reference selector, holdover and GNSS (chapters 05 to 07) -/
/-- HOST_POST (R110). -/
def execHostPost (req : Requester) (ap : Aperture) (s : State) : Result := finish (s.writeAt req ap Reg.RS11_HCMD 1)

/-- ACCEPT (R125). -/
def execAccept (req : Requester) (ap : Aperture) (n : Fin 12) (s : State) : Result := finish (s.writeAt req ap (Reg.RSn_CMD n.val) 1)

/-- DISQUALIFY (R112). -/
def execDisqualify (req : Requester) (ap : Aperture) (n : Fin 12) (s : State) : Result := finish (s.writeAt req ap (Reg.RSn_CMD n.val) 2)

/-- REQUALIFY (R530). -/
def execRequalify (req : Requester) (ap : Aperture) (n : Fin 12) (s : State) : Result := finish (s.writeAt req ap (Reg.RSn_CMD n.val) 4)

/-- BW_WRITE (R121). -/
def execBwWrite (req : Requester) (ap : Aperture) (outer : Bool) (v : Word) (s : State) : Result :=
  finish (s.writeAt req ap (if outer then Reg.RS_OUTER_BW else Reg.RS_INNER_BW) v.toNat)

/-- MODEL_LOAD (R139). -/
def execModelLoad (req : Requester) (ap : Aperture) (s : State) : Result := finish (s.writeAt req ap Reg.HO_CMD 1)

/-- FORGET (R138). -/
def execForget (req : Requester) (ap : Aperture) (s : State) : Result := finish (s.writeAt req ap Reg.HO_CMD 2)

/-- RESEND (R142). -/
def execResend (req : Requester) (ap : Aperture) (s : State) : Result := finish (s.writeAt req ap Reg.HO_CMD 4)

/-- PRED_POST (R162). -/
def execPredPost (req : Requester) (ap : Aperture) (s : State) : Result := finish (s.writeAt req ap Reg.GN_PRED_CMD 1)

/-- LEAP_POST (R171). -/
def execLeapPost (req : Requester) (ap : Aperture) (s : State) : Result := finish (s.writeAt req ap Reg.GN_LEAP_CMD 1)

/-- OSN_LOAD (R173). -/
def execOsnLoad (req : Requester) (ap : Aperture) (s : State) : Result := finish (s.writeAt req ap Reg.GN_OSN_CMD 1)

/-- OSN_CLEAR (R181). -/
def execOsnClear (req : Requester) (ap : Aperture) (s : State) : Result := finish (s.writeAt req ap Reg.GN_OSN_CMD 2)

/-- FE_XFER (R178). -/
def execFeXfer (req : Requester) (ap : Aperture) (v : Word) (s : State) : Result := finish (s.writeAt req ap Reg.GN_FE_XFER v.toNat)


/-! ### Shell (chapter 08) -/
/-- OCAL (R204). -/
def execOcal (req : Requester) (ap : Aperture) (s : State) : Result := finish (s.writeAt req ap Reg.SH_CMD 1)

/-- MB_APPEND (R211). -/
def execMbAppend (req : Requester) (ap : Aperture) (s : State) : Result := finish (s.writeAt req ap Reg.SH_MB_CMD 1)

/-- MB_EXECUTE (R211). -/
def execMbExecute (req : Requester) (ap : Aperture) (s : State) : Result := finish (s.writeAt req ap Reg.SH_MB_CMD 2)

/-- MB_ABORT (R211). -/
def execMbAbort (req : Requester) (ap : Aperture) (s : State) : Result := finish (s.writeAt req ap Reg.SH_MB_CMD 4)


/-! ### Ports, switch, PTP and NTP (chapters 10 to 13) -/
/-- PORT_RESTART (R259). -/
def execPortRestart (req : Requester) (ap : Aperture) (p : Fin 16) (s : State) : Result := finish (s.writeAt req ap (Reg.PTp_CMD p.val) 1)

/-- LAG_REBAL (R270). -/
def execLagRebal (req : Requester) (ap : Aperture) (v : Word) (s : State) : Result := finish (s.writeAt req ap Reg.SW_LAG_CMD v.toNat)

/-- RING_TAIL_WRITE (R278). -/
def execRingTailWrite (req : Requester) (ap : Aperture) (tx : Bool) (r : Fin 16) (v : Word) (s : State) : Result :=
  finish (s.writeAt req ap (if tx then Reg.SW_TXr_TAIL r.val else Reg.SW_RXr_TAIL r.val) v.toNat)

/-- TABLE_QUERY (R318). -/
def execTableQuery (req : Requester) (ap : Aperture) (v : Word) (s : State) : Result := finish (s.writeAt req ap Reg.PE_TBL_QIDX v.toNat)

/-- MQ_TAIL_WRITE (R334). -/
def execMqTailWrite (req : Requester) (ap : Aperture) (v : Word) (s : State) : Result := finish (s.writeAt req ap Reg.NE_MQ_TAIL v.toNat)

/-- ROTATE (R335). -/
def execRotate (req : Requester) (ap : Aperture) (s : State) : Result := finish (s.writeAt req ap Reg.NE_ROT_CMD 1)


/-! ### Pips, outputs, lease and links (chapters 15 to 18) -/
/-- PIP_RESTART (R387). -/
def execPipRestart (req : Requester) (ap : Aperture) (k : PipNo) (s : State) : Result := finish (s.writeAt req ap (Reg.PPk_CMD k.val) 1)

/-- HOST_MBOX_SEND (R379). -/
def execHostMboxSend (req : Requester) (ap : Aperture) (k : PipNo) (words : Fin 4) (s : State) : Result :=
  finish (s.writeAt req ap (Reg.PPk_MBOX_CMD k.val) (0x100 + words.val))

/-- OUTPUT_COMP_WRITE (R397). -/
def execOutputCompWrite (req : Requester) (ap : Aperture) (n : Fin 16) (v : Word) (s : State) : Result :=
  finish (s.writeAt req ap (Reg.OUn_COMP n.val) v.toNat)

/-- LEASE_FENCE (R410). -/
def execLeaseFence (req : Requester) (ap : Aperture) (s : State) : Result := finish (s.writeAt req ap Reg.LS_CMD 2)

/-- RESYNC (R423). -/
def execResync (req : Requester) (ap : Aperture) (s : State) : Result := finish (s.writeAt req ap Reg.LS_CMD 4)


/-! ### Journal, faults and checks (chapters 19 to 21) -/
/-- HOST_EVENT (R462). -/
def execHostEvent (req : Requester) (ap : Aperture) (code : BitVec 10) (s : State) : Result :=
  finish (s.writeAt req ap Reg.JN_HEVT_CMD (2 ^ 31 + code.toNat))

/-- FC_FORCE (R474). -/
def execFcForce (req : Requester) (ap : Aperture) (v : Word) (s : State) : Result := finish (s.writeAt req ap Reg.FC_FORCE v.toNat)

/-- FC_PEND_ACK (R477). -/
def execFcPendAck (req : Requester) (ap : Aperture) (v : Word) (s : State) : Result := finish (s.writeAt req ap Reg.FC_PEND v.toNat)

/-- CV_GO (R494). -/
def execCvGo (req : Requester) (ap : Aperture) (n : Fin 4) (s : State) : Result := finish (s.writeAt req ap (Reg.CVn_CMD n.val) 1)

/-- CV_ABORT (R494). -/
def execCvAbort (req : Requester) (ap : Aperture) (n : Fin 4) (s : State) : Result := finish (s.writeAt req ap (Reg.CVn_CMD n.val) 2)

/-- CV_CTX_WRITE (R493). -/
def execCvCtxWrite (req : Requester) (ap : Aperture) (n : Fin 4) (v : Word) (s : State) : Result :=
  finish (s.writeAt req ap (Reg.CVn_CTX n.val) v.toNat)


/-! ### Power states (R511) -/
/-- STANDBY_REQUEST (R511). -/
def execStandbyRequest (req : Requester) (ap : Aperture) (s : State) : Result := finish (s.writeAt req ap Reg.CK_PWR_CMD 1)

/-- RUN_REQUEST (R511). -/
def execRunRequest (req : Requester) (ap : Aperture) (s : State) : Result := finish (s.writeAt req ap Reg.CK_PWR_CMD 0)

/-! ### Commands with a second word, or with what happens outside the chip -/

/-- INCR_SW_WRITE (R66): both words of TC_INCR_SW. -/
def execIncrSwWrite (req : Requester) (ap : Aperture) (lo hi : Word) (s : State) : Result :=
  finish ((s.writeAt req ap Reg.TC_INCR_SW_L lo.toNat).writeAt req ap Reg.TC_INCR_SW_H hi.toNat)

/-- SLEW_OFS_WRITE (R69): both words of TC_SLEW_OFS. -/
def execSlewOfsWrite (req : Requester) (ap : Aperture) (lo hi : Word) (s : State) : Result :=
  finish ((s.writeAt req ap Reg.TC_SLEW_OFS_L lo.toNat).writeAt req ap Reg.TC_SLEW_OFS_H hi.toNat)

/-- IMG_DATA (R507). -/
def execImgData (req : Requester) (v : Word) (s : State) : Result := finish (s.writeAt req .bar0 Reg.SYS_IMG_DATA v.toNat)

/-- IMG_GO (R507): the pushed image's sections, what the known-answer tests give, and the milliseconds to READY are the command's operands. -/
def execImgGo (req : Requester) (parts : Option BootSections) (selftest : Bool) (ms : Nat) (s : State) : Result :=
  finish (s.busWriteWith req .bar0 Reg.SYS_IMG_CMD (fun t => t.imgGo parts selftest ms))

/-- SLEEP_REQUEST (R512), with the count of the real-time clock. -/
def execSleepRequest (req : Requester) (ap : Aperture) (rtc : Nat) (s : State) : Result :=
  finish (s.busWriteWith req ap Reg.CK_PWR_CMD (fun t => t.wrPwrCmd 2 rtc))

end Sys2Proof.Machine
end

