-- ==== Sys2Proof/Machine/SealExec.lean ====
section
/-! DEFINITION. The meanings of the commands of the seal and change windows (chapter 02). -/

namespace Sys2Proof.Machine

/-- SEAL_SCAN_COMPLETE (R54): CV0 completes a seal scan, its words charged to SEAL (R23). -/
def execSealScanComplete (stale : List (Nat × Word)) (s : State) : Host.Outcome State Fault Refusal :=
  finish (
    if !s.cfg.scanning then s else
    let (ok, s1) := s.admitFor 11 18432
    if ok then s1.scanComplete stale else s1.withhold (.sealScanComplete stale))

/-- COMMIT_COMPLETE (R56): the commit's scan ends. -/
def execCommitComplete (s : State) : Host.Outcome State Fault Refusal := finish s.commitDone

/-- WINDOW_EXPIRY (R57): a window open for CFG_WIN_MAX frames closes without commit, and one compared scan runs. -/
def execWindowExpiry (s : State) : Host.Outcome State Fault Refusal :=
  finish (
    let limit := clampNat 1 65535 (bitsOf (s.rdN Reg.CFG_WIN_MAX) 0 16)
    if s.flag Fld.CFG_STAT_WIN_OPEN && !s.flag Fld.CFG_STAT_COMMIT_BUSY && limit ≤ s.cfg.windowFrames then s.closeWindow.startScan else s)

end Sys2Proof.Machine
end

