-- ==== Sys2Proof/Machine/SwitchExec.lean ====
section
/-! DEFINITION. The meanings of the commands of the switch core and the host rings (chapter 11). -/

namespace Sys2Proof.Machine

/-- QUEUE_SERVE (R263): an egress switch port takes the head of its highest non-empty queue. The engines and the journal and link service take what
the queue holds; what they do with it is their own command. -/
def execQueueServe (p : Fin 20) (s : State) : Host.Outcome State Fault Refusal :=
  finish (
    if p.val < 16 then s.serveFront p.val
    else if p.val = 18 then s.hostRx
    else match s.queueHead p.val with
      | none => s
      | some r => if s.aged r then s.discard r (Reg.SW_AGEDp p.val) else s.unqueue r)

/-- TX_FRAME_START (R254): the waiting frame's start block is committed to a grid instant. -/
def execTxFrameStart (p : Fin 16) (x : Nat) (s : State) : Host.Outcome State Fault Refusal := finish (s.txStart p.val x)

/-- MISSED_SYNC_EXPIRY (R274). -/
def execMissedSyncExpiry (p : Fin 16) (s : State) : Host.Outcome State Fault Refusal := finish (s.missedExpiry p.val)

/-- HOST_RX_DELIVERY (R280). -/
def execHostRxDelivery (s : State) : Host.Outcome State Fault Refusal := finish s.hostRx

/-- HOST_TX_FRAME (R282). -/
def execHostTxFrame (r : Fin 16) (readError : Bool) (s : State) : Host.Outcome State Fault Refusal := finish (s.hostTx r.val readError)

/-- RX_COMPLETION (R283): MOD_US has run since the first uncompleted write-back. -/
def execRxCompletion (r : Fin 16) (s : State) : Host.Outcome State Fault Refusal :=
  finish (if s.sw.rxDone.getD r.val 0 = 0 || s.get (Fld.SW_RXr_CFG_MOD_US r.val) = 0 then s else s.rxSignal r.val)

/-- SW_BUF (R284): a cell parity error. -/
def execSwBuf (cellOf : Nat) (s : State) : Host.Outcome State Fault Refusal := finish (s.swParity cellOf)

/-- NAV_RECORD (R161). -/
def execNavRecord (ant band : Fin 2) (sat : Sat) (crcOk : Bool) (bits rx : Nat) (payload : List Byte) (s : State) :
    Host.Outcome State Fault Refusal :=
  finish (
    let x := s.navRecord ant.val band.val sat crcOk bits rx payload
    if x.1 then x.2 else x.2.withhold (.navRecord ant band sat crcOk bits rx payload))

end Sys2Proof.Machine
end

