-- ==== Sys2Proof/Machine/ResumeExec.lean ====
section
/-! DEFINITION. STALLED_REQUEST_RESUME (R103): a request that its class stalled is presented again. -/

namespace Sys2Proof.Machine

/-- A withheld command is presented again. Only the commands below are ever withheld. -/
def runHeld (i : Instr) (s : State) : Host.Outcome State Fault Refusal :=
  match i with
  | .acqSearch ant sat found => execAcqSearch ant sat found s
  | .osnmaVerify prn iod isKey data tag => execOsnmaVerify prn iod isKey data tag s
  | .ntpRequest p stamp b => execNtpRequest p stamp b s
  | .mintEntry e => execMintEntry e s
  | .followUp p n t1 => execFollowUp p n t1 s
  | .delayReq p stamp b => execDelayReq p stamp b s
  | .pdelayReq p stamp b => execPdelayReq p stamp b s
  | .signaling p b => execSignaling p b s
  | .multicastMessageDue k p sync => execMulticastMessageDue k p sync s
  | .announceReceive p b => execAnnounceReceive p b s
  | .clientSync j stamp b => execClientSync j stamp b s
  | .clientFollowUp j b => execClientFollowUp j b s
  | .clientDelayResp j t3 stamp b => execClientDelayResp j t3 stamp b s
  | .sealScanComplete stale => execSealScanComplete stale s
  | .hostRxDelivery => execHostRxDelivery s
  | .hostTxFrame r e => execHostTxFrame r e s
  | .navRecord ant band sat crcOk bits rx payload => execNavRecord ant band sat crcOk bits rx payload s
  | _ => finish s

/-- STALLED_REQUEST_RESUME (R103). -/
def execStalledRequestResume (h : Held) (s : State) : Host.Outcome State Fault Refusal :=
  match h with
  | .keyStore => finish s.ksRetry
  | .attest => finish s.attRetry
  | .arbiter => finish s.abRetry
  | .calendar => engine s s.lateVisits
  | .pip k => engine s (s.pipRetry k.val)
  | .command k =>
    match s.heldCommand k with
    | (some i, t) => runHeld i t
    | (none, _) => finish s

end Sys2Proof.Machine
end

