-- ==== Sys2Proof/Machine/ShellExec.lean ====
section
/-! DEFINITION. The meanings of the commands of the Metrology Shell (chapter 08). -/

namespace Sys2Proof.Machine

/-- TDC_EDGE (R189): an edge reaches a TDC channel. -/
def execTdcEdge (ch : Fin 48) (raw : Fin 1024) (tag : Nat) (s : State) : Host.Outcome State Fault Refusal := finish (s.tdcEdge ch.val raw.val tag)

/-- STALE_START (R190): a start unmatched for 100 µs is discarded. -/
def execStaleStart (u : Fin 16) (s : State) : Host.Outcome State Fault Refusal := finish (s.dropStart u.val)

/-- ALLOWANCE_TIMEOUT (R195): no allowance for 2 ms; the Shell calibrates at the floor and publishes nothing. -/
def execAllowanceTimeout (s : State) : Host.Outcome State Fault Refusal := finish (s.setSh { s.sh with posted := false })

/-- CAL_PASS_COMPLETE (R199): a calibration pass ends. -/
def execCalPassComplete (ch : Fin 48) (hist ring : List Nat) (pulse : Rat) (s : State) : Host.Outcome State Fault Refusal :=
  finish (s.calPass ch.val hist ring pulse)

/-- LIVE_CAL_START (R201): a live channel's source is routed to a spare as well. -/
def execLiveCalStart (ch : Fin 48) (s : State) : Host.Outcome State Fault Refusal := finish (s.liveCalStart ch.val)

/-- STALE_TABLE (R202). -/
def execStaleTable (ch : Fin 48) (s : State) : Host.Outcome State Fault Refusal := finish (s.staleTable ch.val)

/-- CHANNEL_FENCE (R207). -/
def execChannelFence (ch : Fin 48) (s : State) : Host.Outcome State Fault Refusal := finish (s.fenceChan ch.val)

/-- SESSION_COMPLETE (R211). -/
def execSessionComplete (storeFail : Bool) (s : State) : Host.Outcome State Fault Refusal := finish (s.sessionComplete storeFail)

/-- SHELL_RESET (R218): VDD_SH becomes valid or SHELL_RST_N is released. -/
def execShellReset (hashOk : Bool) (s : State) : Host.Outcome State Fault Refusal := finish (s.shBoot hashOk)

/-- SHELL_READY (R218): CAL_INIT ends. -/
def execShellReady (s : State) : Host.Outcome State Fault Refusal := finish s.shReady

/-- SHELL_PIP_WDOG (R214). -/
def execShellPipWdog (s : State) : Host.Outcome State Fault Refusal := finish s.shWdog

end Sys2Proof.Machine
end

