-- ==== Sys2Proof/Machine/TimeCoreExec.lean ====
section
/-! DEFINITION. The meanings of the commands of the time core (chapter 03). -/

namespace Sys2Proof.Machine

/-- SLEW_COMPLETE (R67): time runs to the end of the slew, which adds its final remainder. -/
def execSlewComplete (s : State) : Host.Outcome State Fault Refusal :=
  finish (if s.tc.slew = 0 then s else s.advance s.slewCycles)

/-- UTC_APPLY (R82): time first reaches second E + 86,400 while a change is armed. -/
def execUtcApply (s : State) : Host.Outcome State Fault Refusal :=
  finish (
    if !s.utcArmed || !s.counting then s
    else
      let s1 := s.advanceTo ((s.utcE + 86400) * secU)
      ((s1.wrN Reg.TC_UTC_CUR (bitsOf (s1.rdN Reg.TC_UTC_PEND) 0 16)).setArmed false).evt Fld.TC_EVT_UTC_APPLIED)

end Sys2Proof.Machine
end

