-- ==== Sys2Proof/Machine/Dispatch.lean ====
section
/-! DEFINITION. The meaning of every command: one arm per constructor, one direct call. -/

namespace Sys2Proof.Machine

def exec (i : Instr) (s : State) : Host.Outcome State Fault Refusal :=
  match i with
  | .frameBoundary => Sys2Proof.Machine.execFrameBoundary s
  | .boundarySuppressed => Sys2Proof.Machine.execBoundarySuppressed s
  | .interimPoint => Sys2Proof.Machine.execInterimPoint s
  | .stalledRequestResume h => Sys2Proof.Machine.execStalledRequestResume h s
  | .eventSnapshot => Sys2Proof.Machine.execEventSnapshot s
  | .tclkLoss => Sys2Proof.Machine.execTclkLoss s
  | .cclkLoss => Sys2Proof.Machine.execCclkLoss s
  | .sealScanComplete stale => Sys2Proof.Machine.execSealScanComplete stale s
  | .registerWrite x v => Sys2Proof.Machine.execRegisterWrite x v s
  | .w1cClear req ap page v hw => Sys2Proof.Machine.execW1cClear req ap page v hw s
  | .recurClear req ap page => Sys2Proof.Machine.execRecurClear req ap page s
  | .evtForceWrite req ap page v => Sys2Proof.Machine.execEvtForceWrite req ap page v s
  | .lowerWordRead x => Sys2Proof.Machine.execLowerWordRead x s
  | .lowerWordWrite x v => Sys2Proof.Machine.execLowerWordWrite x v s
  | .upperWordWrite x v => Sys2Proof.Machine.execUpperWordWrite x v s
  | .indAddrWrite x v => Sys2Proof.Machine.execIndAddrWrite x v s
  | .indDataRead x => Sys2Proof.Machine.execIndDataRead x s
  | .indDataWrite x v => Sys2Proof.Machine.execIndDataWrite x v s
  | .indWordComplete set => Sys2Proof.Machine.execIndWordComplete set s
  | .indHoldClaim k step => Sys2Proof.Machine.execIndHoldClaim k step s
  | .indHoldRelease k step => Sys2Proof.Machine.execIndHoldRelease k step s
  | .cfgOpen req ap => Sys2Proof.Machine.execCfgOpen req ap s
  | .cfgCommit req ap => Sys2Proof.Machine.execCfgCommit req ap s
  | .commitComplete => Sys2Proof.Machine.execCommitComplete s
  | .cfgAbandon req ap => Sys2Proof.Machine.execCfgAbandon req ap s
  | .cfgRescan req ap => Sys2Proof.Machine.execCfgRescan req ap s
  | .windowExpiry => Sys2Proof.Machine.execWindowExpiry s
  | .timeSampleRead req ap => Sys2Proof.Machine.execTimeSampleRead req ap s
  | .incrSwWrite req ap lo hi => Sys2Proof.Machine.execIncrSwWrite req ap lo hi s
  | .slewOfsWrite req ap lo hi => Sys2Proof.Machine.execSlewOfsWrite req ap lo hi s
  | .slewComplete => Sys2Proof.Machine.execSlewComplete s
  | .slopeWrite req ap v => Sys2Proof.Machine.execSlopeWrite req ap v s
  | .stepRequest req ap absolute => Sys2Proof.Machine.execStepRequest req ap absolute s
  | .stepCancel req ap => Sys2Proof.Machine.execStepCancel req ap s
  | .utcArm req ap => Sys2Proof.Machine.execUtcArm req ap s
  | .utcDisarm req ap => Sys2Proof.Machine.execUtcDisarm req ap s
  | .utcApply => Sys2Proof.Machine.execUtcApply s
  | .trgArm req ap n => Sys2Proof.Machine.execTrgArm req ap n s
  | .trgDisarm req ap n => Sys2Proof.Machine.execTrgDisarm req ap n s
  | .triggerFire n => Sys2Proof.Machine.execTriggerFire n s
  | .captureNow req ap n => Sys2Proof.Machine.execCaptureNow req ap n s
  | .capturePop req ap n => Sys2Proof.Machine.execCapturePop req ap n s
  | .txqPop req ap p => Sys2Proof.Machine.execTxqPop req ap p s
  | .hostPost req ap => Sys2Proof.Machine.execHostPost req ap s
  | .signalLoss n => Sys2Proof.Machine.execSignalLoss n s
  | .holdoffExpiry n => Sys2Proof.Machine.execHoldoffExpiry n s
  | .qualTimerExpiry n => Sys2Proof.Machine.execQualTimerExpiry n s
  | .dwellExpiry n d => Sys2Proof.Machine.execDwellExpiry n d s
  | .lockTimerExpiry => Sys2Proof.Machine.execLockTimerExpiry s
  | .accept req ap n => Sys2Proof.Machine.execAccept req ap n s
  | .disqualify req ap n => Sys2Proof.Machine.execDisqualify req ap n s
  | .requalify req ap n => Sys2Proof.Machine.execRequalify req ap n s
  | .bwWrite req ap outer v => Sys2Proof.Machine.execBwWrite req ap outer v s
  | .averageComplete => Sys2Proof.Machine.execAverageComplete s
  | .guardExpiry => Sys2Proof.Machine.execGuardExpiry s
  | .modelRefit => Sys2Proof.Machine.execModelRefit s
  | .modelLoad req ap => Sys2Proof.Machine.execModelLoad req ap s
  | .forget req ap => Sys2Proof.Machine.execForget req ap s
  | .resend req ap => Sys2Proof.Machine.execResend req ap s
  | .dacInitWrite => Sys2Proof.Machine.execDacInitWrite s
  | .uartCommand => Sys2Proof.Machine.execUartCommand s
  | .uartReply line => Sys2Proof.Machine.execUartReply line s
  | .uartTimeout => Sys2Proof.Machine.execUartTimeout s
  | .tempRead v => Sys2Proof.Machine.execTempRead v s
  | .anchorSet => Sys2Proof.Machine.execAnchorSet s
  | .astepStepRequest => Sys2Proof.Machine.execAstepStepRequest s
  | .astepRelease => Sys2Proof.Machine.execAstepRelease s
  | .gifLost ant => Sys2Proof.Machine.execGifLost ant s
  | .gifReturn ant => Sys2Proof.Machine.execGifReturn ant s
  | .acqSearch ant sat found => Sys2Proof.Machine.execAcqSearch ant sat found s
  | .channelIntegration k x => Sys2Proof.Machine.execChannelIntegration k x s
  | .trackEntry k => Sys2Proof.Machine.execTrackEntry k s
  | .coastExpiry k => Sys2Proof.Machine.execCoastExpiry k s
  | .navRecord ant band sat crcOk bits rx payload => Sys2Proof.Machine.execNavRecord ant band sat crcOk bits rx payload s
  | .predPost req ap => Sys2Proof.Machine.execPredPost req ap s
  | .solutionEpoch obs => Sys2Proof.Machine.execSolutionEpoch obs s
  | .raimBarExpiry ant sat => Sys2Proof.Machine.execRaimBarExpiry ant sat s
  | .solutionTimeout ant => Sys2Proof.Machine.execSolutionTimeout ant s
  | .leapPost req ap => Sys2Proof.Machine.execLeapPost req ap s
  | .osnmaVerify prn iod isKey data tag => Sys2Proof.Machine.execOsnmaVerify prn iod isKey data tag s
  | .osnLoad req ap => Sys2Proof.Machine.execOsnLoad req ap s
  | .osnClear req ap => Sys2Proof.Machine.execOsnClear req ap s
  | .burstWindow => Sys2Proof.Machine.execBurstWindow s
  | .gnssChannelFault k => Sys2Proof.Machine.execGnssChannelFault k s
  | .feXfer req ap v => Sys2Proof.Machine.execFeXfer req ap v s
  | .feXferDone bits => Sys2Proof.Machine.execFeXferDone bits s
  | .tdcEdge ch raw tag => Sys2Proof.Machine.execTdcEdge ch raw tag s
  | .publication => Sys2Proof.Machine.execPublication s
  | .intervalPairing u ch stop => Sys2Proof.Machine.execIntervalPairing u ch stop s
  | .staleStart u => Sys2Proof.Machine.execStaleStart u s
  | .allowanceTimeout => Sys2Proof.Machine.execAllowanceTimeout s
  | .calPassComplete ch hist ring pulse => Sys2Proof.Machine.execCalPassComplete ch hist ring pulse s
  | .liveCalStart ch => Sys2Proof.Machine.execLiveCalStart ch s
  | .staleTable ch => Sys2Proof.Machine.execStaleTable ch s
  | .ocal req ap => Sys2Proof.Machine.execOcal req ap s
  | .delayLineCal out delays => Sys2Proof.Machine.execDelayLineCal out delays s
  | .outputLiveCheck out interval => Sys2Proof.Machine.execOutputLiveCheck out interval s
  | .channelFence ch => Sys2Proof.Machine.execChannelFence ch s
  | .mbAppend req ap => Sys2Proof.Machine.execMbAppend req ap s
  | .mbExecute req ap => Sys2Proof.Machine.execMbExecute req ap s
  | .mbAbort req ap => Sys2Proof.Machine.execMbAbort req ap s
  | .sessionComplete storeFail => Sys2Proof.Machine.execSessionComplete storeFail s
  | .shellReset hashOk => Sys2Proof.Machine.execShellReset hashOk s
  | .shellReady => Sys2Proof.Machine.execShellReady s
  | .shellPipWdog => Sys2Proof.Machine.execShellPipWdog s
  | .shellLost => Sys2Proof.Machine.execShellLost s
  | .hitHoldExpiry => Sys2Proof.Machine.execHitHoldExpiry s
  | .attReq req => Sys2Proof.Machine.execAttReq req s
  | .attComplete => Sys2Proof.Machine.execAttComplete s
  | .frameReceive p bytes pos => Sys2Proof.Machine.execFrameReceive p bytes pos s
  | .reservationRequest p eng grid => Sys2Proof.Machine.execReservationRequest p eng grid s
  | .frameHandover p eng => Sys2Proof.Machine.execFrameHandover p eng s
  | .launch p pos => Sys2Proof.Machine.execLaunch p pos s
  | .launchMiss p k => Sys2Proof.Machine.execLaunchMiss p k s
  | .txFrameStart p x => Sys2Proof.Machine.execTxFrameStart p x s
  | .pauseExpiry p prio => Sys2Proof.Machine.execPauseExpiry p prio s
  | .linkDown p lockLost => Sys2Proof.Machine.execLinkDown p lockLost s
  | .linkUp p => Sys2Proof.Machine.execLinkUp p s
  | .portHw p => Sys2Proof.Machine.execPortHw p s
  | .portRestart req ap p => Sys2Proof.Machine.execPortRestart req ap p s
  | .queueServe p => Sys2Proof.Machine.execQueueServe p s
  | .lagRebal req ap v => Sys2Proof.Machine.execLagRebal req ap v s
  | .cutThroughStart p head pos x => Sys2Proof.Machine.execCutThroughStart p head pos x s
  | .missedSyncExpiry p => Sys2Proof.Machine.execMissedSyncExpiry p s
  | .hostRxDelivery => Sys2Proof.Machine.execHostRxDelivery s
  | .ringTailWrite req ap tx r v => Sys2Proof.Machine.execRingTailWrite req ap tx r v s
  | .hostTxFrame r readError => Sys2Proof.Machine.execHostTxFrame r readError s
  | .rxCompletion r => Sys2Proof.Machine.execRxCompletion r s
  | .swBuf cellOf => Sys2Proof.Machine.execSwBuf cellOf s
  | .announceReceive p bytes => Sys2Proof.Machine.execAnnounceReceive p bytes s
  | .announceReceiptTimeout k p => Sys2Proof.Machine.execAnnounceReceiptTimeout k p s
  | .multicastMessageDue k p sync => Sys2Proof.Machine.execMulticastMessageDue k p sync s
  | .followUp p n t1 => Sys2Proof.Machine.execFollowUp p n t1 s
  | .delayReq p stamp bytes => Sys2Proof.Machine.execDelayReq p stamp bytes s
  | .pdelayReq p stamp bytes => Sys2Proof.Machine.execPdelayReq p stamp bytes s
  | .signaling p bytes => Sys2Proof.Machine.execSignaling p bytes s
  | .calendarTick => Sys2Proof.Machine.execCalendarTick s
  | .peReqAged => Sys2Proof.Machine.execPeReqAged s
  | .peLane busy => Sys2Proof.Machine.execPeLane busy s
  | .clientSync client stamp bytes => Sys2Proof.Machine.execClientSync client stamp bytes s
  | .clientDelayReq client => Sys2Proof.Machine.execClientDelayReq client s
  | .clientGrantRenew client typ => Sys2Proof.Machine.execClientGrantRenew client typ s
  | .clientTimeout client => Sys2Proof.Machine.execClientTimeout client s
  | .tableQuery req ap v => Sys2Proof.Machine.execTableQuery req ap v s
  | .tableQueryDone ue => Sys2Proof.Machine.execTableQueryDone ue s
  | .memUe addr => Sys2Proof.Machine.execMemUe addr s
  | .ntpRequest p stamp bytes => Sys2Proof.Machine.execNtpRequest p stamp bytes s
  | .mintEntry readError => Sys2Proof.Machine.execMintEntry readError s
  | .mqTailWrite req ap v => Sys2Proof.Machine.execMqTailWrite req ap v s
  | .rotate req ap => Sys2Proof.Machine.execRotate req ap s
  | .generationRelease newer => Sys2Proof.Machine.execGenerationRelease newer s
  | .sketchPeriod => Sys2Proof.Machine.execSketchPeriod s
  | .neReqAged => Sys2Proof.Machine.execNeReqAged s
  | .neLane busy => Sys2Proof.Machine.execNeLane busy s
  | .generate f slot => Sys2Proof.Machine.execGenerate f slot s
  | .derive f slot parent => Sys2Proof.Machine.execDerive f slot parent s
  | .agree f slot parent => Sys2Proof.Machine.execAgree f slot parent s
  | .sign f slot => Sys2Proof.Machine.execSign f slot s
  | .verify f slot => Sys2Proof.Machine.execVerify f slot s
  | .getpub f slot => Sys2Proof.Machine.execGetpub f slot s
  | .wrapExport f slot parent => Sys2Proof.Machine.execWrapExport f slot parent s
  | .wrapImport f slot parent => Sys2Proof.Machine.execWrapImport f slot parent s
  | .invalidate f slot => Sys2Proof.Machine.execInvalidate f slot s
  | .lcToken f => Sys2Proof.Machine.execLcToken f s
  | .provision f => Sys2Proof.Machine.execProvision f s
  | .zeroise f => Sys2Proof.Machine.execZeroise f s
  | .certLoad f => Sys2Proof.Machine.execCertLoad f s
  | .ksCommandDone => Sys2Proof.Machine.execKsCommandDone s
  | .anchorRecord rtc => Sys2Proof.Machine.execAnchorRecord rtc s
  | .vbatLoss rtc => Sys2Proof.Machine.execVbatLoss rtc s
  | .tamperLoop loops rtc => Sys2Proof.Machine.execTamperLoop loops rtc s
  | .detectorTrip d rtc => Sys2Proof.Machine.execDetectorTrip d rtc s
  | .periodicSelfTest u pass => Sys2Proof.Machine.execPeriodicSelfTest u pass s
  | .drbgReseed entropy => Sys2Proof.Machine.execDrbgReseed entropy s
  | .entropyFail => Sys2Proof.Machine.execEntropyFail s
  | .nop k => Sys2Proof.Machine.execNop k s
  | .add k d a b => Sys2Proof.Machine.execAdd k d a b s
  | .sub k d a b => Sys2Proof.Machine.execSub k d a b s
  | .and k d a b => Sys2Proof.Machine.execAnd k d a b s
  | .or k d a b => Sys2Proof.Machine.execOr k d a b s
  | .xor k d a b => Sys2Proof.Machine.execXor k d a b s
  | .shl k d a b => Sys2Proof.Machine.execShl k d a b s
  | .shr k d a b => Sys2Proof.Machine.execShr k d a b s
  | .sra k d a b => Sys2Proof.Machine.execSra k d a b s
  | .mul k d a b => Sys2Proof.Machine.execMul k d a b s
  | .slt k d a b => Sys2Proof.Machine.execSlt k d a b s
  | .sltu k d a b => Sys2Proof.Machine.execSltu k d a b s
  | .addi k d a imm => Sys2Proof.Machine.execAddi k d a imm s
  | .andi k d a imm => Sys2Proof.Machine.execAndi k d a imm s
  | .ori k d a imm => Sys2Proof.Machine.execOri k d a imm s
  | .xori k d a imm => Sys2Proof.Machine.execXori k d a imm s
  | .shli k d a imm => Sys2Proof.Machine.execShli k d a imm s
  | .shri k d a imm => Sys2Proof.Machine.execShri k d a imm s
  | .srai k d a imm => Sys2Proof.Machine.execSrai k d a imm s
  | .lui k d imm => Sys2Proof.Machine.execLui k d imm s
  | .ld k d a imm => Sys2Proof.Machine.execLd k d a imm s
  | .st k d a imm => Sys2Proof.Machine.execSt k d a imm s
  | .beq k a b t => Sys2Proof.Machine.execBeq k a b t s
  | .bne k a b t => Sys2Proof.Machine.execBne k a b t s
  | .blt k a b t => Sys2Proof.Machine.execBlt k a b t s
  | .bltu k a b t => Sys2Proof.Machine.execBltu k a b t s
  | .jmp k t => Sys2Proof.Machine.execJmp k t s
  | .call k t => Sys2Proof.Machine.execCall k t s
  | .ret k => Sys2Proof.Machine.execRet k s
  | .waitt k a b => Sys2Proof.Machine.execWaitt k a b s
  | .waittResume k => Sys2Proof.Machine.execWaittResume k s
  | .stamp k d m => Sys2Proof.Machine.execStamp k d m s
  | .trig k d a b m => Sys2Proof.Machine.execTrig k d a b m s
  | .emit k a m => Sys2Proof.Machine.execEmit k a m s
  | .send k d a m => Sys2Proof.Machine.execSend k d a m s
  | .recv k d m => Sys2Proof.Machine.execRecv k d m s
  | .recvResume k => Sys2Proof.Machine.execRecvResume k s
  | .peek k d a b => Sys2Proof.Machine.execPeek k d a b s
  | .poke k d a b => Sys2Proof.Machine.execPoke k d a b s
  | .peekPokeDone k => Sys2Proof.Machine.execPeekPokeDone k s
  | .yield k => Sys2Proof.Machine.execYield k s
  | .pipWatchdog k => Sys2Proof.Machine.execPipWatchdog k s
  | .pipFail k c => Sys2Proof.Machine.execPipFail k c s
  | .pipRestart req ap k => Sys2Proof.Machine.execPipRestart req ap k s
  | .hostMboxSend req ap k words => Sys2Proof.Machine.execHostMboxSend req ap k words s
  | .outputEdge n => Sys2Proof.Machine.execOutputEdge n s
  | .outputCfgWrite x v => Sys2Proof.Machine.execOutputCfgWrite x v s
  | .outputCfgApply n => Sys2Proof.Machine.execOutputCfgApply n s
  | .outputCompWrite req ap n v => Sys2Proof.Machine.execOutputCompWrite req ap n v s
  | .outputSlewDone n => Sys2Proof.Machine.execOutputSlewDone n s
  | .grantEdge gapPs => Sys2Proof.Machine.execGrantEdge gapPs s
  | .pendingTimeout => Sys2Proof.Machine.execPendingTimeout s
  | .leaseExpiry => Sys2Proof.Machine.execLeaseExpiry s
  | .grantSilence => Sys2Proof.Machine.execGrantSilence s
  | .coldBlankExpiry => Sys2Proof.Machine.execColdBlankExpiry s
  | .arbHeartbeatLoss b => Sys2Proof.Machine.execArbHeartbeatLoss b s
  | .arbEligible b => Sys2Proof.Machine.execArbEligible b s
  | .releasePatternDetect b => Sys2Proof.Machine.execReleasePatternDetect b s
  | .arbGrantStart => Sys2Proof.Machine.execArbGrantStart s
  | .arbHealthWait => Sys2Proof.Machine.execArbHealthWait s
  | .leaseSwap => Sys2Proof.Machine.execLeaseSwap s
  | .leaseFence req ap => Sys2Proof.Machine.execLeaseFence req ap s
  | .resync req ap => Sys2Proof.Machine.execResync req ap s
  | .claim => Sys2Proof.Machine.execClaim s
  | .releaseCutoff => Sys2Proof.Machine.execReleaseCutoff s
  | .releaseInstant => Sys2Proof.Machine.execReleaseInstant s
  | .crewellReceive bytes => Sys2Proof.Machine.execCrewellReceive bytes s
  | .peerHealthLost arb => Sys2Proof.Machine.execPeerHealthLost arb s
  | .abCollision => Sys2Proof.Machine.execAbCollision s
  | .abBackoffExpiry => Sys2Proof.Machine.execAbBackoffExpiry s
  | .mirrorSend => Sys2Proof.Machine.execMirrorSend s
  | .feedLoss b samples => Sys2Proof.Machine.execFeedLoss b samples s
  | .feedReturn b samples => Sys2Proof.Machine.execFeedReturn b samples s
  | .feedPredict b samples => Sys2Proof.Machine.execFeedPredict b samples s
  | .lastGaspFlush => Sys2Proof.Machine.execLastGaspFlush s
  | .usaurFrameReceive k bytes => Sys2Proof.Machine.execUsaurFrameReceive k bytes s
  | .timeFrameSend k => Sys2Proof.Machine.execTimeFrameSend k s
  | .ulinkDown k lockLost => Sys2Proof.Machine.execUlinkDown k lockLost s
  | .ulinkUp k => Sys2Proof.Machine.execUlinkUp k s
  | .linkHw k => Sys2Proof.Machine.execLinkHw k s
  | .eventArrival e => Sys2Proof.Machine.execEventArrival e s
  | .mergeRelease => Sys2Proof.Machine.execMergeRelease s
  | .ringWrite => Sys2Proof.Machine.execRingWrite s
  | .exportFrame => Sys2Proof.Machine.execExportFrame s
  | .skAbandon => Sys2Proof.Machine.execSkAbandon s
  | .hostEvent req ap code => Sys2Proof.Machine.execHostEvent req ap code s
  | .blockResetComplete t => Sys2Proof.Machine.execBlockResetComplete t s
  | .shadowClose t => Sys2Proof.Machine.execShadowClose t s
  | .severityWindowClose src => Sys2Proof.Machine.execSeverityWindowClose src s
  | .fcForce req ap v => Sys2Proof.Machine.execFcForce req ap v s
  | .fcPendAck req ap v => Sys2Proof.Machine.execFcPendAck req ap v s
  | .safeState => Sys2Proof.Machine.execSafeState s
  | .counterOverflow g j => Sys2Proof.Machine.execCounterOverflow g j s
  | .cvGo req ap n => Sys2Proof.Machine.execCvGo req ap n s
  | .cvAbort req ap n => Sys2Proof.Machine.execCvAbort req ap n s
  | .cvCtxWrite req ap n v => Sys2Proof.Machine.execCvCtxWrite req ap n v s
  | .cvScanComplete n ue => Sys2Proof.Machine.execCvScanComplete n ue s
  | .porstAssert => Sys2Proof.Machine.execPorstAssert s
  | .mainBoot b => Sys2Proof.Machine.execMainBoot b s
  | .oscMeasure hz => Sys2Proof.Machine.execOscMeasure hz s
  | .timeApllLock => Sys2Proof.Machine.execTimeApllLock s
  | .imgData req v => Sys2Proof.Machine.execImgData req v s
  | .imgGo req parts selftest ms => Sys2Proof.Machine.execImgGo req parts selftest ms s
  | .standbyRequest req ap => Sys2Proof.Machine.execStandbyRequest req ap s
  | .runRequest req ap => Sys2Proof.Machine.execRunRequest req ap s
  | .sleepRequest req ap rtc => Sys2Proof.Machine.execSleepRequest req ap rtc s
  | .autoStandby => Sys2Proof.Machine.execAutoStandby s
  | .sleepReady => Sys2Proof.Machine.execSleepReady s
  | .mspiTransaction bytes => Sys2Proof.Machine.execMspiTransaction bytes s
  | .systemApllLock b => Sys2Proof.Machine.execSystemApllLock b s
  | .shellResetAssert fuseBlown => Sys2Proof.Machine.execShellResetAssert fuseBlown s
  | .sdrefLoss bank => Sys2Proof.Machine.execSdrefLoss bank s
  | .sdrefReturn bank => Sys2Proof.Machine.execSdrefReturn bank s
  | .markerTimeout p tx => Sys2Proof.Machine.execMarkerTimeout p tx s
  | .heartbeatEdge b gapPs => Sys2Proof.Machine.execHeartbeatEdge b gapPs s
  | .mi2cTransaction bytes => Sys2Proof.Machine.execMi2cTransaction bytes s
  | .clientDelayResp client t3 stamp bytes => Sys2Proof.Machine.execClientDelayResp client t3 stamp bytes s
  | .clientFollowUp client bytes => Sys2Proof.Machine.execClientFollowUp client bytes s
  | .clientGrant client bytes => Sys2Proof.Machine.execClientGrant client bytes s
  | .boundLimitCrossed => Sys2Proof.Machine.execBoundLimitCrossed s

end Sys2Proof.Machine
end

