-- ==== Sys2Proof/Machine/Step.lean ====
section
/-! DEFINITION. The step: the command at the front of the queue, or one TCLK cycle while the queue is empty. -/

namespace Sys2Proof.Machine

/-- One cycle in which no command is waiting. DESIGN CHOICE: the count runs on by one cycle (R63, R67), and levels that depend on time
follow; everything else waits for the command that names it. -/
def idle (s : State) : State := (s.advance 1).settle

/-- The command at the front of the queue takes effect on everything but the queue; on an empty queue one cycle passes. -/
def step (s : State) : Host.Outcome State Fault Refusal :=
  match s.pending with
  | [] => .next (idle s)
  | c :: rest => exec c { s with pending := rest }

/-- `s` with the command that a table word spells put at the front of its queue; `s` itself where the word spells none. -/
def State.withFetchWord (s : State) (nbits w : Nat) : State :=
  match decodeTableWord nbits w with
  | some c => { s with pending := c :: s.pending }
  | none => s

end Sys2Proof.Machine
end

