-- ==== Sys2Proof/Safety.lean ====
section
/-! DEFINITION. What claims about runs are stated in: the form that every state of a run keeps, and runs that neither fault nor are refused. -/

/-- Commands that a class of the wheel may withhold, to be presented again (R103). -/
def Sys2Proof.Instr.mayWait : Sys2Proof.Instr → Bool
  | .acqSearch _ _ _ | .osnmaVerify _ _ _ _ _ | .ntpRequest _ _ _ | .mintEntry _ | .followUp _ _ _ | .delayReq _ _ _ | .pdelayReq _ _ _
  | .signaling _ _ | .multicastMessageDue _ _ _ | .announceReceive _ _ | .clientSync _ _ _ | .clientFollowUp _ _ | .clientDelayResp _ _ _ _
  | .sealScanComplete _ | .hostRxDelivery | .hostTxFrame _ _ | .navRecord _ _ _ _ _ _ _ => true
  | _ => false

namespace Sys2Proof.Machine

/-- The forms in which the block's sparse stores are held: the register file and both memories outside the chip list rising addresses, and no
entry that an unlisted one would read as. Equal contents are then equal data. -/
def State.Canonical (s : State) : Prop :=
  s.regs.wf = true ∧ memWf s.dram = true ∧ memWf s.hostMem = true

/-- A run of `k` steps from `s` ends in a state: it meets no fault and no refusal. -/
def SafeRun (k : Nat) (s : State) : Prop := ∃ t, Sys2Proof.core.run k s = .next t

/-! ### What a command does -/

/-- A command's own effect leaves a state `u` of which `P` holds; the next state is `u` with what follows from every command at once. -/
def Effect (c : Instr) (s : State) (P : State → Prop) : Prop := ∃ u, exec c s = .next u.settle ∧ P u

/-- Register words of the fault collector and of the Pips' mailboxes: an event may reach these from any page (R379, R474, R529). -/
def carried (a : Nat) : Bool := pageOf a == 0xD8 || (0xA0 ≤ pageOf a && pageOf a ≤ 0xBB)

/-- The engines have stopped: in the safe state, and from the preparation for SLEEP on (R484, R512). -/
def State.halted (s : State) : Bool := s.safe || s.boot.sleeping

/-- A 32-bit counter's value after one more event, where it saturates (R39). -/
def oneMore (n : Nat) : Nat := min (n + 1) 0xFFFFFFFF

/-- `t` is `s` but for register words of `A`. -/
def Writes (A : Nat → Prop) (s t : State) : Prop := { t with regs := s.regs } = s ∧ ∀ a, ¬A a → t.rd a = s.rd a

/-- `t` is `s` but for register words of `A` and for what an event carries with it: the journal, interrupts, messages to Pips, the fault
collector, and the count of free values. -/
def Touches (A : Nat → Prop) (s t : State) : Prop :=
  { t with regs := s.regs, freeCtr := s.freeCtr, fc := s.fc, jn := s.jn, msix := s.msix, pips := s.pips } = s ∧
    ∀ a, ¬A a → carried a = false → t.rd a = s.rd a

/-- A register access leaves `u`: what it returns to its requester, a mirroring holder's queue (R421), register words of `A`, and what an event
carries. -/
def Accesses (A : Nat → Prop) (s u : State) : Prop := Touches A { s with readData := u.readData, ls := u.ls } u

/-- Pages whose registers follow levels after every command: ports, link aggregation, PTP, NTP, outputs, Pips, lease, feeds, arbiter bus, links and
the fault collector. -/
def levelPage (g : Nat) : Bool :=
  (0x50 ≤ g && g ≤ 0x5F) || g == 0x61 || g == 0x70 || g == 0x78 || (0x90 ≤ g && g ≤ 0xBB) || (0xC0 ≤ g && g ≤ 0xC2) || (0xC8 ≤ g && g ≤ 0xCB) ||
    g == 0xD8

/-- A write by a requester reaches a register: the page answers it, and the checks of R35, R44, R45 and R55 let it pass. -/
def State.Admits (s : State) (req : Requester) (ap : Aperture) (a : Nat) : Prop :=
  s.reach req ap (pageOf a) = 2 ∧
    ∀ r, findRow a = some r → (secureOnly a r = true → isSecurePath req ap = true) ∧
      (r.cfg = true → a ≠ Reg.CFG_CTL → s.flag Fld.CFG_STAT_WIN_OPEN = true → s.ownsWindow req = true) ∧ s.fcLocked a r = false

/-- A write of `v` leaves the reserved bits of its register as they are read (R38, R39). -/
def State.KeepsReserved (s : State) (a v : Nat) : Prop := ∀ r, findRow a = some r → (s.rdN a ^^^ v) &&& r.rsv = 0

/-- A whole, aligned word access outside the indirect window (R34, R47). -/
def wholeWord (x : Access) : Prop := x.be = 15 ∧ x.offset % 4 = 0 ∧ x.offset < 0x1000 ∧ ¬(x.page = 2 ∧ 0x40 ≤ x.offset ∧ x.offset < 0x80)

/-- Register words of the performance counters, which count what other blocks do (chapter 21). -/
def counterPage (a : Nat) : Bool := 0xE0 ≤ pageOf a && pageOf a ≤ 0xE3

/-- A class of the wheel has not admitted a command: it is kept to be presented again, the class is marked as stalled, nothing is spent and nothing
else is done (R103). -/
def State.Withheld (s : State) (cls : Nat) (c : Instr) (u : State) : Prop :=
  u.whl.withheld = s.whl.withheld ++ [c] ∧ u.whl.spent = s.whl.spent ∧ u.flag (Fld.WHLn_STAT_STALLED cls) = true ∧
    u.flag Fld.WHL_EVT_STALL = true ∧
    Touches (fun a => a = Reg.WHLn_STAT cls ∨ a = Reg.WHLn_STALLS cls ∨ a = Reg.WHL_EVT ∨ counterPage a = true) { s with whl := u.whl, pc := u.pc } u

/-- A Pip stands at an instruction whose word is `w`, nothing holds it, and a service Pip has the cycles for it (R373, R383). -/
def State.canIssue (s : State) (k w cost : Nat) : Bool := s.pipReady k w && (k < 24 || cost ≤ (s.pip k).block)

/-- An instruction has been counted and the next index is in place. -/
def State.issued (s : State) (k cost : Nat) : State :=
  (s.modPip k (fun x => { x with wdog := x.wdog + 1, cycles := x.cycles + cost, block := x.block - cost })).setPc k (s.pcOf k + 1)

/-! ### Invariants of every step -/

/-- Every port's transmit gate is as its conditions say (R252, R510, R512). -/
def State.GatesFollow (s : State) : Prop := ∀ p, p < 16 → s.gateOpen p = s.gateWanted p

/-- A link that is up is enabled (R433). -/
def State.LinksEnabled (s : State) : Prop := ∀ k, k < 4 → s.ulUp k = true → s.flag (Fld.ULk_CTL_EN k) = true

/-- In the safe state every port is fenced, its gate closed, and no Pip runs (R484). -/
def State.SafeIsStill (s : State) : Prop :=
  s.safe = true → (∀ p, p < 16 → s.fenced p = true ∧ s.gateOpen p = false) ∧ (∀ k, k < 28 → s.flag (Fld.PPk_STAT_RUNNING k) = false)

end Sys2Proof.Machine
end

