-- ==== Sys2Proof/Certificates/Slice0/Obligations.lean ====
section
/-! DEFINITION. What is claimed of the model: one statement per name `Obligations.<Name>`, some of them put together from the claims that stand before
them; OBLIGATIONS.json cites the rules of the spec for each. -/

section Slice0Statements

open Sys2Proof Sys2Proof.Machine
/-! ### The machine as a whole -/

/-- The command at the front of the queue is what a step runs, on the state with the rest of the queue. -/
def Obligations.StepTakesFront : Prop :=
  ∀ (c : Instr) (rest : List Instr) (s : State), s.pending = c :: rest → step s = exec c { s with pending := rest }

/-- On an empty queue one cycle passes (the model's own choice: log entry 1), and what follows from every command follows. -/
def Obligations.EmptyQueueIdles : Prop :=
  ∀ s : State, s.pending = [] → step s = .next (s.advance 1).settle

/-- Every command answers a next state, and the levels of the block are settled in it. -/
def Claims.EveryCommandSettles : Prop :=
  ∀ (c : Instr) (s : State), ∃ u : State, exec c s = .next u.settle

/-- After every step each transmit gate is as TX_EN, the fence, the lease, PSTATE and SLEEP have it. -/
def Obligations.GatesFollowEveryStep : Prop :=
  ∀ s t : State, s.GatesFollow → step s = .next t → t.GatesFollow

/-- After every step a link that is up is enabled. -/
def Obligations.LinksEnabledEveryStep : Prop :=
  ∀ s t : State, s.LinksEnabled → step s = .next t → t.LinksEnabled

/-- After every step in the safe state every port is fenced with its gate closed, and no Pip runs. -/
def Obligations.SafeStateIsStill : Prop :=
  ∀ s t : State, s.SafeIsStill → step s = .next t → t.SafeIsStill

/-- The state after reset meets the three invariants. -/
def Claims.ResetMeetsInvariants : Prop :=
  State.reset.GatesFollow ∧ State.reset.LinksEnabled ∧ State.reset.SafeIsStill

/-- The state after reset: the queue empty, every register word at its reset value, both memories in their canonical form and reading 0, nothing in
flight. Where the spec gives no reset value, `resetWord` has the value that the log names. -/
def Claims.ResetState : Prop :=
  State.reset.pending = [] ∧ (∀ a, State.reset.rd a = resetWord a) ∧ State.reset.Canonical ∧ (∀ a, memByte State.reset.dram a = 0) ∧
    State.reset.tc.now = 0 ∧ State.reset.incr = 2 ^ 48 ∧ State.reset.timeState = 0 ∧ State.reset.safe = false ∧ State.reset.jn.staged = []

/-- Together: reset state, reset meets invariants. -/
def Obligations.AfterReset : Prop := Claims.ResetState ∧ Claims.ResetMeetsInvariants

/-- Settling leaves the queue, both memories, the time core, the wheel, the configuration machinery, the selector, holdover, the error budget, the
baseband, the counters, the scans, PTP, NTP, the key store, boot, and every register word outside the pages whose levels follow. -/
def Claims.SettleLeaves : Prop :=
  ∀ s : State, s.safe = false → s.fc.chipResetDue = false →
    { s.settle with
      regs := s.regs, freeCtr := s.freeCtr, fc := s.fc, jn := s.jn, msix := s.msix, pips := s.pips, ls := s.ls,
      links := s.links, ports := s.ports, outs := s.outs, sh := s.sh, sw := s.sw } = s ∧
    ∀ a, levelPage (pageOf a) = false → s.settle.rd a = s.rd a

/-- Together: every command settles, settle leaves. -/
def Obligations.CommandsSettle : Prop := Claims.EveryCommandSettles ∧ Claims.SettleLeaves

/-! ### The time core (chapter 03) -/

/-- TIME_SAMPLE_READ: the read of TC_NOW_FRAC returns the fraction and latches the other three words of the same instant. -/
def Claims.TimeSample : Prop :=
  ∀ (req : Requester) (ap : Aperture) (s : State), s.reach req ap 4 ≠ 0 → s.tc.now ≤ timeMax →
    Effect (.timeSampleRead req ap) s (fun u =>
      u.lastRead req = (BitVec.ofNat 32 (frac32Of s.tc.now), 0) ∧ u.latch req Reg.TC_NOW_NS = nsOf s.tc.now ∧
      u.latch req Reg.TC_NOW_SECL + 2 ^ 32 * u.latch req Reg.TC_NOW_SECH = secOf s.tc.now ∧
      u = { s with readData := u.readData, latches := u.latches })

/-- INCR_SW_WRITE: staged for the next boundary; ignored while the loop is closed; refused out of range. -/
def Claims.IncrementWrite : Prop :=
  ∀ (req : Requester) (ap : Aperture) (lo hi : Word) (s : State),
    s.Admits req ap Reg.TC_INCR_SW_L → s.Admits req ap Reg.TC_INCR_SW_H →
    Effect (.incrSwWrite req ap lo hi) s (fun u =>
      let x := (hi.toNat * 2 ^ 32 + lo.toNat) % 2 ^ 50
      if s.loopClosed then u.tc = s.tc ∧ u.flag Fld.TC_EVT_INCR_IGNORED = true
      else if incrMin ≤ x ∧ x ≤ incrMax then u.tc = { s.tc with swIncr := some x } ∧ u.rd64 Reg.TC_INCR_SW_L = x ∧ u.incr = s.incr
      else u.tc = s.tc ∧ u.flag Fld.TC_EVT_INCR_RANGE = true)

/-- SLEW_OFS_WRITE and SLOPE_WRITE: the slew is retargeted from where time stands; the slope limit is taken within its range, refused outside. -/
def Claims.SlewAndSlopeWrites : Prop :=
  ∀ (req : Requester) (ap : Aperture) (s : State),
    (∀ lo hi : Word, s.Admits req ap Reg.TC_SLEW_OFS_L → s.Admits req ap Reg.TC_SLEW_OFS_H →
      Effect (.slewOfsWrite req ap lo hi) s (fun u =>
        if s.loopClosed then u.tc = s.tc ∧ u.flag Fld.TC_EVT_SLEW_IGNORED = true
        else u.tc = { s.tc with slew := signedOf 64 (hi.toNat * 2 ^ 32 + lo.toNat) * 2 ^ 32 } ∧
          u.flag Fld.TC_STAT_SLEW_ACTIVE = decide (u.tc.slew ≠ 0))) ∧
    (∀ v : Word, s.Admits req ap Reg.TC_SLOPE → s.ownedMask Reg.TC_SLOPE = 0 →
      Effect (.slopeWrite req ap v) s (fun u =>
        let x := v.toNat % 2 ^ 27
        if 1000 ≤ x ∧ x ≤ 100000000 then u.rdN Reg.TC_SLOPE = x ∧ Accesses (· = Reg.TC_SLOPE) s u
        else u.flag Fld.TC_EVT_INCR_RANGE = true ∧ u.rd Reg.TC_SLOPE = s.rd Reg.TC_SLOPE ∧ Accesses (· = Reg.TC_EVT) s u))

/-- SLEW_COMPLETE: time runs until the remaining offset is zero, and no further. -/
def Claims.SlewCompletes : Prop :=
  ∀ s : State, Effect .slewComplete s (fun u =>
    if s.tc.slew = 0 ∨ s.counting = false ∨ s.slewUnit = 0 then u = s
    else u.tc.slew = 0 ∧ u.tc.cycle = s.tc.cycle + s.slewCycles ∧
      (u.tc.now : Int) = max 0 ((s.tc.now + s.slewCycles * s.cycleLen : Nat) + s.tc.slew) ∧
      u.flag Fld.TC_EVT_SLEW_DONE = true ∧ u.flag Fld.TC_STAT_SLEW_ACTIVE = false)

/-- STEP_REQUEST and STEP_CANCEL: one pending step, taken or withdrawn; an absolute step with the sign set is refused. -/
def Claims.StepRequests : Prop :=
  ∀ (req : Requester) (ap : Aperture) (s : State), s.Admits req ap Reg.TC_STEP_CTL →
    (∀ absolute : Bool, s.KeepsReserved Reg.TC_STEP_CTL (if absolute then 5 else 1) → Effect (.stepRequest req ap absolute) s (fun u =>
      let neg := (s.rd Reg.TC_STEP_SECH).getLsbD 31
      if absolute && neg then u.tc = s.tc ∧ u.flag Fld.TC_EVT_STEP_REFUSED = true
      else u.tc = { s.tc with step := some ⟨absolute, if neg then -(s.stepMagnitude : Int) else s.stepMagnitude, false, false⟩ } ∧
        u.flag Fld.TC_STAT_STEP_PENDING = true)) ∧
    (s.KeepsReserved Reg.TC_STEP_CTL 2 → Effect (.stepCancel req ap) s (fun u => u.tc = { s.tc with step := none } ∧ u.flag Fld.TC_STAT_STEP_PENDING = false ∧
      Accesses (fun a => a = Reg.TC_STEP_CTL ∨ a = Reg.TC_STAT) { s with tc := u.tc } u))

/-- Together: time sample, increment write, slew and slope writes, step requests, slew completes. -/
def Obligations.TimeIsReadAndSteered : Prop := Claims.TimeSample ∧ Claims.IncrementWrite ∧ Claims.SlewAndSlopeWrites ∧ Claims.StepRequests ∧ Claims.SlewCompletes

/-- UTC_ARM, UTC_DISARM: ARM takes the change if its checks pass and none is armed, DISARM clears it; either way ARMED has its copy in TC_STAT. -/
def Claims.UtcArming : Prop :=
  ∀ (req : Requester) (ap : Aperture) (s : State), s.Admits req ap Reg.TC_UTC_CTL →
    Effect (.utcArm req ap) s (fun u =>
      if !s.utcArmed && s.utcChecks (signedOf 16 (s.rdN Reg.TC_UTC_CUR)) (signedOf 16 (s.rdN Reg.TC_UTC_PEND)) s.utcE then
        u.utcArmed = true ∧ u.flag Fld.TC_STAT_UTC_ARMED = true ∧ Accesses (fun a => a = Reg.TC_UTC_STAT ∨ a = Reg.TC_STAT) s u
      else u.utcArmed = s.utcArmed ∧ u.flag Fld.TC_EVT_UTC_REFUSED = true ∧ Accesses (· = Reg.TC_EVT) s u) ∧
    Effect (.utcDisarm req ap) s (fun u =>
      u.utcArmed = false ∧ (s.utcArmed = true → u.flag Fld.TC_STAT_UTC_ARMED = false) ∧
        Accesses (fun a => a = Reg.TC_UTC_STAT ∨ a = Reg.TC_STAT) s u)

/-- UTC_APPLY: at second E + 86,400 the pending offset becomes the current one, and ARMED clears. -/
def Claims.UtcApplies : Prop :=
  ∀ s : State, Effect .utcApply s (fun u =>
    if s.utcArmed && s.counting then
      let t := s.advanceTo ((s.utcE + 86400) * secU)
      u.rdN Reg.TC_UTC_CUR = bitsOf (t.rdN Reg.TC_UTC_PEND) 0 16 ∧ u.utcArmed = false ∧ u.flag Fld.TC_STAT_UTC_ARMED = false ∧
        u.flag Fld.TC_EVT_UTC_APPLIED = true ∧
        Touches (fun a => a = Reg.TC_UTC_CUR ∨ a = Reg.TC_UTC_STAT ∨ a = Reg.TC_STAT ∨ a = Reg.TC_EVT) t u
    else u = s)

/-- Together: utc arming, utc applies. -/
def Obligations.UtcChanges : Prop := Claims.UtcArming ∧ Claims.UtcApplies

/-- TRG_ARM, TRG_DISARM: a Pip's write and one to a trigger of another owner are denied; an owner's DISARM leaves the trigger disarmed, its ARM arms
the staged target, or reports a target already passed. -/
def Claims.TriggerArming : Prop :=
  ∀ (req : Requester) (ap : Aperture) (n : Fin 32) (s : State), s.Admits req ap (Reg.TRGn_CMD n.val) →
    let denied := (∃ k, req = .pip k) ∨ s.trgOwner n.val ≠ 0
    (denied → Effect (.trgArm req ap n) s (fun u => u.tc = s.tc ∧ u.flag Fld.TC_EVT_TRG_DENIED = true ∧ Accesses (· = Reg.TC_EVT) s u) ∧
      Effect (.trgDisarm req ap n) s (fun u => u.tc = s.tc ∧ u.flag Fld.TC_EVT_TRG_DENIED = true ∧ Accesses (· = Reg.TC_EVT) s u)) ∧
    (¬denied → Effect (.trgDisarm req ap n) s (fun u => u.tc = { s.tc with triggers := s.tc.triggers.set n.val none } ∧ u.flag (Fld.TRGn_STAT_ARMED n.val) = false)) ∧
    (¬denied → s.flag (Fld.TRGn_CFG_MODE n.val) = false → Effect (.trgArm req ap n) s (fun u =>
      let target := s.trgTarget n.val
      if target ≤ s.trgTooLate n.val then
        u.tc = { s.tc with triggers := s.tc.triggers.set n.val none } ∧ u.flag Fld.TC_EVT_TRG_MISSED = true
      else u.tc = { s.tc with triggers := s.tc.triggers.set n.val (some ⟨target, target, s.trgPeriod n.val, false⟩) } ∧ u.flag (Fld.TRGn_STAT_ARMED n.val) = true))

/-- TRIGGER_FIRE: an armed trigger fires when time reaches its target, less its owner's advance; one that is not periodic is then disarmed, a
periodic one has its next target one period on. -/
def Claims.TriggerFires : Prop :=
  ∀ (n : Fin 32) (s : State), Effect (.triggerFire n) s (fun u =>
      match s.trgArmed n.val with
      | none => u = s
      | some a =>
        if s.counting then
          u.tc.triggers = s.tc.triggers.set n.val (if a.periodic then some { a with target := a.target + a.period } else none) ∧
          u.flag (Fld.TRGn_STAT_ARMED n.val) = a.periodic ∧
          u.tc.now = (s.advanceTo ((a.target : Int) - s.trgAdvance n.val).toNat).tc.now
        else u = s)

/-- CAPTURE_NOW, CAPTURE_POP and TXQ_POP: a software stamp enters a FIFO of four whose source is software, or is dropped with CAP_OVF; a pop
returns and removes the oldest entry. -/
def Claims.CapturesAndPops : Prop :=
  ∀ (req : Requester) (ap : Aperture) (s : State),
    (∀ n : Fin 8, s.Admits req ap (Reg.TC_CAPn_CMD n.val) → Effect (.captureNow req ap n) s (fun u =>
      let c := s.tc.caps.getD n.val ⟨[], false⟩
      if s.get (Fld.TC_CAPn_CFG_SRC n.val) ≠ 0 then u.tc = s.tc
      else if c.fifo.length < 4 then
        u.tc = { s.tc with caps := s.tc.caps.set n.val ⟨c.fifo ++ [⟨s.tc.now, c.dropped⟩], false⟩ }
      else u.tc = { s.tc with caps := s.tc.caps.set n.val ⟨c.fifo, true⟩ } ∧ u.flag Fld.TC_EVT_CAP_OVF = true)) ∧
    (∀ n : Fin 8, s.reach req ap 6 ≠ 0 → Effect (.capturePop req ap n) s (fun u =>
      let c := s.tc.caps.getD n.val ⟨[], false⟩
      u.tc = { s.tc with caps := s.tc.caps.set n.val ⟨c.fifo.tail, c.dropped⟩ } ∧ (u.lastRead req).1.getLsbD 31 = !c.fifo.isEmpty ∧
        (∀ e, c.fifo.head? = some e → u.latch req (Reg.TC_CAPn_NS n.val) = nsOf e.stamp))) ∧
    (∀ p : Fin 16, s.reach req ap 7 ≠ 0 → Effect (.txqPop req ap p) s (fun u =>
      let q := s.tc.txqs.getD p.val ⟨[], false⟩
      u.tc = { s.tc with txqs := s.tc.txqs.set p.val ⟨q.entries.tail, q.dropped⟩ } ∧ (u.lastRead req).1.getLsbD 31 = !q.entries.isEmpty ∧
        (∀ e, q.entries.head? = some e → (u.lastRead req).1.toNat % 65536 = e.tag % 65536)))

/-- Together: trigger arming, trigger fires, captures and pops. -/
def Obligations.TriggersAndCaptures : Prop := Claims.TriggerArming ∧ Claims.TriggerFires ∧ Claims.CapturesAndPops

/-! ### The register fabric (chapter 02) -/

/-- A write of a register without a row of its own, and an output's configuration write, act as the fields' access types state: RW bits take the
value, ones clear W1C bits, the rest stays; nothing else changes. -/
def Claims.PlainWrites : Prop :=
  ∀ (x : Access) (v : Word) (r : RegRow) (s : State), wholeWord x → s.Admits x.req x.ap (addrOf x) → findRow (addrOf x) = some r →
    r.rw ||| r.w1c ||| r.wo ||| r.rsv ≠ 0 → r.rwl = 0 → s.KeepsReserved (addrOf x) v.toNat → s.ownedMask (addrOf x) = 0 →
    (∀ t : State, t.wrKnown x.req (addrOf x) r v.toNat = t.wrWord x.req (addrOf x) r v.toNat) →
    let P := fun u : State =>
      u.rdN (addrOf x) = ((s.rdN (addrOf x) &&& (0xFFFFFFFF ^^^ r.rw)) ||| (v.toNat &&& r.rw)) &&& (0xFFFFFFFF ^^^ (v.toNat &&& r.w1c)) ∧
        Accesses (· = addrOf x) s u
    Effect (.registerWrite x v) s P ∧ Effect (.outputCfgWrite x v) s P

/-- A write that is unaligned or has partial byte enables changes nothing: SYS_BADACC counts it. -/
def Claims.BadWritesCount : Prop :=
  ∀ (x : Access) (v : Word) (s : State), x.be < 16 → s.reach x.req x.ap x.page = 2 → (x.offset % 4 ≠ 0 ∨ x.be ≠ 15) →
    Effect (.registerWrite x v) s (fun u =>
      u.rdN Reg.SYS_BADACC = min (s.rdN Reg.SYS_BADACC + 1) 0xFFFFFFFF ∧ (u.lastRead x.req).2 = 3 ∧
        Writes (· = Reg.SYS_BADACC) { s with readData := u.readData } u)

/-- A write of a configuration word while another requester's window is open is a locked write: the value stays, and the write is counted and
logged with its cause, requester class, page and offset. -/
def Claims.LockedWritesStay : Prop :=
  ∀ (x : Access) (v : Word) (r : RegRow) (s : State), wholeWord x → x.page < 512 → s.reach x.req x.ap x.page = 2 → findRow (addrOf x) = some r →
    r.cfg = true → r.rw ||| r.rwl ||| r.w1c ||| r.wo ||| r.rsv ≠ 0 → addrOf x ≠ Reg.CFG_CTL →
    (secureOnly (addrOf x) r = true → isSecurePath x.req x.ap = true) → s.flag Fld.CFG_STAT_WIN_OPEN = true → s.ownsWindow x.req = false →
    Effect (.registerWrite x v) s (fun u =>
      u.rdN Reg.SYS_LOCKCNT = min (s.rdN Reg.SYS_LOCKCNT + 1) 0xFFFFFFFF ∧
        u.rdN Reg.SYS_LOCKLOG = 3 * 2 ^ 30 + reqClass x.req * 2 ^ 28 + x.page * 2 ^ 16 + x.offset ∧
        Accesses (fun a => a = Reg.SYS_LOCKCNT ∨ a = Reg.SYS_LOCKLOG) s u)

/-- Together: plain writes, bad writes count, locked writes stay. -/
def Obligations.RegisterWrites : Prop := Claims.PlainWrites ∧ Claims.BadWritesCount ∧ Claims.LockedWritesStay

/-- W1C_CLEAR with a bit that hardware sets in the same cycle: the bit stays set, RECUR.COUNT counts the collision and RECUR.LAST names the bit. -/
def Claims.CollisionsCount : Prop :=
  ∀ (req : Requester) (ap : Aperture) (page : Fin 512) (v : Word) (b : Fin 32) (r : RegRow) (s : State),
    let a := page.val * 0x1000 + 0x10
    s.Admits req ap a → findRow a = some r → r.w1c.testBit b.val = true → v.getLsbD b.val = true → carried a = false → r.rwl = 0 →
    s.KeepsReserved a v.toNat → s.ownedMask a = 0 → (∀ t : State, t.wrKnown req a r v.toNat = t.wrWord req a r v.toNat) →
    Effect (.w1cClear req ap page v (2 ^ b.val)) s (fun u =>
      (u.rd a).getLsbD b.val = true ∧ u.rdN (page.val * 0x1000 + 0x20) % 2 ^ 16 = min (s.rdN (page.val * 0x1000 + 0x20) % 2 ^ 16 + 1) 0xFFFF ∧
        u.rdN (page.val * 0x1000 + 0x20) / 2 ^ 16 % 32 = b.val ∧ Accesses (fun w => w = a ∨ w = page.val * 0x1000 + 0x20) s u)

/-- RECUR_CLEAR clears the page's collision record; EVT_FORCE_WRITE sets each forced event that the page has. -/
def Claims.RecurAndForce : Prop :=
  ∀ (req : Requester) (ap : Aperture) (page : Fin 512) (r : RegRow) (s : State),
    (s.Admits req ap (page.val * 0x1000 + 0x20) → findRow (page.val * 0x1000 + 0x20) = some r → r.wo ≠ 0 →
      Effect (.recurClear req ap page) s (fun u =>
        u.rd (page.val * 0x1000 + 0x20) = 0 ∧ Accesses (· = page.val * 0x1000 + 0x20) s u)) ∧
    (∀ v : Word, s.Admits req ap (page.val * 0x1000 + 0x18) → findRow (page.val * 0x1000 + 0x18) = some r → r.wo ≠ 0 →
      carried (page.val * 0x1000 + 0x10) = false →
      Effect (.evtForceWrite req ap page v) s (fun u =>
        (∀ b, b < 32 → (u.rd (page.val * 0x1000 + 0x10)).getLsbD b =
          ((s.rd (page.val * 0x1000 + 0x10)).getLsbD b || (v.getLsbD b && r.wo.testBit b))) ∧
        Accesses (· = page.val * 0x1000 + 0x10) s u))

/-- LOWER_WORD_READ, LOWER_WORD_WRITE, UPPER_WORD_WRITE: the read latches the upper word of the same cycle for its requester; a lower word is only
staged; an upper word without a staged lower one does nothing, and one with it writes both and empties the staging word. -/
def Claims.PairAccesses : Prop :=
  ∀ (x : Access) (v : Word) (s : State), wholeWord x →
    (pairLow (addrOf x) = true → (findRow (addrOf x)).isSome = true → s.reach x.req x.ap x.page ≠ 0 → ¬(0xE0 ≤ x.page ∧ x.page ≤ 0xE3) →
      Effect (.lowerWordRead x) s (fun u =>
        u.lastRead x.req = (BitVec.ofNat 32 (s.live (addrOf x)), 0) ∧ u.latch x.req (addrOf x + 4) = s.live (addrOf x + 4) % 2 ^ 32 ∧
          u = { s with readData := u.readData, latches := u.latches })) ∧
    (pairLow (addrOf x) = true → (∃ r, findRow (addrOf x) = some r ∧ r.rw ≠ 0) → s.Admits x.req x.ap (addrOf x) →
      Effect (.lowerWordWrite x v) s (fun u =>
        u.staged x.req (addrOf x) = some v.toNat ∧ Accesses (fun _ => False) { s with staging := u.staging } u)) ∧
    (4 ≤ addrOf x → pairLow (addrOf x - 4) = true → pairLow (addrOf x) = false → (∃ r, findRow (addrOf x) = some r ∧ r.rw ≠ 0) →
      s.Admits x.req x.ap (addrOf x) →
      (s.staged x.req (addrOf x - 4) = none → Effect (.upperWordWrite x v) s (fun u => Accesses (fun _ => False) s u)) ∧
      (∀ lo l r, s.staged x.req (addrOf x - 4) = some lo → findRow (addrOf x - 4) = some l → findRow (addrOf x) = some r →
        l.rw = 0xFFFFFFFF → r.rw = 0xFFFFFFFF → l.rwl ||| l.w1c ||| l.rsv ||| r.rwl ||| r.w1c ||| r.rsv = 0 →
        s.ownedMask (addrOf x - 4) = 0 → s.ownedMask (addrOf x) = 0 →
        (∀ t : State, t.wrPair x.req (addrOf x) r lo v.toNat = (t.wrWord x.req (addrOf x - 4) l lo).wrWord x.req (addrOf x) r v.toNat) →
        Effect (.upperWordWrite x v) s (fun u =>
          u.rd64 (addrOf x - 4) = v.toNat * 2 ^ 32 + lo ∧ u.staged x.req (addrOf x - 4) = none)))

/-- IND_ADDR_WRITE, IND_DATA_READ and IND_DATA_WRITE in the requester's own set: the address is taken and a read started, or ERR is set; a data read
returns the word, 0xFFFF_FFFF under ERR; a data write advances the offset by the step. -/
def Claims.IndirectAccesses : Prop :=
  ∀ (req : Requester) (ap : Aperture) (v : Word) (s : State), s.reach req ap 2 = 2 →
    let i := reqClass req
    (i = 2 → s.heldByOther (reqPip req) = false) →
    Effect (.indAddrWrite ⟨req, ap, 2, 0x40 + 16 * i, 15⟩ v) s (fun u =>
      u.rd (Reg.IND_ADDR i) = v ∧ (if u.indAllowed i ap false then u.flag (Fld.IND_STAT_BUSY i) = true else u.flag (Fld.IND_STAT_ERR i) = true)) ∧
    Effect (.indDataRead ⟨req, ap, 2, 0x44 + 16 * i, 15⟩) s (fun u =>
      if s.flag (Fld.IND_STAT_ERR i) then u.lastRead req = (0xFFFFFFFF, 0) ∧ u = { s with readData := u.readData }
      else u.lastRead req = (BitVec.ofNat 32 ((s.indComplete i).indSet i).word, 0) ∧
        u.get (Fld.IND_ADDR_OFFSET i) = ((s.indComplete i).indAdvance i).get (Fld.IND_ADDR_OFFSET i)) ∧
    Effect (.indDataWrite ⟨req, ap, 2, 0x44 + 16 * i, 15⟩ v) s (fun u =>
      if s.flag (Fld.IND_STAT_ERR i) then u = { s with readData := u.readData }
      else if (s.indComplete i).indAllowed i ap true then
        u.flag (Fld.IND_STAT_BUSY i) = true ∧
          u.get (Fld.IND_ADDR_OFFSET i) = (s.get (Fld.IND_ADDR_OFFSET i) +
            (if s.get (Fld.IND_CTL_STEP i) = 1 then 1 else if s.get (Fld.IND_CTL_STEP i) = 2 then 4 else 0)) % 2 ^ 24
      else u.flag (Fld.IND_STAT_ERR i) = true)

/-- IND_WORD_COMPLETE: the access in progress of a set ends and BUSY clears; a read's word is the domain's, unless its set was released meanwhile;
a stored word can be read back from a domain that is plain storage. -/
def Claims.IndirectCompletes : Prop :=
  ∀ (i : Fin 4) (s : State), Effect (.indWordComplete i) s (fun u =>
    match (s.indSet i.val).pending with
    | none => u = s
    | some (.read d o) =>
      u.indSet i.val = ⟨if (s.indSet i.val).drop then (s.indSet i.val).word else s.indRead d o, none, false⟩ ∧ u.flag (Fld.IND_STAT_BUSY i.val) = false
    | some (.store d o v) =>
      u.indSet i.val = ⟨(s.indSet i.val).word, none, false⟩ ∧ u.flag (Fld.IND_STAT_BUSY i.val) = false ∧ (d ≠ 3 → d ≠ 6 → u.indRead d o = v))

/-- R49: an access that sets ERR leaves every word of every domain as it is once the access before it has ended; while ERR is 1 a read of IND_DATA returns
0xFFFF_FFFF and a write of it changes nothing, until a write of 1 to ERR clears it. -/
def Obligations.IndirectErrors : Prop :=
  ∀ (req : Requester) (ap : Aperture) (v : Word) (s : State), s.reach req ap 2 = 2 →
    let i := reqClass req
    (i = 2 → s.heldByOther (reqPip req) = false) →
    let reg := fun k : Nat => (⟨req, ap, 2, 0x40 + 16 * i + 4 * k, 15⟩ : Access)
    (∀ c, (c = .indAddrWrite (reg 0) v ∨ c = .indDataRead (reg 1) ∨ c = .indDataWrite (reg 1) v) → Effect c s (fun u =>
      s.flag (Fld.IND_STAT_ERR i) = false → u.flag (Fld.IND_STAT_ERR i) = true → ∀ d o, u.indRead d o = (s.indComplete i).indRead d o)) ∧
    (s.flag (Fld.IND_STAT_ERR i) = true →
      Effect (.indDataRead (reg 1)) s (fun u => u.lastRead req = (0xFFFFFFFF, 0) ∧ u = { s with readData := u.readData }) ∧
      Effect (.indDataWrite (reg 1) v) s (fun u => u = { s with readData := u.readData })) ∧
    Effect (.registerWrite (reg 3) v) s (fun u =>
      u.flag (Fld.IND_STAT_ERR i) = (s.flag (Fld.IND_STAT_ERR i) && !v.getLsbD 1) ∧ Writes (· = Reg.IND_STAT i) { s with readData := u.readData } u)

/-- IND_HOLD_CLAIM and IND_HOLD_RELEASE: a free set goes to the Pip that claims it, a set held by another is left and the access counted, and only
the holder's release frees it. -/
def Claims.IndirectHolds : Prop :=
  ∀ (k : PipNo) (step : BitVec 2) (s : State), s.reach (.pip k) .other 2 = 2 →
    let free := s.get (Fld.IND_STAT_OWNER 2) = 0xFF
    let mine := s.get (Fld.IND_STAT_OWNER 2) = k.val
    (free ∨ mine → Effect (.indHoldClaim k step) s (fun u =>
      u.get (Fld.IND_STAT_OWNER 2) = k.val ∧ u.flag (Fld.IND_CTL_HOLD 2) = true ∧ (u.lastRead (.pip k)).2 = 0 ∧
        u.get (Fld.IND_CTL_STEP 2) = (if step = 3 then 0 else step.toNat))) ∧
    (mine → Effect (.indHoldRelease k step) s (fun u =>
      u.get (Fld.IND_STAT_OWNER 2) = 0xFF ∧ u.flag (Fld.IND_CTL_HOLD 2) = false)) ∧
    (¬free → ¬mine → ∀ c, (c = .indHoldClaim k step ∨ c = .indHoldRelease k step) → Effect c s (fun u =>
      u.rdN Reg.SYS_BADACC = min (s.rdN Reg.SYS_BADACC + 1) 0xFFFFFFFF ∧ (u.lastRead (.pip k)).2 = 3 ∧
        Writes (· = Reg.SYS_BADACC) { s with readData := u.readData } u))

/-- Together: indirect accesses, indirect completes, indirect holds. -/
def Obligations.IndirectWindow : Prop := Claims.IndirectAccesses ∧ Claims.IndirectCompletes ∧ Claims.IndirectHolds

/-- CFG_OPEN, CFG_COMMIT, CFG_ABANDON and CFG_RESCAN: a window opens for its requester where none is open; its owner's commit sets COMMIT_BUSY and
copies every configuration word to the shadow; its owner's abandon brings every configuration word back from the shadow and closes it; a rescan
begins the scan anew. -/
def Claims.ChangeWindows : Prop :=
  ∀ (req : Requester) (ap : Aperture) (s : State), s.Admits req ap Reg.CFG_CTL →
    (s.KeepsReserved Reg.CFG_CTL 1 → s.flag Fld.CFG_STAT_WIN_OPEN = false → Effect (.cfgOpen req ap) s (fun u =>
      u.flag Fld.CFG_STAT_WIN_OPEN = true ∧ u.ownsWindow req = true ∧ u.cfg.windowFrames = 0 ∧ u.cfg.scanSawWindow = true ∧
        Accesses (· = Reg.CFG_STAT) { s with cfg := u.cfg } u)) ∧
    (s.KeepsReserved Reg.CFG_CTL 2 → s.ownsWindow req = true → Effect (.cfgCommit req ap) s (fun u =>
      u.flag Fld.CFG_STAT_COMMIT_BUSY = true ∧ (∀ a, isCfg a = true → u.cfg.shadow.word a = s.rd a) ∧
        Accesses (· = Reg.CFG_STAT) { s with cfg := u.cfg } u)) ∧
    (s.KeepsReserved Reg.CFG_CTL 4 → s.ownsWindow req = true → s.flag Fld.CFG_STAT_COMMIT_BUSY = false → Effect (.cfgAbandon req ap) s (fun u =>
      u.flag Fld.CFG_STAT_WIN_OPEN = false ∧
        (∀ a, isCfg a = true → u.rdN a &&& cfgMask a = (s.cfg.shadow.word a).toNat &&& cfgMask a) ∧
        Accesses (fun a => isCfg a = true ∨ a = Reg.CFG_STAT) s u)) ∧
    (s.KeepsReserved Reg.CFG_CTL 8 → Effect (.cfgRescan req ap) s (fun u =>
      u.cfg = { s.cfg with scanSawWindow := s.flag Fld.CFG_STAT_WIN_OPEN, ovlOld := [] } ∧ Accesses (fun _ => False) { s with cfg := u.cfg } u))

/-- COMMIT_COMPLETE, WINDOW_EXPIRY and SEAL_SCAN_COMPLETE: a commit's scan sets both references from the words in force, clears COMMIT_BUSY and
closes the window; a window open for CFG_WIN_MAX frames closes; a scan publishes its value and count, and is judged only if no window was open. -/
def Claims.ScansAndReferences : Prop :=
  ∀ s : State,
    Effect .commitComplete s (fun u =>
      if s.flag Fld.CFG_STAT_COMMIT_BUSY then
        u.rd Reg.CFG_EXP_REF = BitVec.ofNat 32 s.sealNow ∧ u.rd Reg.CFG_LAST_CRC = BitVec.ofNat 32 s.sealNow ∧
          u.rd Reg.CFG_RUN_REF = BitVec.ofNat 32 (s.sealNow ^^^ s.activeDelta) ∧ u.flag Fld.CFG_STAT_COMMIT_BUSY = false ∧
          u.flag Fld.CFG_STAT_WIN_OPEN = false ∧ u.flag Fld.CFG_STAT_DIRTY = ((s.sealNow ^^^ s.activeDelta) != s.rdN Reg.CFG_BASE_REF)
      else u = s) ∧
    Effect .windowExpiry s (fun u =>
      if s.flag Fld.CFG_STAT_WIN_OPEN && !s.flag Fld.CFG_STAT_COMMIT_BUSY &&
          clampNat 1 65535 (s.rdN Reg.CFG_WIN_MAX % 65536) ≤ s.cfg.windowFrames then
        u.flag Fld.CFG_STAT_WIN_OPEN = false ∧ u.get Fld.CFG_STAT_OWNER_REQ = 0 ∧ Touches (· = Reg.CFG_STAT) { s with cfg := u.cfg } u
      else u = s) ∧
    (s.cfg.scanning = true → Effect (.sealScanComplete []) s (fun u =>
      if (s.admitFor 11 18432).1 then
        u.rdN Reg.CFG_SCAN_CNT = (s.rdN Reg.CFG_SCAN_CNT + 1) % 2 ^ 32 ∧ u.rd Reg.CFG_LAST_CRC = BitVec.ofNat 32 s.sealNow ∧
          u.flag Fld.CFG_STAT_SEAL_OK = (if s.cfg.scanSawWindow || s.flag Fld.CFG_STAT_WIN_OPEN then s.flag Fld.CFG_STAT_SEAL_OK
            else decide (s.sealNow = s.rdN Reg.CFG_EXP_REF))
      else u.whl.withheld = s.whl.withheld ++ [.sealScanComplete []] ∧ u.cfg = s.cfg))

/-- Together: change windows, scans and references. -/
def Obligations.ConfigurationControl : Prop := Claims.ChangeWindows ∧ Claims.ScansAndReferences

/-- MSPI_TRANSACTION, MI2C_TRANSACTION: a well-formed transaction is a register access with requester class 1; any other is counted; a chip held
in reset answers none. -/
def Claims.ManagementPorts : Prop :=
  ∀ (b : List Byte) (s : State),
    let counted := fun u : State => u.rdN Reg.SYS_BADACC = min (s.rdN Reg.SYS_BADACC + 1) 0xFFFFFFFF ∧
      Writes (· = Reg.SYS_BADACC) { s with readData := u.readData } u
    Effect (.mspiTransaction b) s (fun u =>
      if s.boot.held then u = s
      else if b.head? = some 2 ∧ b.length = 8 then u = s.mgmtWrite ((b.drop 1).take 3) (b.drop 4)
      else if b.head? = some 1 ∧ b.length = 5 then u = s.mgmtRead ((b.drop 1).take 3)
      else counted u) ∧
    Effect (.mi2cTransaction b) s (fun u =>
      if s.boot.held then u = s
      else if b.length = 7 then u = s.mgmtWrite (b.take 3) (b.drop 3)
      else if b.length = 3 then u = s.mgmtRead b
      else counted u)

/-- Together: collisions count, recur and force, pair accesses, management ports. -/
def Obligations.EventBitsAndPairs : Prop := Claims.CollisionsCount ∧ Claims.RecurAndForce ∧ Claims.PairAccesses ∧ Claims.ManagementPorts

/-! ### Boundaries and stalled requests (chapters 01 and 04) -/

/-- FRAME_BOUNDARY, BOUNDARY_SUPPRESSED and INTERIM_POINT: where time counts and the wheel makes that of the next instant, time reaches it and its
actions are completed; otherwise nothing happens. -/
def Claims.BoundaryInstants : Prop :=
  ∀ s : State,
    let b := s.nextInstant
    let t := s.advanceTo b
    Effect .frameBoundary s (fun u => if s.counting = true ∧ t.instantKind b = .raised then u = t.raised b else u = s) ∧
    Effect .boundarySuppressed s (fun u =>
      if s.counting = true ∧ t.instantKind b = .suppressed then
        u = t.suppressed b ∧ u.rdN Reg.WHL_MERGED = min (t.rdN Reg.WHL_MERGED + 1) 0xFFFFFFFF ∧ u.flag Fld.WHL_EVT_MERGE = true ∧
          u.whl.frameStart = b ∧ u.rdN Reg.WHL_SEQ_L = t.rdN Reg.WHL_SEQ_L
      else u = s) ∧
    Effect .interimPoint s (fun u =>
      if s.counting = true ∧ t.instantKind b = .interim then u = t.interim b ∧ u.ls.interimAt = t.tc.cycle
      else u = s)

/-- R100: replenishment sets each class's spent, borrowed and lent amounts to zero, as does the wheel's part of a raised boundary; the class then holds one
frame's allowance, whatever was spent before and however many frames elapsed: its effective ceiling is its ceiling in force, and a class outside any group is
admitted exactly up to it. -/
def Obligations.AllowanceIsRenewed : Prop :=
  ∀ (s : State) (c : Nat), c < 16 →
    let whole := fun u : State => u.spent c = 0 ∧ u.whl.borrowed.getD c 0 = 0 ∧ u.whl.lent.getD c 0 = 0 ∧
      u.wCeil c = classWeight c * u.rdN (Reg.WHLn_CEIL_IF c) ∧
      (groupOf c = [] → ∀ n, u.admits c n = decide (n ≤ u.rdN (Reg.WHLn_CEIL_IF c)))
    whole s.replenish ∧ whole s.wheelFrame

/-- A raised boundary counts its frame: WHL_SEQ advances by one, WHL_POS is the instant's place in its second whatever step follows, WHL_LEN the
cycles since the boundary before. -/
def Claims.RaisedBoundaryCounts : Prop :=
  ∀ (s : State) (b : Nat),
    let u := s.countFrame b
    u.rd64 Reg.WHL_SEQ_L = (s.rd64 Reg.WHL_SEQ_L + 1) % 2 ^ 64 ∧ u.rdN Reg.WHL_POS = b / msU % 1000 ∧
      u.rdN Reg.WHL_LEN % 2 ^ 25 = min (s.tc.cycle - s.whl.lastRaised) (2 ^ 25 - 1) ∧ u.whl.lastRaised = s.tc.cycle ∧
      u.flag Fld.WHL_STAT_RUNNING = true ∧ u.flag Fld.WHL_STAT_BRIDGE_TIMED = s.bridging ∧ u.tc = s.tc ∧
      Writes (fun a => a = Reg.WHL_LEN ∨ a = Reg.WHL_SEQ_L ∨ a = Reg.WHL_SEQ_H ∨ a = Reg.WHL_POS ∨ a = Reg.WHL_STAT) { s with whl := u.whl } u

/-- EVENT_SNAPSHOT: where a change called for one, a snapshot is issued: the next generation, at the present time; otherwise nothing happens. -/
def Claims.EventSnapshotIssued : Prop :=
  ∀ s : State, Effect .eventSnapshot s (fun u =>
    if s.snapDue then
      u.rdN Reg.EB_GEN = (s.rdN Reg.EB_GEN + 1) % 2 ^ 32 ∧ u.snapDue = false ∧ u.timeState = s.timeState ∧
        u.eb.snap.map (fun x => (x.gen, x.t0, x.valid, x.timeState)) =
          some ((s.rdN Reg.EB_GEN + 1) % 2 ^ 32, s.tc.now, s.compose.isSome, s.timeState)
    else u = s)

/-- Together: boundary instants, raised boundary counts, event snapshot issued. -/
def Obligations.FrameBoundaries : Prop := Claims.BoundaryInstants ∧ Claims.RaisedBoundaryCounts ∧ Claims.EventSnapshotIssued

/-- STALLED_REQUEST_RESUME: the withheld request is presented again as it was, and is no longer kept by the wheel; an admitted one waits no more. -/
def Obligations.StalledRequestsResume : Prop :=
  ∀ s : State,
    (∀ (k : Nat) (i : Instr), s.whl.withheld[k]? = some i → i.mayWait = true →
      exec (.stalledRequestResume (.command k)) s = exec i { s with whl := { s.whl with withheld := s.whl.withheld.eraseIdx k } }) ∧
    Effect (.stalledRequestResume .keyStore) s (fun u =>
      match s.ks.job with
      | none => u = s
      | some j => if j.waiting then (if (s.admitFor 12 1).1 then u.ks.job = some { j with waiting := false } else u.ks = s.ks) else u = s) ∧
    Effect (.stalledRequestResume .attest) s (fun u =>
      match s.eb.att with
      | none => u = s
      | some a =>
        if a.admitted then u = s
        else if s.flag Fld.EB_STAT_UNSEALED then u.eb.att = none ∧ u.flag Fld.EB_ATT_STAT_BUSY = false
        else if (s.admitFor 12 1).1 then u.eb.att = some { a with admitted := true } else u.eb.att = s.eb.att) ∧
    Effect (.stalledRequestResume .arbiter) s (fun u =>
      (s.ls.unadmitted = [] → u = s) ∧ (∀ f, s.ls.unadmitted = [f] → (s.admitFor 9 1).1 = false → u.ls.unadmitted = [f])) ∧
    Effect (.stalledRequestResume .calendar) s (fun u =>
      if s.safe = true ∨ s.boot.sleeping = true ∨ s.pe.late = [] then u = s else u = s.lateVisits) ∧
    (∀ k : PipNo, Effect (.stalledRequestResume (.pip k)) s (fun u =>
      if s.safe = false ∧ s.boot.sleeping = false ∧ s.pipAlive k.val = true ∧ s.flag (Fld.PPk_STAT_STALLED k.val) = true then u = s.pipBlock k.val
      else u = s))

/-! ### The reference selector (chapter 05) -/

/-- SIGNAL_LOSS: a qualified slot goes to HOLDOFF at once, with its history bit, holding the state it came from; while BRIDGE suspends the selector
only GNSS, PTP, link and host losses are taken, and another slot's waits for the exit. -/
def Claims.SignalLosses : Prop :=
  ∀ (n : Fin 12) (s : State), Effect (.signalLoss n) s (fun u =>
    if s.bridging = true ∧ ((2 ≤ n.val ∧ n.val ≤ 5) ∨ n.val = 10) then u = s.modSlot n.val (fun x => { x with lossDue := true })
    else if 1 ≤ s.slotState n.val ∧ s.slotState n.val ≤ 4 then
      u.slotState n.val = 6 ∧ u.get (Fld.RSn_STATE_PREV n.val) = s.slotState n.val ∧ u.flag (Fld.RSn_EVT_LOST_SIGNAL n.val) = true ∧
        u.rs.slots = s.rs.slots.modify n.val (fun x => { x with present := false, sample := none, timer := 0, heldFrom := s.slotState n.val,
                                                                holdLeft := s.holdoffT n.val + 1 }) ∧ u.rs.cur = s.rs.cur ∧
        (s.rs.cur = some n.val → 3 ≤ s.slotState n.val → u.flag Fld.RS_EVT_NO_SEL = true)
    else u = s.modSlot n.val (fun x => { x with present := false, sample := none }))

/-- HOLDOFF_EXPIRY, QUAL_TIMER_EXPIRY and DWELL_EXPIRY: each moves its slot where the slot stands as the expiry needs, writes PREV and sets the
history bit; otherwise, and while BRIDGE holds the timers, nothing happens. -/
def Claims.SlotTimers : Prop :=
  ∀ (n : Fin 12) (s : State),
    let st := s.slotState n.val
    let x := s.slot n.val
    let moved := fun (u : State) (k : Nat) => u.slotState n.val = k ∧ u.get (Fld.RSn_STATE_PREV n.val) = st ∧
      u.flag (Fld.RSn_EVT_STATE_CHG n.val) = true ∧ u.snapDue = true ∧
      Touches (fun a => a = Reg.RSn_STATE n.val ∨ a = Reg.RSn_EVT n.val) { s with rs := u.rs, snapDue := true } u
    Effect (.holdoffExpiry n) s (fun u =>
      if st = 6 ∧ s.bridging = false then moved u 5 ∧ u.get (Fld.RSn_STATE_DQ_CAUSE n.val) = 6 ∧ u.flag (Fld.RSn_EVT_WAS_DISQUALIFIED n.val) = true else u = s) ∧
    Effect (.qualTimerExpiry n) s (fun u =>
      if st = 1 ∧ s.critAll n.val = true ∧ s.bridging = false then
        if x.timer = 1 ∧ x.needWtr = true ∧ s.wtrT n.val ≠ 0 then u = s.modSlot n.val (fun y => { y with timer := 2, left := s.wtrT n.val })
        else if s.quarantined n.val then u = s
        else moved u 2
      else u = s) ∧
    Effect (.dwellExpiry n .soft) s (fun u => if st = 3 ∧ x.softMs ≠ 0 ∧ s.bridging = false then moved u 4 ∧ u.flag (Fld.RSn_EVT_WAS_DEGRADED n.val) = true else u = s) ∧
    Effect (.dwellExpiry n .recover) s (fun u => if st = 4 ∧ x.recMs ≠ 0 ∧ s.bridging = false then moved u 3 ∧ u.flag (Fld.RSn_EVT_WAS_SELECTED n.val) = true else u = s) ∧
    Effect (.dwellExpiry n .drift) s (fun u =>
      if x.driftMs = 0 ∨ s.bridging = true then u = s
      else u.flag (Fld.RSn_EVT_DRIFT_RATE n.val) = true ∧
        (if s.flag (Fld.RSn_CFG_DRATE_ACT n.val) = true ∧ st = 3 then moved u 4 else u.slotState n.val = st ∧ u.rs = s.rs))

/-- LOCK_TIMER_EXPIRY: where the lock conditions hold outside BRIDGE, LOCKED is set and TIME_STATE follows; otherwise nothing happens. -/
def Claims.LockTimer : Prop :=
  ∀ s : State, Effect .lockTimerExpiry s (fun u =>
    if s.lockWithin 1 = true ∧ s.bridging = false then
      u.flag Fld.RS_STAT_LOCKED = true ∧
        u.timeState = (if s.timeState = 0 ∨ s.timeState = 4 ∨ s.timeState = 5 then s.timeState else if s.timeState = 3 then 1 else 2) ∧
        (s.flag Fld.RS_STAT_LOCKED = false → u.flag Fld.RS_EVT_LOCK_CHG = true)
    else u = s)

/-- ACCEPT, DISQUALIFY, REQUALIFY and HOST_POST: the slot commands wait for the boundary, an ACCEPT without quarantine is ignored; a POST takes the
capture as slot 11's sample, and one without a capture is rejected. -/
def Claims.SlotCommands : Prop :=
  ∀ (req : Requester) (ap : Aperture) (n : Fin 12) (s : State),
    (s.Admits req ap (Reg.RSn_CMD n.val) →
      Effect (.accept req ap n) s (fun u =>
        if s.quarantined n.val then
          u.rs = (s.modSlot n.val (fun x => { x with accept := true })).rs ∧ Accesses (fun _ => False) { s with rs := u.rs } u
        else u.flag Fld.RS_EVT_CMD_IGNORED = true ∧ Accesses (· = Reg.RS_EVT) s u) ∧
      Effect (.disqualify req ap n) s (fun u =>
        u.rs = (s.modSlot n.val (fun x => { x with disq := true })).rs ∧ Accesses (fun _ => False) { s with rs := u.rs } u) ∧
      Effect (.requalify req ap n) s (fun u =>
        u.rs = (s.modSlot n.val (fun x => { x with requalify := s.slotState n.val == 5 })).rs ∧
          Accesses (fun _ => False) { s with rs := u.rs } u)) ∧
    (s.Admits req ap Reg.RS11_HCMD → Effect (.hostPost req ap) s (fun u =>
      match s.rs.hostCap with
      | none => u.flag Fld.RS_EVT_HOST_REJECT = true ∧ Accesses (· = Reg.RS_EVT) s u
      | some t =>
        u.rs = (({ s with rs := { s.rs with hostCap := none, hostMs := 0 } } : State).deliver 11
          ⟨some (s.rdI64 Reg.RS11_HOFS_L), t, none, s.rdN Reg.RS11_HBOUND, false, false, false⟩).rs ∧
        Accesses (fun _ => False) { s with rs := u.rs } u))

/-- BW_WRITE: a bandwidth within its range, with RS_INNER_BW at least 10 times RS_OUTER_BW, is taken; any other is refused and the value stays. -/
def Claims.BandwidthWrites : Prop :=
  ∀ (req : Requester) (ap : Aperture) (v : Word) (s : State),
    (s.Admits req ap Reg.RS_INNER_BW → s.ownedMask Reg.RS_INNER_BW = 0 → Effect (.bwWrite req ap false v) s (fun u =>
      let i := v.toNat % 2 ^ 14
      let o := s.rdN Reg.RS_OUTER_BW % 2 ^ 7
      if 1 ≤ i ∧ i ≤ 10000 ∧ 1 ≤ o ∧ o ≤ 100 ∧ o ≤ i then u.rdN Reg.RS_INNER_BW = i ∧ Accesses (· = Reg.RS_INNER_BW) s u
      else u.flag Fld.RS_EVT_BW_REFUSED = true ∧ Accesses (· = Reg.RS_EVT) s u)) ∧
    (s.Admits req ap Reg.RS_OUTER_BW → s.ownedMask Reg.RS_OUTER_BW = 0 → Effect (.bwWrite req ap true v) s (fun u =>
      let i := s.rdN Reg.RS_INNER_BW % 2 ^ 14
      let o := v.toNat % 2 ^ 7
      if 1 ≤ i ∧ i ≤ 10000 ∧ 1 ≤ o ∧ o ≤ 100 ∧ o ≤ i then u.rdN Reg.RS_OUTER_BW = o ∧ Accesses (· = Reg.RS_OUTER_BW) s u
      else u.flag Fld.RS_EVT_BW_REFUSED = true ∧ Accesses (· = Reg.RS_EVT) s u))

/-! ### Holdover and the oscillator (chapter 06) -/

/-- AVERAGE_COMPLETE and GUARD_EXPIRY: ten thousand samples become one held average; the oldest held average leaves, to the learning set where
learning stands and its temperature was known, and averages out of the window are dropped. -/
def Claims.Averages : Prop :=
  ∀ s : State,
    Effect .averageComplete s (fun u =>
      if s.ho.count < 10000 then u = s
      else u.ho.held = s.ho.held ++ [⟨s.tc.now, s.ho.ySum / (s.ho.count : Nat), (s.ho.tSum : Rat) / (s.ho.count : Nat), s.ho.tempOkAll⟩] ∧
        u.ho.count = 0 ∧ u = { s with ho := u.ho }) ∧
    Effect .guardExpiry s (fun u =>
      match s.ho.held with
      | [] => u = s
      | a :: r =>
        let win := clampNat 1 2160 (s.rdN Reg.HO_LEARN_WIN % 4096) * 3600 * secU
        let taken := if s.flag Fld.HO_CTL_LEARN_EN && !s.flag Fld.HO_CTL_MODEL_SRC && (a.tempOk || !s.flag Fld.HO_CTL_TEMP_EN) then [a] else []
        u.ho.held = r ∧ u.ho.learned = (s.ho.learned ++ taken).filter (fun x => s.tc.now ≤ x.atTime + win) ∧
          u.rdN Reg.HO_SAMPLES = u.ho.learned.length % 2 ^ 32 ∧ Writes (· = Reg.HO_SAMPLES) { s with ho := u.ho } u)

/-- MODEL_REFIT: nothing while the model is the host's; without averages no model is ready; a y0 out of range is not stored and none is ready; any
other fit is stored, and is ready once its span reaches HO_LEARN_MIN. -/
def Claims.ModelRefits : Prop :=
  ∀ s : State, Effect .modelRefit s (fun u =>
    let l := s.ho.learned.filter (fun x => s.tc.now ≤ x.atTime + clampNat 1 2160 (s.rdN Reg.HO_LEARN_WIN % 4096) * 3600 * secU)
    if s.flag Fld.HO_CTL_MODEL_SRC then u = s
    else
      u.ho.learned = l ∧ u.rdN Reg.HO_SAMPLES = l.length % 2 ^ 32 ∧
        (l = [] → u.flag Fld.HO_STAT_MODEL_READY = false ∧ u.rd Reg.HO_Y0 = s.rd Reg.HO_Y0) ∧
        (l ≠ [] →
          let y0 := s.ratFree (l.foldl (fun a x => a + x.y) 0 / (l.length : Nat) * 10 ^ 15)
          if y0.natAbs > 2147483647 then
            u.flag Fld.HO_EVT_MODEL_RANGE = true ∧ u.flag Fld.HO_STAT_MODEL_READY = false ∧ u.rd Reg.HO_Y0 = s.rd Reg.HO_Y0
          else
            u.rdI Reg.HO_Y0 = y0 ∧ u.ho.tRef = l.foldl (fun a x => a + x.atTime) 0 / l.length ∧
              u.flag Fld.HO_STAT_MODEL_READY = decide (clampNat 1 4095 (s.rdN Reg.HO_LEARN_MIN % 4096) * 3600 * secU ≤
                (match l.head?, l.getLast? with | some a, some b => b.atTime - a.atTime | _, _ => 0))))

/-- MODEL_LOAD, FORGET and RESEND: a LOAD while MODEL_SRC is 0 or holdover is active is refused, any other brings the loaded model into force as of
now; FORGET empties the learning set; RESEND sends the last UART command again. -/
def Claims.ModelCommands : Prop :=
  ∀ (req : Requester) (ap : Aperture) (s : State), s.Admits req ap Reg.HO_CMD →
    Effect (.modelLoad req ap) s (fun u =>
      if s.flag Fld.HO_CTL_MODEL_SRC = false ∨ s.flag Fld.HO_STAT_HO_ACTIVE = true then
        u.flag Fld.HO_EVT_LOAD_REFUSED = true ∧ Accesses (· = Reg.HO_EVT) s u
      else
        u.rd Reg.HO_Y0 = s.rd Reg.HO_LD_Y0 ∧ u.rd Reg.HO_AGE = s.rd Reg.HO_LD_AGE ∧ u.rd Reg.HO_TCO = s.rd Reg.HO_LD_TCO ∧
          u.flag Fld.HO_STAT_MODEL_READY = true ∧ u.ho.tRef = s.tc.now ∧ u.ho.codeRef = s.ho.code) ∧
    Effect (.forget req ap) s (fun u =>
      u.ho.learned = [] ∧ u.ho.held = [] ∧ u.rdN Reg.HO_SAMPLES = 0 ∧ u.flag Fld.HO_STAT_MODEL_READY = false ∧
        Accesses (fun a => a = Reg.HO_SAMPLES ∨ a = Reg.HO_STAT) { s with ho := u.ho } u) ∧
    Effect (.resend req ap) s (fun u =>
      match s.ho.uartSent with
      | some v => if s.get Fld.HO_CTL_STEER = 2 then u.ho.uartOut = s.ho.uartOut ++ [s.uartLine v] ∧ u.ho.uart = some ⟨v, false, true⟩ else u.ho = s.ho
      | none => u.ho = s.ho)

/-- Together: averages, model refits, model commands. -/
def Obligations.HoldoverModel : Prop := Claims.Averages ∧ Claims.ModelRefits ∧ Claims.ModelCommands

/-- DAC_INIT_WRITE: HO_DAC_INIT is written once, in the DAC's own word, and is then the code in force. -/
def Claims.DacInit : Prop :=
  ∀ s : State, Effect .dacInitWrite s (fun u =>
    if s.get Fld.HO_CTL_STEER = 1 ∧ s.ho.initDone = false then
      let c : Nat := s.rdN Reg.HO_DAC_INIT % 2 ^ 20
      u.ho = { s.ho with code := (c : Int), dacOut := s.ho.dacOut ++ [s.dacWord c], initDone := true } ∧ u.rdN Reg.HO_DAC_NOW = c ∧
        Writes (· = Reg.HO_DAC_NOW) { s with ho := u.ho } u
    else u = s)

/-- UART_COMMAND, UART_REPLY and UART_TIMEOUT: a changed total is sent and its reply awaited; a line that begins with HO_UART_ACK ends the wait; the
first timeout sends the same command once more, the second gives the link up. -/
def Claims.UartSteering : Prop :=
  ∀ s : State,
    Effect .uartCommand s (fun u =>
      let v := s.ho.code + nearestInt (s.ho.carry / s.steerUnit)
      if s.get Fld.HO_CTL_STEER ≠ 2 ∨ s.canSteer = false ∨ s.ho.uart.isSome = true ∨ s.ho.uartDown = true ∨ s.flag Fld.HO_STAT_CMD_HOLD = true ∨
          s.flag Fld.RS_STAT_OUTER_CLOSED = false then u = s
      else if s.ho.uartSent = some v then u = s.setHo { s.ho with carry := 0 }
      else u = s.setHo { s.ho with carry := 0, uartOut := s.ho.uartOut ++ [s.uartLine v], uart := some ⟨v, false, false⟩, uartSent := some v, code := v }) ∧
    (∀ line : List Byte, Effect (.uartReply line) s (fun u =>
      if s.ho.uart.isSome = true ∧ (s.regString (Reg.HO_UART_ACK 0) 2).isPrefixOf line = true then
        u.ho = { s.ho with uart := none, uartDown := false } ∧ u.flag Fld.HO_STAT_LINK_OK = true ∧ Writes (· = Reg.HO_STAT) { s with ho := u.ho } u
      else u = s)) ∧
    Effect .uartTimeout s (fun u =>
      match s.ho.uart with
      | none => u = s
      | some w =>
        if w.retried then
          u.ho = { s.ho with uart := none, uartDown := true } ∧ u.flag Fld.HO_STAT_LINK_OK = false ∧ u.flag Fld.HO_EVT_OSC_TMO = true ∧
            Touches (fun a => a = Reg.HO_STAT ∨ a = Reg.HO_EVT) { s with ho := u.ho } u
        else if s.flag Fld.HO_STAT_CMD_HOLD then u = s.setHo { s.ho with uart := none }
        else u.ho.uartOut = s.ho.uartOut ++ [s.uartLine w.value] ∧ u.ho.uart = some ⟨w.value, true, w.resend⟩ ∧ u = { s with ho := u.ho })

/-- TEMP_READ: nothing while TEMP_EN is 0; a reading sets HO_TEMP_NOW and TEMP_OK; the third failed read in a row clears TEMP_OK. -/
def Claims.TemperatureReads : Prop :=
  ∀ (v : Option (BitVec 16)) (s : State), Effect (.tempRead v) s (fun u =>
    if s.flag Fld.HO_CTL_TEMP_EN = false then u = s
    else match v with
      | some w =>
        u.rdI Reg.HO_TEMP_NOW = satSigned 32 (s.roundFree (signedOf 16 w.toNat * (s.get Fld.HO_TEMP_CFG_SCALE : Int)) 16) ∧
          u.flag Fld.HO_STAT_TEMP_OK = true ∧ u.ho.tempFails = 0
      | none =>
        u.ho = { s.ho with tempFails := s.ho.tempFails + 1 } ∧
          (if s.ho.tempFails + 1 = 3 then u.flag Fld.HO_STAT_TEMP_OK = false ∧ u.flag Fld.HO_EVT_TEMP_FAIL = true
           else u = { s with ho := u.ho }))

/-- Together: bandwidth writes, dac init, uart steering, temperature reads. -/
def Obligations.OscillatorLoops : Prop := Claims.BandwidthWrites ∧ Claims.DacInit ∧ Claims.UartSteering ∧ Claims.TemperatureReads

/-- ANCHOR_SET, ASTEP_STEP_REQUEST and ASTEP_RELEASE: the anchor is set at the selection's phase and time; the blanked step asks for a relative step
of the slot's phase; its squelch ends, with ASTEP_DONE where the step was applied. -/
def Claims.AnchorsAndBlankedSteps : Prop :=
  ∀ s : State,
    Effect .anchorSet s (fun u =>
      match s.rs.cur with
      | some n => if s.selected then u = { s with ho := u.ho } ∧
          u.ho.anchor.map (fun a => (a.atTime, a.phase, a.integral)) = some (s.tc.now, s.phaseOf n, 0) else u = s
      | none => u = s) ∧
    Effect .astepStepRequest s (fun u =>
      match s.ho.astep with
      | some a =>
        if a.stage = 0 then
          u.tc = { s.tc with step := some ⟨false, s.phaseOf a.slot * 2 ^ 32, true, false⟩ } ∧ u.ho.astep = some { a with stage := 1 } ∧
            u.flag Fld.TC_STAT_STEP_PENDING = true ∧ Writes (· = Reg.TC_STAT) { s with tc := u.tc, ho := u.ho } u
        else u = s
      | none => u = s) ∧
    Effect .astepRelease s (fun u =>
      match s.ho.astep with
      | some a =>
        if a.stage < 2 then u = s
        else u.ho = { s.ho with astep := none } ∧ u.flag Fld.HO_STAT_ASTEP_BUSY = false ∧ (a.stage = 2 → u.flag Fld.HO_EVT_ASTEP_DONE = true) ∧
          Touches (fun w => w = Reg.HO_STAT ∨ w = Reg.HO_EVT) { s with ho := u.ho } u
      | none => u = s)

/-- Together: signal losses, slot timers, lock timer, slot commands, anchors and blanked steps. -/
def Obligations.ReferenceSlots : Prop := Claims.SignalLosses ∧ Claims.SlotTimers ∧ Claims.LockTimer ∧ Claims.SlotCommands ∧ Claims.AnchorsAndBlankedSteps

/-! ### The GNSS baseband (chapter 07) -/

/-- GIF_LOST and GIF_RETURN: a lost interface withdraws its antenna's solution and its channels coast; a returned one has them track again. -/
def Claims.GnssInterfaces : Prop :=
  ∀ (ant : Fin 2) (s : State),
    Effect (.gifLost ant) s (fun u =>
      u.gifOk ant.val = false ∧ u.flag Fld.GN_EVT_GIF_LOST = true ∧ u.flag (Fld.GN_ANTa_SOL_VALID ant.val) = false ∧
        u.gn = { s.gn with chans := s.gn.chans.map (fun c => if c.ant = ant.val ∧ 1 ≤ c.st ∧ c.st ≤ 3 then { c with st := 4 } else c) }) ∧
    Effect (.gifReturn ant) s (fun u =>
      u.gifOk ant.val = true ∧
        u.gn = { s.gn with chans := s.gn.chans.map (fun c => if c.ant = ant.val ∧ c.st = 4 then { c with st := 3 } else c) } ∧
        Writes (fun a => a = Reg.GN_STAT ∨ a = Reg.GN_TRACKING) { s with gn := u.gn } u)

/-- ACQ_SEARCH: a search for what is not enabled does nothing; one that class 7 does not admitFor waits; a signal found and not yet followed takes a
FREE channel, in PULL_IN. -/
def Claims.Searches : Prop :=
  ∀ (ant : Fin 2) (sat : Sat) (found : Option GnTrack) (s : State), Effect (.acqSearch ant sat found) s (fun u =>
    if s.antOn ant.val = false ∨ s.gifOk ant.val = false ∨ s.bandOn 0 = false ∨ s.sysOn sat.sys.val = false then u = s
    else if (s.admitFor 7 1).1 then
      match found with
      | none => u = (s.admitFor 7 1).2
      | some x =>
        if s.follows ant.val 0 sat then u = (s.admitFor 7 1).2
        else match s.gn.chans.findIdx? (fun c => c.st == 0) with
          | none => u = (s.admitFor 7 1).2
          | some k =>
            u.gn.chans = s.gn.chans.set k { GnChan.free with st := 2, ant := ant.val, band := 0, sat := sat, cn0 := x.cn0, code := x.code,
                                                             doppler := x.doppler, multipath := x.multipath }
    else s.Withheld 7 (.acqSearch ant sat found) u)

/-- CHANNEL_INTEGRATION, TRACK_ENTRY and COAST_EXPIRY: an admitted integration takes the measurement, one without an allowance coasts and is counted;
PULL_IN ends in TRACK; a channel that has coasted too long is free. -/
def Claims.Channels : Prop :=
  ∀ (k : Fin 256) (s : State),
    let c := s.gnChan k.val
    (∀ x : GnTrack, Effect (.channelIntegration k x) s (fun u =>
      if s.flag Fld.GN_CTL_EN = false ∨ (s.flag Fld.GN_STAT_BURST_ACT = true ∧ s.gn.burstOpen = false) ∨ ¬(1 ≤ c.st ∧ c.st ≤ 3) then u = s
      else if (s.admitFor 7 1).1 then
        u.gnChan k.val = { c with cn0 := x.cn0, code := x.code, doppler := x.doppler, multipath := x.multipath,
                                  pullMs := if c.st = 2 then c.pullMs + 1 else c.pullMs }
      else
        u.gnChan k.val = { c with coasted := c.coasted + 1, coastAt := s.msNow :: c.coastAt.take 99 } ∧
          u.rdN Reg.GN_COAST_CNT = min (s.rdN Reg.GN_COAST_CNT + 1) 0xFFFFFFFF)) ∧
    Effect (.trackEntry k) s (fun u =>
      if c.st = 2 then
        u.gn.chans = s.gn.chans.set k.val { c with st := 3, coasted := 0 } ∧ Writes (· = Reg.GN_TRACKING) { s with gn := u.gn } u
      else u = s) ∧
    Effect (.coastExpiry k) s (fun u =>
      if c.st = 4 then u.gn.chans = s.gn.chans.set k.val GnChan.free ∧ Writes (· = Reg.GN_TRACKING) { s with gn := u.gn } u else u = s)

/-- GNSS_CHANNEL_FAULT: outside a shadow that covers it, a failed channel is out of service and no longer counted as a resource; its signal waits for
another channel. -/
def Claims.ChannelFaults : Prop :=
  ∀ (k : Fin 256) (s : State), s.consequential 14 = false ∨ s.safe = true → Effect (.gnssChannelFault k) s (fun u =>
    let c := s.gnChan k.val
    if c.st = 5 then u = s
    else
      u.gn = { s.gn with chans := s.gn.chans.set k.val { GnChan.free with st := 5 },
                         lostChans := if c.st = 0 then s.gn.lostChans else s.gn.lostChans ++ [c] } ∧
        u.flag Fld.GN_EVT_CHAN_FENCE = true ∧
        u.get Fld.GN_CAP_CHANNELS = s.get Fld.GN_CAP_CHANNELS - 1 ∧
        Touches (fun a => a = Reg.GN_TRACKING ∨ a = Reg.GN_CAP ∨ a = Reg.GN_EVT) { s with gn := u.gn } u)

/-- Together: gnss interfaces, searches, channels, channel faults. -/
def Obligations.GnssReceivers : Prop := Claims.GnssInterfaces ∧ Claims.Searches ∧ Claims.Channels ∧ Claims.ChannelFaults

/-- NAV_RECORD: the subframe goes to the ring of GN_CFG as a record of the stated layout, or waits where the ring's class stalls. -/
def Claims.NavRecords : Prop :=
  ∀ (ant band : Fin 2) (sat : Sat) (crcOk : Bool) (bits rx : Nat) (payload : List Byte) (s : State),
    Effect (.navRecord ant band sat crcOk bits rx payload) s (fun u =>
      let w0 := sat.sys.val * 2 ^ 30 + sat.prn % 64 * 2 ^ 24 + ant.val * 2 ^ 23 + band.val * 2 ^ 22 + (if crcOk then 2 ^ 21 else 0) + bits % 2 ^ 12
      let body := wordsBytes [w0, secOf rx % 2 ^ 32, nsOf rx, fracOf rx / 2 ^ 32 * 2 ^ 16] ++ payload.take 112
      let r := s.toRing (s.get Fld.GN_CFG_NAV_RING) body ⟨19, some rx, none, 0⟩
      if r.1 = .stalled then u = r.2.withhold (.navRecord ant band sat crcOk bits rx payload) else u = r.2)

/-- PRED_POST: a segment of no known system, of PRN 0, of no or too long a span, with a reserved bit set or already over is rejected and counted; any
other joins the table, at 64 for one satellite in place of its earliest. -/
def Claims.PredictionPosts : Prop :=
  ∀ (req : Requester) (ap : Aperture) (s : State), s.Admits req ap Reg.GN_PRED_CMD → Effect (.predPost req ap) s (fun u =>
    let rejected := u.gn = s.gn ∧ u.flag Fld.GN_PRED_STAT_REJ = true ∧ u.rdN Reg.GN_PRED_REJ = min (s.rdN Reg.GN_PRED_REJ + 1) 0xFFFFFFFF ∧
      Accesses (fun a => a = Reg.GN_PRED_STAT ∨ a = Reg.GN_PRED_REJ) s u
    match s.stagedSeg with
    | none => rejected
    | some g =>
      if g.sat.prn = 0 ∨ g.len = 0 ∨ 3600 < g.len ∨ s.segReserved = true ∨ g.start + g.len ≤ secOf s.tc.now then rejected
      else
        g ∈ u.gn.segs ∧ ((s.gn.segs.filter (fun x => x.ant == g.ant && x.sat == g.sat)).length < 64 → u.gn.segs = s.gn.segs ++ [g]) ∧
          Accesses (· = Reg.GN_ANTa_COVER g.ant) { s with gn := u.gn } u)

/-- SOLUTION_EPOCH: nothing in BRIDGE or while the baseband is off; otherwise each antenna that is on and whose interface is OK is solved, and the
burst window closes. An antenna that is off keeps its solution. -/
def Claims.SolutionEpochs : Prop :=
  ∀ (obs : List GnObs) (s : State),
    Effect (.solutionEpoch obs) s (fun u =>
      if s.bridging = true ∨ s.flag Fld.GN_CTL_EN = false then u = s
      else u.gn.burstOpen = false ∧
        (s.antOn 1 = false → u.flag (Fld.GN_ANTa_SOL_VALID 1) = s.flag (Fld.GN_ANTa_SOL_VALID 1) ∧
          u.rd64 (Reg.GN_ANTa_X_L 1) = s.rd64 (Reg.GN_ANTa_X_L 1)) ∧
        (s.antOn 0 = false → s.antOn 1 = false → u = s.setGn { s.gn with burstOpen := false })) ∧
    (∀ a, s.antOn a = true → s.gifOk a = true → s.satFixes a obs = [] → a < 2 →
      (s.solve a obs).flag (Fld.GN_ANTa_SOL_VALID a) = false ∧ (s.solve a obs).get (Fld.GN_ANTa_SOL_USED a) = 0)

/-- Together: nav records, prediction posts, solution epochs. -/
def Obligations.GnssSolutions : Prop := Claims.NavRecords ∧ Claims.PredictionPosts ∧ Claims.SolutionEpochs

/-- RAIM_BAR_EXPIRY, SOLUTION_TIMEOUT and BURST_WINDOW: the bar of one satellite at one antenna ends; a solution too old loses its validity, not in
BRIDGE; the second's burst window opens where burst tracking or STANDBY asks for it. -/
def Claims.GnssTimers : Prop :=
  ∀ (ant : Fin 2) (s : State),
    (∀ sat : Sat, Effect (.raimBarExpiry ant sat) s (fun u =>
      u = s.setGn { s.gn with bars := s.gn.bars.filter (fun b => !(b.1 == ant.val && b.2.1 == sat)) })) ∧
    Effect (.solutionTimeout ant) s (fun u =>
      if s.bridging = true ∨ s.flag (Fld.GN_ANTa_SOL_VALID ant.val) = false then u = s
      else u.flag (Fld.GN_ANTa_SOL_VALID ant.val) = false ∧
        (1 ≤ s.slotState ant.val → s.slotState ant.val ≤ 4 → u.slotState ant.val = 6 ∧ u.flag (Fld.RSn_EVT_LOST_SIGNAL ant.val) = true)) ∧
    Effect .burstWindow s (fun u =>
      let want := s.flag Fld.GN_CTL_BURST || decide (s.get Fld.CK_STAT_PSTATE = 1)
      u.flag Fld.GN_STAT_BURST_ACT = want ∧ u.gn = { s.gn with burstOpen := want } ∧ Writes (· = Reg.GN_STAT) { s with gn := u.gn } u)

/-- LEAP_POST, OSN_LOAD, OSN_CLEAR and OSNMA_VERIFY: leap data wait for the boundary; a root key comes into force and one is forgotten, with what was
authenticated under it; a check is one KEYOP unit, and a failed tag marks its satellite. -/
def Claims.LeapAndOsnma : Prop :=
  ∀ (req : Requester) (ap : Aperture) (s : State),
    (s.Admits req ap Reg.GN_LEAP_CMD → Effect (.leapPost req ap) s (fun u =>
      u.gn = { s.gn with leapDue := true } ∧ Accesses (fun _ => False) { s with gn := u.gn } u)) ∧
    (s.Admits req ap Reg.GN_OSN_CMD →
      Effect (.osnLoad req ap) s (fun u =>
        u.gn.root.isSome = true ∧ u.gn.authed = [] ∧ u.gn.failed = [] ∧ u.flag Fld.GN_STAT_OSN_ROOT = true ∧
          Accesses (· = Reg.GN_STAT) { s with gn := u.gn } u) ∧
      Effect (.osnClear req ap) s (fun u =>
        u.gn = { s.gn with root := none, authed := [], failed := [] } ∧ u.flag Fld.GN_STAT_OSN_ROOT = false ∧
          Accesses (· = Reg.GN_STAT) { s with gn := u.gn } u)) ∧
    (∀ (prn iod : Nat) (isKey : Bool) (data tag : List Byte), Effect (.osnmaVerify prn iod isKey data tag) s (fun u =>
      match s.gn.root with
      | none => u = s
      | some root =>
        if s.osnmaActive = false then u = s
        else if (s.admitFor 12 1).1 = false then s.Withheld 12 (.osnmaVerify prn iod isKey data tag) u
        else if Config.osnmaOk root isKey data tag then
          (isKey = true → u = (s.admitFor 12 1).2) ∧ (isKey = false → (prn, iod) ∈ u.gn.authed ∧ prn ∉ u.gn.failed)
        else u.flag Fld.GN_EVT_OSN_FAIL = true ∧ (isKey = true → u.gn = s.gn) ∧ (isKey = false → prn ∈ u.gn.failed ∧ ∀ e ∈ u.gn.authed, e.1 ≠ prn)))

/-- Together: gnss timers, leap and osnma. -/
def Obligations.GnssUpkeep : Prop := Claims.GnssTimers ∧ Claims.LeapAndOsnma

/-- FE_XFER and FE_XFER_DONE (R178): a transfer while one is in progress is ignored and counted in DROP; any other sends its 8 to 32 bits to the front end
that CS names, with BUSY 1 until the transfer completes and the bits received stand in GN_FE_RD. -/
def Obligations.FrontEndTransfers : Prop :=
  ∀ s : State,
    (∀ (req : Requester) (ap : Aperture) (v : Word), s.Admits req ap Reg.GN_FE_XFER → Effect (.feXfer req ap v) s (fun u =>
      if s.flag Fld.GN_FE_STAT_BUSY then u.gn = s.gn ∧ u.get Fld.GN_FE_STAT_DROP = min (s.get Fld.GN_FE_STAT_DROP + 1) 0xFFFF ∧ Accesses (· = Reg.GN_FE_STAT) s u
      else
        let n := max 8 (v.toNat / 2 ^ 24 % 2 ^ 6 + 1)
        let data := v.toNat % 2 ^ 24 + 2 ^ 24 * (s.rdN Reg.GN_FE_WR % 2 ^ 8)
        u.gn = { s.gn with feSent := s.gn.feSent ++ [(v.toNat / 2 ^ 31 % 2, n, data % 2 ^ n)] } ∧ u.flag Fld.GN_FE_STAT_BUSY = true ∧
          Accesses (· = Reg.GN_FE_STAT) { s with gn := u.gn } u)) ∧
    (∀ bits : Nat, Effect (.feXferDone bits) s (fun u =>
      if s.flag Fld.GN_FE_STAT_BUSY then
        u.rdN Reg.GN_FE_RD = bits % 2 ^ 32 ∧ u.flag Fld.GN_FE_STAT_BUSY = false ∧ Writes (fun a => a = Reg.GN_FE_RD ∨ a = Reg.GN_FE_STAT) s u
      else u = s))

/-! ### The Metrology Shell (chapter 08) -/

/-- TDC_EDGE: an edge is taken where the Shell measures and the channel serves; one within 2 ns of the last collides, one that finds 32 waiting is
lost, and both are counted; any other is the newest entry of the channel's FIFO. -/
def Claims.EdgesAreCaptured : Prop :=
  ∀ (ch : Fin 48) (raw : Fin 1024) (tag : Nat) (s : State), Effect (.tdcEdge ch raw tag) s (fun u =>
    let x := s.tdc ch.val
    let e : TdcEdge := ⟨s.tc.cycle, s.tc.now, s.incr, raw.val, x.tgen, tag⟩
    if s.shMeasures = false ∨ x.fenced = true ∨ s.sh.liveCal.any (fun l => l.chan == ch.val && l.step == 1) = true then u = s
    else if ∃ t0, x.lastEdge = some t0 ∧ s.edgeTime ch.val e < t0 + 2 * nsU then
      u.sh = { s.sh with chans := s.sh.chans.modify ch.val (fun y => { y with lossPrior := true }) } ∧
        u.rdN (Reg.SHc_COLLIDE ch.val) = min (s.rdN (Reg.SHc_COLLIDE ch.val) + 1) 0xFFFFFFFF ∧
        Writes (· = Reg.SHc_COLLIDE ch.val) { s with sh := u.sh } u
    else if 32 ≤ x.fifo.length then
      u.sh = { s.sh with chans := s.sh.chans.modify ch.val (fun y => { y with lossPrior := true, lastEdge := some (s.edgeTime ch.val e) }) } ∧
        u.rdN (Reg.SHc_FIFO_OVF ch.val) = min (s.rdN (Reg.SHc_FIFO_OVF ch.val) + 1) 0xFFFFFFFF ∧
        Writes (· = Reg.SHc_FIFO_OVF ch.val) { s with sh := u.sh } u
    else
      u.sh.chans = s.sh.chans.modify ch.val (fun y => { y with fifo := y.fifo ++ [e], lastEdge := some (s.edgeTime ch.val e) }) ∧
        u = { s with sh := u.sh })

/-- PUBLICATION: where the Shell measures and some FIFO has an entry, the next channel's oldest entry leaves it and is published; otherwise nothing
happens. -/
def Claims.Publications : Prop :=
  ∀ s : State, Effect .publication s (fun u =>
    match s.drainNext with
    | none => u = s
    | some c =>
      if s.shMeasures then
        ∃ e r, (s.tdc c).fifo = e :: r ∧ u = (s.popEdge c).drainEdge c e ∧
          (s.popEdge c).sh = { s.sh with chans := s.sh.chans.modify c (fun x => { x with fifo := x.fifo.tail }), turn := (c + 1) % 48 }
      else u = s)

/-- A publication that goes out is a record of twelve words of its source, numbered in order; the marks it carried end with it. -/
def Claims.RecordsAreNumbered : Prop :=
  ∀ (p : Pub) (s : State), p.src < 48 →
    (s.sendPub p).sh.seq = s.sh.seq + 1 ∧ (s.sendPub p).rd64 Reg.SH_SEQ_L = (s.sh.seq + 1) % 2 ^ 64 ∧
      (s.sendPub p).rdN (Reg.SH_REC (12 * p.src + 1)) = (s.sh.seq + 1) % 2 ^ 32 ∧ (s.sendPub p).rdN (Reg.SH_REC (12 * p.src + 7)) = nsOf p.time ∧
      (s.sendPub p).rdN (Reg.SH_REC (12 * p.src + 10)) = p.payload % 2 ^ 32 ∧
      (s.sendPub p).sh.gap = s.sh.gap.set p.src false ∧ (s.sendPub p).sh.restart = s.sh.restart.set p.src false

/-- INTERVAL_PAIRING and STALE_START: a stop is paired with a start of its unit, which is then gone, or is counted as an orphan; a start left unmatched
is discarded and counted at the channel of its stops. -/
def Claims.IntervalUnits : Prop :=
  ∀ (n : Fin 16) (s : State),
    (∀ (ch : Fin 48) (stop : Resolved), Effect (.intervalPairing n ch stop) s (fun u =>
      match s.sourceOf ch.val with
      | none => u = s
      | some x =>
        if s.shMeasures = false then u = s
        else match State.pairOf ((s.sh.units.getD n.val []).filter (fun a => State.stopChan n.val a.owner == x)) stop with
          | none => u.rdN (Reg.SHc_ORPHAN ch.val) = min (s.rdN (Reg.SHc_ORPHAN ch.val) + 1) 0xFFFFFFFF ∧ Writes (· = Reg.SHc_ORPHAN ch.val) s u
          | some a => u.sh.units = s.sh.units.modify n.val (fun l => l.erase a))) ∧
    Effect (.staleStart n) s (fun u =>
      match s.sh.units.getD n.val [] with
      | [] => u = s
      | a :: r =>
        u.sh = { s.sh with units := s.sh.units.set n.val r } ∧
          u.rdN (Reg.SHc_STALE_START (State.stopChan n.val a.owner)) = min (s.rdN (Reg.SHc_STALE_START (State.stopChan n.val a.owner)) + 1) 0xFFFFFFFF ∧
          Writes (· = Reg.SHc_STALE_START (State.stopChan n.val a.owner)) { s with sh := u.sh } u)

/-- Together: edges are captured, publications, records are numbered, interval units. -/
def Obligations.Measurements : Prop := Claims.EdgesAreCaptured ∧ Claims.Publications ∧ Claims.RecordsAreNumbered ∧ Claims.IntervalUnits

/-- ALLOWANCE_TIMEOUT, LIVE_CAL_START and STALE_TABLE: without an allowance nothing more is published; a live channel's calibration takes the lowest
free spare, at most CAL_PAR at once; a table too old marks its channel. -/
def Claims.CalibrationStarts : Prop :=
  ∀ s : State,
    Effect .allowanceTimeout s (fun u => u = s.setSh { s.sh with posted := false }) ∧
    (∀ ch : Fin 48, Effect (.liveCalStart ch) s (fun u =>
      match s.freeSpares with
      | sp :: _ =>
        if s.shMeasures = true ∧ s.sh.posted = true ∧ ch.val < 44 ∧ s.chanLive ch.val = true ∧ (s.tdc ch.val).fenced = false ∧
            s.sh.liveCal.length < s.calPar ∧ s.sh.liveCal.all (fun l => l.chan != ch.val) = true then
          u.sh = { s.sh with liveCal := s.sh.liveCal ++ [⟨ch.val, sp, 0, 0, 0, 0, 0⟩] } ∧ Writes (· = Reg.SH_STAT) { s with sh := u.sh } u
        else u = s
      | [] => u = s)) ∧
    (∀ ch : Fin 48, Effect (.staleTable ch) s (fun u =>
      if s.shMeasures = true ∧ s.chanLive ch.val = true ∧ (s.tdc ch.val).stale = false ∧ (s.tdc ch.val).fenced = false then
        u.sh = { s.sh with chans := s.sh.chans.modify ch.val (fun x => { x with stale := true }) } ∧ u.flag Fld.SH_STAT_STALE = true ∧
          u.flag Fld.SH_EVT_STALE = true ∧ Touches (fun a => a = Reg.SH_STAT ∨ a = Reg.SH_EVT) { s with sh := u.sh } u
      else u = s))

/-- CAL_PASS_COMPLETE: only a pass of SH_CAL_N edges over 1,024 bins on a channel that may be in a pass counts; one with every bin counted and within
the limit under the table in force gives a new table, which becomes the active one. -/
def Claims.CalibrationPasses : Prop :=
  ∀ (ch : Fin 48) (hist ring : List Nat) (pulse : Rat) (s : State), Effect (.calPassComplete ch hist ring pulse) s (fun u =>
    if s.mayPass ch.val = false ∨ hist.length ≠ 1024 ∨ hist.foldl (· + ·) 0 ≠ s.calN then u = s
    else
      let x := s.tdc ch.val
      let y := u.tdc ch.val
      let good := withinChi (chiSquare hist (s.binShare ch.val)) s.sh.limits.chi
      (ch.val < s.sh.chans.length → y.lastHist = hist) ∧
        (emptyBin hist = true → y.tgen = x.tgen ∧ y.bufA = x.bufA ∧ y.bufB = x.bufB ∧ u.rd Reg.SH_CAL_PASSES = s.rd Reg.SH_CAL_PASSES) ∧
        (emptyBin hist = false → good = true → u.rdN Reg.SH_CAL_PASSES = (s.rdN Reg.SH_CAL_PASSES + 1) % 2 ^ 32 ∧
          (ch.val < s.sh.chans.length → y.tgen = !x.tgen ∧ y.stale = false ∧ y.acceptedAt = some s.tc.now ∧
            u.binTable ch.val y.tgen = some ⟨tableOf hist (Config.treeConst s.sh.lrp ch.val - pulse), hist⟩)))

/-- OCAL, DELAY_LINE_CAL and OUTPUT_LIVE_CHECK: the outputs of SH_OCAL_MASK are to be measured; a measured delay line is no longer to be; a live check
of an output that is not live, or by a Shell that does not measure, is nothing. -/
def Claims.OutputMeasurements : Prop :=
  ∀ (out : Fin 16) (s : State),
    (∀ (req : Requester) (ap : Aperture), s.Admits req ap Reg.SH_CMD → Effect (.ocal req ap) s (fun u =>
      u.sh = { s.sh with ocal := s.sh.ocal ||| (s.rdN Reg.SH_OCAL_MASK % 65536) } ∧ Accesses (fun _ => False) { s with sh := u.sh } u)) ∧
    (∀ delays : List Nat, Effect (.delayLineCal out delays) s (fun u =>
      if s.shMeasures = true ∧ s.outLive out.val = false ∧ s.sh.ocal.testBit out.val = true ∧ delays.length = 64 ∧ (s.chanOf 7).isSome = true then
        u.sh.ocal.testBit out.val = false ∧ ∀ b, b ≠ out.val → u.sh.ocal.testBit b = s.sh.ocal.testBit b
      else u = s)) ∧
    (∀ interval : Int, Effect (.outputLiveCheck out interval) s (fun u =>
      match s.chanOf 7 with
      | none => u = s
      | some c => if s.shMeasures = true ∧ s.outLive out.val = true then u = s.publishInterval c 7 out.val interval false false else u = s))

/-- Together: calibration starts, calibration passes, output measurements. -/
def Obligations.Calibration : Prop := Claims.CalibrationStarts ∧ Claims.CalibrationPasses ∧ Claims.OutputMeasurements

/-- CHANNEL_FENCE: outside a shadow that covers it, a channel that fails is fenced, its FIFO is lost, a GAP is reported, and it is no longer counted
as a resource; one already fenced changes nothing. -/
def Claims.ChannelFences : Prop :=
  ∀ (ch : Fin 48) (s : State), s.consequential 10 = false ∨ s.safe = true → Effect (.channelFence ch) s (fun u =>
    if (s.tdc ch.val).fenced then u = s
    else
      u.sh.chans = s.sh.chans.modify ch.val (fun x => { x with fenced := true, fifo := [], stale := false }) ∧ u.flag Fld.SH_EVT_FENCE = true ∧
        u.get Fld.SH_CAP_CHANNELS = s.get Fld.SH_CAP_CHANNELS - 1)

/-- MB_APPEND, MB_EXECUTE, MB_ABORT: while BUSY every one is refused; APPEND adds SH_MB_LEN bytes of the buffer to the stage, EXECUTE consumes the nonce
and begins, ABORT empties the stage. -/
def Claims.MailboxCommands : Prop :=
  ∀ (req : Requester) (ap : Aperture) (s : State), s.Admits req ap Reg.SH_MB_CMD →
    let refused := fun u : State => u.flag Fld.SH_EVT_MB_REJ = true ∧ Accesses (· = Reg.SH_EVT) s u
    Effect (.mbAppend req ap) s (fun u =>
      let n := clampNat 4 4032 (s.rdN Reg.SH_MB_LEN % 4096)
      if s.flag Fld.SH_MB_STAT_BUSY then refused u
      else
        u.sh = (if 65536 < s.sh.staged.length + n then { s.sh with tooLong := true } else { s.sh with staged := s.sh.staged ++ s.mbBuf n }) ∧
          u.get Fld.SH_MB_STAT_STAGED = u.sh.staged.length / 4 % 2 ^ Fld.SH_MB_STAT_STAGED.width ∧
          Accesses (· = Reg.SH_MB_STAT) { s with sh := u.sh } u) ∧
    Effect (.mbExecute req ap) s (fun u =>
      if s.flag Fld.SH_MB_STAT_BUSY then refused u
      else
        u.sh = { s.sh with execNonce := (List.range 4).map (fun k => s.rdN (Reg.SH_NONCE k)) } ∧ u.flag Fld.SH_MB_STAT_BUSY = true ∧
          (∀ k, k < 4 → u.rd (Reg.SH_NONCE k) = Config.shellNonce (s.freeCtr + 1) k)) ∧
    Effect (.mbAbort req ap) s (fun u =>
      if s.flag Fld.SH_MB_STAT_BUSY then refused u
      else u.sh = { s.sh with staged := [], tooLong := false } ∧ u.get Fld.SH_MB_STAT_STAGED = 0 ∧ Accesses (· = Reg.SH_MB_STAT) { s with sh := u.sh } u)

/-- SESSION_COMPLETE: the result is that of the first check that fails, or 10 where the store write failed after the fuse; a session that passes blows
one fuse; the stage is empty and BUSY ends. -/
def Claims.SessionsComplete : Prop :=
  ∀ (storeFail : Bool) (s : State), Effect (.sessionComplete storeFail) s (fun u =>
    if s.flag Fld.SH_MB_STAT_BUSY then
      u.get Fld.SH_MB_STAT_RESULT = (if s.sessionResult = 0 ∧ storeFail = true then 10 else s.sessionResult) ∧
        u.flag Fld.SH_MB_STAT_BUSY = false ∧ u.sh.staged = [] ∧ u.flag Fld.SH_EVT_CMD_DONE = true ∧
        u.sh.fuses = s.sh.fuses + (if s.sessionResult = 0 then 1 else 0) ∧
        (s.sessionResult ≠ 0 → u.sh.lrp = s.sh.lrp ∧ u.sh.audit = s.sh.audit)
    else u = s)

/-- SHELL_RESET, SHELL_READY and SHELL_PIP_WDOG: the Shell starts without tables, FIFOs, units or stage and with RESTART on every source, its seal
count kept; it becomes READY; a second watchdog expiry within 1 s is METRO_FAIL. -/
def Claims.ShellStarts : Prop :=
  ∀ s : State,
    (∀ hashOk : Bool, Effect (.shellReset hashOk) s (fun u =>
      u.sh.chans = List.replicate 48 TdcChan.fresh ∧ u.sh.units = List.replicate 16 [] ∧ u.sh.staged = [] ∧ u.sh.restart = List.replicate 48 true ∧
        u.sh.seq = 0 ∧ u.sh.fuses = s.sh.fuses ∧ u.sh.lrp = s.sh.lrp ∧ u.flag Fld.SH_EVT_RESTART = true ∧
        (hashOk = false → u.shState = 4 ∧ u.flag Fld.SH_STAT_UNSEALED = true) ∧
        (hashOk = true → s.sh.fuses = s.sh.storeCount → u.shState = if s.flag Fld.TC_STAT_TCLK_OK then 2 else 1))) ∧
    Effect .shellReady s (fun u =>
      if s.shState = 2 then u.shState = 3 ∧ u.sh = { s.sh with readyAt := s.tc.cycle, quiet := 0 } else u = s) ∧
    Effect .shellPipWdog s (fun u =>
      if s.shState = 0 then u = s
      else u.sh = { s.sh with wdogAt := some s.tc.now, gap := List.replicate 48 true } ∧
        ((∃ t, s.sh.wdogAt = some t ∧ s.tc.now < t + secU) → u.shState = 4 ∧ u.flag Fld.SH_STAT_UNSEALED = true))

/-- SHELL_LOST and SHELL_RESET_ASSERT: two frames without a ratio while TCLK is present lose every source that the Shell measures, and a stopped Shell
loses them too; a commit that has blown its fuse stays counted. -/
def Claims.ShellLosses : Prop :=
  ∀ s : State,
    Effect .shellLost s (fun u =>
      if s.flag Fld.TC_STAT_TCLK_OK = true ∧ 2 ≤ s.sh.quiet then
        (∀ n, 2 ≤ n → n ≤ 5 → s.bridging = false → 1 ≤ s.slotState n → s.slotState n ≤ 4 → u.slotState n = 6) ∧
          u.gifOk 0 = false ∧ u.gifOk 1 = false
      else u = s) ∧
    (∀ fuseBlown : Bool, Effect (.shellResetAssert fuseBlown) s (fun u =>
      u.shState = 0 ∧ u.sh.staged = [] ∧ u.sh.lrp = s.sh.lrp ∧ u.gifOk 0 = false ∧ u.gifOk 1 = false ∧
        u.sh.fuses = s.sh.fuses + (if fuseBlown = true ∧ s.flag Fld.SH_MB_STAT_BUSY = true ∧ s.sessionResult = 0 then 1 else 0)))

/-- Together: channel fences, mailbox commands, sessions complete, shell starts, shell losses. -/
def Obligations.ShellLife : Prop := Claims.ChannelFences ∧ Claims.MailboxCommands ∧ Claims.SessionsComplete ∧ Claims.ShellStarts ∧ Claims.ShellLosses

/-! ### The error budget and statements (chapter 09) -/

/-- HIT_HOLD_EXPIRY and BOUND_LIMIT_CROSSED: the hit component ends; a valid bound above the limit sets OVER_LIMIT and its event, once. -/
def Claims.BoundEvents : Prop :=
  ∀ s : State,
    Effect .hitHoldExpiry s (fun u => u = s.setEb { s.eb with hit := 0, hitMs := 0 }) ∧
    Effect .boundLimitCrossed s (fun u =>
      if s.flag Fld.EB_STAT_VALID = true ∧ s.flag Fld.EB_STAT_OVER_LIMIT = false then
        u.flag Fld.EB_STAT_OVER_LIMIT = true ∧ u.flag Fld.EB_EVT_LIMIT = true ∧ Touches (fun a => a = Reg.EB_STAT ∨ a = Reg.EB_EVT) s u
      else u = s)

/-- ATT_REQ and ATT_COMPLETE: a request while one is in progress, or for one of the stated reasons, is refused with its code, the lowest of several;
any other is BUSY until its one unit of KEYOP is admitted and it is signed, with RESULT 0. -/
def Claims.Statements : Prop :=
  ∀ s : State,
    (∀ req : Requester, Effect (.attReq req) s (fun u =>
      let refused := fun code => u.get Fld.EB_ATT_STAT_RESULT = code ∧ u.flag Fld.EB_EVT_ATT_REFUSED = true ∧
        Touches (fun a => a = Reg.EB_ATT_STAT ∨ a = Reg.EB_EVT) s u
      if s.flag Fld.EB_ATT_STAT_BUSY then refused 1
      else match s.eb.snap with
        | none => refused (s.statementRefusal req)
        | some x =>
          if s.statementRefusal req ≠ 0 then refused (s.statementRefusal req)
          else u.eb.att = some ⟨req, s.statementPayload x, (s.admitFor 12 1).1⟩ ∧ u.flag Fld.EB_ATT_STAT_BUSY = true)) ∧
    Effect .attComplete s (fun u =>
      match s.eb.att with
      | none => u = s
      | some a =>
        if a.admitted then
          u.eb = { s.eb with att := none } ∧ u.flag Fld.EB_ATT_STAT_BUSY = false ∧ u.get Fld.EB_ATT_STAT_RESULT = 0 ∧
            u.get Fld.EB_ATT_STAT_LEN = min (s.coseSign1 a.payload).length 1024 ∧ u.flag Fld.EB_EVT_ATT_DONE = true
        else u = s)

/-- Together: bound events, statements. -/
def Obligations.BoundAndStatements : Prop := Claims.BoundEvents ∧ Claims.Statements

/-! ### The front ports (chapter 10) -/

/-- FRAME_RECEIVE: nothing at a port that is down, fenced or stopped; every other frame is counted; one too short, too long or with a wrong FCS is
counted as that, and goes no further. -/
def Claims.FramesReceived : Prop :=
  ∀ (p : Fin 16) (bytes : List Byte) (pos : WirePos) (s : State), Effect (.frameReceive p bytes pos) s (fun u =>
    if s.linkUp p.val = false ∨ s.fenced p.val = true ∨ s.safe = true then u = s
    else
      ∃ t : State, t.rd64 (Reg.PTp_RX_FRAMES_L p.val) = (s.rd64 (Reg.PTp_RX_FRAMES_L p.val) + 1) % 2 ^ 64 ∧
        t.sw = s.sw ∧ t.ports = s.ports ∧ t.tc = s.tc ∧
        ((s.port p.val).cut = none →
          let b := bytes.take (bytes.length - 4)
          if bytes.length < 64 then u = (t.bump (Reg.PTp_RUNT p.val)).evt (Fld.PTp_EVT_RUNT p.val) ∧ t.rd (Reg.PTp_RUNT p.val) = s.rd (Reg.PTp_RUNT p.val)
          else if s.maxLen p.val < bytes.length then
            u = (t.bump (Reg.PTp_OVERSIZE p.val)).evt (Fld.PTp_EVT_OVERSIZE p.val) ∧ t.rd (Reg.PTp_OVERSIZE p.val) = s.rd (Reg.PTp_OVERSIZE p.val)
          else if bytes.drop (bytes.length - 4) ≠ fcsOf b then
            u = t.bump (Reg.PTp_FCS_ERR p.val) ∧ t.rd (Reg.PTp_FCS_ERR p.val) = s.rd (Reg.PTp_FCS_ERR p.val)
          else if beAt b 12 2 = 0x8808 then u = t.macControl p.val b
          else u = t.rxSwitch p.val b (s.rxStamp p.val pos)))

/-- A good frame goes where its rule says: a mask of no port drops it, a single port below its threshold takes it, with the rule's priority. -/
def Claims.ClassifiedFrames : Prop :=
  ∀ (p : Nat) (b : List Byte) (stamp : Option Nat) (mask prio ring code : Nat) (s : State),
    s.classify (p / 2) (s.rxForm p b).1 = .direct mask prio ring code →
    (mask % 2 ^ 20 = 0 → (s.rxSwitch p b stamp).rdN Reg.SW_NODEST = min (s.rdN Reg.SW_NODEST + 1) 0xFFFFFFFF ∧ (s.rxSwitch p b stamp).sw = s.sw) ∧
    (∀ d, d < 20 → mask % 2 ^ 20 ≠ 0 → s.resolveLag mask (s.rxForm p b).1 = ([d], []) → s.swAdmits d prio (cellsOf (s.maxLen p)) = true →
      ∃ r, r.bytes = (s.rxForm p b).1 ∧ r.src = p ∧ r.dest = d ∧ r.prio = prio ∧ r.stamp = stamp ∧
        (s.rxSwitch p b stamp).sw = { s.sw with nextId := s.sw.nextId + 1, queues := s.sw.queues.modify d (· ++ [r]) })

/-- Together: frames received, classified frames. -/
def Obligations.FramesIn : Prop := Claims.FramesReceived ∧ Claims.ClassifiedFrames

/-- RESERVATION_REQUEST and FRAME_HANDOVER: an engine's oldest message for the port asks, and is granted the first instant of the grid, from E within
the window, that is clear, or is refused and counted; the sealed frame joins its reservation unless it comes too late or has another length. -/
def Claims.Reservations : Prop :=
  ∀ (p : Fin 16) (eng : Engine) (s : State),
    (∀ grid : List Nat, Effect (.reservationRequest p eng grid) s (fun u =>
      match s.sw.jobs.find? (fun j => j.eng == State.engPort eng && j.port == p.val) with
      | none => u = s
      | some j =>
        if s.safe then u = s
        else
          let e := (s.view + j.lead) * nsU
          let cut := fun t : Nat => match s.ls.cut with | some c => decide (c ≤ t) | none => false
          let pick := grid.find? (fun t => decide (e ≤ t ∧ t ≤ e + s.resWin p.val) && s.slotClear p.val t j.len && !cut t)
          let refused := u.ports = s.ports ∧ u.flag (Fld.PTp_EVT_RES_REFUSED p.val) = true ∧
            u.rdN (Reg.PTp_RES_REFUSED p.val) = min (s.rdN (Reg.PTp_RES_REFUSED p.val) + 1) 0xFFFFFFFF
          u.sw = { s.sw with jobs := s.sw.jobs.erase j } ∧
            match pick with
            | none => refused
            | some t =>
              if e < s.view * nsU + s.launchMin p.val + 500 * nsU ∨ s.stampTx p.val = false ∨ s.gateOpen p.val = false ∨
                  256 ≤ (s.port p.val).res.length then refused
              else
                u.ports = s.ports.modify p.val (fun x => { x with res := x.res ++ [⟨(s.port p.val).nextRes, t, j, none, none, false⟩],
                                                                  nextRes := x.nextRes + 1 }) ∧
                  u.rdN (Reg.PTp_SLOT_DLY p.val) = min (psOf (t - e)) 0xFFFFFFFF)) ∧
    Effect (.frameHandover p eng) s (fun u =>
      match s.openRes p.val (State.engPort eng) with
      | none => u = s
      | some r =>
        if s.safe then u = s
        else match (match eng with | .ptp => s.peSeal r.job r.t | .ntp => s.neSeal r.job r.t) with
          | none => u.ports = s.ports
          | some x =>
            if r.t < s.tc.now + s.launchMin p.val then
              u.rdN (Reg.PTp_MISS_LATE p.val) = min (s.rdN (Reg.PTp_MISS_LATE p.val) + 1) 0xFFFFFFFF ∧
                (u.port p.val).res = (s.port p.val).res.filter (fun y => y.id != r.id)
            else if x.1.length + 4 ≠ r.job.len then
              u.rdN (Reg.PTp_MISS_LENGTH p.val) = min (s.rdN (Reg.PTp_MISS_LENGTH p.val) + 1) 0xFFFFFFFF ∧
                (u.port p.val).res = (s.port p.val).res.filter (fun y => y.id != r.id)
            else
              u = s.modPort p.val (fun y => { y with res := y.res.map (fun z =>
                if z.id = r.id then { z with frame := some x.1, gen := some x.2.1, auth := x.2.2 } else z) }))

/-- LAUNCH and LAUNCH_MISS: time reaches the earliest T; its frame crosses then, unless one of the stated causes stands, whose counter takes it; either
way the reservation has gone. -/
def Claims.Launches : Prop :=
  ∀ (p : Fin 16) (s : State),
    (∀ pos : WirePos, Effect (.launch p pos) s (fun u =>
      match s.firstRes p.val with
      | none => u = s
      | some r =>
        let t := s.advanceTo r.t
        (u.port p.val).res = (s.port p.val).res.filter (fun y => y.id != r.id) ∧
          (t.missOf p.val r = none → r.frame.isSome = true → u.rdN (Reg.PTp_LAUNCHED p.val) = min (t.rdN (Reg.PTp_LAUNCHED p.val) + 1) 0xFFFFFFFF) ∧
          (∀ c, t.missOf p.val r = some c → u.rdN (State.missCounter p.val c) = min (t.rdN (State.missCounter p.val c) + 1) 0xFFFFFFFF ∧
            u.flag (Fld.PTp_EVT_LAUNCH_MISS p.val) = true))) ∧
    (∀ k : Nat, Effect (.launchMiss p k) s (fun u =>
      match (s.port p.val).res[k]? with
      | none => u = s
      | some r =>
        let t := if r.frame.isNone then s.advanceTo (r.t - s.launchMin p.val + 1) else s
        match t.missOf p.val r with
        | none => u = t
        | some c =>
          u.rdN (State.missCounter p.val c) = min (t.rdN (State.missCounter p.val c) + 1) 0xFFFFFFFF ∧
            u.flag (Fld.PTp_EVT_LAUNCH_MISS p.val) = true ∧ (u.port p.val).res = (t.port p.val).res.filter (fun y => y.id != r.id)))

/-- TX_FRAME_START: a frame of a size that may not leave is dropped and counted, one whose link or gate has closed too, one whose time has passed is
discarded for its age; one that may not start yet stays; any other leaves, occupying the port. -/
def Claims.FrameStarts : Prop :=
  ∀ (p : Fin 16) (x : Nat) (s : State), Effect (.txFrameStart p x) s (fun u =>
    match (s.port p.val).next with
    | none => u = s
    | some r =>
      let b := s.txForm p.val r
      if s.txSizeOk p.val r b = false then
        (u.port p.val).next = none ∧ u.rdN (Reg.PTp_TX_DROP p.val) = min (s.rdN (Reg.PTp_TX_DROP p.val) + 1) 0xFFFFFFFF
      else if s.linkUp p.val = false ∨ s.gateOpen p.val = false then
        (u.port p.val).next = none ∧ u.rdN (Reg.SW_DOWN_DROPp p.val) = min (s.rdN (Reg.SW_DOWN_DROPp p.val) + 1) 0xFFFFFFFF
      else if s.mayStart p.val x b = false then u = s
      else if ∃ t, r.late = some t ∧ t < x then
        (u.port p.val).next = none ∧ u.rdN (Reg.PTp_MISS_AGE p.val) = min (s.rdN (Reg.PTp_MISS_AGE p.val) + 1) 0xFFFFFFFF
      else
        (u.port p.val).next = none ∧ (u.port p.val).busyUntil = s.occTo p.val x (b.length + 4) ∧
          u.rd64 (Reg.PTp_TX_FRAMES_L p.val) = (s.rd64 (Reg.PTp_TX_FRAMES_L p.val) + 1) % 2 ^ 64)

/-- Together: reservations, launches, frame starts. -/
def Obligations.FramesOut : Prop := Claims.Reservations ∧ Claims.Launches ∧ Claims.FrameStarts

/-- PAUSE_EXPIRY and MARKER_TIMEOUT: an interval that runs is over when time reaches its end; as the latest marker grows too old, the stamp bits of the
port are what its markers then allow. -/
def Claims.PortTimers : Prop :=
  ∀ (p : Fin 16) (s : State),
    (∀ prio : Option (Fin 8), Effect (.pauseExpiry p prio) s (fun u =>
      let e := match prio with | none => (s.port p.val).pause | some k => (s.port p.val).pfc.getD k.val 0
      if e = 0 then u = s
      else u.tc.now = (s.advanceTo e).tc.now ∧ u.ports = s.ports.modify p.val (fun y => match prio with
        | none => { y with pause := 0 }
        | some k => { y with pfc := y.pfc.set k.val 0 }) ∧ (prio = none → u.flag (Fld.PTp_STAT_PAUSED p.val) = false))) ∧
    (∀ tx : Bool, Effect (.markerTimeout p tx) s (fun u =>
      let per := clampNat 1 255 (s.rdN Reg.SH_PCLK_PER % 256)
      let t := match (if tx then (s.port p.val).txMarks else (s.port p.val).rxMarks) with
        | (_, m) :: _ => s.advanceTo (m + (2 * per + 1) * 1000 * nsU + 2 * nsU)
        | [] => s
      u.stampRx p.val = t.stampOk p.val false ∧ u.stampTx p.val = t.stampOk p.val true ∧ u.flag (Fld.PTp_STAT_GRID_OK p.val) = t.stampOk p.val true ∧
        (s.stampTx p.val = true → t.stampOk p.val true = false → u.flag (Fld.PTp_EVT_STAMP_LOST p.val) = true)))

/-- LINK_DOWN, LINK_UP and PORT_HW: a link that goes down ends every reservation and the waiting frame; one comes up only on a port with a mode, not
fenced; a hardware fault, outside a shadow that covers it, fences the port and takes it out of service. -/
def Claims.PortLinks : Prop :=
  ∀ (p : Fin 16) (s : State),
    (∀ lockLost : Bool, Effect (.linkDown p lockLost) s (fun u =>
      if s.linkUp p.val = false then u = s
      else u.linkUp p.val = false ∧ (u.port p.val).res = [] ∧ (u.port p.val).next = none ∧ (u.port p.val).cut = none ∧
        u.flag (Fld.PTp_EVT_LINK_DOWN p.val) = true ∧ (lockLost = true → u.flag (Fld.PTp_STAT_PCS_LOCK p.val) = false))) ∧
    Effect (.linkUp p) s (fun u =>
      if (s.port p.val).mode = 0 ∨ s.fenced p.val = true ∨ s.linkUp p.val = true then u = s
      else u.linkUp p.val = true ∧ u.flag (Fld.PTp_STAT_PCS_LOCK p.val) = true ∧ u.flag (Fld.PTp_EVT_LINK_UP p.val) = true ∧
        u.flag (Fld.PTp_STAT_TRAINED p.val) = s.flag (Fld.PTp_MODE_LTRAIN p.val) ∧ (u.port p.val).rxMarks = [] ∧ (u.port p.val).txMarks = []) ∧
    (s.consequential 15 = false ∨ s.safe = true → Effect (.portHw p) s (fun u =>
      if s.fenced p.val then u = s
      else u.fenced p.val = true ∧ u.linkUp p.val = false ∧ u.gateOpen p.val = false ∧ (u.port p.val).res = [] ∧ (u.port p.val).next = none ∧
        (u.rdN (Reg.PTp_CAP p.val)).testBit 0 = false ∧ u.flag (Fld.PTp_EVT_FENCED p.val) = true))

/-- PORT_RESTART: nothing on a port held fenced until chip reset, or in the safe state; a fenced port is back in service, an unfenced one's link goes
down, and the instant is kept. -/
def Claims.PortRestarts : Prop :=
  ∀ (req : Requester) (ap : Aperture) (p : Fin 16) (s : State), s.Admits req ap (Reg.PTp_CMD p.val) →
    Effect (.portRestart req ap p) s (fun u =>
      if (s.port p.val).held = true ∨ s.safe = true then Accesses (fun _ => False) s u
      else
        u.fenced p.val = false ∧ u.linkUp p.val = (if s.fenced p.val then s.linkUp p.val else false) ∧
          (p.val < s.ports.length → (u.port p.val).restartAt = some s.tc.now) ∧
          (s.fenced p.val = true → (u.rdN (Reg.PTp_CAP p.val)).testBit 0 = true))

/-- SDREF_LOSS and SDREF_RETURN: a lost lane reference takes down the eight ports and two links of its bank; one lost already changes nothing; the
condition stands until both references are back. -/
def Claims.LaneReferences : Prop :=
  ∀ (bank : Fin 2) (s : State),
    Effect (.sdrefLoss bank) s (fun u =>
      if s.sw.sdrefLost.testBit bank.val then u = s
      else u.sw.sdrefLost.testBit bank.val = true ∧ (∀ k, k < 8 → u.linkUp (8 * bank.val + k) = false) ∧
        (∀ k, k < 2 → u.ulUp (2 * bank.val + k) = false)) ∧
    Effect (.sdrefReturn bank) s (fun u =>
      u.sw.sdrefLost.testBit bank.val = false ∧ (u.rdN Reg.FC_ACTIVE).testBit 4 = decide (u.sw.sdrefLost ≠ 0) ∧
        Writes (· = Reg.FC_ACTIVE) { s with sw := u.sw } u)

/-- Together: port timers, port links, port restarts, lane references. -/
def Obligations.PortStates : Prop := Claims.PortTimers ∧ Claims.PortLinks ∧ Claims.PortRestarts ∧ Claims.LaneReferences

/-! ### The switch core and the host rings (chapter 11) -/

/-- CUT_THROUGH_START: without SW_CTL.CT_EN, and for a frame that a program must decide, nothing; a frame with one destination, both ports free for it
and its start clear, leaves at once, the egress port taken for a frame of the greatest length. -/
def Claims.CutThroughStarts : Prop :=
  ∀ (i : Fin 16) (head : List Byte) (pos : WirePos) (x : Nat) (s : State), Effect (.cutThroughStart i head pos x) s (fun u =>
    let b := (s.rxForm i.val head).1
    (s.flag Fld.SW_CTL_CT_EN = false → u = s) ∧ (∀ rule fb, s.classify (i.val / 2) b = .run rule fb → u = s) ∧
      (∀ mask prio ring code e, s.classify (i.val / 2) b = .direct mask prio ring code → (s.resolveLag mask b).1 = [e] → e < 16 → e ≠ i.val →
        beAt head 12 2 ≠ 0x8808 → s.cutPorts i.val e = true → s.mayStart e x b = true → s.slotClear e x (s.maxLen i.val) = true →
        ptpEvent b = none → followUpOf b = none → s.safe = false → i.val < s.ports.length → e < s.ports.length →
        (u.port i.val).cut = some ⟨e, x, false⟩ ∧ (u.port e).busyUntil = s.occTo e x (s.maxLen i.val) ∧
          u.rd64 (Reg.PTp_TX_FRAMES_L e) = (s.rd64 (Reg.PTp_TX_FRAMES_L e) + 1) % 2 ^ 64))

/-- QUEUE_SERVE: a front port with nothing waiting takes the head of its highest non-empty queue, if its link and gate let it leave; one too old is
discarded and counted; the engines' and the service ports' heads leave their queues. -/
def Claims.QueuesServed : Prop :=
  ∀ (p : Fin 20) (s : State), Effect (.queueServe p) s (fun u =>
    match s.queueHead p.val with
    | none => u = s
    | some r =>
      (p.val < 16 → (s.port p.val).next.isSome = true → u = s) ∧
      (p.val ≠ 18 → (p.val < 16 → (s.port p.val).next = none) →
        (s.aged r = true → u.rdN (Reg.SW_AGEDp p.val) = min (s.rdN (Reg.SW_AGEDp p.val) + 1) 0xFFFFFFFF ∧
          u.sw.queues = s.sw.queues.modify r.dest (fun l => l.filter (fun y => y.id != r.id))) ∧
        (s.aged r = false → 16 ≤ p.val → u = s.unqueue r) ∧
        (s.aged r = false → p.val < 16 → s.linkUp p.val = true → s.gateOpen p.val = true → followUpOf r.bytes = none → s.tcDrop r = false →
          u = (s.unqueue r).modPort p.val (fun y => { y with next := some r }))) ∧
      (p.val = 18 → u = s.hostRx))

/-- HOST_RX_DELIVERY: the head of the host's queue, checked by the unit that serves its ring, is written to the ring, or dropped and counted where the
ring has no buffer, or waits where HDMA does not admitFor it; one too old is discarded. -/
def Claims.HostDelivery : Prop :=
  ∀ s : State, Effect .hostRxDelivery s (fun u =>
    match s.queueHead 18 with
    | none => u = s
    | some r =>
      if s.aged r then u.rdN (Reg.SW_AGEDp 18) = min (s.rdN (Reg.SW_AGEDp 18) + 1) 0xFFFFFFFF
      else
        let c := s.cvCheck r.ring r.bytes
        match c.1 with
        | none => u = c.2.unqueue r
        | some b =>
          let x := c.2.toRing r.ring (b ++ fcsOf b) ⟨r.src, r.stamp, r.strip, r.code⟩
          if x.1 = .stalled then u.whl.withheld = s.whl.withheld ++ [.hostRxDelivery] ∧ u.sw = s.sw else u = x.2.unqueue r)

/-- A frame written to a ring takes as many descriptors as it has pieces of 2,048 bytes; without them, or with the ring disabled, it is dropped and
counted, and host memory is as it was. -/
def Claims.RingWrites : Prop :=
  ∀ (r : Nat) (data : List Byte) (m : State.RxMeta) (s : State), r < 16 →
    let n := max 1 (ceilDiv data.length 2048)
    ((s.flag (Fld.SW_RXr_CFG_EN r) = false ∨ s.rxAvail r < n) →
      (s.toRing r data m).1 = .dropped ∧ (s.toRing r data m).2.rdN (Reg.SW_RXr_NOBUF r) = min (s.rdN (Reg.SW_RXr_NOBUF r) + 1) 0xFFFFFFFF ∧
        (s.toRing r data m).2.hostMem = s.hostMem) ∧
    (s.flag (Fld.SW_RXr_CFG_EN r) = true → n ≤ s.rxAvail r → (s.admitFor 5 data.length).1 = false →
      (s.toRing r data m).1 = .stalled ∧ (s.toRing r data m).2.hostMem = s.hostMem) ∧
    (s.flag (Fld.SW_RXr_CFG_EN r) = true → n ≤ s.rxAvail r → (s.admitFor 5 data.length).1 = true →
      (s.toRing r data m).1 = .written ∧
        (s.toRing r data m).2.rdN (Reg.SW_RXr_HEAD r) = (s.rdN (Reg.SW_RXr_HEAD r) % 65536 + n) % s.rxSize r)

/-- HOST_TX_FRAME: a disabled ring, or one without a whole frame, does nothing; a frame of too many descriptors or for no front port is written back with
its error and counted; one that HDMA does not admitFor waits. -/
def Claims.HostFrames : Prop :=
  ∀ (r : Fin 16) (readError : Bool) (s : State), Effect (.hostTxFrame r readError) s (fun u =>
    match s.txDescs r.val with
    | none => u = s
    | some (descs, eop) =>
      let data := descs.flatMap (fun a => s.hostRead (s.hostWord (a + 24) + 2 ^ 32 * s.hostWord (a + 28)) (s.hostWord a % 4096))
      let dest := s.hostWord (descs.getD 0 0) / 2 ^ 16 % 32
      if s.flag (Fld.SW_TXr_CFG_EN r.val) = false then u = s
      else if eop = false ∨ 15 < dest then
        u.rdN (Reg.SW_TXr_BAD r.val) = min (s.rdN (Reg.SW_TXr_BAD r.val) + 1) 0xFFFFFFFF ∧ u.sw = s.sw ∧
          u.rdN (Reg.SW_TXr_HEAD r.val) = (s.rdN (Reg.SW_TXr_HEAD r.val) % 65536 + descs.length) % s.txSize r.val
      else if (s.admitFor 5 data.length).1 = false then s.Withheld 5 (.hostTxFrame r readError) u
      else u.rdN (Reg.SW_TXr_HEAD r.val) = (s.rdN (Reg.SW_TXr_HEAD r.val) % 65536 + descs.length) % s.txSize r.val ∧
        (readError = true → u.rdN (Reg.SW_TXr_BAD r.val) = min (s.rdN (Reg.SW_TXr_BAD r.val) + 1) 0xFFFFFFFF ∧ u.sw = s.sw))

/-- Together: host delivery, ring writes, host frames. -/
def Obligations.HostRings : Prop := Claims.HostDelivery ∧ Claims.RingWrites ∧ Claims.HostFrames

/-- RX_COMPLETION, RING_TAIL_WRITE, LAG_REBAL, MISSED_SYNC_EXPIRY and SW_BUF: a ring with frames uncompleted is signalled; a tail is taken; a group is
to be dealt anew; the oldest missed Sync is forgotten; a parity error is reported. -/
def Claims.SwitchCommands : Prop :=
  ∀ s : State,
    (∀ r : Fin 16, Effect (.rxCompletion r) s (fun u =>
      if s.sw.rxDone.getD r.val 0 = 0 ∨ s.get (Fld.SW_RXr_CFG_MOD_US r.val) = 0 then u = s
      else u = { s with msix := s.msix ++ [⟨0x062, r.val⟩], sw := { s.sw with rxDone := s.sw.rxDone.set r.val 0 } })) ∧
    (∀ (req : Requester) (ap : Aperture) (r : Fin 16) (v : Word),
      (s.Admits req ap (Reg.SW_RXr_TAIL r.val) → Effect (.ringTailWrite req ap false r v) s (fun u =>
        u.rdN (Reg.SW_RXr_TAIL r.val) % 65536 = v.toNat % 65536 ∧ Accesses (· = Reg.SW_RXr_TAIL r.val) s u)) ∧
      (s.Admits req ap (Reg.SW_TXr_TAIL r.val) → Effect (.ringTailWrite req ap true r v) s (fun u =>
        u.rdN (Reg.SW_TXr_TAIL r.val) % 65536 = v.toNat % 65536 ∧ Accesses (· = Reg.SW_TXr_TAIL r.val) s u))) ∧
    (∀ (req : Requester) (ap : Aperture) (v : Word), s.Admits req ap Reg.SW_LAG_CMD → Effect (.lagRebal req ap v) s (fun u =>
      u.sw.redeal.testBit (v.toNat % 8) = (s.sw.redeal.testBit (v.toNat % 8) || v.getLsbD 8) ∧
        Accesses (fun _ => False) { s with sw := u.sw } u)) ∧
    (∀ p : Fin 16, Effect (.missedSyncExpiry p) s (fun u =>
      u = s.setSw { s.sw with missed := s.sw.missed.modify p.val (fun l => l.drop 1) })) ∧
    (∀ cellOf : Nat, Effect (.swBuf cellOf) s (fun u =>
      u.flag Fld.SW_EVT_BUF_PARITY = true ∧
        (cellOf ≥ s.sw.queues.flatten.length → u.sw = s.sw ∧
          u.ports = s.ports.map (fun p => { p with cut := p.cut.map (fun c => { c with bad := true }) }))))

/-- Together: cut through starts, queues served, switch commands. -/
def Obligations.SwitchCore : Prop := Claims.CutThroughStarts ∧ Claims.QueuesServed ∧ Claims.SwitchCommands

/-! ### The PTP engine (chapter 12) -/

/-- DELAY_REQ: a port that is no MASTER of an end-to-end instance does nothing; a request without its stamp, or while no time may be stated, is counted;
a class that does not admitFor it keeps it; a bad one or an unknown client is counted and unanswered; a multicast request is answered while the second's
rate lasts, a client's under a running grant. -/
def Claims.DelayRequests : Prop :=
  ∀ (p : Fin 16) (stamp : Option Nat) (b : List Byte) (s : State), Effect (.delayReq p stamp b) s (fun u =>
    match ptpOff b with
    | none => u = s
    | some o =>
      match s.svcOf p.val b o with
      | none => u = s
      | some k =>
        if s.halted = true ∨ s.pState k p.val ≠ 1 ∨ profileP2P (s.svcProfile k) = true ∨ ptpType b o ≠ 1 then u = s
        else match stamp with
          | none => u = s.bump Reg.PE_NO_STAMP
          | some t2 =>
            if s.timeAllowed p.val = false ∨ s.stampRx p.val = false then u = s.bump Reg.PE_NO_STAMP
            else
              let v := s.verifyMsg b o
              let mc := isGroup b && s.flag (Fld.PE_SVCk_CFG_MC k)
              let read := if mc || !s.flag Fld.PE_CTL_TABLE_EN then (none, []) else s.lookup (State.clientKey k p.val b o)
              if s.admits 4 (s.cacheAll read.2 false).1 = false then s.Withheld 4 (.delayReq p stamp b) u
              else if s.admits 3 (v.2 + s.svcCost k (54 + s.tlvLen)) = false then s.Withheld 3 (.delayReq p stamp b) u
              else
                (v.1 = .bad → u.rdN Reg.PE_AUTH_FAIL = oneMore (s.rdN Reg.PE_AUTH_FAIL) ∧ u.flag Fld.PE_EVT_AUTH_FAIL = true ∧ u.sw = s.sw) ∧
                (v.1 = .absent → s.svcAuth k = 2 → u.rdN Reg.PE_NOAUTH_DROP = oneMore (s.rdN Reg.PE_NOAUTH_DROP) ∧ u.sw = s.sw) ∧
                (v.1 = .absent → s.svcAuth k = 0 →
                  if mc then
                    let n := if s.pe.mcSec = s.viewSec then s.pe.mcCount else 0
                    if n < s.rdN Reg.PE_MC_DREQ_MAX then
                      u = (s.setPe { s.pe with mcSec := s.viewSec, mcCount := n + 1 }).delayResp k p.val t2 b o true
                    else u = s.bump Reg.PE_RATE_DROP
                  else match read.1 with
                    | none => u.rdN Reg.PE_NO_CLIENT = oneMore (s.rdN Reg.PE_NO_CLIENT) ∧ u.sw = s.sw
                    | some i =>
                      let e := s.tblEntry i
                      entryValid e = true → entryGranted e 2 = true → secOf s.tc.now % 2 ^ 32 ≤ entryExpiry e 2 → entryAuth e = false →
                        ∃ t : State, t.sw = s.sw ∧ t.tc = s.tc ∧ t.ports = s.ports ∧ u = t.delayResp k p.val t2 b o false))

/-- A Delay_Resp that is not authenticated and carries no bound goes out through switch port 16: 54 octets, with the request's sequenceId and port
identity, t2 less the port's receive delay in whole nanoseconds, and a correction from which the remainder is taken. -/
def Claims.DelayResponses : Prop :=
  ∀ (s : State) (k p t2 : Nat) (b : List Byte) (o : Nat) (mc : Bool), s.svcAuth k = 0 → s.flag Fld.EB_CTL_TLV_EN = false →
    (ptpSource b o).length = 10 →
    let x := (t2 : Int) - s.rxExt p
    0 ≤ x → x / 65536 < 2 ^ 48 * 1000000000 →
    ∃ hdr m : List Byte, s.delayResp k p t2 b o mc = (s.engSend 16 p (reframe hdr m) (some s.lateAt)).peSent.bump64 Reg.PE_RX_L 1 ∧
      m.length = 54 ∧ beAt m 0 1 % 16 = 9 ∧ beAt m 2 2 = 54 ∧ beAt m 30 2 = ptpSeq b o ∧ beAt m 8 8 = wordOf 64 (ptpCorr b o - x % 65536) ∧
      ((beAt m 34 6 * 1000000000 + beAt m 40 4 : Nat) : Int) = x / 65536 ∧ m.drop 44 = ptpSource b o

/-- PDELAY_REQ: the same conditions for a peer-delay instance; an answered one is counted, and either waits for its egress stamp (two-step) or for its
reservation (one-step). -/
def Claims.PeerDelayRequests : Prop :=
  ∀ (p : Fin 16) (stamp : Option Nat) (b : List Byte) (s : State), Effect (.pdelayReq p stamp b) s (fun u =>
    match ptpOff b with
    | none => u = s
    | some o =>
      match s.svcOf p.val b o with
      | none => u = s
      | some k =>
        if s.halted = true ∨ s.pState k p.val ≠ 1 ∨ profileP2P (s.svcProfile k) = false ∨ ptpType b o ≠ 2 then u = s
        else match stamp with
          | none => u = s.bump Reg.PE_NO_STAMP
          | some _ =>
            let v := s.verifyMsg b o
            if s.timeAllowed p.val = false ∨ s.stampRx p.val = false then u = s.bump Reg.PE_NO_STAMP
            else if s.admits 4 0 = false then s.Withheld 4 (.pdelayReq p stamp b) u
            else if s.admits 3 (v.2 + s.svcCost k (54 + s.tlvLen)) = false then s.Withheld 3 (.pdelayReq p stamp b) u
            else
              (v.1 = .bad → u.rdN Reg.PE_AUTH_FAIL = oneMore (s.rdN Reg.PE_AUTH_FAIL) ∧ u.flag Fld.PE_EVT_AUTH_FAIL = true ∧ u.sw = s.sw) ∧
              (v.1 = .absent → s.svcAuth k = 2 → u.rdN Reg.PE_NOAUTH_DROP = oneMore (s.rdN Reg.PE_NOAUTH_DROP) ∧ u.sw = s.sw) ∧
              (v.1 = .absent → s.svcAuth k = 0 → u.rd64 Reg.PE_RX_L = (s.rd64 Reg.PE_RX_L + 1) % 2 ^ 64 ∧
                if s.flag (Fld.PE_SVCk_CFG_TWO_STEP k) then
                  ∃ x, x.svc = k ∧ x.pdelay = true ∧ u.pe = { s.pe with twoStep := s.pe.twoStep.modify p.val (· ++ [x]) }
                else ∃ j, j.eng = 16 ∧ j.kind = 1 ∧ j.port = p.val ∧ j.lead = 4000 ∧ u.sw = { s.sw with jobs := s.sw.jobs ++ [j] }))

/-- Together: delay requests, delay responses, peer delay requests. -/
def Obligations.PtpDelays : Prop := Claims.DelayRequests ∧ Claims.DelayResponses ∧ Claims.PeerDelayRequests

/-- A unicast grant: denied with duration 0 and counted where the period is outside ULIM, the duration below the least, the table full or the rate
over PE_RATE_MAX; otherwise the client's entry takes the period, the shorter of the duration asked and the longest, and its expiry. -/
def Claims.UnicastGrants : Prop :=
  ∀ (s : State) (key : ClientKey) (vid : Nat) (auth : Bool) (m t : Nat) (log : Int) (dur : Nat), State.grantType m = some t →
    let r := s.grantOne key vid auth m log dur
    let lim := s.logRange key.svc
    let found := (s.lookup key).1
    let old := match found with | some i => if entryGranted (s.tblEntry i) t then rate16 (entryLog (s.tblEntry i) t) else 0 | none => 0
    let denied := log < lim.1 ∨ lim.2 < log ∨ dur < bitsOf (s.rdN Reg.PE_GRANT) 16 16 ∨ (found = none ∧ 1048576 ≤ s.rdN Reg.PE_TBL_USED) ∨
      s.rdN Reg.PE_RATE_MAX * 2 * s.get Fld.PE_CAP_LANES < s.pe.commit - old + rate16 log
    (denied → r.1 = 0 ∧ r.2.pe = s.pe ∧ r.2.rdN Reg.PE_DENY = oneMore (s.rdN Reg.PE_DENY)) ∧
    (¬denied → ∀ i, found = some i → (s.tblEntry i).length = 16 →
      r.1 = min dur (bitsOf (s.rdN Reg.PE_GRANT) 0 16) ∧ r.2.pe.commit = s.pe.commit - old + rate16 log ∧
        entryGranted (r.2.tblEntry i) t = true ∧ entryExpiry (r.2.tblEntry i) t = (secOf s.tc.now + r.1) % 2 ^ 32)

/-- SIGNALING and CALENDAR_TICK: a Signaling message is answered only by a unicast instance with the table, its work admitted; the calendar's tick
advances by the ticks that have passed, or time runs on to the next. -/
def Claims.NegotiationAndCalendar : Prop :=
  ∀ s : State,
    (∀ (p : Fin 16) (b : List Byte), Effect (.signaling p b) s (fun u =>
      match ptpOff b with
      | none => u = s
      | some o =>
        match s.svcOf p.val b o with
        | none => u = s
        | some k =>
          let l := (ptpTlvs b o).filter (fun x => x.1 == 4 || x.1 == 6)
          let n := l.foldl (fun n x => n + if x.1 = 4 then 12 else 6) 0
          let v := s.verifyMsg b o
          if s.halted = true ∨ s.flag (Fld.PE_SVCk_CFG_UNICAST k) = false ∨ s.flag Fld.PE_CTL_TABLE_EN = false ∨ ptpType b o ≠ 12 then u = s
          else if s.admits 4 (s.cacheAll (s.lookup (State.clientKey k p.val b o)).2 true).1 = false then s.Withheld 4 (.signaling p b) u
          else if s.admits 3 (v.2 + s.svcCost k (44 + n)) = false then s.Withheld 3 (.signaling p b) u
          else
            (v.1 = .bad → u.rdN Reg.PE_AUTH_FAIL = oneMore (s.rdN Reg.PE_AUTH_FAIL) ∧ u.sw = s.sw ∧ u.pe.table = s.pe.table) ∧
            (v.1 = .absent → s.svcAuth k = 2 → u.rdN Reg.PE_NOAUTH_DROP = oneMore (s.rdN Reg.PE_NOAUTH_DROP) ∧ u.sw = s.sw ∧ u.pe.table = s.pe.table) ∧
            (v.1 = .absent → s.svcAuth k = 0 →
              if l = [] then u.sw = s.sw ∧ u.pe.table = s.pe.table else u.rd64 Reg.PE_RX_L = (s.rd64 Reg.PE_RX_L + 1) % 2 ^ 64))) ∧
    Effect .calendarTick s (fun u =>
      if s.halted then u = s
      else
        let cur := State.tickOf s.tc.now
        if s.pe.lastTick < cur then u.pe.lastTick = cur ∧ u.tc.now = s.tc.now
        else u.pe.lastTick = max s.pe.lastTick (cur + 1) ∧ u.tc.now = (s.advanceTo ((cur + 1) * (secU / 1024))).tc.now)

/-- ANNOUNCE_RECEIVE, ANNOUNCE_RECEIPT_TIMEOUT, MULTICAST_MESSAGE_DUE and FOLLOW_UP: a foreign Announce under BMCA joins its port's foreign masters and
makes the port PASSIVE if it is better; the timeout ends PASSIVE; a multicast message takes the next sequenceId; a Follow_Up ends its message's wait. -/
def Claims.MasterMessages : Prop :=
  ∀ (p : Fin 16) (s : State),
    (∀ b : List Byte, Effect (.announceReceive p b) s (fun u =>
      match ptpOff b with
      | none => u = s
      | some o =>
        let svc := s.svcOf p.val b o
        let v := s.verifyMsg b o
        if s.halted = true ∨ ptpType b o ≠ 11 ∨ (svc = none ∧ s.clTakes 0 p.val b o = false ∧ s.clTakes 1 p.val b o = false) then u = s
        else if s.admits 4 0 = false then s.Withheld 4 (.announceReceive p b) u
        else if s.admits 3 v.2 = false then s.Withheld 3 (.announceReceive p b) u
        else
          (v.1 = .bad → u.rdN Reg.PE_AUTH_FAIL = oneMore (s.rdN Reg.PE_AUTH_FAIL) ∧ u.pe = s.pe) ∧
          (∀ k, svc = some k → v.1 = .absent → s.clTakes 0 p.val b o = false → s.clTakes 1 p.val b o = false →
            if s.svcBmca k p.val = false ∨ (ptpSource b o).take 8 = (s.ptpIdent p.val).take 8 then u = s
            else u.pe = { s.pe with ports := s.pe.ports.modify k (fun l => l.modify p.val (fun x =>
              { x with foreign := State.noteForeign x.foreign (ptpSource b o) s.tc.now (announceSet b o),
                       passive := x.passive || (s.takeForeign k p.val b o).betterForeign k p.val })) }))) ∧
    (∀ k : Fin 4, Effect (.announceReceiptTimeout k p) s (fun u =>
      if s.halted = true ∨ (s.pePort k.val p.val).passive = false then u = s
      else u.pe = { s.pe with ports := s.pe.ports.modify k.val (fun l => l.modify p.val (fun x => { x with passive := false, foreign := [] })) } ∧
        Writes (fun a => a = Reg.PE_STAT ∨ ∃ j, j < 4 ∧ a = Reg.PE_SVCk_PSTATE j) { s with pe := u.pe } u)) ∧
    (∀ (k : Fin 4) (sync : Bool), Effect (.multicastMessageDue k p sync) s (fun u =>
      if s.halted = true ∨ s.svcOn k.val = false ∨ s.pState k.val p.val ≠ 1 ∨ s.flag (Fld.PE_SVCk_CFG_MC k.val) = false ∨
          (sync = true ∧ s.timeAllowed p.val = false) ∨ s.svcHalted k.val = true then u = s
      else if s.admits 4 0 = false then s.Withheld 4 (.multicastMessageDue k p sync) u
      else if s.admits 3 (if sync then s.syncCost k.val else s.svcCost k.val 64) = false then s.Withheld 3 (.multicastMessageDue k p sync) u
      else u.pe.ports = s.pe.ports.modify k.val (fun l => l.modify p.val (fun x =>
        if sync then { x with seqSync := (x.seqSync + 1) % 65536 } else { x with seqAnn := (x.seqAnn + 1) % 65536 })))) ∧
    (∀ n t1 : Nat, Effect (.followUp p n t1) s (fun u =>
      match (s.pe.twoStep.getD p.val []).find? (fun x => x.id == n) with
      | none => u = s
      | some x =>
        let cost := s.svcCost x.svc (44 + s.tlvLen)
        if s.halted then u = s
        else if ptpOff x.tmpl ≠ none ∧ s.timeAllowed p.val = true ∧ s.svcOn x.svc = true ∧ cost ≠ 0 ∧ s.admits 3 cost = false then
          s.Withheld 3 (.followUp p n t1) u
        else u.pe = { s.pe with twoStep := s.pe.twoStep.modify p.val (fun l => l.filter (fun y => decide (n < y.id) || s.followHeld p.val y.id)) }))

/-- PE_REQ_AGED, PE_LANE, TABLE_QUERY, TABLE_QUERY_DONE and MEM_UE: the oldest withheld request is dropped and counted; a fenced lane leaves one fewer;
a query is charged and busy until the entry's words are valid or its read fails, which frees it; an uncorrectable error frees the entry it hits. -/
def Claims.PtpUpkeep : Prop :=
  ∀ s : State,
    Effect .peReqAged s (fun u =>
      match s.whl.withheld.find? State.peHeld with
      | none => u = s
      | some c => if s.halted then u = s else u.whl = { s.whl with withheld := s.whl.withheld.erase c } ∧
        u.rdN Reg.PE_REQ_AGED = oneMore (s.rdN Reg.PE_REQ_AGED) ∧ Writes (· = Reg.PE_REQ_AGED) { s with whl := u.whl } u) ∧
    (∀ busy : Bool, s.consequential 19 = false ∨ s.safe = true → Effect (.peLane busy) s (fun u =>
      if s.halted then u = s
      else u.get Fld.PE_CAP_LANES = s.get Fld.PE_CAP_LANES - 1 ∧ u.flag Fld.PE_EVT_LANE_FENCE = true ∧
        u.rdN Reg.PE_LANE_LOST = (if busy then oneMore (s.rdN Reg.PE_LANE_LOST) else s.rdN Reg.PE_LANE_LOST))) ∧
    (∀ (req : Requester) (ap : Aperture) (v : Word), s.Admits req ap Reg.PE_TBL_QIDX → Effect (.tableQuery req ap v) s (fun u =>
      u.rdN Reg.PE_TBL_QIDX = v.toNat % 2 ^ 20 ∧ u.flag Fld.PE_TBL_QSTAT_BUSY = true ∧ u.whl = { s.whl with spent := s.whl.spent.modify 4 (· + 1) } ∧
        Accesses (fun a => a = Reg.PE_TBL_QIDX ∨ a = Reg.PE_TBL_QSTAT) { s with whl := u.whl } u)) ∧
    (∀ ue : Bool, Effect (.tableQueryDone ue) s (fun u =>
      let i := bitsOf (s.rdN Reg.PE_TBL_QIDX) 0 20
      if s.halted = true ∨ s.flag Fld.PE_TBL_QSTAT_BUSY = false then u = s
      else if ue then u.rdN Reg.PE_TBL_QSTAT = 2 ∧ entryValid (u.tblEntry i) = false
      else u.rdN Reg.PE_TBL_QSTAT = 0 ∧ u.pe = s.pe ∧
        ∀ (j : Fin 16) (w : Nat), (s.entryView i).length = 16 → (s.entryView i)[j.val]? = some w → u.rdN (Reg.PE_TBL_QW j.val) = w % 2 ^ 32)) ∧
    (∀ addr : Nat, Effect (.memUe addr) s (fun u =>
      let f := s.raiseFault 25 (addr / 4096 % 2) false
      let base := s.rd64 Reg.PE_TBL_BASE_L
      u.jn = { f.jn with ring := f.jn.ring.map (fun b => if s.inBlock addr b then { b with damaged := true } else b) } ∧
        if base ≤ addr ∧ addr < base + 67108864 then entryValid (u.tblEntry ((addr - base) / 64)) = false else u.pe = f.pe))

/-- Together: unicast grants, negotiation and calendar, master messages, ptp upkeep. -/
def Obligations.PtpMasters : Prop := Claims.UnicastGrants ∧ Claims.NegotiationAndCalendar ∧ Claims.MasterMessages ∧ Claims.PtpUpkeep

/-- CLIENT_SYNC, CLIENT_FOLLOW_UP, CLIENT_DELAY_RESP and CLIENT_GRANT: a message that is not for the client, or not of its master, does nothing; one
that verifies is counted. A one-step Sync gives the offset t2 − t1 less the mean path delay; a two-step one waits for its Follow_Up; a grant is kept with its
duration. -/
def Claims.ClientMessages : Prop :=
  ∀ (i : Fin 2) (b : List Byte) (o : Nat) (s : State), ptpOff b = some o → s.halted = false →
    let v := s.verifyMsg b o
    let p := s.clPort i.val
    (∀ t : Nat, Effect (.clientSync i (some t) b) s (fun u =>
      if ptpType b o ≠ 0 ∨ s.clTakes i.val p b o = false ∨ (s.client i.val).master ≠ some (ptpSource b o) then u = s
      else if s.admits 4 0 = false then s.Withheld 4 (.clientSync i (some t) b) u
      else if s.admits 3 v.2 = false then s.Withheld 3 (.clientSync i (some t) b) u
      else
        let t2 : Int := (t : Int) - s.rxExt p
        let t1 : Int := ptpStampAt b (o + 34) + (ptpCorr b o + s.asym p)
        (v.1 = .bad → u.rdN Reg.PE_AUTH_FAIL = oneMore (s.rdN Reg.PE_AUTH_FAIL) ∧ u.pe = s.pe ∧ u.rs = s.rs) ∧
        (v.1 = .absent → boundIn b o = none → u.rd64 Reg.PE_RX_L = (s.rd64 Reg.PE_RX_L + 1) % 2 ^ 64 ∧
          if ptpTwoStep b o then u.pe = { s.pe with clients := s.pe.clients.modify i.val (fun x =>
            { x with authOk := false, sync := some (ptpSeq b o, t2.toNat, ptpCorr b o + s.asym p) }) }
          else u.rdI64 (Reg.PE_CLi_OFS_L i.val) = satSigned 64 (t2 - t1 - (s.client i.val).mpd) ∧
            u.pe = { s.pe with clients := s.pe.clients.modify i.val (fun x => { x with authOk := false, last := some (t1, t2), sync := none }) }))) ∧
    Effect (.clientSync i none b) s (fun u => u = s) ∧
    Effect (.clientFollowUp i b) s (fun u =>
      if s.clTakes i.val p b o = false then u = s
      else if s.admits 4 0 = false then s.Withheld 4 (.clientFollowUp i b) u
      else if s.admits 3 v.2 = false then s.Withheld 3 (.clientFollowUp i b) u
      else v.1 = .absent → boundIn b o = none →
        ∀ q t2 corr, (s.client i.val).sync = some (q, t2, corr) → ptpType b o = 8 →
          if (s.client i.val).master = some (ptpSource b o) ∧ q = ptpSeq b o then
            u.rdI64 (Reg.PE_CLi_OFS_L i.val) = satSigned 64 ((t2 : Int) - (ptpStampAt b (o + 34) + ptpCorr b o + corr) - (s.client i.val).mpd)
          else u.pe = s.pe ∧ u.rs = s.rs) ∧
    (∀ (t3 : Nat) (stamp : Option Nat), Effect (.clientDelayResp i t3 stamp b) s (fun u =>
      if s.clTakes i.val p b o = false ∨ (s.client i.val).req ≠ some (ptpSeq b o) ∨ sliceOf b (o + 44) 10 ≠ s.ptpIdent p then u = s
      else if s.admits 4 0 = false then s.Withheld 4 (.clientDelayResp i t3 stamp b) u
      else if s.admits 3 v.2 = false then s.Withheld 3 (.clientDelayResp i t3 stamp b) u
      else v.1 = .absent → ptpType b o = 9 → u.rd64 Reg.PE_RX_L = (s.rd64 Reg.PE_RX_L + 1) % 2 ^ 64 ∧
        match (s.client i.val).last with
        | none => u.pe = s.pe
        | some (t1, t2) => ∃ m : Int,
            2 * m - ((t2 - ((t3 : Int) + s.txExt p)) + (ptpStampAt b (o + 34) - ptpCorr b o - t1)) ∈ ([-1, 0, 1] : List Int) ∧
            u.pe = { s.pe with clients := s.pe.clients.modify i.val (fun x => { x with mpd := m, req := none, pd := none }) })) ∧
    Effect (.clientGrant i b) s (fun u =>
      if ptpType b o ≠ 12 ∨ s.clTakes i.val p b o = false ∨ s.clUni i.val = false then u = s
      else if s.admits 4 0 = false then s.Withheld 4 (.clientGrant i b) u
      else if s.admits 3 v.2 = false then s.Withheld 3 (.clientGrant i b) u
      else ∀ a, v.1 = .absent → (ptpTlvs b o).filter (fun x => x.1 == 5 && 8 ≤ x.2.2) = [a] →
        match State.grantType (beAt b (a.2.1 + 4) 1 / 16) with
        | none => u.pe = s.pe
        | some k =>
          let d := beAt b (a.2.1 + 6) 4
          u.pe = { s.pe with clients := s.pe.clients.modify i.val (fun y =>
            { y with grants := y.grants.filter (fun g => g.typ != k) ++ (if d = 0 then [] else [⟨k, d⟩]) }) })

/-- CLIENT_DELAY_REQ, CLIENT_GRANT_RENEW and CLIENT_TIMEOUT: a running client with a master notes its request under the next sequenceId; a unicast
client asks again; a missing Sync or Announce loses the slot's signal, and a master whose Announces stopped is left. -/
def Claims.ClientRequests : Prop :=
  ∀ (i : Fin 2) (s : State),
    Effect (.clientDelayReq i) s (fun u =>
      if s.halted = true ∨ s.clOn i.val = false ∨ (s.client i.val).master = none then u = s
      else u.pe = { s.pe with clients := s.pe.clients.modify i.val (fun x =>
        { x with seq := ((s.client i.val).seq + 1) % 65536, req := some (s.client i.val).seq, pd := none }) }) ∧
    (∀ typ : Fin 3, Effect (.clientGrantRenew i typ) s (fun u =>
      if s.halted = true ∨ s.clOn i.val = false ∨ s.clUni i.val = false then u = s
      else u.pe = { s.pe with clients := s.pe.clients.modify i.val (fun x => { x with seq := ((s.client i.val).seq + 1) % 65536 }) })) ∧
    Effect (.clientTimeout i) s (fun u =>
      if s.halted = true ∨ s.clOn i.val = false then u = s
      else ∃ t : State, u = t.signalLoss (6 + i.val) ∧ t.flag (Fld.PE_CLi_STAT_VALID i.val) = t.clValid i.val ∧
        (s.clMaster i.val = none → t.pe = { s.pe with clients := s.pe.clients.modify i.val (fun x =>
          { x with sync := none, master := none, foreign := [], last := none, req := none, pd := none }) }))

/-- Together: client messages, client requests. -/
def Obligations.PtpClients : Prop := Claims.ClientMessages ∧ Claims.ClientRequests

/-! ### The NTP engine (chapter 13) -/

/-- NTP_REQUEST: the first check that fails counts the request and nothing else happens; a plain one is answered at once while VALID is 0 and sets out for
its launch otherwise; an NTS one needs its form, a key and its units. -/
def Claims.NtpRequests : Prop :=
  ∀ (p : Fin 16) (stamp : Option Nat) (b : List Byte) (s : State), Effect (.ntpRequest p stamp b) s (fun u =>
    let pay := udpPayload b
    let ver := beAt pay 0 1 / 8 % 8
    if s.halted then u = s
    else if s.flag Fld.NE_CTL_EN = false then u = s.bump Reg.NE_OFF_DROP
    else if s.neAddr b = false then u = s.bump Reg.NE_ADDR_DROP
    else if stamp = none then u = s.bump Reg.NE_NO_STAMP
    else if pay.length < 48 ∨ clampNat 48 1400 (bitsOf (s.rdN Reg.NE_MAXLEN) 0 11) < pay.length then u = s.bump Reg.NE_FMT_DROP
    else if beAt pay 0 1 % 8 ≠ 3 ∨ ¬(ver = 4 ∨ (ver = 3 ∧ pay.length = 48)) then u = s.bump Reg.NE_MODE_DROP
    else match ntpFields 100 pay 48 with
      | none => u = s.bump Reg.NE_FMT_DROP
      | some l =>
        let r : NtpReq := ⟨pay, l⟩
        let units := s.ntsCost r false
        if r.nts then
          if s.flag Fld.NE_CTL_NTS_EN = false ∨ r.ntsOk = false then u.rdN Reg.NE_FMT_DROP = oneMore (s.rdN Reg.NE_FMT_DROP) ∧ u.sw = s.sw
          else s.flag Fld.NE_CTL_RATE_EN = false →
            if s.genKey 0 = none then u.rdN Reg.NE_NTS_HALT_DROP = oneMore (s.rdN Reg.NE_NTS_HALT_DROP) ∧ u.sw = s.sw
            else if s.admits 2 units = false then s.Withheld 2 (.ntpRequest p stamp b) u
            else (∀ j, j < 3 → s.genHeld j = true → s.genNum j ≠ beAt r.cookie 0 2) → u.rdN Reg.NE_NAK = oneMore (s.rdN Reg.NE_NAK)
        else
          u.rd64 Reg.NE_RX_L = (s.rd64 Reg.NE_RX_L + 1) % 2 ^ 64 ∧
          if s.flag Fld.NE_CTL_PLAIN_EN = false then u.rdN Reg.NE_MODE_DROP = oneMore (s.rdN Reg.NE_MODE_DROP) ∧ u.sw = s.sw
          else if s.flag Fld.NE_STAT_TAMPERED = true ∧ s.flag Fld.NE_CTL_TAMPER_PLAIN = false then
            u.rdN Reg.NE_TAMPER_DROP = oneMore (s.rdN Reg.NE_TAMPER_DROP) ∧ u.sw = s.sw
          else s.flag Fld.NE_CTL_RATE_EN = false →
            if s.validSnap = none then u.rdN Reg.NE_UNSYNC = oneMore (s.rdN Reg.NE_UNSYNC)
            else u.sw = { s.sw with jobs := s.sw.jobs ++ [⟨17, 0, p.val, State.ntpLen b (48 + if s.wantsBound r then 20 else 0), b, [stamp.getD 0],
              clampNat 4000 20000 (bitsOf (s.rdN Reg.NE_LEAD) 0 16)⟩] })

/-- A plain answer sealed for a departure at `t` without a bound field: 48 octets, the request's version in mode 4, its transmit timestamp as the origin,
the receive time and the departure as timestamps, under the snapshot in force. -/
def Claims.NtpAnswers : Prop :=
  ∀ (s : State) (j : LaunchJob) (t : Nat) (x : Snapshot), j.kind = 0 → s.validSnap = some x →
    let pay := udpPayload j.tmpl
    s.wantsBound ⟨pay, (ntpFields 100 pay 48).getD []⟩ = false →
    ∃ ans : List Byte, s.neSeal j t = some (s.ntpFrame j.tmpl ans, x.gen, false) ∧ ans.length = 48 ∧
      beAt ans 0 1 % 8 = 4 ∧ beAt ans 0 1 / 8 % 8 = beAt pay 0 1 / 8 % 8 ∧ beAt ans 24 8 = beAt pay 40 8 ∧
      beAt ans 32 8 = s.ntpTime (j.args.getD 0 0 * 2 ^ 32) % 2 ^ 64 ∧ beAt ans 40 8 = s.ntpTime t % 2 ^ 64

/-- The rate check: off, it serves and changes nothing; with its unit refused it serves and counts the skip; otherwise it serves up to the limit, answers
with a kiss up to the drop limit, and drops beyond it. -/
def Claims.RatePolicy : Prop :=
  ∀ (s : State) (b : List Byte),
    let r := s.rateCheck b
    let c := (s.admitted 13 1).countClient b
    let lim := s.rdN Reg.NE_RATE_LIM
    (s.flag Fld.NE_CTL_RATE_EN = false → r = (.serve, s)) ∧
    (s.flag Fld.NE_CTL_RATE_EN = true → s.admits 13 1 = false →
      r.1 = .serve ∧ r.2.rdN Reg.NE_RATE_SKIP = oneMore (s.rdN Reg.NE_RATE_SKIP) ∧ r.2.ne = s.ne) ∧
    (s.flag Fld.NE_CTL_RATE_EN = true → s.admits 13 1 = true →
      r.2.ne = c.2.ne ∧
      (c.1 ≤ lim → r.1 = .serve) ∧
      (lim < c.1 → c.1 ≤ s.rdN Reg.NE_RATE_DROP → r.1 = .kiss ∧ r.2.rdN Reg.NE_KOD = oneMore (s.rdN Reg.NE_KOD)) ∧
      (lim < c.1 → s.rdN Reg.NE_RATE_DROP < c.1 → r.1 = .drop ∧ r.2.rdN Reg.NE_RATE_DROP_CNT = oneMore (s.rdN Reg.NE_RATE_DROP_CNT)))

/-- Together: ntp requests, ntp answers, rate policy. -/
def Obligations.NtpService : Prop := Claims.NtpRequests ∧ Claims.NtpAnswers ∧ Claims.RatePolicy

/-- MINT_ENTRY: with nothing to mint nothing happens; an entry whose units are not admitted waits; any other ends with its result (0 with cookies, 1 bad
count, 2 no key, 3 read error) in the entry, its keys zeroed, and HEAD past it. -/
def Claims.MintEntries : Prop :=
  ∀ (readError : Bool) (s : State), Effect (.mintEntry readError) s (fun u =>
    let a := s.mqBase + 1024 * s.mqHead
    let n := s.hostWord a % 16
    if s.halted = true ∨ s.flag Fld.NE_MQ_CFG_EN = false ∨ s.mqWaiting = false then u = s
    else
      let result := if readError then 3 else if n = 0 ∨ 8 < n then 1 else if s.genKey 0 = none ∨ s.flag Fld.NE_STAT_TAMPERED = true then 2 else 0
      if result = 0 ∧ (s.admits 2 (9 * n) = false ∨ s.admits 5 (154 + 100 * n) = false) then
        u.whl.withheld = s.whl.withheld ++ [.mintEntry readError] ∧ u.whl.spent = s.whl.spent ∧ u.ne = s.ne ∧
          u.rd Reg.NE_MQ_HEAD = s.rd Reg.NE_MQ_HEAD ∧ u.hostMem = s.hostMem
      else
        u.rdN Reg.NE_MQ_HEAD = (s.mqHead + 1) % s.mqSize ∧ u.rdN Reg.NE_MQ_DONE = (s.rdN Reg.NE_MQ_DONE + 1) % 2 ^ 32 ∧
        (memWf s.hostMem = true → bitsOf (u.hostWord a) 24 4 = result ∧ bitAt (u.hostWord a) 31 = true ∧
          bitAt (u.hostWord a) 30 = decide (result ≠ 0) ∧ u.hostRead (a + 16) 64 = List.replicate 64 0) ∧
        Msi.mk 0x079 0 ∈ u.msix ∧ u.flag Fld.NE_STAT_MQ_BUSY = false ∧
        u.rdN Reg.NE_MQ_ERR = (if result = 0 then s.rdN Reg.NE_MQ_ERR else oneMore (s.rdN Reg.NE_MQ_ERR)))

/-- MQ_TAIL_WRITE, ROTATE, GENERATION_RELEASE: the tail is taken; a rotation derives the next generation into a free slot under the service master, or
does nothing; a VERIFY_ONLY generation whose grace has passed is released and its slot invalid. -/
def Claims.Generations : Prop :=
  ∀ s : State,
    (∀ (req : Requester) (ap : Aperture) (v : Word), s.Admits req ap Reg.NE_MQ_TAIL → Effect (.mqTailWrite req ap v) s (fun u =>
      u.rdN Reg.NE_MQ_TAIL % 4096 = v.toNat % 4096 ∧ Accesses (· = Reg.NE_MQ_TAIL) s u)) ∧
    (∀ (req : Requester) (ap : Aperture), s.Admits req ap Reg.NE_ROT_CMD → Effect (.rotate req ap) s (fun u =>
      if s.ne.rot ≠ none ∨ s.serviceMaster = none ∨ (List.range 128).all s.slotValid = true then u.ne = s.ne ∧ u.ks = s.ks
      else ∃ k, k < 128 ∧ s.slotValid k = false ∧ u.ne = { s.ne with rot := some (k, (s.genNum 0 + 1) % 65536) } ∧ u.slotValid k = true ∧
        u.whl = { s.whl with spent := s.whl.spent.modify 12 (· + 1) })) ∧
    (∀ newer : Bool, Effect (.generationRelease newer) s (fun u =>
      let j := if newer then 1 else 2
      if s.halted = true ∨ s.graceOver j = false then u = s
      else u.genHeld j = false ∧ u.slotValid (s.genSlotOf j) = false))

/-- SKETCH_PERIOD, NE_REQ_AGED and NE_LANE: the sketches change places and the counts start anew; the oldest withheld request is dropped and counted; a
fenced lane leaves one fewer. -/
def Claims.NtpUpkeep : Prop :=
  ∀ s : State,
    Effect .sketchPeriod s (fun u =>
      if s.halted then u = s
      else u.ne = { s.ne with sketchOld := s.ne.sketch, sketch := [], skMs := 0 } ∧ u.rdN Reg.NE_SK_N = 0 ∧ u.rdN Reg.NE_SK_EPS = 0 ∧
        u.flag Fld.NE_SK_STAT_CUR = !s.flag Fld.NE_SK_STAT_CUR ∧ u.jn.hll = [] ∧
        Writes (fun a => a = Reg.NE_SK_N ∨ a = Reg.NE_SK_EPS ∨ a = Reg.NE_SK_STAT ∨ a = Reg.JN_HLL_EST)
          { s with ne := u.ne, jn := { s.jn with hll := [], hllExport := u.jn.hllExport, skExport := u.jn.skExport }, freeCtr := u.freeCtr } u) ∧
    Effect .neReqAged s (fun u =>
      match s.whl.withheld.find? (fun c => match c with | .ntpRequest _ _ _ => true | _ => false) with
      | none => u = s
      | some c => if s.halted then u = s else u.whl = { s.whl with withheld := s.whl.withheld.erase c } ∧
        u.rdN Reg.NE_REQ_AGED = oneMore (s.rdN Reg.NE_REQ_AGED) ∧ Writes (· = Reg.NE_REQ_AGED) { s with whl := u.whl } u) ∧
    (∀ busy : Bool, s.consequential 20 = false ∨ s.safe = true → Effect (.neLane busy) s (fun u =>
      if s.halted then u = s
      else u.get Fld.NE_CAP_LANES = s.get Fld.NE_CAP_LANES - 1 ∧ u.flag Fld.NE_EVT_LANE_FENCE = true ∧
        u.rdN Reg.NE_LANE_LOST = (if busy then oneMore (s.rdN Reg.NE_LANE_LOST) else s.rdN Reg.NE_LANE_LOST)))

/-- Together: mint entries, generations, ntp upkeep. -/
def Obligations.NtpKeys : Prop := Claims.MintEntries ∧ Claims.Generations ∧ Claims.NtpUpkeep

/-! ### The key store and the Pit (chapter 14) -/

/-- The thirteen key-store commands are taken alike: from a Pip that is no service Pip nothing happens; while BUSY the command is ignored with BUSY_REJ;
otherwise it becomes the command in progress with its slots, waiting where its KEYOP unit is not admitted; ZEROISE at once leaves no key. -/
def Claims.KeyStoreCommands : Prop :=
  ∀ (f : KsFrom) (a b : Fin 128) (s : State),
    let takes := fun (op slot parent : Nat) (u : State) =>
      if (match f with | .host => false | .pip k _ _ _ => decide (k.val < 24)) then u = s
      else if s.flag Fld.KS_RESULT_BUSY then u.flag Fld.KS_EVT_BUSY_REJ = true ∧ u.ks = s.ks
      else u.flag Fld.KS_RESULT_BUSY = true ∧
        ∃ j, u.ks.job = some j ∧ j.who = f ∧ j.op = op ∧ j.slot = slot ∧ j.parent = parent ∧ j.aborted = false ∧
          j.waiting = (ksKeyop op && !s.admits 12 1) ∧ (op = 12 → s.lcEff ≠ 4 → u.ks.zeroised = true ∧ ∀ k, k < 128 → u.slotValid k = false)
    Effect (.generate f a) s (takes 1 a.val 0) ∧ Effect (.derive f a b) s (takes 2 a.val b.val) ∧ Effect (.agree f a b) s (takes 3 a.val b.val) ∧
    Effect (.sign f a) s (takes 4 a.val 0) ∧ Effect (.verify f a) s (takes 5 a.val 0) ∧ Effect (.getpub f a) s (takes 6 a.val 0) ∧
    Effect (.wrapExport f a b) s (takes 7 a.val b.val) ∧ Effect (.wrapImport f a b) s (takes 8 a.val b.val) ∧ Effect (.invalidate f a) s (takes 9 a.val 0) ∧
    Effect (.lcToken f) s (takes 10 0 0) ∧ Effect (.provision f) s (takes 11 0 0) ∧ Effect (.zeroise f) s (takes 12 0 0) ∧
    Effect (.certLoad f) s (takes 13 0 0)

/-- KS_COMMAND_DONE: the command in progress ends with its result code, BUSY goes, and DONE is set; one that a zeroisation aborted ends with 13 and no
output. A command that waits, or none, does nothing. -/
def Claims.KeyStoreResults : Prop :=
  ∀ s : State, Effect .ksCommandDone s (fun u =>
    match s.ks.job with
    | none => u = s
    | some j =>
      if j.waiting then u = s
      else u.ks.job = none ∧ u.flag Fld.KS_RESULT_BUSY = false ∧ u.flag Fld.KS_EVT_DONE = true ∧
        u.get Fld.KS_RESULT_RESULT = (if j.aborted then 13 else (s.ksRun j).1) % 2 ^ Fld.KS_RESULT_RESULT.width ∧
        (j.aborted = true → u.get Fld.KS_RESULT_OUTLEN = 0 ∧ u.ks = { s.ks with job := none }) ∧
        (j.aborted = false → u.ks = { (s.ksRun j).2.2.ks with job := none }))

/-- What commands do to the slots. In TERMINATED every command ends with 1. GENERATE into a valid slot, or for no type, ends with 3; otherwise the slot is valid
with its own attributes and no parent. DERIVE makes a child one deeper. INVALIDATE leaves a slot and its descendants invalid. -/
def Claims.KeySlots : Prop :=
  ∀ (s : State) (j : KsJob), j.slot < 128 → j.parent < 128 →
    let r := s.ksRun j
    (s.lcEff = 4 → r.1 = 1 ∧ r.2.1 = [] ∧ r.2.2.ks = s.ks) ∧
    (s.lcEff ≠ 4 → j.op = 1 → bitsOf j.arg1 16 11 ≤ 1024 → s.drbgOk = true →
      if s.slotValid j.slot = true ∨ bitsOf j.arg0 28 3 = 0 ∨ 4 < bitsOf j.arg0 28 3 then r.1 = 3 ∧ r.2.2.ks = s.ks
      else r.1 = 0 ∧ r.2.2.slotValid j.slot = true ∧ r.2.2.slotType j.slot = bitsOf j.arg0 28 3 ∧ r.2.2.flag (Fld.KS_SLOTs_ATTR1_PARENT_NIL j.slot) = true ∧
        ∀ k, k < 128 → k ≠ j.slot → r.2.2.slotValid k = s.slotValid k) ∧
    (j.op = 2 → r.1 = 0 → r.2.2.slotValid j.slot = true ∧ s.slotValid j.slot = false ∧ s.slotValid j.parent = true ∧ s.useOk j.parent .derive = true ∧
      r.2.2.get (Fld.KS_SLOTs_ATTR1_PARENT j.slot) = j.parent ∧
      r.2.2.get (Fld.KS_SLOTs_ATTR1_DEPTH j.slot) = s.get (Fld.KS_SLOTs_ATTR1_DEPTH j.parent) + 1) ∧
    (j.op = 7 → s.flag (Fld.KS_SLOTs_ATTR0_EXPORTABLE j.slot) = false → r.1 ≠ 0 ∧ r.2.1 = []) ∧
    (j.op = 9 → r.1 = 0 → ∀ k, k < 128 → s.descends j.slot 8 k = true → r.2.2.slotValid k = false)

/-- Together: key store commands, key slots, key store results. -/
def Obligations.KeyStore : Prop := Claims.KeyStoreCommands ∧ Claims.KeySlots ∧ Claims.KeyStoreResults

/-- A zeroisation: no slot is valid and none has material, the certificate and any statement in progress are gone, any command but ZEROISE itself is
aborted, the DRBG is not in service, and TAMPER is said. -/
def Claims.Zeroisation : Prop :=
  ∀ (s : State) (srcs : List Nat),
    let u := s.zeroise srcs
    (∀ k, k < 128 → u.slotValid k = false ∧ u.keyOfSlot k = []) ∧ u.ks.zeroised = true ∧ u.ks.cert = none ∧ u.eb.att = none ∧
      (∀ j, u.ks.job = some j → j.op ≠ 12 → j.aborted = true) ∧ u.drbgOk = false ∧ u.flag Fld.TP_STAT_TAMPER = true ∧
      u.flag Fld.TP_EVT_ZEROISED = true ∧ u.flag Fld.TP_EVT_TAMPER = true ∧ u.ks.lc = s.ks.lc

/-- ANCHOR_RECORD, VBAT_LOSS, TAMPER_LOOP, DETECTOR_TRIP: the RTC is recorded with the time unless time is unset; a damaged retention pattern, a newly open
enabled loop or a zeroising detector zeroises; any other detector is logged. -/
def Claims.PitEvents : Prop :=
  ∀ (rtc : Nat) (s : State),
    Effect (.anchorRecord rtc) s (fun u =>
      u.ks.rtc = rtc % 2 ^ 48 ∧ u.rd64 Reg.TP_RTC_L = rtc % 2 ^ 48 ∧
        (if s.timeState = 0 then u.rd64 Reg.TP_ANCHOR_RTC_L = s.rd64 Reg.TP_ANCHOR_RTC_L ∧ u.rd Reg.TP_ANCHOR_S = s.rd Reg.TP_ANCHOR_S
         else u.rd64 Reg.TP_ANCHOR_RTC_L = rtc % 2 ^ 48 ∧ u.rdN Reg.TP_ANCHOR_S = s.viewSec % 2 ^ 32) ∧
        Writes (fun a => a = Reg.TP_RTC_L ∨ a = Reg.TP_RTC_H ∨ a = Reg.TP_ANCHOR_RTC_L ∨ a = Reg.TP_ANCHOR_RTC_H ∨ a = Reg.TP_ANCHOR_S)
          { s with ks := u.ks } u) ∧
    Effect (.vbatLoss rtc) s (fun u => u.flag Fld.TP_EVT_VBAT_LOSS = true ∧ u.ks.zeroised = true ∧ ∀ k, k < 128 → u.slotValid k = false) ∧
    (∀ loops : Fin 16, Effect (.tamperLoop loops rtc) s (fun u =>
      let now := loops.val &&& bitsOf (s.rdN Reg.TP_LOOP_CFG) 0 4
      u.ks.loops = loops.val ∧ u.get Fld.TP_STAT_LOOP_OPEN = now ∧
        if (setBits 4 now).all (fun k => bitAt (s.get Fld.TP_STAT_LOOP_OPEN) k) = true then u.ks.zeroised = s.ks.zeroised
        else u.ks.zeroised = true ∧ ∀ k, k < 128 → u.slotValid k = false)) ∧
    (∀ d : Detector, Effect (.detectorTrip d rtc) s (fun u =>
      let zeroises := match d with
        | .vdd => bitAt (s.rdN Reg.TP_DET_CFG) 0 | .temp => bitAt (s.rdN Reg.TP_DET_CFG) 1 | .clk => bitAt (s.rdN Reg.TP_DET_CFG) 2 | .vbatLow => false
      (d = .vbatLow → u.flag Fld.TP_STAT_VBAT_OK = false) ∧
        if zeroises then u.ks.zeroised = true ∧ ∀ k, k < 128 → u.slotValid k = false
        else u.flag Fld.TP_EVT_DETECT = true ∧ u.ks.zeroised = s.ks.zeroised))

/-- PERIODIC_SELF_TEST, DRBG_RESEED, ENTROPY_FAIL: a passed test changes nothing; a failed one takes an AES core with its SHA lane, or the P-384
engine, out of service; a reseed without entropy stops the DRBG; a failed health test is reported. -/
def Claims.CoresAndEntropy : Prop :=
  ∀ s : State,
    (∀ x : CryptoUnit, Effect (.periodicSelfTest x true) s (fun u => u = s)) ∧
    (s.consequential 21 = false ∨ s.safe = true →
      (∀ (k : Fin 8) (x : CryptoUnit), x = .aes k ∨ x = .sha k → Effect (.periodicSelfTest x false) s (fun u =>
        if bitAt s.ks.fenced k.val then u = s
        else u.ks = { s.ks with fenced := setBitAt s.ks.fenced k.val } ∧ u.flag Fld.KS_EVT_CORE_FENCE = true ∧
          u.get Fld.KS_CAP_AES = u.aesInService ∧ u.get Fld.KS_CAP_SHA = u.aesInService ∧
          u.whl = { s.whl with aesCores := u.aesInService, rescaleDue := true })) ∧
      Effect (.periodicSelfTest .pk false) s (fun u =>
        if s.pkFenced then u = s
        else u.pkFenced = true ∧ u.get Fld.KS_CAP_PK = 0 ∧ u.flag Fld.KS_EVT_CORE_FENCE = true ∧ u.ks = s.ks)) ∧
    (∀ entropy : Bool, Effect (.drbgReseed entropy) s (fun u => u.drbgOk = entropy ∧ Writes (· = Reg.KS_STAT) s u)) ∧
    Effect .entropyFail s (fun u => u.flag Fld.KS_EVT_ENTROPY = true ∧ Touches (· = Reg.KS_EVT) s u)

/-- Together: zeroisation, pit events, cores and entropy. -/
def Obligations.PitAndCores : Prop := Claims.Zeroisation ∧ Claims.PitEvents ∧ Claims.CoresAndEntropy

/-! ### The Pips (chapter 15) -/

/-- NOP and the operations on two registers: a Pip at the instruction's word takes the next index and writes the result to RD, its registers being words;
one that is not there does nothing. -/
def Claims.PipArithmetic : Prop :=
  ∀ (k : PipNo) (d a b : PReg) (s : State), (∀ r, r < 16 → s.p k.val r < 2 ^ 32) →
    let x := BitVec.ofNat 32 (s.p k.val a.val)
    let y := BitVec.ofNat 32 (s.p k.val b.val)
    let gives := fun (c : Instr) (op : Nat) (v : Word) => Effect c s (fun u =>
      let w := op * 2 ^ 26 + d.val * 2 ^ 22 + a.val * 2 ^ 18 + b.val * 2 ^ 14
      (s.canIssue k.val w 1 = true → u = (s.issued k.val 1).setP k.val d.val v.toNat) ∧ (s.pipReady k.val w = false → u = s))
    Effect (.nop k) s (fun u => (s.canIssue k.val 0 1 = true → u = s.issued k.val 1) ∧ (s.pipReady k.val 0 = false → u = s)) ∧
    gives (.add k d a b) 0x01 (x + y) ∧ gives (.sub k d a b) 0x02 (x - y) ∧ gives (.and k d a b) 0x03 (x &&& y) ∧
    gives (.or k d a b) 0x04 (x ||| y) ∧ gives (.xor k d a b) 0x05 (x ^^^ y) ∧ gives (.shl k d a b) 0x06 (x <<< (y.toNat % 32)) ∧
    gives (.shr k d a b) 0x07 (x >>> (y.toNat % 32)) ∧ gives (.sra k d a b) 0x08 (x.sshiftRight (y.toNat % 32)) ∧ gives (.mul k d a b) 0x09 (x * y) ∧
    gives (.slt k d a b) 0x0A (if x.slt y then 1 else 0) ∧ gives (.sltu k d a b) 0x0B (if x.ult y then 1 else 0)

/-- The operations on a register and an immediate: arithmetic immediates extend their sign, logical ones do not; a shift takes bits 4 to 0. -/
def Claims.PipImmediates : Prop :=
  ∀ (k : PipNo) (d a : PReg) (imm : BitVec 18) (s : State), (∀ r, r < 16 → s.p k.val r < 2 ^ 32) →
    let x := BitVec.ofNat 32 (s.p k.val a.val)
    let n := imm.toNat % 32
    let gives := fun (c : Instr) (op : Nat) (v : Word) => Effect c s (fun u =>
      let w := op * 2 ^ 26 + d.val * 2 ^ 22 + a.val * 2 ^ 18 + imm.toNat
      (s.canIssue k.val w 1 = true → u = (s.issued k.val 1).setP k.val d.val v.toNat) ∧ (s.pipReady k.val w = false → u = s))
    gives (.addi k d a imm) 0x10 (x + imm.signExtend 32) ∧ gives (.andi k d a imm) 0x11 (x &&& imm.setWidth 32) ∧
    gives (.ori k d a imm) 0x12 (x ||| imm.setWidth 32) ∧ gives (.xori k d a imm) 0x13 (x ^^^ imm.setWidth 32) ∧
    gives (.shli k d a imm) 0x14 (x <<< n) ∧ gives (.shri k d a imm) 0x15 (x >>> n) ∧ gives (.srai k d a imm) 0x16 (x.sshiftRight n) ∧
    ∀ up : BitVec 16, Effect (.lui k d up) s (fun u =>
      let w := 0x17 * 2 ^ 26 + d.val * 2 ^ 22 + up.toNat
      (s.canIssue k.val w 1 = true → u = (s.issued k.val 1).setP k.val d.val (up.toNat * 2 ^ 16)) ∧ (s.pipReady k.val w = false → u = s))

/-- LD and ST: the word at RA plus the sign-extended immediate; an address that is no multiple of 4 or lies outside the store fails with DATA_RANGE; a word
stored outside a called frame's window is what is then read. -/
def Claims.PipDataStore : Prop :=
  ∀ (k : PipNo) (d a : PReg) (imm : BitVec 18) (s : State),
    let x := (BitVec.ofNat 32 (s.p k.val a.val) + imm.signExtend 32).toNat
    let word := fun op : Nat => op * 2 ^ 26 + d.val * 2 ^ 22 + a.val * 2 ^ 18 + imm.toNat
    let bad := x % 4 ≠ 0 ∨ 0x800 ≤ x
    Effect (.ld k d a imm) s (fun u =>
      (s.canIssue k.val (word 0x18) 2 = true →
        if bad then u = (s.issued k.val 2).failHere k.val 3 else u = (s.issued k.val 2).setP k.val d.val (s.dataWord k.val x)) ∧
      (s.pipReady k.val (word 0x18) = false → u = s)) ∧
    Effect (.st k d a imm) s (fun u =>
      (s.canIssue k.val (word 0x19) 2 = true →
        if bad then u = (s.issued k.val 2).failHere k.val 3
        else (u.p k.val d.val = s.p k.val d.val ∧ u.pcOf k.val = (s.pcOf k.val + 1) % 1024) ∧
          (k.val < s.pips.length → memWf (s.pip k.val).dmem = true → (8 ≤ k.val ∨ (s.pip k.val).queue = [] ∨ x < 0x780) →
            u.dataWord k.val x = s.p k.val d.val % 2 ^ 32 ∧
              ∀ z, z < x ∨ x + 4 ≤ z → memByte (u.pip k.val).dmem z = memByte (s.pip k.val).dmem z)) ∧
      (s.pipReady k.val (word 0x19) = false → u = s))

/-- Branches, JMP, CALL and RET: where the condition holds the next index is the target, otherwise the one after; CALL leaves the return index in p15. -/
def Claims.PipControl : Prop :=
  ∀ (k : PipNo) (a b : PReg) (t : BitVec 10) (s : State), (∀ r, r < 16 → s.p k.val r < 2 ^ 32) →
    let x := BitVec.ofNat 32 (s.p k.val a.val)
    let y := BitVec.ofNat 32 (s.p k.val b.val)
    let goes := fun (c : Instr) (w : Nat) (v : State) => Effect c s (fun u =>
      (s.canIssue k.val w 1 = true → u = v) ∧ (s.pipReady k.val w = false → u = s))
    let word := fun op : Nat => op * 2 ^ 26 + a.val * 2 ^ 22 + b.val * 2 ^ 18 + t.toNat
    let i := s.issued k.val 1
    goes (.beq k a b t) (word 0x20) (if x = y then i.setPc k.val t.toNat else i) ∧
    goes (.bne k a b t) (word 0x21) (if x ≠ y then i.setPc k.val t.toNat else i) ∧
    goes (.blt k a b t) (word 0x22) (if x.slt y then i.setPc k.val t.toNat else i) ∧
    goes (.bltu k a b t) (word 0x23) (if x.ult y then i.setPc k.val t.toNat else i) ∧
    goes (.jmp k t) (0x24 * 2 ^ 26 + t.toNat) (i.setPc k.val t.toNat) ∧
    goes (.call k t) (0x25 * 2 ^ 26 + t.toNat) ((i.setP k.val 15 ((s.pcOf k.val + 1) % 1024)).setPc k.val t.toNat) ∧
    goes (.ret k) (0x26 * 2 ^ 26) (i.setPc k.val (s.p k.val 15 % 1024))

/-- Together: pip arithmetic, pip immediates, pip data store, pip control. -/
def Obligations.PipInstructions : Prop := Claims.PipArithmetic ∧ Claims.PipImmediates ∧ Claims.PipDataStore ∧ Claims.PipControl

/-- STAMP (R376): RD at most 14 and MOD 0 or 1, otherwise the instruction is illegal; MOD 0 writes the time view, S[31:0] into RD and N into RD + 1, and MOD 1
writes WHL_SEQ[31:0] and WHL_POS. Where the Pip is not at the instruction, nothing happens. -/
def Obligations.StampInstruction : Prop :=
  ∀ (k : PipNo) (d : PReg) (m : BitVec 14) (s : State),
    let w := 0x31 * 2 ^ 26 + d.val * 2 ^ 22 + m.toNat
    let i := s.issued k.val 1
    Effect (.stamp k d m) s (fun u =>
      (s.pipReady k.val w = false → u = s) ∧
      (s.canIssue k.val w 1 = true →
        if d.val ≤ 14 ∧ m.toNat ≤ 1 then
          let first := (if m.toNat = 0 then s.viewSec else s.rdN Reg.WHL_SEQ_L) % 2 ^ 32
          let second := (if m.toNat = 0 then s.viewNs else s.rdN Reg.WHL_POS) % 2 ^ 32
          u.pips = i.pips.modify k.val (fun x => { x with regs := (x.regs.set d.val first).set (d.val + 1) second }) ∧ u = { i with pips := u.pips }
        else u = i.failHere k.val 2))

/-- WAITT, WAITT_RESUME, TRIG, EMIT, YIELD: a wait ends its watchdog interval and holds the Pip until the view reaches the operand; TRIG acts on the Pip's own triggers; EMIT on the lines and levels it is granted; YIELD ends the interval, and a classifier's call. -/
def Claims.PipTime : Prop :=
  ∀ (k : PipNo) (d a b : PReg) (m : BitVec 14) (s : State),
    let i := s.issued k.val 1
    let at1 := fun (c : Instr) (w : Nat) (P : State → Prop) => Effect c s (fun u =>
      (s.canIssue k.val w 1 = true → P u) ∧ (s.pipReady k.val w = false → u = s))
    at1 (.waitt k a b) (0x30 * 2 ^ 26 + a.val * 2 ^ 18 + b.val * 2 ^ 14) (fun u =>
      let sec := s.p k.val a.val
      let ns := s.p k.val b.val
      u.tc = s.tc ∧
        if s.reached sec ns then u.pips = i.pips.modify k.val (fun x => { x with wdog := 0 })
        else u.pips = i.pips.modify k.val (fun x => { x with wdog := 0, wait := .time sec ns }) ∧ u.flag (Fld.PPk_STAT_WAITING k.val) = true) ∧
    Effect (.waittResume k) s (fun u =>
      match (s.pip k.val).wait with
      | .time sec ns =>
        if s.safe = true ∨ (s.counting = false ∧ s.reached sec ns = false) then u = s
        else u.flag (Fld.PPk_STAT_WAITING k.val) = false ∧
          u.tc.now = (if s.reached sec ns then s else s.advanceTo (s.waitTarget sec ns + 4 * nsU)).tc.now
      | _ => u = s) ∧
    at1 (.trig k d a b m) (0x32 * 2 ^ 26 + d.val * 2 ^ 22 + a.val * 2 ^ 18 + b.val * 2 ^ 14 + m.toNat) (fun u =>
      let n := m.toNat % 32
      if 63 < m.toNat then u = i.failHere k.val 2
      else if s.trgOwner n ≠ 0x20 + k.val then u = (i.evt Fld.TC_EVT_TRG_DENIED).setP k.val d.val 1
      else if bitAt m.toNat 5 then u.tc = { s.tc with triggers := s.tc.triggers.set n none } ∧ u.flag (Fld.TRGn_STAT_ARMED n) = false
      else u = (i.tick.trgArmAt n (timeOf (s.viewSec / 2 ^ 32 * 2 ^ 32 + s.p k.val a.val) (s.p k.val b.val) 0)).setP k.val d.val 0) ∧
    at1 (.emit k a m) (0x33 * 2 ^ 26 + a.val * 2 ^ 18 + m.toNat) (fun u =>
      let v := bitAt (s.p k.val a.val) 0
      let own := 8 ≤ k.val ∧ k.val < 24 ∧ 3 ≤ (s.out (k.val - 8)).cfg.mode ∧ (s.pip k.val).decode = 0
      if 255 < m.toNat then u = i.failHere k.val 2
      else if m.toNat < 0x20 ∧ bitAt (s.rdN (Reg.PPk_EMIT k.val)) m.toNat = true then (v = false → u = i)
      else if m.toNat = 0x40 ∧ own then u = i.modPip k.val (fun x => { x with nextLevel := some v })
      else if m.toNat = 0x41 ∧ own then u = i.pipLevel k.val v
      else u.flag (Fld.PPk_EVT_ACL_DENY k.val) = true ∧ u.tc = s.tc ∧ u.outs = s.outs) ∧
    at1 (.yield k) (0x38 * 2 ^ 26) (fun u =>
      if k.val < 8 ∧ (s.pip k.val).queue ≠ [] then ∃ f r, (s.pip k.val).queue = f :: r ∧
        u = (((i.yieldPoint k.val).modPip k.val (fun x => { x with queue := r })).verdict f (s.p k.val 0 % 2 ^ 20) (s.p k.val 1 % 8)
          (bitsOf (s.p k.val 1) 8 4) (s.p k.val 2)).callHead k.val
      else u = i.yieldPoint k.val)

/-- SEND, RECV, RECV_RESUME, PEEK, POKE, PEEK_POKE_DONE, HOST_MBOX_SEND: a service Pip's message joins the inbox of a running Pip with room; a receiver
takes the oldest message or waits; an access waits for the fabric, and one outside the access list is denied with status 1. -/
def Claims.PipMessages : Prop :=
  ∀ (k : PipNo) (d a b : PReg) (m : BitVec 14) (s : State),
    let i := s.issued k.val 1
    let at1 := fun (c : Instr) (w : Nat) (P : State → Prop) => Effect c s (fun u =>
      (s.canIssue k.val w 1 = true → P u) ∧ (s.pipReady k.val w = false → u = s))
    at1 (.send k d a m) (0x34 * 2 ^ 26 + d.val * 2 ^ 22 + a.val * 2 ^ 18 + m.toNat) (fun u =>
      let n := bitsOf m.toNat 8 2 + 1
      let dest := m.toNat % 256
      if 1023 < m.toNat ∨ 16 < a.val + n then u = i.failHere k.val 2
      else if dest ≤ 0x1B then
        if k.val < 24 then u = i.setP k.val d.val 1
        else if s.pipAlive dest = true ∧ 16 ≤ (s.pip dest).inbox.length then u = i.setP k.val d.val 2
        else s.pipAlive dest = true → u = (i.modPip dest (fun x =>
          { x with inbox := x.inbox ++ [⟨k.val, s.p k.val a.val % 2 ^ 16, ((List.range n).map (fun r => s.p k.val (a.val + r))).tail⟩] })).setP k.val d.val 0
      else dest = 0x20 → s.safe = false → ∃ e, e.source = 0x40 + k.val ∧ e.code = ((List.range n).map (fun r => s.p k.val (a.val + r))).getD 1 0 % 1024 ∧
        u.jn = { s.jn with inflight := s.jn.inflight ++ [e] }) ∧
    at1 (.recv k d m) (0x35 * 2 ^ 26 + d.val * 2 ^ 22 + m.toNat) (fun u =>
      if 12 < d.val ∨ 1 < m.toNat then u = i.failHere k.val 2
      else match (s.pip k.val).inbox with
        | [] => if m.toNat = 1 then u.flag (Fld.PPk_STAT_WAITING k.val) = true ∧ u.pips = i.pips.modify k.val (fun x => { x with wait := .recv d.val })
          else u.freeCtr = s.freeCtr + 3
        | g :: r =>
          let got := fun l : List Nat => (((l.set d.val ((g.src * 2 ^ 24 + 4 * 2 ^ 16 + g.info) % 2 ^ 32)).set (d.val + 1) (g.words.getD 0 0 % 2 ^ 32)).set
            (d.val + 2) (g.words.getD 1 0 % 2 ^ 32)).set (d.val + 3) (g.words.getD 2 0 % 2 ^ 32)
          g.words.length = 3 → u.pips = i.pips.modify k.val (fun x => { x with inbox := r, regs := got x.regs, wdog := if m.toNat = 1 then 0 else x.wdog })) ∧
    Effect (.recvResume k) s (fun u =>
      match (s.pip k.val).wait with
      | .recv rd => if s.safe = true ∨ (s.pip k.val).inbox = [] then u = s else u = ((s.setWait k.val .none).takeMsg k.val rd).yieldPoint k.val
      | _ => u = s) ∧
    at1 (.peek k d a b) (0x36 * 2 ^ 26 + d.val * 2 ^ 22 + a.val * 2 ^ 18 + b.val * 2 ^ 14) (fun u =>
      u.pips = i.pips.modify k.val (fun x => { x with wait := .fabric true (s.p k.val a.val) 0 d.val b.val })) ∧
    at1 (.poke k d a b) (0x37 * 2 ^ 26 + d.val * 2 ^ 22 + a.val * 2 ^ 18 + b.val * 2 ^ 14) (fun u =>
      u.pips = i.pips.modify k.val (fun x => { x with wait := .fabric false (s.p k.val a.val) (s.p k.val b.val) d.val d.val })) ∧
    Effect (.peekPokeDone k) s (fun u =>
      match (s.pip k.val).wait with
      | .fabric rd addr value dr sr =>
        let t := (s.setWait k.val .none).fabricTime k.val
        let x : Access := ⟨.pip k, .other, bitsOf addr 16 9, bitsOf addr 0 12, 15⟩
        if s.aclCovers k.val (bitsOf addr 16 9) (!rd) = false then u = (t.evt (Fld.PPk_EVT_ACL_DENY k.val)).setP k.val sr 1
        else
          let v := if rd then t.busRead x else t.busWrite x (BitVec.ofNat 32 value)
          let r := v.lastRead (.pip k)
          u = (if rd = true ∧ r.2 ≠ 1 then v.setP k.val dr r.1.toNat else v).setP k.val sr r.2
      | _ => u = s) ∧
    (∀ (req : Requester) (ap : Aperture) (words : Fin 4), s.Admits req ap (Reg.PPk_MBOX_CMD k.val) → Effect (.hostMboxSend req ap k words) s (fun u =>
      s.pipAlive k.val = true → (s.pip k.val).inbox.length < 16 →
        u.pips = s.pips.modify k.val (fun x => { x with inbox := x.inbox ++ [⟨0x2A, s.rdN (Reg.PPk_MBOX k.val 0) % 2 ^ 16,
          ((List.range (words.val + 1)).map (fun r => s.rdN (Reg.PPk_MBOX k.val r))).tail⟩] })))

/-- Together: pip time, pip messages. -/
def Obligations.PipTimeAndMessages : Prop := Claims.PipTime ∧ Claims.PipMessages

/-- PIP_WATCHDOG, PIP_FAIL, PIP_RESTART and a service Pip's budget: a failure of a running Pip is recorded and counted; it restarts at its entry, or is fenced if
it failed again within a second; a service Pip without cycles gets a block of 64 or is held. -/
def Obligations.PipFailures : Prop :=
  ∀ (k : PipNo) (s : State),
    let failed := fun (cause index : Nat) (u : State) =>
      if s.pipAlive k.val = false then u = s
      else
        let again := match (s.pip k.val).failedAt with | some t => decide (s.tc.now ≤ t + secU) | none => false
        u.get (Fld.PPk_LASTFAIL_CAUSE k.val) = cause ∧ u.get (Fld.PPk_LASTFAIL_INDEX k.val) = index % 1024 ∧
          u.rdN (Reg.PPk_FAILS k.val) = oneMore (s.rdN (Reg.PPk_FAILS k.val)) ∧ u.flag (Fld.PPk_EVT_FAIL k.val) = true ∧
          u.flag (Fld.PPk_STAT_STALLED k.val) = false ∧ u.flag (Fld.PPk_STAT_WAITING k.val) = false ∧
          (again = true → s.consequential 24 = false → u.flag (Fld.PPk_STAT_FENCED k.val) = true ∧ u.flag (Fld.PPk_STAT_RUNNING k.val) = false) ∧
          (again = false ∨ s.consequential 24 = true → u.flag (Fld.PPk_STAT_RUNNING k.val) = true ∧ u.pcOf k.val = (s.pip k.val).entries.getD (s.pip k.val).entry 0 % 1024)
    Effect (.pipWatchdog k) s (fun u =>
      if s.safe = false ∧ bitsOf (s.rdN (Reg.PPk_WDOG k.val)) 0 16 < (s.pip k.val).wdog then failed 1 (s.pcOf k.val + 1023) u else u = s) ∧
    Effect (.pipFail k .parity) s (fun u => if s.safe then u = s else failed 4 (s.pcOf k.val) u) ∧
    Effect (.pipFail k .illegal) s (fun u =>
      if s.safe = true ∨ (match s.pipWord k.val with | some w => legalWord w | none => false) = true then u = s else failed 2 (s.pcOf k.val) u) ∧
    Effect (.pipFail k .dataRange) s (fun u => if s.safe = true ∨ s.pipWord k.val ≠ none then u = s else failed 3 (s.pcOf k.val) u) ∧
    Effect (.pipFail k .wdog) s (fun u =>
      if s.safe = true ∨ (s.pip k.val).wdog ≤ bitsOf (s.rdN (Reg.PPk_WDOG k.val)) 0 16 then u = s else failed 1 (s.pcOf k.val) u) ∧
    (∀ (req : Requester) (ap : Aperture), s.Admits req ap (Reg.PPk_CMD k.val) → Effect (.pipRestart req ap k) s (fun u =>
      if s.pipAlive k.val then u.flag (Fld.PPk_STAT_RUNNING k.val) = true ∧
        u.pcOf k.val = (s.pip k.val).entries.getD (s.pip k.val).entry 0 % 1024 ∧ u.rd (Reg.PPk_FAILS k.val) = s.rd (Reg.PPk_FAILS k.val)
      else u.pips = s.pips)) ∧
    (24 ≤ k.val → ∀ w cost f, s.pipReady k.val w = true → (s.pip k.val).block < cost →
      bitsOf (s.rdN (Reg.PPk_CEIL k.val)) 0 20 ≤ (s.pip k.val).cycles ∨ s.admits 6 64 = false →
        (s.pipStep k.val w cost f).flag (Fld.PPk_STAT_STALLED k.val) = true ∧ (s.pipStep k.val w cost f).pcOf k.val = s.pcOf k.val ∧
          (s.pipStep k.val w cost f).rdN (Reg.PPk_STALLS k.val) = oneMore (s.rdN (Reg.PPk_STALLS k.val)))

/-! ### Outputs, the redundant pair, feeds and links (chapters 16 to 18) -/

/-- OUTPUT_EDGE: a live output in pulse or frequency mode, or in IRIG-B mode on its ROM program, places its next edge as time reaches that edge's instant; a
rising one is counted. An instant of frequency mode is a multiple of its period, the first not before the time asked. An IRIG element stays high for 8 ms as
a position identifier (the reference marker and every tenth element) and for 5 ms or 2 ms otherwise. -/
def Claims.OutputEdges : Prop :=
  (∀ (n : Fin 16) (s : State), Effect (.outputEdge n) s (fun u =>
    let o := s.out n.val
    if s.outLive n.val = false ∨ s.counting = false ∨ s.outGen n.val = false then u = s
    else if o.level then
      (u.out n.val).level = false ∧ u.tc.now = (s.advanceTo (s.edgeAt n.val (o.rise + s.highFor n.val))).tc.now
    else
      let nom := s.nominalFrom o.cfg ((max o.after s.tc.now : Int) + s.outAdvance n.val).toNat
      u.tc.now = (s.advanceTo (s.edgeAt n.val nom)).tc.now ∧ u.rdN (Reg.OUn_EDGES n.val) = (s.rdN (Reg.OUn_EDGES n.val) + 1) % 2 ^ 32 ∧
        (n.val < s.outs.length → (u.out n.val).level = true ∧ (u.out n.val).rise = nom))) ∧
  (∀ (s : State) (c : OutCfg) (x : Nat), c.mode = 2 → 0 < c.fdiv →
    x ≤ s.nominalFrom c x ∧ s.nominalFrom c x < x + c.fdiv * nsU ∧ s.nominalFrom c x % (c.fdiv * nsU) = 0) ∧
  (∀ (s : State) (sec r k : Nat), k < 100 →
    let ms := (s.irigFrameOf sec r).getD k 0
    (k = 0 ∨ k % 10 = 9 → ms = 8) ∧ (¬(k = 0 ∨ k % 10 = 9) → ms = 5 ∨ ms = 2)) ∧
  (∀ (s : State) (n : Nat), (s.out n).cfg.mode = 3 → s.highFor n = ((s.out n).irig.getD (nsOf (s.out n).rise / 10000000) 2) * 1000000 * nsU)

/-- OUTPUT_CFG_APPLY, OUTPUT_COMP_WRITE, OUTPUT_SLEW_DONE: a pending change is taken, or refused, at the next second; a compensation is stored; time runs
until the output's lag is zero. -/
def Claims.OutputChanges : Prop :=
  ∀ (n : Fin 16) (s : State),
    Effect (.outputCfgApply n) s (fun u =>
      if (s.out n.val).change ≠ 2 ∨ s.outLive n.val = true ∨ s.counting = false then u = s
      else
        let t := s.advanceTo ((secOf s.tc.now + 1) * secU)
        u.tc.now = t.tc.now ∧ (u.out n.val).change = 0 ∧ u.flag (Fld.OUn_STAT_CFG_PENDING n.val) = false ∧
          if t.outValid n.val (t.outWant n.val) then n.val < s.outs.length → (u.out n.val).cfg = t.outWant n.val
          else u.flag (Fld.OUn_EVT_CFG_REFUSED n.val) = true) ∧
    (∀ (req : Requester) (ap : Aperture) (v : Word), s.Admits req ap (Reg.OUn_COMP n.val) → s.ownedMask (Reg.OUn_COMP n.val) = 0 →
      Effect (.outputCompWrite req ap n v) s (fun u => u.rd (Reg.OUn_COMP n.val) = v ∧ Accesses (· = Reg.OUn_COMP n.val) s u)) ∧
    Effect (.outputSlewDone n) s (fun u =>
      if (s.out n.val).lag = 0 then u = s
      else s.tc.slew = 0 → s.counting = true → 0 < State.lagRate (s.out n.val).slew →
        (u.out n.val).lag = 0 ∧ u.tc.cycle = s.tc.cycle + ceilDiv (s.out n.val).lag.natAbs (State.lagRate (s.out n.val).slew).toNat)

/-- Together: output edges, output changes. -/
def Obligations.Outputs : Prop := Claims.OutputEdges ∧ Claims.OutputChanges

/-- GRANT_EDGE, PENDING_TIMEOUT, LEASE_EXPIRY, GRANT_SILENCE, COLD_BLANK_EXPIRY and LEASE_FENCE: the lease's state by its edges and their absence. -/
def Claims.LeaseStates : Prop :=
  ∀ s : State,
    (∀ gapPs : Nat, Effect (.grantEdge gapPs) s (fun u =>
      let t := ((s.setB Fld.LS_STAT_GRANT_OK true).setB Fld.LS_STAT_SILENCED false).toRun
      if s.isMember = false ∨ s.flag Fld.SYS_BOOT_READY = false ∨ s.leaseState = 4 then u = s
      else if gapPs < 35000 ∨ 65000 < gapPs then u = s.bump Reg.LS_GRANT_GAPS
      else u.flag Fld.LS_STAT_GRANT_OK = true ∧ u.flag Fld.LS_STAT_SILENCED = false ∧
        u.leaseState = (if t.hbOk then (if s.leaseState = 0 then 1 else if s.leaseState = 1 then 2 else s.leaseState) else s.leaseState) ∧
        (s.leaseState = 1 → t.hbOk = true → u.flag Fld.LS_EVT_LEASE_GAIN = true ∧ u.rdN Reg.LS_TAKEOVERS = oneMore (s.rdN Reg.LS_TAKEOVERS) ∧
          u.flag Fld.LS_STAT_COLD_TAKE = decide (s.get Fld.LS_STAT_READY ≠ 2) ∧ u.ls.coldBlank = decide (s.get Fld.LS_STAT_READY ≠ 2)))) ∧
    Effect .pendingTimeout s (fun u => if s.leaseState = 1 then u.leaseState = 0 else u = s) ∧
    Effect .leaseExpiry s (fun u =>
      if s.leaseState = 2 then u.leaseState = 0 ∧ u.rdN Reg.LS_EXPIRIES = oneMore (s.rdN Reg.LS_EXPIRIES) ∧ u.flag Fld.LS_EVT_EXPIRED = true
      else if s.leaseState = 3 then u.leaseState = 0 ∧ u.flag Fld.LS_EVT_RELEASED = true
      else u = s) ∧
    Effect .grantSilence s (fun u =>
      u.flag Fld.LS_STAT_GRANT_OK = false ∧ u.leaseState = s.leaseState ∧
        (s.leaseState = 2 → s.flag Fld.LS_STAT_SILENCED = false → u.flag Fld.LS_STAT_SILENCED = true ∧ u.flag Fld.LS_EVT_GRANT_GAP = true)) ∧
    Effect .coldBlankExpiry s (fun u => u = s.setLs { s.ls with coldBlank := false }) ∧
    (∀ (req : Requester) (ap : Aperture), s.Admits req ap Reg.LS_CMD → Effect (.leaseFence req ap) s (fun u =>
      u.leaseState = 4 ∧ (s.leaseState ≠ 4 → u.flag Fld.LS_EVT_FENCED = true)))

/-- LEASE_SWAP, CLAIM, RESYNC, RELEASE_CUTOFF and RELEASE_INSTANT: a holder's swap is scheduled or refused; a standby claims; a resync starts anew; at the
cutoff no later reservation is taken, at the release instant the holder is RELEASING. -/
def Claims.Handovers : Prop :=
  ∀ s : State,
    Effect .leaseSwap s (fun u =>
      let warm := match s.ls.peer with | some p => s.within (some p.atTime) 5 && p.ready == 2 | none => false
      if s.leaseState ≠ 2 then u = s
      else if warm = true ∧ s.ls.release = none ∧ s.ls.grantAt + s.swapMin * secU ≤ s.tc.now ∧ s.flag Fld.LS_STAT_ROLE_CLASH = false then
        ∃ t, u.ls.release = some ⟨t, false⟩ ∧ s.tc.now + 2 * msU ≤ t
      else u = s.evt Fld.LS_EVT_SWAP_REFUSED) ∧
    Effect .claim s (fun u =>
      if s.isMember = true ∧ s.leaseState ≠ 2 ∧ s.flag Fld.LS_STAT_ROLE_CLASH = false then
        u = s.crewellSend 2 4 ([2, BitVec.ofNat 8 s.timeState] ++ beBytes 4 s.boundNs)
      else u = s) ∧
    (∀ (req : Requester) (ap : Aperture), s.Admits req ap Reg.LS_CMD → Effect (.resync req ap) s (fun u =>
      (s.mirrored = false → u.links = s.links ∧ u.ls.resyncDone = s.ls.resyncDone) ∧ (s.mirrored = true → u.ls.resyncDone = false))) ∧
    Effect .releaseCutoff s (fun u =>
      match s.ls.release with
      | none => u = s
      | some r => u.ls.cut = some r.instant ∧ u.tc.now = (s.advanceTo (r.instant - 20000 * nsU)).tc.now) ∧
    Effect .releaseInstant s (fun u =>
      match s.ls.release with
      | none => u = s
      | some r => if s.leaseState ≠ 2 then u = s else u.leaseState = 3 ∧ u.ls.pattern = true ∧ u.ls.release = none ∧ u.tc.now = (s.advanceTo r.instant).tc.now)

/-- Together: lease states, handovers. -/
def Obligations.PairLease : Prop := Claims.LeaseStates ∧ Claims.Handovers

/-- A Crewell message of 60 octets: destination, EtherType, magic, type, flags, sequence and epoch, authenticated or not; it goes to the wire's queue, or waits
where LEASE does not admitFor it. CREWELL_RECEIVE, PEER_HEALTH_LOST, AB_COLLISION and AB_BACKOFF_EXPIRY follow. -/
def Obligations.ArbiterBus : Prop :=
  ∀ s : State,
    (∀ (typ flags : Nat) (body : List Byte), typ < 256 → body.length ≤ 14 → s.flag Fld.AB_CTL_AUTH = false →
      let u := s.crewellSend typ flags body
      if s.flag Fld.AB_CTL_EN = false then u = s
      else u.ls.seq = (s.ls.seq + 1) % 2 ^ 32 ∧ ∃ f, f.length = 60 ∧ f.take 6 = crewellDst ∧ beAt f 12 2 = 0x88B5 ∧ beAt f 14 2 = 0x4357 ∧
        beAt f 17 1 = typ ∧ beAt f 22 4 = s.ls.seq % 2 ^ 32 ∧ beAt f 26 4 = (if s.role = 3 then s.ls.epoch % 2 ^ 32 else s.rdN Reg.LS_EPOCH) ∧
        if s.admits 9 1 then u.ls.txq = s.ls.txq ++ [f] ∧ u.ls.unadmitted = s.ls.unadmitted
        else u.ls.txq = s.ls.txq ∧ u.ls.unadmitted = s.ls.unadmitted ++ [f]) ∧
    (∀ b : List Byte, Effect (.crewellReceive b) s (fun u =>
      let p := (b.drop 14).take 46
      let good := beAt p 0 2 = 0x4357 ∧ beAt p 2 1 = 1 ∧ 1 ≤ beAt p 3 1 ∧ beAt p 3 1 ≤ 4 ∧ 1 ≤ beAt p 4 1 ∧ beAt p 4 1 ≤ 3 ∧
        beAt p 6 2 = bitsOf (s.rdN Reg.LS_PAIR_ID) 0 16 ∧
        (s.flag Fld.AB_CTL_AUTH = true → bitAt (beAt p 5 1) 0 = true ∧ s.crewellIcv (p.take 30) = some (p.drop 30))
      if s.flag Fld.AB_CTL_EN = false then u = s
      else u.flag Fld.AB_STAT_CRS_SEEN = true ∧
        if b.take 6 ≠ crewellDst ∨ beAt b 12 2 ≠ 0x88B5 ∨ b.length < 60 then u.rd Reg.AB_RX = s.rd Reg.AB_RX ∧ u.rd Reg.AB_BAD = s.rd Reg.AB_BAD
        else
          (¬good → u.rdN Reg.AB_BAD = oneMore (s.rdN Reg.AB_BAD) ∧ u.flag Fld.AB_EVT_BAD = true ∧ u.rd Reg.AB_RX = s.rd Reg.AB_RX) ∧
          (good → u.rdN Reg.AB_RX = oneMore (s.rdN Reg.AB_RX) ∧ u.rd Reg.AB_BAD = s.rd Reg.AB_BAD ∧
            (s.isMember = true → beAt p 4 1 = 3 → u.rdN Reg.LS_EPOCH = beAt p 12 4 ∧
              (beAt p 3 1 = 1 → u.flag Fld.LS_STAT_ARB_HEALTH = true ∧ u.ls.arbAt = some s.tc.now))))) ∧
    (∀ arb : Bool, Effect (.peerHealthLost arb) s (fun u =>
      let was := if arb then s.flag Fld.LS_STAT_ARB_HEALTH else s.flag Fld.LS_STAT_PEER_HEALTH
      if was then (if arb then u.flag Fld.LS_STAT_ARB_HEALTH = false ∧ u.flag Fld.LS_EVT_ARB_LOST = true
        else u.flag Fld.LS_STAT_PEER_HEALTH = false ∧ u.flag Fld.LS_EVT_PEER_LOST = true)
      else u = s)) ∧
    Effect .abCollision s (fun u =>
      if s.ls.txq = [] ∨ s.flag Fld.AB_CTL_PLCA_EN = true ∨ s.flag Fld.AB_CTL_EN = false ∨ s.ls.backoff ≠ none then u = s
      else u.rdN Reg.AB_COLL = oneMore (s.rdN Reg.AB_COLL) ∧
        if 16 ≤ s.ls.attempts + 1 then
          u.ls = { s.ls with txq := s.ls.txq.tail, attempts := 0 } ∧ u.flag Fld.AB_EVT_EXCESS = true ∧ u.rdN Reg.AB_EXCESS = oneMore (s.rdN Reg.AB_EXCESS)
        else ∃ slots, slots < 2 ^ min (s.ls.attempts + 1) 10 ∧ u.ls = { s.ls with attempts := s.ls.attempts + 1, backoff := some slots }) ∧
    Effect .abBackoffExpiry s (fun u => u = s.setLs { s.ls with backoff := none })

/-- The arbiter. HEARTBEAT_EDGE, ARB_HEARTBEAT_LOSS, ARB_ELIGIBLE, RELEASE_PATTERN_DETECT, ARB_GRANT_START and ARB_HEALTH_WAIT: a member is live by its edges
and eligible after 10 ms of good ones; a holder whose heartbeat ends loses the grant, and the other member has it after the wait. -/
def Obligations.Arbiter : Prop :=
  ∀ s : State,
    (∀ b : Bool,
      let m := if b then 1 else 0
      (∀ gapPs : Nat, Effect (.heartbeatEdge b gapPs) s (fun u =>
        let good := decide (400000 ≤ gapPs ∧ gapPs ≤ 600000)
        let short := decide (60000 ≤ gapPs ∧ gapPs ≤ 140000)
        if s.role ≠ 3 then u = s
        else u.flag (State.liveFld m) = true ∧ u.flag (State.hbFaultFld m) = false ∧
          u.ls = { s.ls with members := s.ls.members.modify m (fun y => { y with
            runPs := if good = true ∧ s.flag (State.liveFld m) = true then (s.member m).runPs + gapPs else 0,
            elig := (s.member m).elig && (good || short), fast := if short then (s.member m).fast + 1 else 0 }) })) ∧
      Effect (.arbHeartbeatLoss b) s (fun u =>
        if s.role ≠ 3 ∨ s.flag (State.liveFld m) = false then u = s
        else u.flag (State.liveFld m) = false ∧ (u.member m).elig = false ∧
          (s.get Fld.LS_ARB_STAT_HOLDER = m + 1 → u.get Fld.LS_ARB_STAT_HOLDER = 0 ∧ u.flag Fld.LS_ARB_STAT_WAIT = true ∧ u.ls.waitFor = some (1 - m)) ∧
          (s.get Fld.LS_ARB_STAT_HOLDER ≠ m + 1 → u.get Fld.LS_ARB_STAT_HOLDER = s.get Fld.LS_ARB_STAT_HOLDER)) ∧
      Effect (.arbEligible b) s (fun u =>
        if s.flag (State.liveFld m) = true ∧ s.flag (State.hbFaultFld m) = false ∧ 10000000000 ≤ (s.member m).runPs then
          u = s.modMember m (fun y => { y with elig := true })
        else u = s) ∧
      Effect (.releasePatternDetect b) s (fun u =>
        if s.isArbiter = false ∨ s.get Fld.LS_ARB_STAT_HOLDER ≠ m + 1 ∨ (s.member m).fast < 4 then u = s
        else u.get Fld.LS_ARB_STAT_HOLDER = (if (s.member (1 - m)).elig then 2 - m else 0) ∧
          ((s.member (1 - m)).elig = true → u.ls.epoch = (s.ls.epoch + 1) % 2 ^ 32 ∧ u.rdN Reg.LS_ARB_SWAPS = oneMore (s.rdN Reg.LS_ARB_SWAPS)))) ∧
    Effect .arbGrantStart s (fun u =>
      if s.flag Fld.LS_ARB_STAT_WAIT = false then u = s
      else u.flag Fld.LS_ARB_STAT_WAIT = false ∧ ∀ m, m < 2 → s.isArbiter = true → s.ls.waitFor = some m → (s.member m).elig = true →
        u.get Fld.LS_ARB_STAT_HOLDER = m + 1 ∧ u.ls.epoch = (s.ls.epoch + 1) % 2 ^ 32) ∧
    Effect .arbHealthWait s (fun u =>
      if s.arbFree = false then u = s
      else
        (∀ m c, m < 2 → (s.member m).claim = some c → (s.member m).elig = true → s.within (some c.1) 2 = true →
          ((s.member (1 - m)).elig = false ∨ (s.member (1 - m)).claim = none) → u.get Fld.LS_ARB_STAT_HOLDER = m + 1) ∧
        ((s.member 0).elig = false → (s.member 1).elig = false → u = s))

/-- FEED_LOSS, FEED_RETURN, FEED_PREDICT, LAST_GASP_FLUSH and MIRROR_SEND: a feed is lost or back after PF_DEB samples beyond its threshold; both lost is a
collapse; a predicted one is said once; the flush ends; a MIRROR frame leaves over link 0 whole or its records stay. -/
def Obligations.FeedsAndMirror : Prop :=
  ∀ s : State,
    (∀ (b : Bool) (l : List (Fin 4096)),
      let t := s.addSamples b (l.map Fin.val)
      Effect (.feedLoss b l) s (fun u =>
        if t.feedOk b = true ∧ t.lastSamples b (fun v => decide (v < t.feedLo b)) = true then
          u.feedOk b = false ∧ u.flag (if b then Fld.PF_EVT_B_LOST else Fld.PF_EVT_A_LOST) = true ∧
            (t.feedOk (!b) = false → u.flag Fld.PF_EVT_BOTH_LOST = true)
        else u = t) ∧
      Effect (.feedReturn b l) s (fun u =>
        if t.feedEn b = true ∧ t.feedOk b = false ∧ t.lastSamples b (fun v => decide (t.feedOkThr b ≤ v)) = true then
          u.feedOk b = true ∧ u.flag (if b then Fld.PF_EVT_B_BACK else Fld.PF_EVT_A_BACK) = true
        else u = t) ∧
      Effect (.feedPredict b l) s (fun u =>
        if t.flag Fld.PF_CTL_PRED_EN = true ∧ t.feedOk b = true ∧ t.feedOk (!b) = false ∧ t.flag Fld.PF_STAT_PREDICT = false ∧ t.crossesLo b = true then
          u.flag Fld.PF_STAT_PREDICT = true ∧ u.flag Fld.PF_EVT_PREDICT = true
        else u = t)) ∧
    Effect .lastGaspFlush s (fun u =>
      if s.ls.gasp ≠ 1 then u = s
      else u.ls.gasp = 2 ∧ u.flag Fld.PF_STAT_LG_DONE = true ∧ u.flag Fld.PF_EVT_LASTGASP = true ∧ u.rdN Reg.PF_LG_CNT = oneMore (s.rdN Reg.PF_LG_CNT)) ∧
    Effect .mirrorSend s (fun u =>
      let x := s.gather 512 1019
      if s.ulUp 0 = false ∨ (s.mirrors = false ∧ s.mirrored = false) then u = s
      else if x.1 = [] then u = x.2
      else if x.2.admits 10 (max 68 (20 + 4 * x.1.length)) then u.ls = x.2.ls ∧ u.rdN (Reg.ULk_TX_FRAMES 0) = (s.rdN (Reg.ULk_TX_FRAMES 0) + 1) % 2 ^ 32
      else u.ls = s.ls ∧ u.links = s.links ∧ u.flag (Fld.WHLn_STAT_STALLED 10) = true)

/-- USAUR_FRAME_RECEIVE: nothing on a link that is down; a wrong check value is counted, and the eighth in a row takes the link down; a frame of a wrong form
is counted as bad and does nothing more; a good one is counted, and a TIME frame leaves what the peer states. -/
def Claims.LinkFrames : Prop :=
  ∀ (k : Fin 4) (b : List Byte) (s : State), Effect (.usaurFrameReceive k b) s (fun u =>
    let n := b.length
    let w := wordsOf b
    let typ := w.getD 0 0 / 2 ^ 28
    let form := n % 4 = 0 ∧ 68 ≤ n ∧ n ≤ 4096 ∧ w.getD 1 0 / 65536 = n ∧ w.getD 0 0 % 16 = 0 ∧ w.getD 2 0 / 256 = 0 ∧ w.getD 3 0 = 0 ∧ 1 ≤ typ ∧ typ ≤ 4 ∧
      (typ = 1 → n = 68) ∧ (typ = 2 → k.val = 0 ∧ (s.get Fld.LS_STAT_ROLE = 1 ∨ s.get Fld.LS_STAT_ROLE = 2))
    if s.ulUp k.val = false then u = s
    else if n < 4 ∨ fromLe (b.drop (n - 4)) ≠ crc32c (b.take (n - 4)) then
      u.rdN (Reg.ULk_CRC_ERR k.val) = oneMore (s.rdN (Reg.ULk_CRC_ERR k.val)) ∧ u.flag (Fld.ULk_EVT_CRC_ERR k.val) = true ∧
        u.ulUp k.val = decide ((s.ulink k.val).badRun + 1 ≠ 8)
    else
      (¬form → u = (s.modLink k.val (fun y => { y with badRun := 0 })).bump (Reg.ULk_BAD k.val)) ∧
      (form → typ = 1 → u.rdN (Reg.ULk_RX_FRAMES k.val) = (s.rdN (Reg.ULk_RX_FRAMES k.val) + 1) % 2 ^ 32 ∧
        u.get (Fld.ULk_PEER_HOPS k.val) = bitsOf (w.getD 4 0) 20 4 ∧ u.flag (Fld.ULk_PEER_VALID k.val) = bitAt (w.getD 4 0) 18 ∧
        u.rd64 (Reg.ULk_UPB_L k.val) = w.getD 12 0 + bitsOf (w.getD 13 0) 0 16 * 2 ^ 32) ∧
      (form → typ = 3 → s.serviceOk k.val = false → u.links = s.links.modify k.val (fun y => { y with badRun := 0 }) ∧
        u.rdN (Reg.ULk_RX_FRAMES k.val) = (s.rdN (Reg.ULk_RX_FRAMES k.val) + 1) % 2 ^ 32))

/-- TIME_FRAME_SEND, ULINK_DOWN, ULINK_UP and LINK_HW: a TIME frame of 68 bytes takes the next sequence number; a link that goes down takes its neighbour's
HELLO and its routes with it; one comes up only where it may; a hardware fault fences it. -/
def Claims.LinkStates : Prop :=
  ∀ (k : Fin 4) (s : State),
    Effect (.timeFrameSend k) s (fun u =>
      if s.ulUp k.val = true ∧ s.flag (Fld.ULk_CFG_TIME_EN k.val) = true then
        ∃ f : List Byte, f.length = 68 ∧ fromLe (f.take 4) / 2 ^ 28 = 1 ∧
          u.links = s.links.modify k.val (fun x => { x with seqs := x.seqs.set 1 (((s.ulink k.val).seqs.getD 1 0 + 1) % 65536), sent := x.sent ++ [f],
                                                            txWait := some ((s.ulink k.val).seqs.getD 1 0) }) ∧
          u.rdN (Reg.ULk_TX_FRAMES k.val) = (s.rdN (Reg.ULk_TX_FRAMES k.val) + 1) % 2 ^ 32
      else u = s) ∧
    (∀ lockLost : Bool, Effect (.ulinkDown k lockLost) s (fun u =>
      if s.ulUp k.val = false then u = s
      else u.ulUp k.val = false ∧ u.flag (Fld.ULk_EVT_LINK_DOWN k.val) = true ∧ u.flag (Fld.ULk_PEER_HELLO k.val) = false ∧
        (∀ e, e < 128 → s.get (Fld.UL_ROUTEe_LINK e) = k.val → u.flag (Fld.UL_ROUTEe_VALID e) = false) ∧
        (∀ e, e < 128 → s.get (Fld.UL_ROUTEe_LINK e) ≠ k.val → u.rd (Reg.UL_ROUTEe e) = s.rd (Reg.UL_ROUTEe e)) ∧
        (k.val = 0 → u.flag Fld.LS_STAT_PEER_LINK = false))) ∧
    Effect (.ulinkUp k) s (fun u =>
      if s.ulUp k.val = true ∨ s.flag (Fld.ULk_CTL_EN k.val) = false ∨ s.flag (Fld.ULk_STAT_FENCED k.val) = true ∨ bitAt s.sw.sdrefLost (k.val / 2) = true then
        u = s
      else u.ulUp k.val = true ∧ u.flag (Fld.ULk_STAT_LOCK k.val) = true ∧ u.flag (Fld.ULk_EVT_LINK_UP k.val) = true ∧
        (k.val = 0 → u.flag Fld.LS_STAT_PEER_LINK = true)) ∧
    (s.consequential 17 = false ∨ s.safe = true → Effect (.linkHw k) s (fun u =>
      if s.flag (Fld.ULk_STAT_FENCED k.val) then u = s
      else u.flag (Fld.ULk_STAT_FENCED k.val) = true ∧ u.ulUp k.val = false ∧ u.flag (Fld.ULk_EVT_FENCED k.val) = true))

/-- Together: link frames, link states. -/
def Obligations.ClusterLinks : Prop := Claims.LinkFrames ∧ Claims.LinkStates

/-! ### The journal, the fault collector, counters and check values (chapters 19 to 21) -/

/-- EVENT_ARRIVAL and MERGE_RELEASE: an event comes late, is lost, or waits in the window; the window's lowest key leaves it once it is ready. -/
def Claims.JournalArrivals : Prop :=
  (∀ (s : State) (e : JEvent),
    let key : JKey := (e.epoch, e.stamp, e.source, s.jn.arrivals)
    let late : Bool := match s.jn.lastKey with | some lk => keyLt key lk | none => false
    let u := s.jnArrive e
    if s.safe = true ∨ s.flag (Fld.JN_CLSc_EN e.cls) = false then u = s
    else if late then
      u.rdN Reg.JN_LATE = oneMore (s.rdN Reg.JN_LATE) ∧ u.flag Fld.JN_EVT_LATE = true ∧ u.jn.window = s.jn.window ∧
        (∀ b rest, s.jn.blocks = b :: rest → s.extCount e = 0 → s.stageUsed + 32 ≤ State.stageSize → s.admits 1 32 = true →
          u.jn.blocks = { b with body := b.body ++ exactRec e true 0, records := b.records + 1 } :: rest)
    else if 4096 ≤ s.jn.window.length then
      u.jn.window = s.jn.window ∧ u.rdN Reg.JN_LOST = oneMore (s.rdN Reg.JN_LOST) ∧ u.jn.lost = s.jn.lost + 1 ∧ u.flag Fld.JN_EVT_LOST = true
    else u = { s with jn := { s.jn with arrivals := s.jn.arrivals + 1, window := s.jn.window ++ [(s.jn.arrivals, e)] } }) ∧
  (∀ s : State,
    (∀ k : Nat, Effect (.eventArrival (.queued k)) s (fun u =>
      match s.jn.inflight[k]? with
      | none => u = s
      | some e => u = ({ s with jn := { s.jn with inflight := s.jn.inflight.eraseIdx k } }).jnArrive e)) ∧
    (∀ (stamp epoch source code payload cls : Nat) (conseq forced : Bool) (pkt : List Byte), epoch < 4 → payload < 2 ^ 64 → cls < 16 →
      Effect (.eventArrival (.given stamp epoch source code payload cls conseq forced pkt)) s (fun u =>
        u = s.jnArrive ⟨stamp, epoch, source, code, conseq, forced, payload, cls, pkt, false⟩)) ∧
    Effect .mergeRelease s (fun u =>
      match lowest s.jn.window with
      | none => u = s
      | some x =>
        if s.safe = true ∨ s.jnReady x.2 = false then u = s
        else u.jn.window = s.jn.window.filter (fun y => y.1 != x.1) ∧ u.jn.lastKey = some (x.2.epoch, x.2.stamp, x.2.source, x.1) ∧
          u.jn.inflight = s.jn.inflight)) ∧
  (∀ (l : List (Nat × JEvent)) (x : Nat × JEvent), lowest l = some x →
    x ∈ l ∧ ((∀ y, y ∈ l → y.2.epoch % 4 = x.2.epoch % 4) → ∀ y, y ∈ l → keyLt (jkey y.1 y.2) (jkey x.1 x.2) = false))

/-- HOST_EVENT and SK_ABANDON: the host's event sets out for the journal with its code and payload, stamped by the time view; an export of the
sketch that is not done by half-period is abandoned and counted. -/
def Claims.HostEvents : Prop :=
  ∀ s : State,
    (∀ (req : Requester) (ap : Aperture) (code : BitVec 10), s.Admits req ap Reg.JN_HEVT_CMD → Effect (.hostEvent req ap code) s (fun u =>
      if s.safe then u.jn = s.jn
      else
        let src := match req with | .mgmt => 0x61 | _ => 0x60
        u.jn = { s.jn with inflight := s.jn.inflight ++ [⟨s.view * 1024, s.jn.epoch, src, code.toNat, false, false, s.rd64 Reg.JN_HEVT_P_L, 12, [], false⟩] } ∧
          Accesses (fun _ => False) s u)) ∧
    Effect .skAbandon s (fun u =>
      if s.jn.skExport = 0 then u = s
      else u.jn.skExport = 0 ∧ u.rdN Reg.JN_SK_ABANDON = oneMore (s.rdN Reg.JN_SK_ABANDON) ∧ u.flag Fld.JN_EVT_SK_ABANDON = true)

/-- Together: journal arrivals, host events. -/
def Obligations.JournalArrivals : Prop := Claims.JournalArrivals ∧ Claims.HostEvents

/-- RING_WRITE: the oldest closed block goes to the ring behind the others, the oldest there making way, with WRAP only such as are exported; a block for
which there is no room is discarded whole and counted. What is written can be read back. -/
def Claims.JournalRing : Prop :=
  ∀ s : State, Effect .ringWrite s (fun u =>
    match s.jn.staged with
    | [] => u = s
    | (recs, bytes) :: rest =>
      if s.safe = true ∨ s.flag Fld.JN_CTL_EN = false then u = s
      else
        let sum := fun l : List RingBlock => l.foldl (fun n b => n + b.len) 0
        let at' := s.rd64 Reg.JN_WR_L
        u.jn.staged = rest ∧ ∃ gone kept, s.jn.ring = gone ++ kept ∧
          (s.flag Fld.JN_CTL_WRAP = true → ∀ b, b ∈ gone → b.start + b.len ≤ s.rd64 Reg.JN_EXP_L) ∧
          (∀ b pre, gone = pre ++ [b] → s.ringSize < b.len + sum kept + bytes.length) ∧
          (if sum kept + bytes.length ≤ s.ringSize then
            u.jn.ring = kept ++ [⟨at', bytes.length, false⟩] ∧ u.rd64 Reg.JN_WR_L = (at' + bytes.length) % 2 ^ 64 ∧ u.jn.lost = s.jn.lost ∧
              u.flag Fld.JN_STAT_RING_FULL = false ∧
              u.rd64 Reg.JN_OLDEST_L = (match kept with | b :: _ => b.start | [] => at') % 2 ^ 64 ∧
              (s.flag Fld.JN_CTL_WRAP = false → u.rd64 Reg.JN_EXP_L = max (s.rd64 Reg.JN_EXP_L) (u.rd64 Reg.JN_OLDEST_L)) ∧
              (memWf s.dram = true → u.ringRead at' bytes.length = bytes)
          else u.jn.ring = kept ∧ u.rd64 Reg.JN_WR_L = at' ∧ u.flag Fld.JN_STAT_RING_FULL = true ∧ u.jn.lost = s.jn.lost + recs ∧ u.dram = s.dram ∧
            (s.flag Fld.JN_CTL_WRAP = false → kept = [])))

/-- EXPORT_FRAME: the estimate, then the sketch, then the ring from JN_EXP on; the export moves on once the host's ring has the frame, and not before. -/
def Claims.Exports : Prop :=
  (∀ s : State, Effect .exportFrame s (fun u =>
    match s.exportNext with
    | none => u = s
    | some f =>
      if s.safe then u = s
      else
        let ring := s.get Fld.JN_EXP_CFG_RING
        let c := s.cvAppend 3 ring (leBytes 8 f.count ++ leBytes 4 f.data.length ++ [BitVec.ofNat 8 f.typ, 0, 0, 0] ++ f.data)
        let r := c.2.toRing ring c.1 ⟨19, none, none, 0⟩
        (r.1 = .written → u.hostMem = r.2.hostMem ∧ (f.typ = 0 → u.rd64 Reg.JN_EXP_L = f.next % 2 ^ 64) ∧ (f.typ = 1 → u.jn.skExport = 1048576 - f.next) ∧
          (f.typ = 2 → u.jn.hllExport = none)) ∧
        (r.1 ≠ .written → u.jn = s.jn ∧ u.rd64 Reg.JN_EXP_L = s.rd64 Reg.JN_EXP_L))) ∧
  (∀ (s : State) (f : ExportFrame), s.exportNext = some f →
    (f.typ = 0 → s.jn.hllExport = none ∧ s.jn.skExport = 0 ∧ s.flag Fld.JN_EXP_CFG_EN = true ∧ ∃ b, b ∈ s.jn.ring ∧
      b.start ≤ s.rd64 Reg.JN_EXP_L ∧ s.rd64 Reg.JN_EXP_L < b.start + b.len ∧
      (b.damaged = true → f.count = b.start ∧ f.data.length = 32 ∧ f.next = b.start + b.len) ∧
      (b.damaged = false → f.count = s.rd64 Reg.JN_EXP_L ∧ f.data.length ≤ 8192 ∧ f.next = f.count + f.data.length)) ∧
    (f.typ = 1 → f.count = 1048576 - s.jn.skExport ∧ f.next = f.count + min 8192 s.jn.skExport) ∧ f.typ ≤ 2)

/-- Together: journal ring, exports. -/
def Obligations.JournalRing : Prop := Claims.JournalRing ∧ Claims.Exports

/-- One occurrence of a fault source: in the safe state it is only counted; the collector's own leads there; one inside a shadow that covers its target is
consequential; any other is counted, and takes its level from its reaction, its class and what is loaded. -/
def Claims.FaultOccurrences : Prop :=
  ∀ (s : State) (src inst : Nat) (forced : Bool), src < 27 →
    let u := s.raiseFault src inst forced
    let c := State.fcClass src
    if s.safe then u = s.bump (Reg.FC_SRCs_CNT src)
    else if src = 0 then u.safe = true ∧ u.rdN (Reg.FC_SRCs_CNT 0) = oneMore (s.rdN (Reg.FC_SRCs_CNT 0)) ∧
      u.flag Fld.FC_STAT_FAULT_PIN = true ∧ u.flag Fld.FC_STAT_NMI = true
    else if s.consequential src then
      u.rdN (Reg.FC_SRCs_CONSEQ src) = oneMore (s.rdN (Reg.FC_SRCs_CONSEQ src)) ∧ u.rd (Reg.FC_SRCs_CNT src) = s.rd (Reg.FC_SRCs_CNT src) ∧
        u.rd Reg.FC_PEND = s.rd Reg.FC_PEND ∧ u.fc = s.fc ∧ (∃ e, u.jn.inflight = s.jn.inflight ++ [e] ∧ e.conseq = true ∧ e.forced = forced)
    else
      let n := match s.fc.windows.find? (fun w => w.source == src) with | some w => w.count + 1 | none => 1
      let severe : Bool := decide (max 1 (s.get (Fld.FC_SRCs_CFG_N src)) ≤ n)
      let base := min (if severe then s.get (Fld.FC_SRCs_CFG_SEV_REACT src) else s.get (Fld.FC_SRCs_CFG_REACT src)) 4
      let more := (List.range 27).any (fun k => State.fcClass k == c && bitAt (s.rdN Reg.FC_PEND) k)
      let l1 := if more then max base (min (s.get (Fld.FC_CLASSc_LAST c) + 1) (min (s.get (Fld.FC_CLASSc_CAP c)) 4)) else base
      let l2 := if l1 = 3 ∧ State.fcTarget src = none then 2 else l1
      let level := if s.fc.baseLoaded then l2 else min l2 2
      u.rdN (Reg.FC_SRCs_CNT src) = oneMore (s.rdN (Reg.FC_SRCs_CNT src)) ∧ u.safe = false ∧
        (severe = true → bitAt (u.rdN Reg.FC_SEVERE) src = true) ∧
        (base = 0 → u.rd Reg.FC_PEND = s.rd Reg.FC_PEND ∧ u.fc.shadows = s.fc.shadows ∧ u.fc.chipResetDue = s.fc.chipResetDue) ∧
        (base ≠ 0 → bitAt (u.rdN Reg.FC_PEND) src = true ∧ u.get (Fld.FC_CLASSc_LAST c) = level ∧ u.flag Fld.FC_EVT_FAULT = true ∧
          (2 ≤ level → u.flag Fld.FC_STAT_NMI = true) ∧ (more = true → u.flag Fld.FC_EVT_ESCALATE = true) ∧
          (level ≠ 3 → u.fc.shadows = s.fc.shadows) ∧
          (level = 3 → ∀ t, State.fcTarget src = some t → u.fc.shadows = s.fc.shadows ++ [⟨t, inst, setBitAt (s.get (Fld.FC_DEPt_DEPS t)) t, false⟩]) ∧
          (level = 4 → u.fc.chipResetDue = true ∧ bitsOf (u.rdN Reg.FC_RST_CAUSE) 0 8 = src ∧ bitAt (u.rdN Reg.FC_RST_CAUSE) 31 = true))

/-- FC_FORCE, FC_PEND_ACK and SAFE_STATE: each forced source occurs once; an acknowledgement clears the bits asked but those of a level still active, and a
class with no source pending begins anew; a difference of the collector's copies leads to the safe state. -/
def Claims.FaultCommands : Prop :=
  ∀ s : State,
    (∀ (req : Requester) (ap : Aperture) (v : Word), s.Admits req ap Reg.FC_FORCE → Effect (.fcForce req ap v) s (fun u =>
      (∀ k, k < 27 →
        if bitAt v.toNat k then
          (u.rdN (Reg.FC_SRCs_CNT k) = oneMore (s.rdN (Reg.FC_SRCs_CNT k)) ∧ u.rd (Reg.FC_SRCs_CONSEQ k) = s.rd (Reg.FC_SRCs_CONSEQ k)) ∨
            (u.rdN (Reg.FC_SRCs_CONSEQ k) = oneMore (s.rdN (Reg.FC_SRCs_CONSEQ k)) ∧ u.rd (Reg.FC_SRCs_CNT k) = s.rd (Reg.FC_SRCs_CNT k))
        else u.rd (Reg.FC_SRCs_CNT k) = s.rd (Reg.FC_SRCs_CNT k) ∧ u.rd (Reg.FC_SRCs_CONSEQ k) = s.rd (Reg.FC_SRCs_CONSEQ k)) ∧
      (bitAt v.toNat 0 = true → u.safe = true))) ∧
    (∀ (req : Requester) (ap : Aperture) (v : Word), s.Admits req ap Reg.FC_PEND → Effect (.fcPendAck req ap v) s (fun u =>
      let held := fun k => levelSource k && bitAt (s.rdN Reg.FC_ACTIVE) k
      (∀ k, k < 27 → bitAt (u.rdN Reg.FC_PEND) k = (bitAt (s.rdN Reg.FC_PEND) k && !(bitAt v.toNat k && !held k))) ∧
      (∀ k, k < 27 → bitAt v.toNat k = true → bitAt (s.rdN Reg.FC_PEND) k = true → held k = true → u.flag Fld.FC_EVT_ACK_ACTIVE = true) ∧
      (∀ c, c < 12 → u.get (Fld.FC_CLASSc_LAST c) =
        if (List.range 27).any (fun k => State.fcClass k == c && bitAt (u.rdN Reg.FC_PEND) k) then s.get (Fld.FC_CLASSc_LAST c) else 0) ∧
      Accesses (fun a => pageOf a = 0xD8) s u)) ∧
    Effect .safeState s (fun u => u.safe = true ∧ u.rdN (Reg.FC_SRCs_CNT 0) = oneMore (s.rdN (Reg.FC_SRCs_CNT 0)))

/-- Together: fault occurrences, fault commands. -/
def Obligations.Faults : Prop := Claims.FaultOccurrences ∧ Claims.FaultCommands

/-- BLOCK_RESET_COMPLETE, SHADOW_CLOSE and SEVERITY_WINDOW_CLOSE: work in flight is gone and the configuration is that of the shadow; a completed reset's
shadow closes; a window whose last boundary is past closes, and the severe state with it. -/
def Obligations.ResetsAndWindows : Prop :=
  ∀ s : State,
    (∀ t : Fin 15,
      Effect (.blockResetComplete t) s (fun u =>
        match s.fc.shadows.find? (fun x => x.target == t.val && !x.done) with
        | none => u = s
        | some x =>
          (∀ y, y ∈ u.fc.shadows → y.target = t.val → y.done = true) ∧
          (∀ a, t.val ≠ 2 → isCfg a = true → resetPages t.val x.inst (pageOf a) = true →
            u.rdN a &&& cfgMask a = (s.cfg.shadow.word a).toNat &&& cfgMask a) ∧
          (t.val = 3 → u.gn.chans = List.replicate 256 GnChan.free) ∧ (t.val = 5 → ∀ q, q ∈ u.sw.queues → q = []) ∧
          (t.val = 9 → ∀ j, j ∈ u.sw.jobs → j.eng ≠ 17) ∧ (t.val = 10 → u.ks.job = none)) ∧
      Effect (.shadowClose t) s (fun u =>
        u.fc = { s.fc with shadows := s.fc.shadows.filter (fun x => !(x.target == t.val && x.done)) } ∧ u.rdN Reg.FC_SHADOW = u.shadowMask % 2 ^ 32 ∧
          u.flag Fld.FC_STAT_SHADOW = !u.fc.shadows.isEmpty ∧ Writes (fun a => a = Reg.FC_STAT ∨ a = Reg.FC_SHADOW) { s with fc := u.fc } u)) ∧
    (∀ src : Fin 27, Effect (.severityWindowClose src) s (fun u =>
      match s.fc.windows.find? (fun w => w.source == src.val) with
      | none => u = s
      | some w =>
        if w.framesLeft ≠ 0 then u = s
        else u.fc = { s.fc with windows := s.fc.windows.filter (fun x => x.source != src.val) } ∧ bitAt (u.rdN Reg.FC_SEVERE) src.val = false ∧
          Writes (fun a => a = Reg.FC_SEVERE) { s with fc := u.fc } u))

/-- COUNTER_OVERFLOW: a running counter that passes 2^48 − 1 goes on from 0 with its event, and stops its group where it is to freeze. -/
def Claims.CounterOverflows : Prop :=
  ∀ (g : Fin 4) (j : Fin 16) (s : State), Effect (.counterOverflow g j) s (fun u =>
    let t := s.pcSync
    if 8 ≤ j.val ∨ t.pcRunning g.val = false then u = t
    else u.rdN (Reg.PCg_CNTj_L g.val j.val) = 0 ∧ u.rdN (Reg.PCg_CNTj_H g.val j.val) = 0 ∧
      bitAt (u.rdN ((0xE0 + g.val) * 0x1000 + 0x10)) j.val = true ∧
      (t.flag (Fld.PCg_RUN_FRZ_OVF g.val) = true → u.get (Fld.PCg_RUN_RUN g.val) = 0) ∧
      (t.flag (Fld.PCg_RUN_FRZ_OVF g.val) = false → u.get (Fld.PCg_RUN_RUN g.val) = t.get (Fld.PCg_RUN_RUN g.val)))

/-- CV_GO, CV_ABORT, CV_CTX_WRITE and CV_SCAN_COMPLETE: a memory scan starts from INIT, or from CTX in a chain; it ends with its result, or stops with CTX as
far as DONE_BYTES says; a scan in two chained parts gives the whole's register, and the spec's example its value. -/
def Claims.CheckValues : Prop :=
  (∀ (s : State) (n : Fin 4), n.val ≠ 0 →
    (∀ (req : Requester) (ap : Aperture),
      (s.Admits req ap (Reg.CVn_CMD n.val) →
        Effect (.cvGo req ap n) s (fun u =>
          if s.flag (Fld.CVn_STAT_BUSY n.val) then u.flag (Fld.CVn_EVT_BUSY_REJ n.val) = true ∧ u.cv = s.cv ∧ Accesses (· = Reg.CVn_EVT n.val) s u
          else if s.get (Fld.CVn_CFG_MODE n.val) ≠ 0 then u.cv = s.cv ∧ Accesses (fun _ => False) s u
          else
            let c0 := if s.flag (Fld.CVn_CFG_CHAIN n.val) then s.rdN (Reg.CVn_CTX n.val) else s.rdN (Reg.CVn_INIT n.val)
            u.cv = s.cv.set n.val (some ⟨s.rd64 (Reg.CVn_START_L n.val), max 1 (s.rdN (Reg.CVn_LEN n.val)), c0, s.rdN (Reg.CVn_CFG n.val),
              s.rdN (Reg.CVn_POLY n.val), s.rdN (Reg.CVn_XOROUT n.val)⟩) ∧
            u.flag (Fld.CVn_STAT_BUSY n.val) = true ∧ u.rdN (Reg.CVn_DONE_BYTES n.val) = 0) ∧
        Effect (.cvAbort req ap n) s (fun u =>
          match s.cv.getD n.val none with
          | none => u.cv = s.cv ∧ Accesses (fun _ => False) s u
          | some x => ∃ k, k ≤ x.len ∧ u.cv = s.cv.set n.val none ∧ u.flag (Fld.CVn_STAT_BUSY n.val) = false ∧
              u.rdN (Reg.CVn_DONE_BYTES n.val) = k % 2 ^ 32 ∧
              u.rdN (Reg.CVn_CTX n.val) = cvRun x.cfg x.poly x.ctx (memRead s.dram x.start k) % 2 ^ 32)) ∧
      (∀ v : Word, s.Admits req ap (Reg.CVn_CTX n.val) → Effect (.cvCtxWrite req ap n v) s (fun u =>
        if s.flag (Fld.CVn_STAT_BUSY n.val) then u.rd (Reg.CVn_CTX n.val) = s.rd (Reg.CVn_CTX n.val) ∧ u.flag (Fld.CVn_EVT_BUSY_REJ n.val) = true
        else u.rd (Reg.CVn_CTX n.val) = v ∧ Accesses (· = Reg.CVn_CTX n.val) s u))) ∧
    (∀ ue : Option Nat, Effect (.cvScanComplete n ue) s (fun u =>
      match s.cv.getD n.val none with
      | none => u = s
      | some x =>
        let k := match ue with | some m => min m x.len | none => x.len
        let c := cvRun x.cfg x.poly x.ctx (memRead s.dram x.start k)
        u.cv = s.cv.set n.val none ∧ u.flag (Fld.CVn_STAT_BUSY n.val) = false ∧ u.rdN (Reg.CVn_DONE_BYTES n.val) = k % 2 ^ 32 ∧
          u.rdN (Reg.CVn_CTX n.val) = c % 2 ^ 32 ∧
          (ue = none → u.rdN (Reg.CVn_RESULT n.val) = cvResult x.cfg x.xorout (c % 2 ^ 32) % 2 ^ 32 ∧ u.flag (Fld.CVn_EVT_DONE n.val) = true) ∧
          (ue ≠ none → u.rd (Reg.CVn_RESULT n.val) = s.rd (Reg.CVn_RESULT n.val) ∧ u.flag (Fld.CVn_EVT_ERR n.val) = true)))) ∧
  (∀ (cfg poly ctx : Nat) (a b : List Byte), cvRun cfg poly ctx (a ++ b) = cvRun cfg poly (cvRun cfg poly ctx a) b) ∧
  cvResult 3 0xFFFFFFFF (cvRun 3 0x1EDC6F41 0xFFFFFFFF [0x31, 0x32, 0x33, 0x34, 0x35, 0x36, 0x37, 0x38, 0x39]) = 0xE3069283

/-- Together: counter overflows, check values. -/
def Obligations.CountersAndCheckValues : Prop := Claims.CounterOverflows ∧ Claims.CheckValues

/-! ### Start-up, clocks and power (chapter 22) -/

/-- OSC_MEASURE, TIME_APLL_LOCK and TCLK_LOSS: the measured frequency has a class where it lies within half a percent of one of four; TCLK runs once the Time
APLL has locked to an accepted one; its loss leads a set time to BRIDGE. -/
def Claims.Clocks : Prop :=
  (∀ (hz : Nat) (s : State), Effect (.oscMeasure hz) s (fun u =>
    u.rdN Reg.CK_OSC_MEAS = min hz 0xFFFFFFFF ∧ u.flag Fld.CK_STAT_OSC_OK = (oscClass hz).isSome ∧
      (∀ k, oscClass hz = some k → u.get Fld.CK_STAT_OSC_CLASS = k) ∧ Writes (fun a => a = Reg.CK_OSC_MEAS ∨ a = Reg.CK_STAT) s u)) ∧
  (∀ hz : Nat, (∀ k, oscClass hz = some k → k < 4 ∧ ((hz : Int) - ([5000000, 10000000, 20000000, 100000000] : List Nat).getD k 0).natAbs * 200 ≤
      ([5000000, 10000000, 20000000, 100000000] : List Nat).getD k 0) ∧
    (oscClass hz = none → ∀ f, f ∈ ([5000000, 10000000, 20000000, 100000000] : List Nat) → f < ((hz : Int) - f).natAbs * 200)) ∧
  (∀ s : State,
    Effect .timeApllLock s (fun u =>
      if s.flag Fld.CK_STAT_OSC_OK = false ∨ s.flag Fld.CK_STAT_TLOCK = true then u = s
      else u.flag Fld.CK_STAT_TLOCK = true ∧ u.flag Fld.CK_STAT_TCLK_RUN = true ∧ u.flag Fld.TC_STAT_TCLK_OK = true ∧ u.flag Fld.CK_EVT_TLOCK_GAIN = true ∧
        bitAt (u.rdN Reg.FC_ACTIVE) 3 = false ∧ u.flag Fld.SH_STAT_TCLK_SEEN = true ∧ u.get Fld.SH_STAT_STATE = (if s.shState = 1 then 2 else s.shState) ∧
        u.tc = (if s.bridging then { s.tc with okSince := some s.tc.now } else s.tc)) ∧
    Effect .tclkLoss s (fun u =>
      if s.flag Fld.TC_STAT_TCLK_OK = false then u = s
      else u.flag Fld.CK_STAT_TLOCK = false ∧ u.flag Fld.CK_STAT_TCLK_RUN = false ∧ u.flag Fld.TC_STAT_TCLK_OK = false ∧
        u.rdN Reg.CK_TLOCK_LOSS = oneMore (s.rdN Reg.CK_TLOCK_LOSS) ∧ u.flag Fld.CK_EVT_TLOCK_LOST = true ∧ u.flag Fld.TC_EVT_BRIDGE_ENTER = true ∧
        bitAt (u.rdN Reg.FC_ACTIVE) 3 = true ∧ u.timeState = (if s.timeState = 0 then 0 else 5) ∧ u.tc.now = s.tc.now ∧ u.sh.gap = List.replicate 48 true))

/-- CCLK_LOSS and PORST_ASSERT: a chip reset that holds; the Shell, the Pit and the memories outside the chip are as they were. FC_RST_CAUSE outlasts the
first and not the second. -/
def Claims.HeldResets : Prop :=
  ∀ s : State,
    let reset := fun (u : State) (porst : Bool) =>
      u.boot = { Boot.blank with held := true } ∧ u.sh = s.sh ∧ u.dram = s.dram ∧ u.hostMem = s.hostMem ∧ u.jn = State.reset.jn ∧ u.tc = State.reset.tc ∧
        u.pending = s.pending ∧ u.sw.queues = State.reset.sw.queues ∧ u.pips = State.reset.pips ∧
        (∀ a, State.keptWord a = true → u.rd a = s.rd a) ∧
        u.rd Reg.FC_RST_CAUSE = (if porst then State.reset.rd Reg.FC_RST_CAUSE else s.rd Reg.FC_RST_CAUSE) ∧
        (∀ a, State.keptWord a = false → a ≠ Reg.FC_RST_CAUSE → a ≠ Reg.FC_STAT → a ≠ Reg.FC_SHADOW → u.rd a = State.reset.rd a)
    Effect .cclkLoss s (fun u => reset u false) ∧ Effect .porstAssert s (fun u => reset u true)

/-- Together: clocks, held resets. -/
def Obligations.ClocksAndResets : Prop := Claims.Clocks ∧ Claims.HeldResets

/-- MAIN_BOOT and SYSTEM_APLL_LOCK: straps, memory channels, loops and image are looked at in turn, and the first that fails stops main boot with its cause;
a lock that ends a held reset boots, any other is only shown. -/
def Obligations.MainBoot : Prop :=
  (∀ (b : BootInputs) (s : State), b.role < 8 → b.bootsrc < 4 →
    let boot := fun u : State =>
      let stop := fun c : Nat => u.bootStage = (if c = 9 then 7 else 6) ∧ u.get Fld.SYS_BOOT_CAUSE = c ∧ u.boot.waiting = false ∧
        u.flag Fld.SYS_BOOT_READY = s.flag Fld.SYS_BOOT_READY
      if s.bootStage ≠ 0 then u = { s with boot := { s.boot with held := false } }
      else u.boot.held = false ∧ u.boot.sleeping = false ∧ u.flag Fld.CK_STAT_SLOCK = true ∧ u.get Fld.LS_STAT_ROLE = b.role ∧
        u.get Fld.SYS_BOOT_BOOTSRC = b.bootsrc ∧ u.flag Fld.SYS_BOOT_DDR0_FAIL = !b.ddr0 ∧ u.flag Fld.SYS_BOOT_DDR1_FAIL = !b.ddr1 ∧
        if b.role = 7 then stop 1
        else if b.bootsrc = 3 then stop 2
        else if b.ddr0 = false ∨ b.ddr1 = false then stop 3
        else if s.loopOpen then stop 9
        else if b.bootsrc = 2 then u.bootStage = 2 ∧ u.boot.waiting = true ∧ u.boot.img = []
        else match State.imageFault b.imageA b.selftest, b.imageA with
          | some c, _ =>
            if b.bootsrc = 0 ∨ c = 8 then stop c
            else u.flag Fld.SYS_BOOT_IMAGE_B = true ∧ ∀ d, State.imageFault b.imageB b.selftest = some d → stop d
          | none, some x =>
            ∃ t : State, t.rd Reg.SYS_IMG_VER = BitVec.ofNat 32 (fromLe ((x.bytes.drop 8).take 4)) ∧ t.flag Fld.KS_STAT_SELFTEST_OK = true ∧
              t.flag Fld.KS_STAT_DRBG_OK = true ∧
              ∀ p, x.parts = some p → b.bootsrc = 0 ∨ (t.loadSections p b.ms).bootStage = 5 → u = t.loadSections p b.ms
          | none, none => False
    Effect (.mainBoot b) s boot ∧
    (s.boot.held = true → Effect (.systemApllLock b) s boot)) ∧
  (∀ (b : BootInputs) (s : State), s.boot.held = false → Effect (.systemApllLock b) s (fun u => u = s.setB Fld.CK_STAT_SLOCK true))

/-- The image's sections: too many overlays or a malformed Pip record stop main boot, as a seal that is not the reference does; otherwise the device is READY, the
reference is committed and the scan runs. -/
def Claims.ImagesLoaded : Prop :=
  (∀ (s : State) (x : BootSections) (ms : Nat),
    let u := s.loadSections x ms
    let t := x.pips.foldl (fun t r => t.loadPip r)
      ((x.baseSet.foldl (fun t e => t.baseWord e.1 e.2) (s.set Fld.SYS_BOOT_STAGE 4)).loadOverlays x.overlays x.compat)
    if 16 < x.overlays.length ∨ (∃ r, r ∈ x.pips ∧ pipRecordOk r = false) then u.bootStage = 6 ∧ u.get Fld.SYS_BOOT_CAUSE = 5
    else if BitVec.ofNat 32 t.sealNow ≠ x.sealRef then u.bootStage = 6 ∧ u.get Fld.SYS_BOOT_CAUSE = 7
    else u.bootStage = 5 ∧ u.flag Fld.SYS_BOOT_READY = true ∧ u.rd Reg.CFG_BASE_REF = x.sealRef ∧ u.rd Reg.CFG_RUN_REF = x.sealRef ∧
      u.rd Reg.CFG_EXP_REF = x.sealRef ∧ u.rdN Reg.SYS_BOOT_MS = min ms 0xFFFF ∧ u.fc.baseLoaded = true ∧ u.cfg.scanning = true) ∧
  (∀ (s : State) (r : List Byte), pipRecordOk r = true →
    let k := fromLe ((r.drop 4).take 1)
    let n := fromLe ((r.drop 8).take 2)
    k < 28 ∧ (s.loadPip r).rdN (Reg.PPk_WDOG k) = fromLe ((r.drop 12).take 2) ∧ (s.loadPip r).rdN (Reg.PPk_EMIT k) = fromLe ((r.drop 16).take 4) ∧
      (∀ j, j ≠ k → (s.loadPip r).pip j = s.pip j) ∧
      (k < s.pips.length → ((s.loadPip r).pip k).imem.length = n ∧
        ∀ i, i < n → ((s.loadPip r).pip k).imem.getD i 0 = fromLe ((r.drop (68 + 4 * i)).take 4)))

/-- IMG_DATA and IMG_GO: words are pushed while main boot waits for them; GO ends the wait, and the image is looked at as one that was read. -/
def Claims.PushedImages : Prop :=
  ∀ (req : Requester) (s : State),
    (∀ v : Word, s.Admits req .bar0 Reg.SYS_IMG_DATA → Effect (.imgData req v) s (fun u =>
      u.boot = (if s.boot.waiting then { s.boot with img := s.boot.img ++ [v] } else s.boot) ∧ Accesses (fun _ => False) { s with boot := u.boot } u)) ∧
    (∀ (parts : Option BootSections) (selftest : Bool) (ms : Nat), s.Admits req .bar0 Reg.SYS_IMG_CMD → Effect (.imgGo req parts selftest ms) s (fun u =>
      let i : Option BootImage := some ⟨s.boot.img.flatMap (fun w => leBytes 4 w.toNat), parts⟩
      if s.boot.waiting = false then Accesses (fun _ => False) s u
      else u.boot.img = [] ∧ u.boot.waiting = false ∧
        match State.imageFault i selftest with
        | some c => u.bootStage = 6 ∧ u.get Fld.SYS_BOOT_CAUSE = c
        | none => u.flag Fld.KS_STAT_SELFTEST_OK = true ∧ u.flag Fld.KS_STAT_DRBG_OK = true ∧ 5 ≤ u.bootStage))

/-- Together: images loaded, pushed images. -/
def Obligations.BootImages : Prop := Claims.ImagesLoaded ∧ Claims.PushedImages

/-- STANDBY_REQUEST, RUN_REQUEST, AUTO_STANDBY, SLEEP_REQUEST and SLEEP_READY: only a member that does not hold goes to STANDBY; RUN ends it; the preparation
for SLEEP, refused to a holder and to one about to hold, stops every Pip and fences the lease. -/
def Obligations.PowerStates : Prop :=
  ∀ s : State,
    (∀ (req : Requester) (ap : Aperture), s.Admits req ap Reg.CK_PWR_CMD →
      Effect (.standbyRequest req ap) s (fun u =>
        if s.isMember = false ∨ s.leaseState = 2 then u.flag Fld.CK_EVT_PSTATE_REFUSED = true ∧ Accesses (· = Reg.CK_EVT) s u
        else if s.boot.sleeping then Accesses (fun _ => False) s u
        else u.get Fld.CK_STAT_PSTATE = 1 ∧ (s.get Fld.CK_STAT_PSTATE ≠ 1 → u.flag Fld.CK_EVT_PSTATE_CHG = true) ∧
          Accesses (fun a => a = Reg.CK_STAT ∨ a = Reg.CK_EVT) s u) ∧
      Effect (.runRequest req ap) s (fun u =>
        u.ls.stbyStilled = true ∧ u.get Fld.CK_STAT_PSTATE = (if s.get Fld.CK_STAT_PSTATE = 1 then 0 else s.get Fld.CK_STAT_PSTATE) ∧
          (s.get Fld.CK_STAT_PSTATE = 1 → u.flag Fld.CK_EVT_PSTATE_CHG = true)) ∧
      (∀ rtc : Nat, Effect (.sleepRequest req ap rtc) s (fun u =>
        if s.leaseState = 2 ∨ s.leaseState = 1 then u.flag Fld.CK_EVT_PSTATE_REFUSED = true ∧ Accesses (· = Reg.CK_EVT) s u
        else if s.boot.sleeping then Accesses (fun _ => False) s u
        else u.boot.sleeping = true ∧ (∀ k, k < 28 → u.flag (Fld.PPk_STAT_RUNNING k) = false) ∧ (s.isMember = true → u.leaseState = 4) ∧
          (s.timeState ≠ 0 → u.rd64 Reg.TP_ANCHOR_RTC_L = u.ks.rtc % 2 ^ 64 ∧
            ∃ f, u.rd Reg.TP_ANCHOR_S = BitVec.ofNat 32 ({ s with freeCtr := f }).viewSec)))) ∧
    Effect .autoStandby s (fun u =>
      if s.flag Fld.CK_PWR_CFG_AUTO_STBY = true ∧ s.isMember = true ∧ s.leaseState = 0 ∧ s.ls.stbyStilled = false ∧ s.boot.sleeping = false then
        u.get Fld.CK_STAT_PSTATE = 1 ∧ Touches (fun a => a = Reg.CK_STAT ∨ a = Reg.CK_EVT) s u
      else u = s) ∧
    Effect .sleepReady s (fun u =>
      if s.boot.sleeping = false ∨ s.flag Fld.CK_STAT_SLEEP_READY = true then u = s
      else u.flag Fld.CK_STAT_SLEEP_READY = true ∧ u.flag Fld.CK_EVT_SLEEP_READY = true ∧ u.get Fld.CK_STAT_PSTATE = 2 ∧
        Touches (fun a => a = Reg.CK_STAT ∨ a = Reg.CK_EVT) s u)

end Slice0Statements
end

