-- ==== Sys2Proof/Laws/Registers.lean ====
section
/-! SUPPORT. The laws of the register file: a word read after a write, fields within a word, and the canonical form. -/

namespace Sys2Proof.Machine

/-! ### The sparse list -/

theorem look_drop_same (f : RegFile) (a : Nat) : (f.drop a).look a = none := by
  induction f with
  | nil => rfl
  | cons e r ih =>
    obtain ⟨k, v⟩ := e
    by_cases h : k = a <;> simp [RegFile.drop, RegFile.look, h, ih]

theorem look_drop_other (f : RegFile) {a b : Nat} (h : b ≠ a) : (f.drop a).look b = f.look b := by
  induction f with
  | nil => rfl
  | cons e r ih =>
    obtain ⟨k, v⟩ := e
    by_cases h1 : k = a
    · simp [RegFile.drop, RegFile.look, h1, ih, Ne.symm h]
    · by_cases h2 : k = b <;> simp [RegFile.drop, RegFile.look, h1, h2, ih, h]

theorem look_insert_same (f : RegFile) (a : Nat) (w : Word) : (f.insert a w).look a = some w := by
  induction f with
  | nil => simp [RegFile.insert, RegFile.look]
  | cons e r ih =>
    obtain ⟨k, v⟩ := e
    unfold RegFile.insert
    by_cases h : k = a
    · simp [h, RegFile.look]
    · by_cases h2 : a < k <;> simp [h, h2, RegFile.look, ih]

theorem look_insert_other (f : RegFile) {a b : Nat} (w : Word) (h : b ≠ a) : (f.insert a w).look b = f.look b := by
  induction f with
  | nil => simp [RegFile.insert, RegFile.look, Ne.symm h]
  | cons e r ih =>
    obtain ⟨k, v⟩ := e
    unfold RegFile.insert
    by_cases h1 : k = a
    · simp [h1, RegFile.look, Ne.symm h]
    · by_cases h2 : a < k <;> simp [h1, h2, RegFile.look, ih, Ne.symm h]

/-- A word read where it was stored. -/
@[simp] theorem word_store_same (f : RegFile) (a : Nat) (w : Word) : (f.store a w).word a = w := by
  unfold RegFile.store RegFile.word
  split
  · rename_i h
    simp [look_drop_same, h]
  · simp [look_insert_same]

/-- A store leaves every other word. -/
theorem word_store_other (f : RegFile) {a b : Nat} (w : Word) (h : b ≠ a) : (f.store a w).word b = f.word b := by
  unfold RegFile.store RegFile.word
  split
  · simp [look_drop_other f h]
  · simp [look_insert_other f w h]

/-! ### The canonical form -/

theorem mem_drop {f : RegFile} {a : Nat} {e : Nat × Word} (h : e ∈ f.drop a) : e ∈ f ∧ e.1 ≠ a := by
  induction f with
  | nil => simp [RegFile.drop] at h
  | cons x r ih =>
    obtain ⟨k, v⟩ := x
    by_cases hk : k = a
    · simp only [RegFile.drop, hk, if_true] at h
      exact ⟨List.mem_cons_of_mem _ (ih h).1, (ih h).2⟩
    · simp only [RegFile.drop, hk, if_false, List.mem_cons] at h
      rcases h with rfl | h
      · exact ⟨by simp, hk⟩
      · exact ⟨List.mem_cons_of_mem _ (ih h).1, (ih h).2⟩

theorem drop_sorted {f : RegFile} (a : Nat) (h : f.Pairwise (fun x y => x.1 < y.1)) : (f.drop a).Pairwise (fun x y => x.1 < y.1) := by
  induction f with
  | nil => exact List.Pairwise.nil
  | cons x r ih =>
    obtain ⟨k, v⟩ := x
    rw [List.pairwise_cons] at h
    by_cases hk : k = a
    · simpa [RegFile.drop, hk] using ih h.2
    · simp only [RegFile.drop, hk, if_false, List.pairwise_cons]
      exact ⟨fun e he => h.1 e (mem_drop he).1, ih h.2⟩

theorem mem_insert {f : RegFile} {a : Nat} {w : Word} {e : Nat × Word} (h : e ∈ f.insert a w) : e ∈ f ∨ e = (a, w) := by
  induction f with
  | nil => simpa [RegFile.insert] using h
  | cons x r ih =>
    obtain ⟨k, v⟩ := x
    unfold RegFile.insert at h
    split at h
    · rcases List.mem_cons.1 h with h | h
      · exact .inr h
      · exact .inl (List.mem_cons_of_mem _ h)
    · split at h
      · rcases List.mem_cons.1 h with h | h
        · exact .inr h
        · exact .inl h
      · rcases List.mem_cons.1 h with h | h
        · exact .inl (by simp [h])
        · exact (ih h).imp (List.mem_cons_of_mem _) id

theorem insert_sorted {f : RegFile} (a : Nat) (w : Word) (h : f.Pairwise (fun x y => x.1 < y.1)) :
    (f.insert a w).Pairwise (fun x y => x.1 < y.1) := by
  induction f with
  | nil => simp [RegFile.insert]
  | cons x r ih =>
    obtain ⟨k, v⟩ := x
    have h' := List.pairwise_cons.1 h
    unfold RegFile.insert
    split
    · rename_i hk
      subst hk
      exact List.pairwise_cons.2 ⟨h'.1, h'.2⟩
    · rename_i hk
      split
      · rename_i hlt
        refine List.pairwise_cons.2 ⟨fun e he => ?_, h⟩
        rcases List.mem_cons.1 he with rfl | he
        · exact hlt
        · exact Nat.lt_trans hlt (h'.1 e he)
      · rename_i hge
        refine List.pairwise_cons.2 ⟨fun e he => ?_, ih h'.2⟩
        rcases mem_insert he with he | rfl
        · exact h'.1 e he
        · exact Nat.lt_of_le_of_ne (Nat.le_of_not_lt hge) hk

theorem regFile_wf_iff (f : RegFile) : f.wf = true ↔ f.Pairwise (fun x y => x.1 < y.1) ∧ ∀ e ∈ f, e.2 ≠ resetWord e.1 := by
  simp only [RegFile.wf, Bool.and_eq_true, decide_eq_true_eq, List.all_eq_true, bne_iff_ne]

/-- A store keeps the canonical form. -/
theorem wf_store {f : RegFile} (h : f.wf = true) (a : Nat) (w : Word) : (f.store a w).wf = true := by
  rw [regFile_wf_iff] at h ⊢
  unfold RegFile.store
  split
  · exact ⟨drop_sorted a h.1, fun e he => h.2 e (mem_drop he).1⟩
  · rename_i hw
    refine ⟨insert_sorted a w h.1, fun e he => ?_⟩
    rcases mem_insert he with he | rfl
    · exact h.2 e he
    · exact hw

/-! ### Bit fields of a number -/

theorem bitsOf_lt (n lo width : Nat) : bitsOf n lo width < 2 ^ width := Nat.mod_lt _ (Nat.two_pow_pos _)

/-- A number around one of its fields: what lies above, the field, what lies below. -/
theorem bits_split (n lo width : Nat) : n = n / 2 ^ (lo + width) * 2 ^ (lo + width) + bitsOf n lo width * 2 ^ lo + n % 2 ^ lo := by
  have h1 := Nat.div_add_mod n (2 ^ lo)
  have h2 := Nat.div_add_mod (n / 2 ^ lo) (2 ^ width)
  rw [Nat.div_div_eq_div_mul, ← Nat.pow_add] at h2
  rw [Nat.pow_add]
  unfold bitsOf
  calc n = 2 ^ lo * (n / 2 ^ lo) + n % 2 ^ lo := h1.symm
    _ = 2 ^ lo * (2 ^ width * (n / 2 ^ (lo + width)) + n / 2 ^ lo % 2 ^ width) + n % 2 ^ lo := by rw [h2]
    _ = _ := by rw [Nat.pow_add]; ring

theorem withBits_eq (n lo width v : Nat) :
    withBits n lo width v = n / 2 ^ (lo + width) * 2 ^ (lo + width) + v % 2 ^ width * 2 ^ lo + n % 2 ^ lo := by
  have h := bits_split n lo width
  unfold withBits
  generalize n / 2 ^ (lo + width) * 2 ^ (lo + width) = x at *
  generalize bitsOf n lo width * 2 ^ lo = y at *
  omega

/-- A field read after it was replaced. -/
@[simp] theorem bitsOf_withBits_same (n lo width v : Nat) : bitsOf (withBits n lo width v) lo width = v % 2 ^ width := by
  rw [withBits_eq, bitsOf, Nat.pow_add, ← Nat.mul_assoc, Nat.mul_right_comm, ← Nat.add_mul]
  rw [Nat.add_comm, Nat.add_mul_div_right _ _ (Nat.two_pow_pos lo), Nat.div_eq_of_lt (Nat.mod_lt _ (Nat.two_pow_pos lo)), Nat.zero_add,
    Nat.mul_comm, Nat.mul_add_mod, Nat.mod_mod]

/-- Bits of a number with one field replaced. -/
theorem testBit_withBits (n lo width v i : Nat) :
    (withBits n lo width v).testBit i = if lo ≤ i ∧ i < lo + width then v.testBit (i - lo) else n.testBit i := by
  have e : withBits n lo width v = 2 ^ (lo + width) * (n / 2 ^ (lo + width)) + (2 ^ lo * (v % 2 ^ width) + n % 2 ^ lo) := by
    rw [withBits_eq]; ring
  have hl : n % 2 ^ lo < 2 ^ lo := Nat.mod_lt _ (Nat.two_pow_pos lo)
  have hv : v % 2 ^ width < 2 ^ width := Nat.mod_lt _ (Nat.two_pow_pos width)
  have hb : 2 ^ lo * (v % 2 ^ width) + n % 2 ^ lo < 2 ^ (lo + width) := by
    rw [Nat.pow_add]
    calc 2 ^ lo * (v % 2 ^ width) + n % 2 ^ lo < 2 ^ lo * (v % 2 ^ width) + 2 ^ lo := by omega
      _ = 2 ^ lo * (v % 2 ^ width + 1) := by ring
      _ ≤ 2 ^ lo * 2 ^ width := Nat.mul_le_mul_left _ hv
  rw [e, Nat.testBit_two_pow_mul_add _ hb]
  by_cases h1 : i < lo + width
  · rw [if_pos h1, Nat.testBit_two_pow_mul_add _ hl]
    by_cases h2 : i < lo
    · rw [if_pos h2, if_neg (by omega), Nat.testBit_mod_two_pow]; simp [h2]
    · rw [if_neg h2, if_pos (by omega), Nat.testBit_mod_two_pow]; simp [show i - lo < width by omega]
  · rw [if_neg h1, if_neg (by omega), Nat.testBit_div_two_pow]
    congr 1; omega

theorem testBit_bitsOf (n lo width i : Nat) : (bitsOf n lo width).testBit i = (decide (i < width) && n.testBit (lo + i)) := by
  unfold bitsOf
  rw [Nat.testBit_mod_two_pow, Nat.testBit_div_two_pow, Nat.add_comm]

/-- A field that does not meet the one replaced. -/
theorem bitsOf_withBits_disjoint (n lo width v lo' width' : Nat) (h : lo' + width' ≤ lo ∨ lo + width ≤ lo') :
    bitsOf (withBits n lo width v) lo' width' = bitsOf n lo' width' := by
  apply Nat.eq_of_testBit_eq
  intro i
  rw [testBit_bitsOf, testBit_bitsOf, testBit_withBits]
  by_cases hi : i < width'
  · rw [if_neg (by omega)]
  · simp [hi]

theorem withBits_lt {n lo width : Nat} (v : Nat) (hn : n < 2 ^ 32) (h : lo + width ≤ 32) : withBits n lo width v < 2 ^ 32 := by
  apply Nat.lt_pow_two_of_testBit
  intro i hi
  rw [testBit_withBits, if_neg (by omega)]
  exact Nat.testBit_lt_two_pow (Nat.lt_of_lt_of_le hn (Nat.pow_le_pow_right (by decide) hi))

/-! ### Words and fields of a state -/

namespace State

@[simp] theorem rd_wr_same (s : State) (a : Nat) (w : Word) : (s.wr a w).rd a = w := word_store_same s.regs a w

theorem rd_wr_other (s : State) {a b : Nat} (w : Word) (h : b ≠ a) : (s.wr a w).rd b = s.rd b := word_store_other s.regs w h

@[simp] theorem rd_wrN_same (s : State) (a n : Nat) : (s.wrN a n).rd a = BitVec.ofNat 32 n := rd_wr_same ..

theorem rd_wrN_other (s : State) {a b : Nat} (n : Nat) (h : b ≠ a) : (s.wrN a n).rd b = s.rd b := rd_wr_other _ _ h

@[simp] theorem rdN_wrN_same (s : State) (a n : Nat) : (s.wrN a n).rdN a = n % 2 ^ 32 := by simp [rdN]

theorem rdN_wrN_other (s : State) {a b : Nat} (n : Nat) (h : b ≠ a) : (s.wrN a n).rdN b = s.rdN b := by
  simp [rdN, rd_wrN_other s n h]

theorem rdN_lt (s : State) (a : Nat) : s.rdN a < 2 ^ 32 := (s.rd a).isLt

theorem rd_set_other (s : State) (f : Fld) (v : Nat) {b : Nat} (h : b ≠ f.addr) : (s.set f v).rd b = s.rd b := rd_wrN_other _ _ h

theorem rdN_set_other (s : State) (f : Fld) (v : Nat) {b : Nat} (h : b ≠ f.addr) : (s.set f v).rdN b = s.rdN b := rdN_wrN_other _ _ h

theorem rdN_set_same (s : State) (f : Fld) (v : Nat) (hf : f.lo + f.width ≤ 32) :
    (s.set f v).rdN f.addr = withBits (s.rdN f.addr) f.lo f.width v := by
  unfold set
  rw [rdN_wrN_same, Nat.mod_eq_of_lt (withBits_lt v (s.rdN_lt _) hf)]

/-- A field read after it was made `v`. -/
theorem get_set_same (s : State) (f : Fld) (v : Nat) (hf : f.lo + f.width ≤ 32) : (s.set f v).get f = v % 2 ^ f.width := by
  unfold get
  rw [rdN_set_same s f v hf, bitsOf_withBits_same]

/-- A field of another word, or of the same word beside it. -/
theorem get_set_other (s : State) (f g : Fld) (v : Nat) (hf : f.lo + f.width ≤ 32)
    (h : g.addr ≠ f.addr ∨ g.lo + g.width ≤ f.lo ∨ f.lo + f.width ≤ g.lo) : (s.set f v).get g = s.get g := by
  unfold get
  by_cases ha : g.addr = f.addr
  · rw [ha, rdN_set_same s f v hf]
    exact bitsOf_withBits_disjoint _ _ _ _ _ _ (h.resolve_left (fun hn => hn ha))
  · rw [rdN_set_other s f v ha]

theorem flag_setB_same (s : State) (f : Fld) (b : Bool) (hf : f.lo + f.width ≤ 32) (hw : f.width = 1) : (s.setB f b).flag f = b := by
  unfold flag setB
  rw [get_set_same s f _ hf, hw]
  cases b <;> rfl

theorem flag_setB_other (s : State) (f g : Fld) (b : Bool) (hf : f.lo + f.width ≤ 32)
    (h : g.addr ≠ f.addr ∨ g.lo + g.width ≤ f.lo ∨ f.lo + f.width ≤ g.lo) : (s.setB f b).flag g = s.flag g := by
  unfold flag setB
  rw [get_set_other s f g _ hf h]

theorem get_setB_other (s : State) (f g : Fld) (b : Bool) (hf : f.lo + f.width ≤ 32)
    (h : g.addr ≠ f.addr ∨ g.lo + g.width ≤ f.lo ∨ f.lo + f.width ≤ g.lo) : (s.setB f b).get g = s.get g :=
  get_set_other s f g _ hf h

/-- A field of a word that another write does not touch. -/
theorem get_wrN_other (s : State) (f : Fld) {a : Nat} (n : Nat) (h : f.addr ≠ a) : (s.wrN a n).get f = s.get f := by
  unfold get
  rw [rdN_wrN_other s n h]

theorem flag_wrN_other (s : State) (f : Fld) {a : Nat} (n : Nat) (h : f.addr ≠ a) : (s.wrN a n).flag f = s.flag f := by
  unfold flag
  rw [get_wrN_other s f n h]

end State

end Sys2Proof.Machine
end

