-- ==== Sys2Proof/Laws/State.lean ====
section
/-! SUPPORT. What each update of the state leaves: one lemma per field per update, so that no proof unfolds a record update. -/

namespace Sys2Proof.Machine

namespace State

/-! ### `wr` -/

@[simp] theorem wr_pending (s : State) (a : Nat) (w : Word) : (s.wr a w).pending = s.pending := rfl
@[simp] theorem wr_regs (s : State) (a : Nat) (w : Word) : (s.wr a w).regs = s.regs.store a w := rfl
@[simp] theorem wr_freeCtr (s : State) (a : Nat) (w : Word) : (s.wr a w).freeCtr = s.freeCtr := rfl
@[simp] theorem wr_latches (s : State) (a : Nat) (w : Word) : (s.wr a w).latches = s.latches := rfl
@[simp] theorem wr_staging (s : State) (a : Nat) (w : Word) : (s.wr a w).staging = s.staging := rfl
@[simp] theorem wr_readData (s : State) (a : Nat) (w : Word) : (s.wr a w).readData = s.readData := rfl
@[simp] theorem wr_tc (s : State) (a : Nat) (w : Word) : (s.wr a w).tc = s.tc := rfl
@[simp] theorem wr_whl (s : State) (a : Nat) (w : Word) : (s.wr a w).whl = s.whl := rfl
@[simp] theorem wr_cfg (s : State) (a : Nat) (w : Word) : (s.wr a w).cfg = s.cfg := rfl
@[simp] theorem wr_fc (s : State) (a : Nat) (w : Word) : (s.wr a w).fc = s.fc := rfl
@[simp] theorem wr_jn (s : State) (a : Nat) (w : Word) : (s.wr a w).jn = s.jn := rfl
@[simp] theorem wr_msix (s : State) (a : Nat) (w : Word) : (s.wr a w).msix = s.msix := rfl
@[simp] theorem wr_pips (s : State) (a : Nat) (w : Word) : (s.wr a w).pips = s.pips := rfl
@[simp] theorem wr_snapDue (s : State) (a : Nat) (w : Word) : (s.wr a w).snapDue = s.snapDue := rfl
@[simp] theorem wr_dram (s : State) (a : Nat) (w : Word) : (s.wr a w).dram = s.dram := rfl
@[simp] theorem wr_hostMem (s : State) (a : Nat) (w : Word) : (s.wr a w).hostMem = s.hostMem := rfl
@[simp] theorem wr_rs (s : State) (a : Nat) (w : Word) : (s.wr a w).rs = s.rs := rfl
@[simp] theorem wr_ho (s : State) (a : Nat) (w : Word) : (s.wr a w).ho = s.ho := rfl
@[simp] theorem wr_eb (s : State) (a : Nat) (w : Word) : (s.wr a w).eb = s.eb := rfl
@[simp] theorem wr_gn (s : State) (a : Nat) (w : Word) : (s.wr a w).gn = s.gn := rfl
@[simp] theorem wr_sh (s : State) (a : Nat) (w : Word) : (s.wr a w).sh = s.sh := rfl
@[simp] theorem wr_ports (s : State) (a : Nat) (w : Word) : (s.wr a w).ports = s.ports := rfl
@[simp] theorem wr_sw (s : State) (a : Nat) (w : Word) : (s.wr a w).sw = s.sw := rfl
@[simp] theorem wr_pc (s : State) (a : Nat) (w : Word) : (s.wr a w).pc = s.pc := rfl
@[simp] theorem wr_cv (s : State) (a : Nat) (w : Word) : (s.wr a w).cv = s.cv := rfl
@[simp] theorem wr_outs (s : State) (a : Nat) (w : Word) : (s.wr a w).outs = s.outs := rfl
@[simp] theorem wr_ls (s : State) (a : Nat) (w : Word) : (s.wr a w).ls = s.ls := rfl
@[simp] theorem wr_links (s : State) (a : Nat) (w : Word) : (s.wr a w).links = s.links := rfl
@[simp] theorem wr_dvMs (s : State) (a : Nat) (w : Word) : (s.wr a w).dvMs = s.dvMs := rfl
@[simp] theorem wr_ks (s : State) (a : Nat) (w : Word) : (s.wr a w).ks = s.ks := rfl
@[simp] theorem wr_pe (s : State) (a : Nat) (w : Word) : (s.wr a w).pe = s.pe := rfl
@[simp] theorem wr_ne (s : State) (a : Nat) (w : Word) : (s.wr a w).ne = s.ne := rfl
@[simp] theorem wr_ind (s : State) (a : Nat) (w : Word) : (s.wr a w).ind = s.ind := rfl
@[simp] theorem wr_boot (s : State) (a : Nat) (w : Word) : (s.wr a w).boot = s.boot := rfl

/-! ### `wrN` -/

@[simp] theorem wrN_pending (s : State) (a n : Nat) : (s.wrN a n).pending = s.pending := rfl
@[simp] theorem wrN_regs (s : State) (a n : Nat) : (s.wrN a n).regs = s.regs.store a (BitVec.ofNat 32 n) := rfl
@[simp] theorem wrN_freeCtr (s : State) (a n : Nat) : (s.wrN a n).freeCtr = s.freeCtr := rfl
@[simp] theorem wrN_latches (s : State) (a n : Nat) : (s.wrN a n).latches = s.latches := rfl
@[simp] theorem wrN_staging (s : State) (a n : Nat) : (s.wrN a n).staging = s.staging := rfl
@[simp] theorem wrN_readData (s : State) (a n : Nat) : (s.wrN a n).readData = s.readData := rfl
@[simp] theorem wrN_tc (s : State) (a n : Nat) : (s.wrN a n).tc = s.tc := rfl
@[simp] theorem wrN_whl (s : State) (a n : Nat) : (s.wrN a n).whl = s.whl := rfl
@[simp] theorem wrN_cfg (s : State) (a n : Nat) : (s.wrN a n).cfg = s.cfg := rfl
@[simp] theorem wrN_fc (s : State) (a n : Nat) : (s.wrN a n).fc = s.fc := rfl
@[simp] theorem wrN_jn (s : State) (a n : Nat) : (s.wrN a n).jn = s.jn := rfl
@[simp] theorem wrN_msix (s : State) (a n : Nat) : (s.wrN a n).msix = s.msix := rfl
@[simp] theorem wrN_pips (s : State) (a n : Nat) : (s.wrN a n).pips = s.pips := rfl
@[simp] theorem wrN_snapDue (s : State) (a n : Nat) : (s.wrN a n).snapDue = s.snapDue := rfl
@[simp] theorem wrN_dram (s : State) (a n : Nat) : (s.wrN a n).dram = s.dram := rfl
@[simp] theorem wrN_hostMem (s : State) (a n : Nat) : (s.wrN a n).hostMem = s.hostMem := rfl
@[simp] theorem wrN_rs (s : State) (a n : Nat) : (s.wrN a n).rs = s.rs := rfl
@[simp] theorem wrN_ho (s : State) (a n : Nat) : (s.wrN a n).ho = s.ho := rfl
@[simp] theorem wrN_eb (s : State) (a n : Nat) : (s.wrN a n).eb = s.eb := rfl
@[simp] theorem wrN_gn (s : State) (a n : Nat) : (s.wrN a n).gn = s.gn := rfl
@[simp] theorem wrN_sh (s : State) (a n : Nat) : (s.wrN a n).sh = s.sh := rfl
@[simp] theorem wrN_ports (s : State) (a n : Nat) : (s.wrN a n).ports = s.ports := rfl
@[simp] theorem wrN_sw (s : State) (a n : Nat) : (s.wrN a n).sw = s.sw := rfl
@[simp] theorem wrN_pc (s : State) (a n : Nat) : (s.wrN a n).pc = s.pc := rfl
@[simp] theorem wrN_cv (s : State) (a n : Nat) : (s.wrN a n).cv = s.cv := rfl
@[simp] theorem wrN_outs (s : State) (a n : Nat) : (s.wrN a n).outs = s.outs := rfl
@[simp] theorem wrN_ls (s : State) (a n : Nat) : (s.wrN a n).ls = s.ls := rfl
@[simp] theorem wrN_links (s : State) (a n : Nat) : (s.wrN a n).links = s.links := rfl
@[simp] theorem wrN_dvMs (s : State) (a n : Nat) : (s.wrN a n).dvMs = s.dvMs := rfl
@[simp] theorem wrN_ks (s : State) (a n : Nat) : (s.wrN a n).ks = s.ks := rfl
@[simp] theorem wrN_pe (s : State) (a n : Nat) : (s.wrN a n).pe = s.pe := rfl
@[simp] theorem wrN_ne (s : State) (a n : Nat) : (s.wrN a n).ne = s.ne := rfl
@[simp] theorem wrN_ind (s : State) (a n : Nat) : (s.wrN a n).ind = s.ind := rfl
@[simp] theorem wrN_boot (s : State) (a n : Nat) : (s.wrN a n).boot = s.boot := rfl

/-! ### `wrSat` -/

@[simp] theorem wrSat_pending (s : State) (a n : Nat) : (s.wrSat a n).pending = s.pending := rfl
@[simp] theorem wrSat_freeCtr (s : State) (a n : Nat) : (s.wrSat a n).freeCtr = s.freeCtr := rfl
@[simp] theorem wrSat_latches (s : State) (a n : Nat) : (s.wrSat a n).latches = s.latches := rfl
@[simp] theorem wrSat_staging (s : State) (a n : Nat) : (s.wrSat a n).staging = s.staging := rfl
@[simp] theorem wrSat_readData (s : State) (a n : Nat) : (s.wrSat a n).readData = s.readData := rfl
@[simp] theorem wrSat_tc (s : State) (a n : Nat) : (s.wrSat a n).tc = s.tc := rfl
@[simp] theorem wrSat_whl (s : State) (a n : Nat) : (s.wrSat a n).whl = s.whl := rfl
@[simp] theorem wrSat_cfg (s : State) (a n : Nat) : (s.wrSat a n).cfg = s.cfg := rfl
@[simp] theorem wrSat_fc (s : State) (a n : Nat) : (s.wrSat a n).fc = s.fc := rfl
@[simp] theorem wrSat_jn (s : State) (a n : Nat) : (s.wrSat a n).jn = s.jn := rfl
@[simp] theorem wrSat_msix (s : State) (a n : Nat) : (s.wrSat a n).msix = s.msix := rfl
@[simp] theorem wrSat_pips (s : State) (a n : Nat) : (s.wrSat a n).pips = s.pips := rfl
@[simp] theorem wrSat_snapDue (s : State) (a n : Nat) : (s.wrSat a n).snapDue = s.snapDue := rfl
@[simp] theorem wrSat_dram (s : State) (a n : Nat) : (s.wrSat a n).dram = s.dram := rfl
@[simp] theorem wrSat_hostMem (s : State) (a n : Nat) : (s.wrSat a n).hostMem = s.hostMem := rfl
@[simp] theorem wrSat_rs (s : State) (a n : Nat) : (s.wrSat a n).rs = s.rs := rfl
@[simp] theorem wrSat_ho (s : State) (a n : Nat) : (s.wrSat a n).ho = s.ho := rfl
@[simp] theorem wrSat_eb (s : State) (a n : Nat) : (s.wrSat a n).eb = s.eb := rfl
@[simp] theorem wrSat_gn (s : State) (a n : Nat) : (s.wrSat a n).gn = s.gn := rfl
@[simp] theorem wrSat_sh (s : State) (a n : Nat) : (s.wrSat a n).sh = s.sh := rfl
@[simp] theorem wrSat_ports (s : State) (a n : Nat) : (s.wrSat a n).ports = s.ports := rfl
@[simp] theorem wrSat_sw (s : State) (a n : Nat) : (s.wrSat a n).sw = s.sw := rfl
@[simp] theorem wrSat_pc (s : State) (a n : Nat) : (s.wrSat a n).pc = s.pc := rfl
@[simp] theorem wrSat_cv (s : State) (a n : Nat) : (s.wrSat a n).cv = s.cv := rfl
@[simp] theorem wrSat_outs (s : State) (a n : Nat) : (s.wrSat a n).outs = s.outs := rfl
@[simp] theorem wrSat_ls (s : State) (a n : Nat) : (s.wrSat a n).ls = s.ls := rfl
@[simp] theorem wrSat_links (s : State) (a n : Nat) : (s.wrSat a n).links = s.links := rfl
@[simp] theorem wrSat_dvMs (s : State) (a n : Nat) : (s.wrSat a n).dvMs = s.dvMs := rfl
@[simp] theorem wrSat_ks (s : State) (a n : Nat) : (s.wrSat a n).ks = s.ks := rfl
@[simp] theorem wrSat_pe (s : State) (a n : Nat) : (s.wrSat a n).pe = s.pe := rfl
@[simp] theorem wrSat_ne (s : State) (a n : Nat) : (s.wrSat a n).ne = s.ne := rfl
@[simp] theorem wrSat_ind (s : State) (a n : Nat) : (s.wrSat a n).ind = s.ind := rfl
@[simp] theorem wrSat_boot (s : State) (a n : Nat) : (s.wrSat a n).boot = s.boot := rfl

/-! ### `bump` -/

@[simp] theorem bump_pending (s : State) (a : Nat) : (s.bump a).pending = s.pending := rfl
@[simp] theorem bump_freeCtr (s : State) (a : Nat) : (s.bump a).freeCtr = s.freeCtr := rfl
@[simp] theorem bump_latches (s : State) (a : Nat) : (s.bump a).latches = s.latches := rfl
@[simp] theorem bump_staging (s : State) (a : Nat) : (s.bump a).staging = s.staging := rfl
@[simp] theorem bump_readData (s : State) (a : Nat) : (s.bump a).readData = s.readData := rfl
@[simp] theorem bump_tc (s : State) (a : Nat) : (s.bump a).tc = s.tc := rfl
@[simp] theorem bump_whl (s : State) (a : Nat) : (s.bump a).whl = s.whl := rfl
@[simp] theorem bump_cfg (s : State) (a : Nat) : (s.bump a).cfg = s.cfg := rfl
@[simp] theorem bump_fc (s : State) (a : Nat) : (s.bump a).fc = s.fc := rfl
@[simp] theorem bump_jn (s : State) (a : Nat) : (s.bump a).jn = s.jn := rfl
@[simp] theorem bump_msix (s : State) (a : Nat) : (s.bump a).msix = s.msix := rfl
@[simp] theorem bump_pips (s : State) (a : Nat) : (s.bump a).pips = s.pips := rfl
@[simp] theorem bump_snapDue (s : State) (a : Nat) : (s.bump a).snapDue = s.snapDue := rfl
@[simp] theorem bump_dram (s : State) (a : Nat) : (s.bump a).dram = s.dram := rfl
@[simp] theorem bump_hostMem (s : State) (a : Nat) : (s.bump a).hostMem = s.hostMem := rfl
@[simp] theorem bump_rs (s : State) (a : Nat) : (s.bump a).rs = s.rs := rfl
@[simp] theorem bump_ho (s : State) (a : Nat) : (s.bump a).ho = s.ho := rfl
@[simp] theorem bump_eb (s : State) (a : Nat) : (s.bump a).eb = s.eb := rfl
@[simp] theorem bump_gn (s : State) (a : Nat) : (s.bump a).gn = s.gn := rfl
@[simp] theorem bump_sh (s : State) (a : Nat) : (s.bump a).sh = s.sh := rfl
@[simp] theorem bump_ports (s : State) (a : Nat) : (s.bump a).ports = s.ports := rfl
@[simp] theorem bump_sw (s : State) (a : Nat) : (s.bump a).sw = s.sw := rfl
@[simp] theorem bump_pc (s : State) (a : Nat) : (s.bump a).pc = s.pc := rfl
@[simp] theorem bump_cv (s : State) (a : Nat) : (s.bump a).cv = s.cv := rfl
@[simp] theorem bump_outs (s : State) (a : Nat) : (s.bump a).outs = s.outs := rfl
@[simp] theorem bump_ls (s : State) (a : Nat) : (s.bump a).ls = s.ls := rfl
@[simp] theorem bump_links (s : State) (a : Nat) : (s.bump a).links = s.links := rfl
@[simp] theorem bump_dvMs (s : State) (a : Nat) : (s.bump a).dvMs = s.dvMs := rfl
@[simp] theorem bump_ks (s : State) (a : Nat) : (s.bump a).ks = s.ks := rfl
@[simp] theorem bump_pe (s : State) (a : Nat) : (s.bump a).pe = s.pe := rfl
@[simp] theorem bump_ne (s : State) (a : Nat) : (s.bump a).ne = s.ne := rfl
@[simp] theorem bump_ind (s : State) (a : Nat) : (s.bump a).ind = s.ind := rfl
@[simp] theorem bump_boot (s : State) (a : Nat) : (s.bump a).boot = s.boot := rfl

/-! ### `bumpBy` -/

@[simp] theorem bumpBy_pending (s : State) (a n : Nat) : (s.bumpBy a n).pending = s.pending := rfl
@[simp] theorem bumpBy_freeCtr (s : State) (a n : Nat) : (s.bumpBy a n).freeCtr = s.freeCtr := rfl
@[simp] theorem bumpBy_latches (s : State) (a n : Nat) : (s.bumpBy a n).latches = s.latches := rfl
@[simp] theorem bumpBy_staging (s : State) (a n : Nat) : (s.bumpBy a n).staging = s.staging := rfl
@[simp] theorem bumpBy_readData (s : State) (a n : Nat) : (s.bumpBy a n).readData = s.readData := rfl
@[simp] theorem bumpBy_tc (s : State) (a n : Nat) : (s.bumpBy a n).tc = s.tc := rfl
@[simp] theorem bumpBy_whl (s : State) (a n : Nat) : (s.bumpBy a n).whl = s.whl := rfl
@[simp] theorem bumpBy_cfg (s : State) (a n : Nat) : (s.bumpBy a n).cfg = s.cfg := rfl
@[simp] theorem bumpBy_fc (s : State) (a n : Nat) : (s.bumpBy a n).fc = s.fc := rfl
@[simp] theorem bumpBy_jn (s : State) (a n : Nat) : (s.bumpBy a n).jn = s.jn := rfl
@[simp] theorem bumpBy_msix (s : State) (a n : Nat) : (s.bumpBy a n).msix = s.msix := rfl
@[simp] theorem bumpBy_pips (s : State) (a n : Nat) : (s.bumpBy a n).pips = s.pips := rfl
@[simp] theorem bumpBy_snapDue (s : State) (a n : Nat) : (s.bumpBy a n).snapDue = s.snapDue := rfl
@[simp] theorem bumpBy_dram (s : State) (a n : Nat) : (s.bumpBy a n).dram = s.dram := rfl
@[simp] theorem bumpBy_hostMem (s : State) (a n : Nat) : (s.bumpBy a n).hostMem = s.hostMem := rfl
@[simp] theorem bumpBy_rs (s : State) (a n : Nat) : (s.bumpBy a n).rs = s.rs := rfl
@[simp] theorem bumpBy_ho (s : State) (a n : Nat) : (s.bumpBy a n).ho = s.ho := rfl
@[simp] theorem bumpBy_eb (s : State) (a n : Nat) : (s.bumpBy a n).eb = s.eb := rfl
@[simp] theorem bumpBy_gn (s : State) (a n : Nat) : (s.bumpBy a n).gn = s.gn := rfl
@[simp] theorem bumpBy_sh (s : State) (a n : Nat) : (s.bumpBy a n).sh = s.sh := rfl
@[simp] theorem bumpBy_ports (s : State) (a n : Nat) : (s.bumpBy a n).ports = s.ports := rfl
@[simp] theorem bumpBy_sw (s : State) (a n : Nat) : (s.bumpBy a n).sw = s.sw := rfl
@[simp] theorem bumpBy_pc (s : State) (a n : Nat) : (s.bumpBy a n).pc = s.pc := rfl
@[simp] theorem bumpBy_cv (s : State) (a n : Nat) : (s.bumpBy a n).cv = s.cv := rfl
@[simp] theorem bumpBy_outs (s : State) (a n : Nat) : (s.bumpBy a n).outs = s.outs := rfl
@[simp] theorem bumpBy_ls (s : State) (a n : Nat) : (s.bumpBy a n).ls = s.ls := rfl
@[simp] theorem bumpBy_links (s : State) (a n : Nat) : (s.bumpBy a n).links = s.links := rfl
@[simp] theorem bumpBy_dvMs (s : State) (a n : Nat) : (s.bumpBy a n).dvMs = s.dvMs := rfl
@[simp] theorem bumpBy_ks (s : State) (a n : Nat) : (s.bumpBy a n).ks = s.ks := rfl
@[simp] theorem bumpBy_pe (s : State) (a n : Nat) : (s.bumpBy a n).pe = s.pe := rfl
@[simp] theorem bumpBy_ne (s : State) (a n : Nat) : (s.bumpBy a n).ne = s.ne := rfl
@[simp] theorem bumpBy_ind (s : State) (a n : Nat) : (s.bumpBy a n).ind = s.ind := rfl
@[simp] theorem bumpBy_boot (s : State) (a n : Nat) : (s.bumpBy a n).boot = s.boot := rfl

/-! ### `set` -/

@[simp] theorem set_pending (s : State) (f : Fld) (v : Nat) : (s.set f v).pending = s.pending := rfl
@[simp] theorem set_freeCtr (s : State) (f : Fld) (v : Nat) : (s.set f v).freeCtr = s.freeCtr := rfl
@[simp] theorem set_latches (s : State) (f : Fld) (v : Nat) : (s.set f v).latches = s.latches := rfl
@[simp] theorem set_staging (s : State) (f : Fld) (v : Nat) : (s.set f v).staging = s.staging := rfl
@[simp] theorem set_readData (s : State) (f : Fld) (v : Nat) : (s.set f v).readData = s.readData := rfl
@[simp] theorem set_tc (s : State) (f : Fld) (v : Nat) : (s.set f v).tc = s.tc := rfl
@[simp] theorem set_whl (s : State) (f : Fld) (v : Nat) : (s.set f v).whl = s.whl := rfl
@[simp] theorem set_cfg (s : State) (f : Fld) (v : Nat) : (s.set f v).cfg = s.cfg := rfl
@[simp] theorem set_fc (s : State) (f : Fld) (v : Nat) : (s.set f v).fc = s.fc := rfl
@[simp] theorem set_jn (s : State) (f : Fld) (v : Nat) : (s.set f v).jn = s.jn := rfl
@[simp] theorem set_msix (s : State) (f : Fld) (v : Nat) : (s.set f v).msix = s.msix := rfl
@[simp] theorem set_pips (s : State) (f : Fld) (v : Nat) : (s.set f v).pips = s.pips := rfl
@[simp] theorem set_snapDue (s : State) (f : Fld) (v : Nat) : (s.set f v).snapDue = s.snapDue := rfl
@[simp] theorem set_dram (s : State) (f : Fld) (v : Nat) : (s.set f v).dram = s.dram := rfl
@[simp] theorem set_hostMem (s : State) (f : Fld) (v : Nat) : (s.set f v).hostMem = s.hostMem := rfl
@[simp] theorem set_rs (s : State) (f : Fld) (v : Nat) : (s.set f v).rs = s.rs := rfl
@[simp] theorem set_ho (s : State) (f : Fld) (v : Nat) : (s.set f v).ho = s.ho := rfl
@[simp] theorem set_eb (s : State) (f : Fld) (v : Nat) : (s.set f v).eb = s.eb := rfl
@[simp] theorem set_gn (s : State) (f : Fld) (v : Nat) : (s.set f v).gn = s.gn := rfl
@[simp] theorem set_sh (s : State) (f : Fld) (v : Nat) : (s.set f v).sh = s.sh := rfl
@[simp] theorem set_ports (s : State) (f : Fld) (v : Nat) : (s.set f v).ports = s.ports := rfl
@[simp] theorem set_sw (s : State) (f : Fld) (v : Nat) : (s.set f v).sw = s.sw := rfl
@[simp] theorem set_pc (s : State) (f : Fld) (v : Nat) : (s.set f v).pc = s.pc := rfl
@[simp] theorem set_cv (s : State) (f : Fld) (v : Nat) : (s.set f v).cv = s.cv := rfl
@[simp] theorem set_outs (s : State) (f : Fld) (v : Nat) : (s.set f v).outs = s.outs := rfl
@[simp] theorem set_ls (s : State) (f : Fld) (v : Nat) : (s.set f v).ls = s.ls := rfl
@[simp] theorem set_links (s : State) (f : Fld) (v : Nat) : (s.set f v).links = s.links := rfl
@[simp] theorem set_dvMs (s : State) (f : Fld) (v : Nat) : (s.set f v).dvMs = s.dvMs := rfl
@[simp] theorem set_ks (s : State) (f : Fld) (v : Nat) : (s.set f v).ks = s.ks := rfl
@[simp] theorem set_pe (s : State) (f : Fld) (v : Nat) : (s.set f v).pe = s.pe := rfl
@[simp] theorem set_ne (s : State) (f : Fld) (v : Nat) : (s.set f v).ne = s.ne := rfl
@[simp] theorem set_ind (s : State) (f : Fld) (v : Nat) : (s.set f v).ind = s.ind := rfl
@[simp] theorem set_boot (s : State) (f : Fld) (v : Nat) : (s.set f v).boot = s.boot := rfl

/-! ### `setB` -/

@[simp] theorem setB_pending (s : State) (f : Fld) (b : Bool) : (s.setB f b).pending = s.pending := rfl
@[simp] theorem setB_freeCtr (s : State) (f : Fld) (b : Bool) : (s.setB f b).freeCtr = s.freeCtr := rfl
@[simp] theorem setB_latches (s : State) (f : Fld) (b : Bool) : (s.setB f b).latches = s.latches := rfl
@[simp] theorem setB_staging (s : State) (f : Fld) (b : Bool) : (s.setB f b).staging = s.staging := rfl
@[simp] theorem setB_readData (s : State) (f : Fld) (b : Bool) : (s.setB f b).readData = s.readData := rfl
@[simp] theorem setB_tc (s : State) (f : Fld) (b : Bool) : (s.setB f b).tc = s.tc := rfl
@[simp] theorem setB_whl (s : State) (f : Fld) (b : Bool) : (s.setB f b).whl = s.whl := rfl
@[simp] theorem setB_cfg (s : State) (f : Fld) (b : Bool) : (s.setB f b).cfg = s.cfg := rfl
@[simp] theorem setB_fc (s : State) (f : Fld) (b : Bool) : (s.setB f b).fc = s.fc := rfl
@[simp] theorem setB_jn (s : State) (f : Fld) (b : Bool) : (s.setB f b).jn = s.jn := rfl
@[simp] theorem setB_msix (s : State) (f : Fld) (b : Bool) : (s.setB f b).msix = s.msix := rfl
@[simp] theorem setB_pips (s : State) (f : Fld) (b : Bool) : (s.setB f b).pips = s.pips := rfl
@[simp] theorem setB_snapDue (s : State) (f : Fld) (b : Bool) : (s.setB f b).snapDue = s.snapDue := rfl
@[simp] theorem setB_dram (s : State) (f : Fld) (b : Bool) : (s.setB f b).dram = s.dram := rfl
@[simp] theorem setB_hostMem (s : State) (f : Fld) (b : Bool) : (s.setB f b).hostMem = s.hostMem := rfl
@[simp] theorem setB_rs (s : State) (f : Fld) (b : Bool) : (s.setB f b).rs = s.rs := rfl
@[simp] theorem setB_ho (s : State) (f : Fld) (b : Bool) : (s.setB f b).ho = s.ho := rfl
@[simp] theorem setB_eb (s : State) (f : Fld) (b : Bool) : (s.setB f b).eb = s.eb := rfl
@[simp] theorem setB_gn (s : State) (f : Fld) (b : Bool) : (s.setB f b).gn = s.gn := rfl
@[simp] theorem setB_sh (s : State) (f : Fld) (b : Bool) : (s.setB f b).sh = s.sh := rfl
@[simp] theorem setB_ports (s : State) (f : Fld) (b : Bool) : (s.setB f b).ports = s.ports := rfl
@[simp] theorem setB_sw (s : State) (f : Fld) (b : Bool) : (s.setB f b).sw = s.sw := rfl
@[simp] theorem setB_pc (s : State) (f : Fld) (b : Bool) : (s.setB f b).pc = s.pc := rfl
@[simp] theorem setB_cv (s : State) (f : Fld) (b : Bool) : (s.setB f b).cv = s.cv := rfl
@[simp] theorem setB_outs (s : State) (f : Fld) (b : Bool) : (s.setB f b).outs = s.outs := rfl
@[simp] theorem setB_ls (s : State) (f : Fld) (b : Bool) : (s.setB f b).ls = s.ls := rfl
@[simp] theorem setB_links (s : State) (f : Fld) (b : Bool) : (s.setB f b).links = s.links := rfl
@[simp] theorem setB_dvMs (s : State) (f : Fld) (b : Bool) : (s.setB f b).dvMs = s.dvMs := rfl
@[simp] theorem setB_ks (s : State) (f : Fld) (b : Bool) : (s.setB f b).ks = s.ks := rfl
@[simp] theorem setB_pe (s : State) (f : Fld) (b : Bool) : (s.setB f b).pe = s.pe := rfl
@[simp] theorem setB_ne (s : State) (f : Fld) (b : Bool) : (s.setB f b).ne = s.ne := rfl
@[simp] theorem setB_ind (s : State) (f : Fld) (b : Bool) : (s.setB f b).ind = s.ind := rfl
@[simp] theorem setB_boot (s : State) (f : Fld) (b : Bool) : (s.setB f b).boot = s.boot := rfl

/-! ### `bumpF` -/

@[simp] theorem bumpF_pending (s : State) (f : Fld) : (s.bumpF f).pending = s.pending := rfl
@[simp] theorem bumpF_freeCtr (s : State) (f : Fld) : (s.bumpF f).freeCtr = s.freeCtr := rfl
@[simp] theorem bumpF_latches (s : State) (f : Fld) : (s.bumpF f).latches = s.latches := rfl
@[simp] theorem bumpF_staging (s : State) (f : Fld) : (s.bumpF f).staging = s.staging := rfl
@[simp] theorem bumpF_readData (s : State) (f : Fld) : (s.bumpF f).readData = s.readData := rfl
@[simp] theorem bumpF_tc (s : State) (f : Fld) : (s.bumpF f).tc = s.tc := rfl
@[simp] theorem bumpF_whl (s : State) (f : Fld) : (s.bumpF f).whl = s.whl := rfl
@[simp] theorem bumpF_cfg (s : State) (f : Fld) : (s.bumpF f).cfg = s.cfg := rfl
@[simp] theorem bumpF_fc (s : State) (f : Fld) : (s.bumpF f).fc = s.fc := rfl
@[simp] theorem bumpF_jn (s : State) (f : Fld) : (s.bumpF f).jn = s.jn := rfl
@[simp] theorem bumpF_msix (s : State) (f : Fld) : (s.bumpF f).msix = s.msix := rfl
@[simp] theorem bumpF_pips (s : State) (f : Fld) : (s.bumpF f).pips = s.pips := rfl
@[simp] theorem bumpF_snapDue (s : State) (f : Fld) : (s.bumpF f).snapDue = s.snapDue := rfl
@[simp] theorem bumpF_dram (s : State) (f : Fld) : (s.bumpF f).dram = s.dram := rfl
@[simp] theorem bumpF_hostMem (s : State) (f : Fld) : (s.bumpF f).hostMem = s.hostMem := rfl
@[simp] theorem bumpF_rs (s : State) (f : Fld) : (s.bumpF f).rs = s.rs := rfl
@[simp] theorem bumpF_ho (s : State) (f : Fld) : (s.bumpF f).ho = s.ho := rfl
@[simp] theorem bumpF_eb (s : State) (f : Fld) : (s.bumpF f).eb = s.eb := rfl
@[simp] theorem bumpF_gn (s : State) (f : Fld) : (s.bumpF f).gn = s.gn := rfl
@[simp] theorem bumpF_sh (s : State) (f : Fld) : (s.bumpF f).sh = s.sh := rfl
@[simp] theorem bumpF_ports (s : State) (f : Fld) : (s.bumpF f).ports = s.ports := rfl
@[simp] theorem bumpF_sw (s : State) (f : Fld) : (s.bumpF f).sw = s.sw := rfl
@[simp] theorem bumpF_pc (s : State) (f : Fld) : (s.bumpF f).pc = s.pc := rfl
@[simp] theorem bumpF_cv (s : State) (f : Fld) : (s.bumpF f).cv = s.cv := rfl
@[simp] theorem bumpF_outs (s : State) (f : Fld) : (s.bumpF f).outs = s.outs := rfl
@[simp] theorem bumpF_ls (s : State) (f : Fld) : (s.bumpF f).ls = s.ls := rfl
@[simp] theorem bumpF_links (s : State) (f : Fld) : (s.bumpF f).links = s.links := rfl
@[simp] theorem bumpF_dvMs (s : State) (f : Fld) : (s.bumpF f).dvMs = s.dvMs := rfl
@[simp] theorem bumpF_ks (s : State) (f : Fld) : (s.bumpF f).ks = s.ks := rfl
@[simp] theorem bumpF_pe (s : State) (f : Fld) : (s.bumpF f).pe = s.pe := rfl
@[simp] theorem bumpF_ne (s : State) (f : Fld) : (s.bumpF f).ne = s.ne := rfl
@[simp] theorem bumpF_ind (s : State) (f : Fld) : (s.bumpF f).ind = s.ind := rfl
@[simp] theorem bumpF_boot (s : State) (f : Fld) : (s.bumpF f).boot = s.boot := rfl

/-! ### `tick` -/

@[simp] theorem tick_pending (s : State) : (s.tick).pending = s.pending := rfl
@[simp] theorem tick_regs (s : State) : (s.tick).regs = s.regs := rfl
@[simp] theorem tick_freeCtr (s : State) : (s.tick).freeCtr = s.freeCtr + 1 := rfl
@[simp] theorem tick_latches (s : State) : (s.tick).latches = s.latches := rfl
@[simp] theorem tick_staging (s : State) : (s.tick).staging = s.staging := rfl
@[simp] theorem tick_readData (s : State) : (s.tick).readData = s.readData := rfl
@[simp] theorem tick_tc (s : State) : (s.tick).tc = s.tc := rfl
@[simp] theorem tick_whl (s : State) : (s.tick).whl = s.whl := rfl
@[simp] theorem tick_cfg (s : State) : (s.tick).cfg = s.cfg := rfl
@[simp] theorem tick_fc (s : State) : (s.tick).fc = s.fc := rfl
@[simp] theorem tick_jn (s : State) : (s.tick).jn = s.jn := rfl
@[simp] theorem tick_msix (s : State) : (s.tick).msix = s.msix := rfl
@[simp] theorem tick_pips (s : State) : (s.tick).pips = s.pips := rfl
@[simp] theorem tick_snapDue (s : State) : (s.tick).snapDue = s.snapDue := rfl
@[simp] theorem tick_dram (s : State) : (s.tick).dram = s.dram := rfl
@[simp] theorem tick_hostMem (s : State) : (s.tick).hostMem = s.hostMem := rfl
@[simp] theorem tick_rs (s : State) : (s.tick).rs = s.rs := rfl
@[simp] theorem tick_ho (s : State) : (s.tick).ho = s.ho := rfl
@[simp] theorem tick_eb (s : State) : (s.tick).eb = s.eb := rfl
@[simp] theorem tick_gn (s : State) : (s.tick).gn = s.gn := rfl
@[simp] theorem tick_sh (s : State) : (s.tick).sh = s.sh := rfl
@[simp] theorem tick_ports (s : State) : (s.tick).ports = s.ports := rfl
@[simp] theorem tick_sw (s : State) : (s.tick).sw = s.sw := rfl
@[simp] theorem tick_pc (s : State) : (s.tick).pc = s.pc := rfl
@[simp] theorem tick_cv (s : State) : (s.tick).cv = s.cv := rfl
@[simp] theorem tick_outs (s : State) : (s.tick).outs = s.outs := rfl
@[simp] theorem tick_ls (s : State) : (s.tick).ls = s.ls := rfl
@[simp] theorem tick_links (s : State) : (s.tick).links = s.links := rfl
@[simp] theorem tick_dvMs (s : State) : (s.tick).dvMs = s.dvMs := rfl
@[simp] theorem tick_ks (s : State) : (s.tick).ks = s.ks := rfl
@[simp] theorem tick_pe (s : State) : (s.tick).pe = s.pe := rfl
@[simp] theorem tick_ne (s : State) : (s.tick).ne = s.ne := rfl
@[simp] theorem tick_ind (s : State) : (s.tick).ind = s.ind := rfl
@[simp] theorem tick_boot (s : State) : (s.tick).boot = s.boot := rfl
@[simp] theorem tick_rd (s : State) (x : Nat) : (s.tick).rd x = s.rd x := rfl
@[simp] theorem tick_rdN (s : State) (x : Nat) : (s.tick).rdN x = s.rdN x := rfl
@[simp] theorem tick_get (s : State) (g : Fld) : (s.tick).get g = s.get g := rfl
@[simp] theorem tick_flag (s : State) (g : Fld) : (s.tick).flag g = s.flag g := rfl

/-! ### `result` -/

@[simp] theorem result_pending (s : State) (req : Requester) (w : Word) (n : Nat) : (s.result req w n).pending = s.pending := rfl
@[simp] theorem result_regs (s : State) (req : Requester) (w : Word) (n : Nat) : (s.result req w n).regs = s.regs := rfl
@[simp] theorem result_freeCtr (s : State) (req : Requester) (w : Word) (n : Nat) : (s.result req w n).freeCtr = s.freeCtr := rfl
@[simp] theorem result_latches (s : State) (req : Requester) (w : Word) (n : Nat) : (s.result req w n).latches = s.latches := rfl
@[simp] theorem result_staging (s : State) (req : Requester) (w : Word) (n : Nat) : (s.result req w n).staging = s.staging := rfl
@[simp] theorem result_tc (s : State) (req : Requester) (w : Word) (n : Nat) : (s.result req w n).tc = s.tc := rfl
@[simp] theorem result_whl (s : State) (req : Requester) (w : Word) (n : Nat) : (s.result req w n).whl = s.whl := rfl
@[simp] theorem result_cfg (s : State) (req : Requester) (w : Word) (n : Nat) : (s.result req w n).cfg = s.cfg := rfl
@[simp] theorem result_fc (s : State) (req : Requester) (w : Word) (n : Nat) : (s.result req w n).fc = s.fc := rfl
@[simp] theorem result_jn (s : State) (req : Requester) (w : Word) (n : Nat) : (s.result req w n).jn = s.jn := rfl
@[simp] theorem result_msix (s : State) (req : Requester) (w : Word) (n : Nat) : (s.result req w n).msix = s.msix := rfl
@[simp] theorem result_pips (s : State) (req : Requester) (w : Word) (n : Nat) : (s.result req w n).pips = s.pips := rfl
@[simp] theorem result_snapDue (s : State) (req : Requester) (w : Word) (n : Nat) : (s.result req w n).snapDue = s.snapDue := rfl
@[simp] theorem result_dram (s : State) (req : Requester) (w : Word) (n : Nat) : (s.result req w n).dram = s.dram := rfl
@[simp] theorem result_hostMem (s : State) (req : Requester) (w : Word) (n : Nat) : (s.result req w n).hostMem = s.hostMem := rfl
@[simp] theorem result_rs (s : State) (req : Requester) (w : Word) (n : Nat) : (s.result req w n).rs = s.rs := rfl
@[simp] theorem result_ho (s : State) (req : Requester) (w : Word) (n : Nat) : (s.result req w n).ho = s.ho := rfl
@[simp] theorem result_eb (s : State) (req : Requester) (w : Word) (n : Nat) : (s.result req w n).eb = s.eb := rfl
@[simp] theorem result_gn (s : State) (req : Requester) (w : Word) (n : Nat) : (s.result req w n).gn = s.gn := rfl
@[simp] theorem result_sh (s : State) (req : Requester) (w : Word) (n : Nat) : (s.result req w n).sh = s.sh := rfl
@[simp] theorem result_ports (s : State) (req : Requester) (w : Word) (n : Nat) : (s.result req w n).ports = s.ports := rfl
@[simp] theorem result_sw (s : State) (req : Requester) (w : Word) (n : Nat) : (s.result req w n).sw = s.sw := rfl
@[simp] theorem result_pc (s : State) (req : Requester) (w : Word) (n : Nat) : (s.result req w n).pc = s.pc := rfl
@[simp] theorem result_cv (s : State) (req : Requester) (w : Word) (n : Nat) : (s.result req w n).cv = s.cv := rfl
@[simp] theorem result_outs (s : State) (req : Requester) (w : Word) (n : Nat) : (s.result req w n).outs = s.outs := rfl
@[simp] theorem result_ls (s : State) (req : Requester) (w : Word) (n : Nat) : (s.result req w n).ls = s.ls := rfl
@[simp] theorem result_links (s : State) (req : Requester) (w : Word) (n : Nat) : (s.result req w n).links = s.links := rfl
@[simp] theorem result_dvMs (s : State) (req : Requester) (w : Word) (n : Nat) : (s.result req w n).dvMs = s.dvMs := rfl
@[simp] theorem result_ks (s : State) (req : Requester) (w : Word) (n : Nat) : (s.result req w n).ks = s.ks := rfl
@[simp] theorem result_pe (s : State) (req : Requester) (w : Word) (n : Nat) : (s.result req w n).pe = s.pe := rfl
@[simp] theorem result_ne (s : State) (req : Requester) (w : Word) (n : Nat) : (s.result req w n).ne = s.ne := rfl
@[simp] theorem result_ind (s : State) (req : Requester) (w : Word) (n : Nat) : (s.result req w n).ind = s.ind := rfl
@[simp] theorem result_boot (s : State) (req : Requester) (w : Word) (n : Nat) : (s.result req w n).boot = s.boot := rfl
@[simp] theorem result_rd (s : State) (req : Requester) (w : Word) (n : Nat) (x : Nat) : (s.result req w n).rd x = s.rd x := rfl
@[simp] theorem result_rdN (s : State) (req : Requester) (w : Word) (n : Nat) (x : Nat) : (s.result req w n).rdN x = s.rdN x := rfl
@[simp] theorem result_get (s : State) (req : Requester) (w : Word) (n : Nat) (g : Fld) : (s.result req w n).get g = s.get g := rfl
@[simp] theorem result_flag (s : State) (req : Requester) (w : Word) (n : Nat) (g : Fld) : (s.result req w n).flag g = s.flag g := rfl

/-! ### `modPip` -/

@[simp] theorem modPip_pending (s : State) (k : Nat) (f : Pip → Pip) : (s.modPip k f).pending = s.pending := rfl
@[simp] theorem modPip_regs (s : State) (k : Nat) (f : Pip → Pip) : (s.modPip k f).regs = s.regs := rfl
@[simp] theorem modPip_freeCtr (s : State) (k : Nat) (f : Pip → Pip) : (s.modPip k f).freeCtr = s.freeCtr := rfl
@[simp] theorem modPip_latches (s : State) (k : Nat) (f : Pip → Pip) : (s.modPip k f).latches = s.latches := rfl
@[simp] theorem modPip_staging (s : State) (k : Nat) (f : Pip → Pip) : (s.modPip k f).staging = s.staging := rfl
@[simp] theorem modPip_readData (s : State) (k : Nat) (f : Pip → Pip) : (s.modPip k f).readData = s.readData := rfl
@[simp] theorem modPip_tc (s : State) (k : Nat) (f : Pip → Pip) : (s.modPip k f).tc = s.tc := rfl
@[simp] theorem modPip_whl (s : State) (k : Nat) (f : Pip → Pip) : (s.modPip k f).whl = s.whl := rfl
@[simp] theorem modPip_cfg (s : State) (k : Nat) (f : Pip → Pip) : (s.modPip k f).cfg = s.cfg := rfl
@[simp] theorem modPip_fc (s : State) (k : Nat) (f : Pip → Pip) : (s.modPip k f).fc = s.fc := rfl
@[simp] theorem modPip_jn (s : State) (k : Nat) (f : Pip → Pip) : (s.modPip k f).jn = s.jn := rfl
@[simp] theorem modPip_msix (s : State) (k : Nat) (f : Pip → Pip) : (s.modPip k f).msix = s.msix := rfl
@[simp] theorem modPip_pips (s : State) (k : Nat) (f : Pip → Pip) : (s.modPip k f).pips = s.pips.modify k f := rfl
@[simp] theorem modPip_snapDue (s : State) (k : Nat) (f : Pip → Pip) : (s.modPip k f).snapDue = s.snapDue := rfl
@[simp] theorem modPip_dram (s : State) (k : Nat) (f : Pip → Pip) : (s.modPip k f).dram = s.dram := rfl
@[simp] theorem modPip_hostMem (s : State) (k : Nat) (f : Pip → Pip) : (s.modPip k f).hostMem = s.hostMem := rfl
@[simp] theorem modPip_rs (s : State) (k : Nat) (f : Pip → Pip) : (s.modPip k f).rs = s.rs := rfl
@[simp] theorem modPip_ho (s : State) (k : Nat) (f : Pip → Pip) : (s.modPip k f).ho = s.ho := rfl
@[simp] theorem modPip_eb (s : State) (k : Nat) (f : Pip → Pip) : (s.modPip k f).eb = s.eb := rfl
@[simp] theorem modPip_gn (s : State) (k : Nat) (f : Pip → Pip) : (s.modPip k f).gn = s.gn := rfl
@[simp] theorem modPip_sh (s : State) (k : Nat) (f : Pip → Pip) : (s.modPip k f).sh = s.sh := rfl
@[simp] theorem modPip_ports (s : State) (k : Nat) (f : Pip → Pip) : (s.modPip k f).ports = s.ports := rfl
@[simp] theorem modPip_sw (s : State) (k : Nat) (f : Pip → Pip) : (s.modPip k f).sw = s.sw := rfl
@[simp] theorem modPip_pc (s : State) (k : Nat) (f : Pip → Pip) : (s.modPip k f).pc = s.pc := rfl
@[simp] theorem modPip_cv (s : State) (k : Nat) (f : Pip → Pip) : (s.modPip k f).cv = s.cv := rfl
@[simp] theorem modPip_outs (s : State) (k : Nat) (f : Pip → Pip) : (s.modPip k f).outs = s.outs := rfl
@[simp] theorem modPip_ls (s : State) (k : Nat) (f : Pip → Pip) : (s.modPip k f).ls = s.ls := rfl
@[simp] theorem modPip_links (s : State) (k : Nat) (f : Pip → Pip) : (s.modPip k f).links = s.links := rfl
@[simp] theorem modPip_dvMs (s : State) (k : Nat) (f : Pip → Pip) : (s.modPip k f).dvMs = s.dvMs := rfl
@[simp] theorem modPip_ks (s : State) (k : Nat) (f : Pip → Pip) : (s.modPip k f).ks = s.ks := rfl
@[simp] theorem modPip_pe (s : State) (k : Nat) (f : Pip → Pip) : (s.modPip k f).pe = s.pe := rfl
@[simp] theorem modPip_ne (s : State) (k : Nat) (f : Pip → Pip) : (s.modPip k f).ne = s.ne := rfl
@[simp] theorem modPip_ind (s : State) (k : Nat) (f : Pip → Pip) : (s.modPip k f).ind = s.ind := rfl
@[simp] theorem modPip_boot (s : State) (k : Nat) (f : Pip → Pip) : (s.modPip k f).boot = s.boot := rfl
@[simp] theorem modPip_rd (s : State) (k : Nat) (f : Pip → Pip) (x : Nat) : (s.modPip k f).rd x = s.rd x := rfl
@[simp] theorem modPip_rdN (s : State) (k : Nat) (f : Pip → Pip) (x : Nat) : (s.modPip k f).rdN x = s.rdN x := rfl
@[simp] theorem modPip_get (s : State) (k : Nat) (f : Pip → Pip) (g : Fld) : (s.modPip k f).get g = s.get g := rfl
@[simp] theorem modPip_flag (s : State) (k : Nat) (f : Pip → Pip) (g : Fld) : (s.modPip k f).flag g = s.flag g := rfl

/-! ### `modSlot` -/

@[simp] theorem modSlot_pending (s : State) (n : Nat) (f : Slot → Slot) : (s.modSlot n f).pending = s.pending := rfl
@[simp] theorem modSlot_regs (s : State) (n : Nat) (f : Slot → Slot) : (s.modSlot n f).regs = s.regs := rfl
@[simp] theorem modSlot_freeCtr (s : State) (n : Nat) (f : Slot → Slot) : (s.modSlot n f).freeCtr = s.freeCtr := rfl
@[simp] theorem modSlot_latches (s : State) (n : Nat) (f : Slot → Slot) : (s.modSlot n f).latches = s.latches := rfl
@[simp] theorem modSlot_staging (s : State) (n : Nat) (f : Slot → Slot) : (s.modSlot n f).staging = s.staging := rfl
@[simp] theorem modSlot_readData (s : State) (n : Nat) (f : Slot → Slot) : (s.modSlot n f).readData = s.readData := rfl
@[simp] theorem modSlot_tc (s : State) (n : Nat) (f : Slot → Slot) : (s.modSlot n f).tc = s.tc := rfl
@[simp] theorem modSlot_whl (s : State) (n : Nat) (f : Slot → Slot) : (s.modSlot n f).whl = s.whl := rfl
@[simp] theorem modSlot_cfg (s : State) (n : Nat) (f : Slot → Slot) : (s.modSlot n f).cfg = s.cfg := rfl
@[simp] theorem modSlot_fc (s : State) (n : Nat) (f : Slot → Slot) : (s.modSlot n f).fc = s.fc := rfl
@[simp] theorem modSlot_jn (s : State) (n : Nat) (f : Slot → Slot) : (s.modSlot n f).jn = s.jn := rfl
@[simp] theorem modSlot_msix (s : State) (n : Nat) (f : Slot → Slot) : (s.modSlot n f).msix = s.msix := rfl
@[simp] theorem modSlot_pips (s : State) (n : Nat) (f : Slot → Slot) : (s.modSlot n f).pips = s.pips := rfl
@[simp] theorem modSlot_snapDue (s : State) (n : Nat) (f : Slot → Slot) : (s.modSlot n f).snapDue = s.snapDue := rfl
@[simp] theorem modSlot_dram (s : State) (n : Nat) (f : Slot → Slot) : (s.modSlot n f).dram = s.dram := rfl
@[simp] theorem modSlot_hostMem (s : State) (n : Nat) (f : Slot → Slot) : (s.modSlot n f).hostMem = s.hostMem := rfl
@[simp] theorem modSlot_ho (s : State) (n : Nat) (f : Slot → Slot) : (s.modSlot n f).ho = s.ho := rfl
@[simp] theorem modSlot_eb (s : State) (n : Nat) (f : Slot → Slot) : (s.modSlot n f).eb = s.eb := rfl
@[simp] theorem modSlot_gn (s : State) (n : Nat) (f : Slot → Slot) : (s.modSlot n f).gn = s.gn := rfl
@[simp] theorem modSlot_sh (s : State) (n : Nat) (f : Slot → Slot) : (s.modSlot n f).sh = s.sh := rfl
@[simp] theorem modSlot_ports (s : State) (n : Nat) (f : Slot → Slot) : (s.modSlot n f).ports = s.ports := rfl
@[simp] theorem modSlot_sw (s : State) (n : Nat) (f : Slot → Slot) : (s.modSlot n f).sw = s.sw := rfl
@[simp] theorem modSlot_pc (s : State) (n : Nat) (f : Slot → Slot) : (s.modSlot n f).pc = s.pc := rfl
@[simp] theorem modSlot_cv (s : State) (n : Nat) (f : Slot → Slot) : (s.modSlot n f).cv = s.cv := rfl
@[simp] theorem modSlot_outs (s : State) (n : Nat) (f : Slot → Slot) : (s.modSlot n f).outs = s.outs := rfl
@[simp] theorem modSlot_ls (s : State) (n : Nat) (f : Slot → Slot) : (s.modSlot n f).ls = s.ls := rfl
@[simp] theorem modSlot_links (s : State) (n : Nat) (f : Slot → Slot) : (s.modSlot n f).links = s.links := rfl
@[simp] theorem modSlot_dvMs (s : State) (n : Nat) (f : Slot → Slot) : (s.modSlot n f).dvMs = s.dvMs := rfl
@[simp] theorem modSlot_ks (s : State) (n : Nat) (f : Slot → Slot) : (s.modSlot n f).ks = s.ks := rfl
@[simp] theorem modSlot_pe (s : State) (n : Nat) (f : Slot → Slot) : (s.modSlot n f).pe = s.pe := rfl
@[simp] theorem modSlot_ne (s : State) (n : Nat) (f : Slot → Slot) : (s.modSlot n f).ne = s.ne := rfl
@[simp] theorem modSlot_ind (s : State) (n : Nat) (f : Slot → Slot) : (s.modSlot n f).ind = s.ind := rfl
@[simp] theorem modSlot_boot (s : State) (n : Nat) (f : Slot → Slot) : (s.modSlot n f).boot = s.boot := rfl
@[simp] theorem modSlot_rd (s : State) (n : Nat) (f : Slot → Slot) (x : Nat) : (s.modSlot n f).rd x = s.rd x := rfl
@[simp] theorem modSlot_rdN (s : State) (n : Nat) (f : Slot → Slot) (x : Nat) : (s.modSlot n f).rdN x = s.rdN x := rfl
@[simp] theorem modSlot_get (s : State) (n : Nat) (f : Slot → Slot) (g : Fld) : (s.modSlot n f).get g = s.get g := rfl
@[simp] theorem modSlot_flag (s : State) (n : Nat) (f : Slot → Slot) (g : Fld) : (s.modSlot n f).flag g = s.flag g := rfl

/-! ### `modPort` -/

@[simp] theorem modPort_pending (s : State) (p : Nat) (f : Port → Port) : (s.modPort p f).pending = s.pending := rfl
@[simp] theorem modPort_regs (s : State) (p : Nat) (f : Port → Port) : (s.modPort p f).regs = s.regs := rfl
@[simp] theorem modPort_freeCtr (s : State) (p : Nat) (f : Port → Port) : (s.modPort p f).freeCtr = s.freeCtr := rfl
@[simp] theorem modPort_latches (s : State) (p : Nat) (f : Port → Port) : (s.modPort p f).latches = s.latches := rfl
@[simp] theorem modPort_staging (s : State) (p : Nat) (f : Port → Port) : (s.modPort p f).staging = s.staging := rfl
@[simp] theorem modPort_readData (s : State) (p : Nat) (f : Port → Port) : (s.modPort p f).readData = s.readData := rfl
@[simp] theorem modPort_tc (s : State) (p : Nat) (f : Port → Port) : (s.modPort p f).tc = s.tc := rfl
@[simp] theorem modPort_whl (s : State) (p : Nat) (f : Port → Port) : (s.modPort p f).whl = s.whl := rfl
@[simp] theorem modPort_cfg (s : State) (p : Nat) (f : Port → Port) : (s.modPort p f).cfg = s.cfg := rfl
@[simp] theorem modPort_fc (s : State) (p : Nat) (f : Port → Port) : (s.modPort p f).fc = s.fc := rfl
@[simp] theorem modPort_jn (s : State) (p : Nat) (f : Port → Port) : (s.modPort p f).jn = s.jn := rfl
@[simp] theorem modPort_msix (s : State) (p : Nat) (f : Port → Port) : (s.modPort p f).msix = s.msix := rfl
@[simp] theorem modPort_pips (s : State) (p : Nat) (f : Port → Port) : (s.modPort p f).pips = s.pips := rfl
@[simp] theorem modPort_snapDue (s : State) (p : Nat) (f : Port → Port) : (s.modPort p f).snapDue = s.snapDue := rfl
@[simp] theorem modPort_dram (s : State) (p : Nat) (f : Port → Port) : (s.modPort p f).dram = s.dram := rfl
@[simp] theorem modPort_hostMem (s : State) (p : Nat) (f : Port → Port) : (s.modPort p f).hostMem = s.hostMem := rfl
@[simp] theorem modPort_rs (s : State) (p : Nat) (f : Port → Port) : (s.modPort p f).rs = s.rs := rfl
@[simp] theorem modPort_ho (s : State) (p : Nat) (f : Port → Port) : (s.modPort p f).ho = s.ho := rfl
@[simp] theorem modPort_eb (s : State) (p : Nat) (f : Port → Port) : (s.modPort p f).eb = s.eb := rfl
@[simp] theorem modPort_gn (s : State) (p : Nat) (f : Port → Port) : (s.modPort p f).gn = s.gn := rfl
@[simp] theorem modPort_sh (s : State) (p : Nat) (f : Port → Port) : (s.modPort p f).sh = s.sh := rfl
@[simp] theorem modPort_ports (s : State) (p : Nat) (f : Port → Port) : (s.modPort p f).ports = s.ports.modify p f := rfl
@[simp] theorem modPort_sw (s : State) (p : Nat) (f : Port → Port) : (s.modPort p f).sw = s.sw := rfl
@[simp] theorem modPort_pc (s : State) (p : Nat) (f : Port → Port) : (s.modPort p f).pc = s.pc := rfl
@[simp] theorem modPort_cv (s : State) (p : Nat) (f : Port → Port) : (s.modPort p f).cv = s.cv := rfl
@[simp] theorem modPort_outs (s : State) (p : Nat) (f : Port → Port) : (s.modPort p f).outs = s.outs := rfl
@[simp] theorem modPort_ls (s : State) (p : Nat) (f : Port → Port) : (s.modPort p f).ls = s.ls := rfl
@[simp] theorem modPort_links (s : State) (p : Nat) (f : Port → Port) : (s.modPort p f).links = s.links := rfl
@[simp] theorem modPort_dvMs (s : State) (p : Nat) (f : Port → Port) : (s.modPort p f).dvMs = s.dvMs := rfl
@[simp] theorem modPort_ks (s : State) (p : Nat) (f : Port → Port) : (s.modPort p f).ks = s.ks := rfl
@[simp] theorem modPort_pe (s : State) (p : Nat) (f : Port → Port) : (s.modPort p f).pe = s.pe := rfl
@[simp] theorem modPort_ne (s : State) (p : Nat) (f : Port → Port) : (s.modPort p f).ne = s.ne := rfl
@[simp] theorem modPort_ind (s : State) (p : Nat) (f : Port → Port) : (s.modPort p f).ind = s.ind := rfl
@[simp] theorem modPort_boot (s : State) (p : Nat) (f : Port → Port) : (s.modPort p f).boot = s.boot := rfl
@[simp] theorem modPort_rd (s : State) (p : Nat) (f : Port → Port) (x : Nat) : (s.modPort p f).rd x = s.rd x := rfl
@[simp] theorem modPort_rdN (s : State) (p : Nat) (f : Port → Port) (x : Nat) : (s.modPort p f).rdN x = s.rdN x := rfl
@[simp] theorem modPort_get (s : State) (p : Nat) (f : Port → Port) (g : Fld) : (s.modPort p f).get g = s.get g := rfl
@[simp] theorem modPort_flag (s : State) (p : Nat) (f : Port → Port) (g : Fld) : (s.modPort p f).flag g = s.flag g := rfl

/-! ### `modOut` -/

@[simp] theorem modOut_pending (s : State) (n : Nat) (f : Output → Output) : (s.modOut n f).pending = s.pending := rfl
@[simp] theorem modOut_regs (s : State) (n : Nat) (f : Output → Output) : (s.modOut n f).regs = s.regs := rfl
@[simp] theorem modOut_freeCtr (s : State) (n : Nat) (f : Output → Output) : (s.modOut n f).freeCtr = s.freeCtr := rfl
@[simp] theorem modOut_latches (s : State) (n : Nat) (f : Output → Output) : (s.modOut n f).latches = s.latches := rfl
@[simp] theorem modOut_staging (s : State) (n : Nat) (f : Output → Output) : (s.modOut n f).staging = s.staging := rfl
@[simp] theorem modOut_readData (s : State) (n : Nat) (f : Output → Output) : (s.modOut n f).readData = s.readData := rfl
@[simp] theorem modOut_tc (s : State) (n : Nat) (f : Output → Output) : (s.modOut n f).tc = s.tc := rfl
@[simp] theorem modOut_whl (s : State) (n : Nat) (f : Output → Output) : (s.modOut n f).whl = s.whl := rfl
@[simp] theorem modOut_cfg (s : State) (n : Nat) (f : Output → Output) : (s.modOut n f).cfg = s.cfg := rfl
@[simp] theorem modOut_fc (s : State) (n : Nat) (f : Output → Output) : (s.modOut n f).fc = s.fc := rfl
@[simp] theorem modOut_jn (s : State) (n : Nat) (f : Output → Output) : (s.modOut n f).jn = s.jn := rfl
@[simp] theorem modOut_msix (s : State) (n : Nat) (f : Output → Output) : (s.modOut n f).msix = s.msix := rfl
@[simp] theorem modOut_pips (s : State) (n : Nat) (f : Output → Output) : (s.modOut n f).pips = s.pips := rfl
@[simp] theorem modOut_snapDue (s : State) (n : Nat) (f : Output → Output) : (s.modOut n f).snapDue = s.snapDue := rfl
@[simp] theorem modOut_dram (s : State) (n : Nat) (f : Output → Output) : (s.modOut n f).dram = s.dram := rfl
@[simp] theorem modOut_hostMem (s : State) (n : Nat) (f : Output → Output) : (s.modOut n f).hostMem = s.hostMem := rfl
@[simp] theorem modOut_rs (s : State) (n : Nat) (f : Output → Output) : (s.modOut n f).rs = s.rs := rfl
@[simp] theorem modOut_ho (s : State) (n : Nat) (f : Output → Output) : (s.modOut n f).ho = s.ho := rfl
@[simp] theorem modOut_eb (s : State) (n : Nat) (f : Output → Output) : (s.modOut n f).eb = s.eb := rfl
@[simp] theorem modOut_gn (s : State) (n : Nat) (f : Output → Output) : (s.modOut n f).gn = s.gn := rfl
@[simp] theorem modOut_sh (s : State) (n : Nat) (f : Output → Output) : (s.modOut n f).sh = s.sh := rfl
@[simp] theorem modOut_ports (s : State) (n : Nat) (f : Output → Output) : (s.modOut n f).ports = s.ports := rfl
@[simp] theorem modOut_sw (s : State) (n : Nat) (f : Output → Output) : (s.modOut n f).sw = s.sw := rfl
@[simp] theorem modOut_pc (s : State) (n : Nat) (f : Output → Output) : (s.modOut n f).pc = s.pc := rfl
@[simp] theorem modOut_cv (s : State) (n : Nat) (f : Output → Output) : (s.modOut n f).cv = s.cv := rfl
@[simp] theorem modOut_outs (s : State) (n : Nat) (f : Output → Output) : (s.modOut n f).outs = s.outs.modify n f := rfl
@[simp] theorem modOut_ls (s : State) (n : Nat) (f : Output → Output) : (s.modOut n f).ls = s.ls := rfl
@[simp] theorem modOut_links (s : State) (n : Nat) (f : Output → Output) : (s.modOut n f).links = s.links := rfl
@[simp] theorem modOut_dvMs (s : State) (n : Nat) (f : Output → Output) : (s.modOut n f).dvMs = s.dvMs := rfl
@[simp] theorem modOut_ks (s : State) (n : Nat) (f : Output → Output) : (s.modOut n f).ks = s.ks := rfl
@[simp] theorem modOut_pe (s : State) (n : Nat) (f : Output → Output) : (s.modOut n f).pe = s.pe := rfl
@[simp] theorem modOut_ne (s : State) (n : Nat) (f : Output → Output) : (s.modOut n f).ne = s.ne := rfl
@[simp] theorem modOut_ind (s : State) (n : Nat) (f : Output → Output) : (s.modOut n f).ind = s.ind := rfl
@[simp] theorem modOut_boot (s : State) (n : Nat) (f : Output → Output) : (s.modOut n f).boot = s.boot := rfl
@[simp] theorem modOut_rd (s : State) (n : Nat) (f : Output → Output) (x : Nat) : (s.modOut n f).rd x = s.rd x := rfl
@[simp] theorem modOut_rdN (s : State) (n : Nat) (f : Output → Output) (x : Nat) : (s.modOut n f).rdN x = s.rdN x := rfl
@[simp] theorem modOut_get (s : State) (n : Nat) (f : Output → Output) (g : Fld) : (s.modOut n f).get g = s.get g := rfl
@[simp] theorem modOut_flag (s : State) (n : Nat) (f : Output → Output) (g : Fld) : (s.modOut n f).flag g = s.flag g := rfl

/-! ### `modLink` -/

@[simp] theorem modLink_pending (s : State) (k : Nat) (f : ULink → ULink) : (s.modLink k f).pending = s.pending := rfl
@[simp] theorem modLink_regs (s : State) (k : Nat) (f : ULink → ULink) : (s.modLink k f).regs = s.regs := rfl
@[simp] theorem modLink_freeCtr (s : State) (k : Nat) (f : ULink → ULink) : (s.modLink k f).freeCtr = s.freeCtr := rfl
@[simp] theorem modLink_latches (s : State) (k : Nat) (f : ULink → ULink) : (s.modLink k f).latches = s.latches := rfl
@[simp] theorem modLink_staging (s : State) (k : Nat) (f : ULink → ULink) : (s.modLink k f).staging = s.staging := rfl
@[simp] theorem modLink_readData (s : State) (k : Nat) (f : ULink → ULink) : (s.modLink k f).readData = s.readData := rfl
@[simp] theorem modLink_tc (s : State) (k : Nat) (f : ULink → ULink) : (s.modLink k f).tc = s.tc := rfl
@[simp] theorem modLink_whl (s : State) (k : Nat) (f : ULink → ULink) : (s.modLink k f).whl = s.whl := rfl
@[simp] theorem modLink_cfg (s : State) (k : Nat) (f : ULink → ULink) : (s.modLink k f).cfg = s.cfg := rfl
@[simp] theorem modLink_fc (s : State) (k : Nat) (f : ULink → ULink) : (s.modLink k f).fc = s.fc := rfl
@[simp] theorem modLink_jn (s : State) (k : Nat) (f : ULink → ULink) : (s.modLink k f).jn = s.jn := rfl
@[simp] theorem modLink_msix (s : State) (k : Nat) (f : ULink → ULink) : (s.modLink k f).msix = s.msix := rfl
@[simp] theorem modLink_pips (s : State) (k : Nat) (f : ULink → ULink) : (s.modLink k f).pips = s.pips := rfl
@[simp] theorem modLink_snapDue (s : State) (k : Nat) (f : ULink → ULink) : (s.modLink k f).snapDue = s.snapDue := rfl
@[simp] theorem modLink_dram (s : State) (k : Nat) (f : ULink → ULink) : (s.modLink k f).dram = s.dram := rfl
@[simp] theorem modLink_hostMem (s : State) (k : Nat) (f : ULink → ULink) : (s.modLink k f).hostMem = s.hostMem := rfl
@[simp] theorem modLink_rs (s : State) (k : Nat) (f : ULink → ULink) : (s.modLink k f).rs = s.rs := rfl
@[simp] theorem modLink_ho (s : State) (k : Nat) (f : ULink → ULink) : (s.modLink k f).ho = s.ho := rfl
@[simp] theorem modLink_eb (s : State) (k : Nat) (f : ULink → ULink) : (s.modLink k f).eb = s.eb := rfl
@[simp] theorem modLink_gn (s : State) (k : Nat) (f : ULink → ULink) : (s.modLink k f).gn = s.gn := rfl
@[simp] theorem modLink_sh (s : State) (k : Nat) (f : ULink → ULink) : (s.modLink k f).sh = s.sh := rfl
@[simp] theorem modLink_ports (s : State) (k : Nat) (f : ULink → ULink) : (s.modLink k f).ports = s.ports := rfl
@[simp] theorem modLink_sw (s : State) (k : Nat) (f : ULink → ULink) : (s.modLink k f).sw = s.sw := rfl
@[simp] theorem modLink_pc (s : State) (k : Nat) (f : ULink → ULink) : (s.modLink k f).pc = s.pc := rfl
@[simp] theorem modLink_cv (s : State) (k : Nat) (f : ULink → ULink) : (s.modLink k f).cv = s.cv := rfl
@[simp] theorem modLink_outs (s : State) (k : Nat) (f : ULink → ULink) : (s.modLink k f).outs = s.outs := rfl
@[simp] theorem modLink_ls (s : State) (k : Nat) (f : ULink → ULink) : (s.modLink k f).ls = s.ls := rfl
@[simp] theorem modLink_links (s : State) (k : Nat) (f : ULink → ULink) : (s.modLink k f).links = s.links.modify k f := rfl
@[simp] theorem modLink_dvMs (s : State) (k : Nat) (f : ULink → ULink) : (s.modLink k f).dvMs = s.dvMs := rfl
@[simp] theorem modLink_ks (s : State) (k : Nat) (f : ULink → ULink) : (s.modLink k f).ks = s.ks := rfl
@[simp] theorem modLink_pe (s : State) (k : Nat) (f : ULink → ULink) : (s.modLink k f).pe = s.pe := rfl
@[simp] theorem modLink_ne (s : State) (k : Nat) (f : ULink → ULink) : (s.modLink k f).ne = s.ne := rfl
@[simp] theorem modLink_ind (s : State) (k : Nat) (f : ULink → ULink) : (s.modLink k f).ind = s.ind := rfl
@[simp] theorem modLink_boot (s : State) (k : Nat) (f : ULink → ULink) : (s.modLink k f).boot = s.boot := rfl
@[simp] theorem modLink_rd (s : State) (k : Nat) (f : ULink → ULink) (x : Nat) : (s.modLink k f).rd x = s.rd x := rfl
@[simp] theorem modLink_rdN (s : State) (k : Nat) (f : ULink → ULink) (x : Nat) : (s.modLink k f).rdN x = s.rdN x := rfl
@[simp] theorem modLink_get (s : State) (k : Nat) (f : ULink → ULink) (g : Fld) : (s.modLink k f).get g = s.get g := rfl
@[simp] theorem modLink_flag (s : State) (k : Nat) (f : ULink → ULink) (g : Fld) : (s.modLink k f).flag g = s.flag g := rfl

/-! ### `setHo` -/

@[simp] theorem setHo_pending (s : State) (x : Holdover) : (s.setHo x).pending = s.pending := rfl
@[simp] theorem setHo_regs (s : State) (x : Holdover) : (s.setHo x).regs = s.regs := rfl
@[simp] theorem setHo_freeCtr (s : State) (x : Holdover) : (s.setHo x).freeCtr = s.freeCtr := rfl
@[simp] theorem setHo_latches (s : State) (x : Holdover) : (s.setHo x).latches = s.latches := rfl
@[simp] theorem setHo_staging (s : State) (x : Holdover) : (s.setHo x).staging = s.staging := rfl
@[simp] theorem setHo_readData (s : State) (x : Holdover) : (s.setHo x).readData = s.readData := rfl
@[simp] theorem setHo_tc (s : State) (x : Holdover) : (s.setHo x).tc = s.tc := rfl
@[simp] theorem setHo_whl (s : State) (x : Holdover) : (s.setHo x).whl = s.whl := rfl
@[simp] theorem setHo_cfg (s : State) (x : Holdover) : (s.setHo x).cfg = s.cfg := rfl
@[simp] theorem setHo_fc (s : State) (x : Holdover) : (s.setHo x).fc = s.fc := rfl
@[simp] theorem setHo_jn (s : State) (x : Holdover) : (s.setHo x).jn = s.jn := rfl
@[simp] theorem setHo_msix (s : State) (x : Holdover) : (s.setHo x).msix = s.msix := rfl
@[simp] theorem setHo_pips (s : State) (x : Holdover) : (s.setHo x).pips = s.pips := rfl
@[simp] theorem setHo_snapDue (s : State) (x : Holdover) : (s.setHo x).snapDue = s.snapDue := rfl
@[simp] theorem setHo_dram (s : State) (x : Holdover) : (s.setHo x).dram = s.dram := rfl
@[simp] theorem setHo_hostMem (s : State) (x : Holdover) : (s.setHo x).hostMem = s.hostMem := rfl
@[simp] theorem setHo_rs (s : State) (x : Holdover) : (s.setHo x).rs = s.rs := rfl
@[simp] theorem setHo_ho (s : State) (x : Holdover) : (s.setHo x).ho = x := rfl
@[simp] theorem setHo_eb (s : State) (x : Holdover) : (s.setHo x).eb = s.eb := rfl
@[simp] theorem setHo_gn (s : State) (x : Holdover) : (s.setHo x).gn = s.gn := rfl
@[simp] theorem setHo_sh (s : State) (x : Holdover) : (s.setHo x).sh = s.sh := rfl
@[simp] theorem setHo_ports (s : State) (x : Holdover) : (s.setHo x).ports = s.ports := rfl
@[simp] theorem setHo_sw (s : State) (x : Holdover) : (s.setHo x).sw = s.sw := rfl
@[simp] theorem setHo_pc (s : State) (x : Holdover) : (s.setHo x).pc = s.pc := rfl
@[simp] theorem setHo_cv (s : State) (x : Holdover) : (s.setHo x).cv = s.cv := rfl
@[simp] theorem setHo_outs (s : State) (x : Holdover) : (s.setHo x).outs = s.outs := rfl
@[simp] theorem setHo_ls (s : State) (x : Holdover) : (s.setHo x).ls = s.ls := rfl
@[simp] theorem setHo_links (s : State) (x : Holdover) : (s.setHo x).links = s.links := rfl
@[simp] theorem setHo_dvMs (s : State) (x : Holdover) : (s.setHo x).dvMs = s.dvMs := rfl
@[simp] theorem setHo_ks (s : State) (x : Holdover) : (s.setHo x).ks = s.ks := rfl
@[simp] theorem setHo_pe (s : State) (x : Holdover) : (s.setHo x).pe = s.pe := rfl
@[simp] theorem setHo_ne (s : State) (x : Holdover) : (s.setHo x).ne = s.ne := rfl
@[simp] theorem setHo_ind (s : State) (x : Holdover) : (s.setHo x).ind = s.ind := rfl
@[simp] theorem setHo_boot (s : State) (x : Holdover) : (s.setHo x).boot = s.boot := rfl
@[simp] theorem setHo_rd (s : State) (y : Holdover) (x : Nat) : (s.setHo y).rd x = s.rd x := rfl
@[simp] theorem setHo_rdN (s : State) (y : Holdover) (x : Nat) : (s.setHo y).rdN x = s.rdN x := rfl
@[simp] theorem setHo_get (s : State) (x : Holdover) (g : Fld) : (s.setHo x).get g = s.get g := rfl
@[simp] theorem setHo_flag (s : State) (x : Holdover) (g : Fld) : (s.setHo x).flag g = s.flag g := rfl

/-! ### `setEb` -/

@[simp] theorem setEb_pending (s : State) (x : BoundUnit) : (s.setEb x).pending = s.pending := rfl
@[simp] theorem setEb_regs (s : State) (x : BoundUnit) : (s.setEb x).regs = s.regs := rfl
@[simp] theorem setEb_freeCtr (s : State) (x : BoundUnit) : (s.setEb x).freeCtr = s.freeCtr := rfl
@[simp] theorem setEb_latches (s : State) (x : BoundUnit) : (s.setEb x).latches = s.latches := rfl
@[simp] theorem setEb_staging (s : State) (x : BoundUnit) : (s.setEb x).staging = s.staging := rfl
@[simp] theorem setEb_readData (s : State) (x : BoundUnit) : (s.setEb x).readData = s.readData := rfl
@[simp] theorem setEb_tc (s : State) (x : BoundUnit) : (s.setEb x).tc = s.tc := rfl
@[simp] theorem setEb_whl (s : State) (x : BoundUnit) : (s.setEb x).whl = s.whl := rfl
@[simp] theorem setEb_cfg (s : State) (x : BoundUnit) : (s.setEb x).cfg = s.cfg := rfl
@[simp] theorem setEb_fc (s : State) (x : BoundUnit) : (s.setEb x).fc = s.fc := rfl
@[simp] theorem setEb_jn (s : State) (x : BoundUnit) : (s.setEb x).jn = s.jn := rfl
@[simp] theorem setEb_msix (s : State) (x : BoundUnit) : (s.setEb x).msix = s.msix := rfl
@[simp] theorem setEb_pips (s : State) (x : BoundUnit) : (s.setEb x).pips = s.pips := rfl
@[simp] theorem setEb_snapDue (s : State) (x : BoundUnit) : (s.setEb x).snapDue = s.snapDue := rfl
@[simp] theorem setEb_dram (s : State) (x : BoundUnit) : (s.setEb x).dram = s.dram := rfl
@[simp] theorem setEb_hostMem (s : State) (x : BoundUnit) : (s.setEb x).hostMem = s.hostMem := rfl
@[simp] theorem setEb_rs (s : State) (x : BoundUnit) : (s.setEb x).rs = s.rs := rfl
@[simp] theorem setEb_ho (s : State) (x : BoundUnit) : (s.setEb x).ho = s.ho := rfl
@[simp] theorem setEb_eb (s : State) (x : BoundUnit) : (s.setEb x).eb = x := rfl
@[simp] theorem setEb_gn (s : State) (x : BoundUnit) : (s.setEb x).gn = s.gn := rfl
@[simp] theorem setEb_sh (s : State) (x : BoundUnit) : (s.setEb x).sh = s.sh := rfl
@[simp] theorem setEb_ports (s : State) (x : BoundUnit) : (s.setEb x).ports = s.ports := rfl
@[simp] theorem setEb_sw (s : State) (x : BoundUnit) : (s.setEb x).sw = s.sw := rfl
@[simp] theorem setEb_pc (s : State) (x : BoundUnit) : (s.setEb x).pc = s.pc := rfl
@[simp] theorem setEb_cv (s : State) (x : BoundUnit) : (s.setEb x).cv = s.cv := rfl
@[simp] theorem setEb_outs (s : State) (x : BoundUnit) : (s.setEb x).outs = s.outs := rfl
@[simp] theorem setEb_ls (s : State) (x : BoundUnit) : (s.setEb x).ls = s.ls := rfl
@[simp] theorem setEb_links (s : State) (x : BoundUnit) : (s.setEb x).links = s.links := rfl
@[simp] theorem setEb_dvMs (s : State) (x : BoundUnit) : (s.setEb x).dvMs = s.dvMs := rfl
@[simp] theorem setEb_ks (s : State) (x : BoundUnit) : (s.setEb x).ks = s.ks := rfl
@[simp] theorem setEb_pe (s : State) (x : BoundUnit) : (s.setEb x).pe = s.pe := rfl
@[simp] theorem setEb_ne (s : State) (x : BoundUnit) : (s.setEb x).ne = s.ne := rfl
@[simp] theorem setEb_ind (s : State) (x : BoundUnit) : (s.setEb x).ind = s.ind := rfl
@[simp] theorem setEb_boot (s : State) (x : BoundUnit) : (s.setEb x).boot = s.boot := rfl
@[simp] theorem setEb_rd (s : State) (y : BoundUnit) (x : Nat) : (s.setEb y).rd x = s.rd x := rfl
@[simp] theorem setEb_rdN (s : State) (y : BoundUnit) (x : Nat) : (s.setEb y).rdN x = s.rdN x := rfl
@[simp] theorem setEb_get (s : State) (x : BoundUnit) (g : Fld) : (s.setEb x).get g = s.get g := rfl
@[simp] theorem setEb_flag (s : State) (x : BoundUnit) (g : Fld) : (s.setEb x).flag g = s.flag g := rfl

/-! ### `setGn` -/

@[simp] theorem setGn_pending (s : State) (x : Gnss) : (s.setGn x).pending = s.pending := rfl
@[simp] theorem setGn_regs (s : State) (x : Gnss) : (s.setGn x).regs = s.regs := rfl
@[simp] theorem setGn_freeCtr (s : State) (x : Gnss) : (s.setGn x).freeCtr = s.freeCtr := rfl
@[simp] theorem setGn_latches (s : State) (x : Gnss) : (s.setGn x).latches = s.latches := rfl
@[simp] theorem setGn_staging (s : State) (x : Gnss) : (s.setGn x).staging = s.staging := rfl
@[simp] theorem setGn_readData (s : State) (x : Gnss) : (s.setGn x).readData = s.readData := rfl
@[simp] theorem setGn_tc (s : State) (x : Gnss) : (s.setGn x).tc = s.tc := rfl
@[simp] theorem setGn_whl (s : State) (x : Gnss) : (s.setGn x).whl = s.whl := rfl
@[simp] theorem setGn_cfg (s : State) (x : Gnss) : (s.setGn x).cfg = s.cfg := rfl
@[simp] theorem setGn_fc (s : State) (x : Gnss) : (s.setGn x).fc = s.fc := rfl
@[simp] theorem setGn_jn (s : State) (x : Gnss) : (s.setGn x).jn = s.jn := rfl
@[simp] theorem setGn_msix (s : State) (x : Gnss) : (s.setGn x).msix = s.msix := rfl
@[simp] theorem setGn_pips (s : State) (x : Gnss) : (s.setGn x).pips = s.pips := rfl
@[simp] theorem setGn_snapDue (s : State) (x : Gnss) : (s.setGn x).snapDue = s.snapDue := rfl
@[simp] theorem setGn_dram (s : State) (x : Gnss) : (s.setGn x).dram = s.dram := rfl
@[simp] theorem setGn_hostMem (s : State) (x : Gnss) : (s.setGn x).hostMem = s.hostMem := rfl
@[simp] theorem setGn_rs (s : State) (x : Gnss) : (s.setGn x).rs = s.rs := rfl
@[simp] theorem setGn_ho (s : State) (x : Gnss) : (s.setGn x).ho = s.ho := rfl
@[simp] theorem setGn_eb (s : State) (x : Gnss) : (s.setGn x).eb = s.eb := rfl
@[simp] theorem setGn_gn (s : State) (x : Gnss) : (s.setGn x).gn = x := rfl
@[simp] theorem setGn_sh (s : State) (x : Gnss) : (s.setGn x).sh = s.sh := rfl
@[simp] theorem setGn_ports (s : State) (x : Gnss) : (s.setGn x).ports = s.ports := rfl
@[simp] theorem setGn_sw (s : State) (x : Gnss) : (s.setGn x).sw = s.sw := rfl
@[simp] theorem setGn_pc (s : State) (x : Gnss) : (s.setGn x).pc = s.pc := rfl
@[simp] theorem setGn_cv (s : State) (x : Gnss) : (s.setGn x).cv = s.cv := rfl
@[simp] theorem setGn_outs (s : State) (x : Gnss) : (s.setGn x).outs = s.outs := rfl
@[simp] theorem setGn_ls (s : State) (x : Gnss) : (s.setGn x).ls = s.ls := rfl
@[simp] theorem setGn_links (s : State) (x : Gnss) : (s.setGn x).links = s.links := rfl
@[simp] theorem setGn_dvMs (s : State) (x : Gnss) : (s.setGn x).dvMs = s.dvMs := rfl
@[simp] theorem setGn_ks (s : State) (x : Gnss) : (s.setGn x).ks = s.ks := rfl
@[simp] theorem setGn_pe (s : State) (x : Gnss) : (s.setGn x).pe = s.pe := rfl
@[simp] theorem setGn_ne (s : State) (x : Gnss) : (s.setGn x).ne = s.ne := rfl
@[simp] theorem setGn_ind (s : State) (x : Gnss) : (s.setGn x).ind = s.ind := rfl
@[simp] theorem setGn_boot (s : State) (x : Gnss) : (s.setGn x).boot = s.boot := rfl
@[simp] theorem setGn_rd (s : State) (y : Gnss) (x : Nat) : (s.setGn y).rd x = s.rd x := rfl
@[simp] theorem setGn_rdN (s : State) (y : Gnss) (x : Nat) : (s.setGn y).rdN x = s.rdN x := rfl
@[simp] theorem setGn_get (s : State) (x : Gnss) (g : Fld) : (s.setGn x).get g = s.get g := rfl
@[simp] theorem setGn_flag (s : State) (x : Gnss) (g : Fld) : (s.setGn x).flag g = s.flag g := rfl

/-! ### `setSh` -/

@[simp] theorem setSh_pending (s : State) (x : Shell) : (s.setSh x).pending = s.pending := rfl
@[simp] theorem setSh_regs (s : State) (x : Shell) : (s.setSh x).regs = s.regs := rfl
@[simp] theorem setSh_freeCtr (s : State) (x : Shell) : (s.setSh x).freeCtr = s.freeCtr := rfl
@[simp] theorem setSh_latches (s : State) (x : Shell) : (s.setSh x).latches = s.latches := rfl
@[simp] theorem setSh_staging (s : State) (x : Shell) : (s.setSh x).staging = s.staging := rfl
@[simp] theorem setSh_readData (s : State) (x : Shell) : (s.setSh x).readData = s.readData := rfl
@[simp] theorem setSh_tc (s : State) (x : Shell) : (s.setSh x).tc = s.tc := rfl
@[simp] theorem setSh_whl (s : State) (x : Shell) : (s.setSh x).whl = s.whl := rfl
@[simp] theorem setSh_cfg (s : State) (x : Shell) : (s.setSh x).cfg = s.cfg := rfl
@[simp] theorem setSh_fc (s : State) (x : Shell) : (s.setSh x).fc = s.fc := rfl
@[simp] theorem setSh_jn (s : State) (x : Shell) : (s.setSh x).jn = s.jn := rfl
@[simp] theorem setSh_msix (s : State) (x : Shell) : (s.setSh x).msix = s.msix := rfl
@[simp] theorem setSh_pips (s : State) (x : Shell) : (s.setSh x).pips = s.pips := rfl
@[simp] theorem setSh_snapDue (s : State) (x : Shell) : (s.setSh x).snapDue = s.snapDue := rfl
@[simp] theorem setSh_dram (s : State) (x : Shell) : (s.setSh x).dram = s.dram := rfl
@[simp] theorem setSh_hostMem (s : State) (x : Shell) : (s.setSh x).hostMem = s.hostMem := rfl
@[simp] theorem setSh_rs (s : State) (x : Shell) : (s.setSh x).rs = s.rs := rfl
@[simp] theorem setSh_ho (s : State) (x : Shell) : (s.setSh x).ho = s.ho := rfl
@[simp] theorem setSh_eb (s : State) (x : Shell) : (s.setSh x).eb = s.eb := rfl
@[simp] theorem setSh_gn (s : State) (x : Shell) : (s.setSh x).gn = s.gn := rfl
@[simp] theorem setSh_sh (s : State) (x : Shell) : (s.setSh x).sh = x := rfl
@[simp] theorem setSh_ports (s : State) (x : Shell) : (s.setSh x).ports = s.ports := rfl
@[simp] theorem setSh_sw (s : State) (x : Shell) : (s.setSh x).sw = s.sw := rfl
@[simp] theorem setSh_pc (s : State) (x : Shell) : (s.setSh x).pc = s.pc := rfl
@[simp] theorem setSh_cv (s : State) (x : Shell) : (s.setSh x).cv = s.cv := rfl
@[simp] theorem setSh_outs (s : State) (x : Shell) : (s.setSh x).outs = s.outs := rfl
@[simp] theorem setSh_ls (s : State) (x : Shell) : (s.setSh x).ls = s.ls := rfl
@[simp] theorem setSh_links (s : State) (x : Shell) : (s.setSh x).links = s.links := rfl
@[simp] theorem setSh_dvMs (s : State) (x : Shell) : (s.setSh x).dvMs = s.dvMs := rfl
@[simp] theorem setSh_ks (s : State) (x : Shell) : (s.setSh x).ks = s.ks := rfl
@[simp] theorem setSh_pe (s : State) (x : Shell) : (s.setSh x).pe = s.pe := rfl
@[simp] theorem setSh_ne (s : State) (x : Shell) : (s.setSh x).ne = s.ne := rfl
@[simp] theorem setSh_ind (s : State) (x : Shell) : (s.setSh x).ind = s.ind := rfl
@[simp] theorem setSh_boot (s : State) (x : Shell) : (s.setSh x).boot = s.boot := rfl
@[simp] theorem setSh_rd (s : State) (y : Shell) (x : Nat) : (s.setSh y).rd x = s.rd x := rfl
@[simp] theorem setSh_rdN (s : State) (y : Shell) (x : Nat) : (s.setSh y).rdN x = s.rdN x := rfl
@[simp] theorem setSh_get (s : State) (x : Shell) (g : Fld) : (s.setSh x).get g = s.get g := rfl
@[simp] theorem setSh_flag (s : State) (x : Shell) (g : Fld) : (s.setSh x).flag g = s.flag g := rfl

/-! ### `setSw` -/

@[simp] theorem setSw_pending (s : State) (x : Switch) : (s.setSw x).pending = s.pending := rfl
@[simp] theorem setSw_regs (s : State) (x : Switch) : (s.setSw x).regs = s.regs := rfl
@[simp] theorem setSw_freeCtr (s : State) (x : Switch) : (s.setSw x).freeCtr = s.freeCtr := rfl
@[simp] theorem setSw_latches (s : State) (x : Switch) : (s.setSw x).latches = s.latches := rfl
@[simp] theorem setSw_staging (s : State) (x : Switch) : (s.setSw x).staging = s.staging := rfl
@[simp] theorem setSw_readData (s : State) (x : Switch) : (s.setSw x).readData = s.readData := rfl
@[simp] theorem setSw_tc (s : State) (x : Switch) : (s.setSw x).tc = s.tc := rfl
@[simp] theorem setSw_whl (s : State) (x : Switch) : (s.setSw x).whl = s.whl := rfl
@[simp] theorem setSw_cfg (s : State) (x : Switch) : (s.setSw x).cfg = s.cfg := rfl
@[simp] theorem setSw_fc (s : State) (x : Switch) : (s.setSw x).fc = s.fc := rfl
@[simp] theorem setSw_jn (s : State) (x : Switch) : (s.setSw x).jn = s.jn := rfl
@[simp] theorem setSw_msix (s : State) (x : Switch) : (s.setSw x).msix = s.msix := rfl
@[simp] theorem setSw_pips (s : State) (x : Switch) : (s.setSw x).pips = s.pips := rfl
@[simp] theorem setSw_snapDue (s : State) (x : Switch) : (s.setSw x).snapDue = s.snapDue := rfl
@[simp] theorem setSw_dram (s : State) (x : Switch) : (s.setSw x).dram = s.dram := rfl
@[simp] theorem setSw_hostMem (s : State) (x : Switch) : (s.setSw x).hostMem = s.hostMem := rfl
@[simp] theorem setSw_rs (s : State) (x : Switch) : (s.setSw x).rs = s.rs := rfl
@[simp] theorem setSw_ho (s : State) (x : Switch) : (s.setSw x).ho = s.ho := rfl
@[simp] theorem setSw_eb (s : State) (x : Switch) : (s.setSw x).eb = s.eb := rfl
@[simp] theorem setSw_gn (s : State) (x : Switch) : (s.setSw x).gn = s.gn := rfl
@[simp] theorem setSw_sh (s : State) (x : Switch) : (s.setSw x).sh = s.sh := rfl
@[simp] theorem setSw_ports (s : State) (x : Switch) : (s.setSw x).ports = s.ports := rfl
@[simp] theorem setSw_sw (s : State) (x : Switch) : (s.setSw x).sw = x := rfl
@[simp] theorem setSw_pc (s : State) (x : Switch) : (s.setSw x).pc = s.pc := rfl
@[simp] theorem setSw_cv (s : State) (x : Switch) : (s.setSw x).cv = s.cv := rfl
@[simp] theorem setSw_outs (s : State) (x : Switch) : (s.setSw x).outs = s.outs := rfl
@[simp] theorem setSw_ls (s : State) (x : Switch) : (s.setSw x).ls = s.ls := rfl
@[simp] theorem setSw_links (s : State) (x : Switch) : (s.setSw x).links = s.links := rfl
@[simp] theorem setSw_dvMs (s : State) (x : Switch) : (s.setSw x).dvMs = s.dvMs := rfl
@[simp] theorem setSw_ks (s : State) (x : Switch) : (s.setSw x).ks = s.ks := rfl
@[simp] theorem setSw_pe (s : State) (x : Switch) : (s.setSw x).pe = s.pe := rfl
@[simp] theorem setSw_ne (s : State) (x : Switch) : (s.setSw x).ne = s.ne := rfl
@[simp] theorem setSw_ind (s : State) (x : Switch) : (s.setSw x).ind = s.ind := rfl
@[simp] theorem setSw_boot (s : State) (x : Switch) : (s.setSw x).boot = s.boot := rfl
@[simp] theorem setSw_rd (s : State) (y : Switch) (x : Nat) : (s.setSw y).rd x = s.rd x := rfl
@[simp] theorem setSw_rdN (s : State) (y : Switch) (x : Nat) : (s.setSw y).rdN x = s.rdN x := rfl
@[simp] theorem setSw_get (s : State) (x : Switch) (g : Fld) : (s.setSw x).get g = s.get g := rfl
@[simp] theorem setSw_flag (s : State) (x : Switch) (g : Fld) : (s.setSw x).flag g = s.flag g := rfl

/-! ### `setKs` -/

@[simp] theorem setKs_pending (s : State) (x : KeyStore) : (s.setKs x).pending = s.pending := rfl
@[simp] theorem setKs_regs (s : State) (x : KeyStore) : (s.setKs x).regs = s.regs := rfl
@[simp] theorem setKs_freeCtr (s : State) (x : KeyStore) : (s.setKs x).freeCtr = s.freeCtr := rfl
@[simp] theorem setKs_latches (s : State) (x : KeyStore) : (s.setKs x).latches = s.latches := rfl
@[simp] theorem setKs_staging (s : State) (x : KeyStore) : (s.setKs x).staging = s.staging := rfl
@[simp] theorem setKs_readData (s : State) (x : KeyStore) : (s.setKs x).readData = s.readData := rfl
@[simp] theorem setKs_tc (s : State) (x : KeyStore) : (s.setKs x).tc = s.tc := rfl
@[simp] theorem setKs_whl (s : State) (x : KeyStore) : (s.setKs x).whl = s.whl := rfl
@[simp] theorem setKs_cfg (s : State) (x : KeyStore) : (s.setKs x).cfg = s.cfg := rfl
@[simp] theorem setKs_fc (s : State) (x : KeyStore) : (s.setKs x).fc = s.fc := rfl
@[simp] theorem setKs_jn (s : State) (x : KeyStore) : (s.setKs x).jn = s.jn := rfl
@[simp] theorem setKs_msix (s : State) (x : KeyStore) : (s.setKs x).msix = s.msix := rfl
@[simp] theorem setKs_pips (s : State) (x : KeyStore) : (s.setKs x).pips = s.pips := rfl
@[simp] theorem setKs_snapDue (s : State) (x : KeyStore) : (s.setKs x).snapDue = s.snapDue := rfl
@[simp] theorem setKs_dram (s : State) (x : KeyStore) : (s.setKs x).dram = s.dram := rfl
@[simp] theorem setKs_hostMem (s : State) (x : KeyStore) : (s.setKs x).hostMem = s.hostMem := rfl
@[simp] theorem setKs_rs (s : State) (x : KeyStore) : (s.setKs x).rs = s.rs := rfl
@[simp] theorem setKs_ho (s : State) (x : KeyStore) : (s.setKs x).ho = s.ho := rfl
@[simp] theorem setKs_eb (s : State) (x : KeyStore) : (s.setKs x).eb = s.eb := rfl
@[simp] theorem setKs_gn (s : State) (x : KeyStore) : (s.setKs x).gn = s.gn := rfl
@[simp] theorem setKs_sh (s : State) (x : KeyStore) : (s.setKs x).sh = s.sh := rfl
@[simp] theorem setKs_ports (s : State) (x : KeyStore) : (s.setKs x).ports = s.ports := rfl
@[simp] theorem setKs_sw (s : State) (x : KeyStore) : (s.setKs x).sw = s.sw := rfl
@[simp] theorem setKs_pc (s : State) (x : KeyStore) : (s.setKs x).pc = s.pc := rfl
@[simp] theorem setKs_cv (s : State) (x : KeyStore) : (s.setKs x).cv = s.cv := rfl
@[simp] theorem setKs_outs (s : State) (x : KeyStore) : (s.setKs x).outs = s.outs := rfl
@[simp] theorem setKs_ls (s : State) (x : KeyStore) : (s.setKs x).ls = s.ls := rfl
@[simp] theorem setKs_links (s : State) (x : KeyStore) : (s.setKs x).links = s.links := rfl
@[simp] theorem setKs_dvMs (s : State) (x : KeyStore) : (s.setKs x).dvMs = s.dvMs := rfl
@[simp] theorem setKs_ks (s : State) (x : KeyStore) : (s.setKs x).ks = x := rfl
@[simp] theorem setKs_pe (s : State) (x : KeyStore) : (s.setKs x).pe = s.pe := rfl
@[simp] theorem setKs_ne (s : State) (x : KeyStore) : (s.setKs x).ne = s.ne := rfl
@[simp] theorem setKs_ind (s : State) (x : KeyStore) : (s.setKs x).ind = s.ind := rfl
@[simp] theorem setKs_boot (s : State) (x : KeyStore) : (s.setKs x).boot = s.boot := rfl
@[simp] theorem setKs_rd (s : State) (y : KeyStore) (x : Nat) : (s.setKs y).rd x = s.rd x := rfl
@[simp] theorem setKs_rdN (s : State) (y : KeyStore) (x : Nat) : (s.setKs y).rdN x = s.rdN x := rfl
@[simp] theorem setKs_get (s : State) (x : KeyStore) (g : Fld) : (s.setKs x).get g = s.get g := rfl
@[simp] theorem setKs_flag (s : State) (x : KeyStore) (g : Fld) : (s.setKs x).flag g = s.flag g := rfl

/-! ### `setPe` -/

@[simp] theorem setPe_pending (s : State) (x : Ptp) : (s.setPe x).pending = s.pending := rfl
@[simp] theorem setPe_regs (s : State) (x : Ptp) : (s.setPe x).regs = s.regs := rfl
@[simp] theorem setPe_freeCtr (s : State) (x : Ptp) : (s.setPe x).freeCtr = s.freeCtr := rfl
@[simp] theorem setPe_latches (s : State) (x : Ptp) : (s.setPe x).latches = s.latches := rfl
@[simp] theorem setPe_staging (s : State) (x : Ptp) : (s.setPe x).staging = s.staging := rfl
@[simp] theorem setPe_readData (s : State) (x : Ptp) : (s.setPe x).readData = s.readData := rfl
@[simp] theorem setPe_tc (s : State) (x : Ptp) : (s.setPe x).tc = s.tc := rfl
@[simp] theorem setPe_whl (s : State) (x : Ptp) : (s.setPe x).whl = s.whl := rfl
@[simp] theorem setPe_cfg (s : State) (x : Ptp) : (s.setPe x).cfg = s.cfg := rfl
@[simp] theorem setPe_fc (s : State) (x : Ptp) : (s.setPe x).fc = s.fc := rfl
@[simp] theorem setPe_jn (s : State) (x : Ptp) : (s.setPe x).jn = s.jn := rfl
@[simp] theorem setPe_msix (s : State) (x : Ptp) : (s.setPe x).msix = s.msix := rfl
@[simp] theorem setPe_pips (s : State) (x : Ptp) : (s.setPe x).pips = s.pips := rfl
@[simp] theorem setPe_snapDue (s : State) (x : Ptp) : (s.setPe x).snapDue = s.snapDue := rfl
@[simp] theorem setPe_dram (s : State) (x : Ptp) : (s.setPe x).dram = s.dram := rfl
@[simp] theorem setPe_hostMem (s : State) (x : Ptp) : (s.setPe x).hostMem = s.hostMem := rfl
@[simp] theorem setPe_rs (s : State) (x : Ptp) : (s.setPe x).rs = s.rs := rfl
@[simp] theorem setPe_ho (s : State) (x : Ptp) : (s.setPe x).ho = s.ho := rfl
@[simp] theorem setPe_eb (s : State) (x : Ptp) : (s.setPe x).eb = s.eb := rfl
@[simp] theorem setPe_gn (s : State) (x : Ptp) : (s.setPe x).gn = s.gn := rfl
@[simp] theorem setPe_sh (s : State) (x : Ptp) : (s.setPe x).sh = s.sh := rfl
@[simp] theorem setPe_ports (s : State) (x : Ptp) : (s.setPe x).ports = s.ports := rfl
@[simp] theorem setPe_sw (s : State) (x : Ptp) : (s.setPe x).sw = s.sw := rfl
@[simp] theorem setPe_pc (s : State) (x : Ptp) : (s.setPe x).pc = s.pc := rfl
@[simp] theorem setPe_cv (s : State) (x : Ptp) : (s.setPe x).cv = s.cv := rfl
@[simp] theorem setPe_outs (s : State) (x : Ptp) : (s.setPe x).outs = s.outs := rfl
@[simp] theorem setPe_ls (s : State) (x : Ptp) : (s.setPe x).ls = s.ls := rfl
@[simp] theorem setPe_links (s : State) (x : Ptp) : (s.setPe x).links = s.links := rfl
@[simp] theorem setPe_dvMs (s : State) (x : Ptp) : (s.setPe x).dvMs = s.dvMs := rfl
@[simp] theorem setPe_ks (s : State) (x : Ptp) : (s.setPe x).ks = s.ks := rfl
@[simp] theorem setPe_pe (s : State) (x : Ptp) : (s.setPe x).pe = x := rfl
@[simp] theorem setPe_ne (s : State) (x : Ptp) : (s.setPe x).ne = s.ne := rfl
@[simp] theorem setPe_ind (s : State) (x : Ptp) : (s.setPe x).ind = s.ind := rfl
@[simp] theorem setPe_boot (s : State) (x : Ptp) : (s.setPe x).boot = s.boot := rfl
@[simp] theorem setPe_rd (s : State) (y : Ptp) (x : Nat) : (s.setPe y).rd x = s.rd x := rfl
@[simp] theorem setPe_rdN (s : State) (y : Ptp) (x : Nat) : (s.setPe y).rdN x = s.rdN x := rfl
@[simp] theorem setPe_get (s : State) (x : Ptp) (g : Fld) : (s.setPe x).get g = s.get g := rfl
@[simp] theorem setPe_flag (s : State) (x : Ptp) (g : Fld) : (s.setPe x).flag g = s.flag g := rfl

/-! ### `setNe` -/

@[simp] theorem setNe_pending (s : State) (x : Ntp) : (s.setNe x).pending = s.pending := rfl
@[simp] theorem setNe_regs (s : State) (x : Ntp) : (s.setNe x).regs = s.regs := rfl
@[simp] theorem setNe_freeCtr (s : State) (x : Ntp) : (s.setNe x).freeCtr = s.freeCtr := rfl
@[simp] theorem setNe_latches (s : State) (x : Ntp) : (s.setNe x).latches = s.latches := rfl
@[simp] theorem setNe_staging (s : State) (x : Ntp) : (s.setNe x).staging = s.staging := rfl
@[simp] theorem setNe_readData (s : State) (x : Ntp) : (s.setNe x).readData = s.readData := rfl
@[simp] theorem setNe_tc (s : State) (x : Ntp) : (s.setNe x).tc = s.tc := rfl
@[simp] theorem setNe_whl (s : State) (x : Ntp) : (s.setNe x).whl = s.whl := rfl
@[simp] theorem setNe_cfg (s : State) (x : Ntp) : (s.setNe x).cfg = s.cfg := rfl
@[simp] theorem setNe_fc (s : State) (x : Ntp) : (s.setNe x).fc = s.fc := rfl
@[simp] theorem setNe_jn (s : State) (x : Ntp) : (s.setNe x).jn = s.jn := rfl
@[simp] theorem setNe_msix (s : State) (x : Ntp) : (s.setNe x).msix = s.msix := rfl
@[simp] theorem setNe_pips (s : State) (x : Ntp) : (s.setNe x).pips = s.pips := rfl
@[simp] theorem setNe_snapDue (s : State) (x : Ntp) : (s.setNe x).snapDue = s.snapDue := rfl
@[simp] theorem setNe_dram (s : State) (x : Ntp) : (s.setNe x).dram = s.dram := rfl
@[simp] theorem setNe_hostMem (s : State) (x : Ntp) : (s.setNe x).hostMem = s.hostMem := rfl
@[simp] theorem setNe_rs (s : State) (x : Ntp) : (s.setNe x).rs = s.rs := rfl
@[simp] theorem setNe_ho (s : State) (x : Ntp) : (s.setNe x).ho = s.ho := rfl
@[simp] theorem setNe_eb (s : State) (x : Ntp) : (s.setNe x).eb = s.eb := rfl
@[simp] theorem setNe_gn (s : State) (x : Ntp) : (s.setNe x).gn = s.gn := rfl
@[simp] theorem setNe_sh (s : State) (x : Ntp) : (s.setNe x).sh = s.sh := rfl
@[simp] theorem setNe_ports (s : State) (x : Ntp) : (s.setNe x).ports = s.ports := rfl
@[simp] theorem setNe_sw (s : State) (x : Ntp) : (s.setNe x).sw = s.sw := rfl
@[simp] theorem setNe_pc (s : State) (x : Ntp) : (s.setNe x).pc = s.pc := rfl
@[simp] theorem setNe_cv (s : State) (x : Ntp) : (s.setNe x).cv = s.cv := rfl
@[simp] theorem setNe_outs (s : State) (x : Ntp) : (s.setNe x).outs = s.outs := rfl
@[simp] theorem setNe_ls (s : State) (x : Ntp) : (s.setNe x).ls = s.ls := rfl
@[simp] theorem setNe_links (s : State) (x : Ntp) : (s.setNe x).links = s.links := rfl
@[simp] theorem setNe_dvMs (s : State) (x : Ntp) : (s.setNe x).dvMs = s.dvMs := rfl
@[simp] theorem setNe_ks (s : State) (x : Ntp) : (s.setNe x).ks = s.ks := rfl
@[simp] theorem setNe_pe (s : State) (x : Ntp) : (s.setNe x).pe = s.pe := rfl
@[simp] theorem setNe_ne (s : State) (x : Ntp) : (s.setNe x).ne = x := rfl
@[simp] theorem setNe_ind (s : State) (x : Ntp) : (s.setNe x).ind = s.ind := rfl
@[simp] theorem setNe_boot (s : State) (x : Ntp) : (s.setNe x).boot = s.boot := rfl
@[simp] theorem setNe_rd (s : State) (y : Ntp) (x : Nat) : (s.setNe y).rd x = s.rd x := rfl
@[simp] theorem setNe_rdN (s : State) (y : Ntp) (x : Nat) : (s.setNe y).rdN x = s.rdN x := rfl
@[simp] theorem setNe_get (s : State) (x : Ntp) (g : Fld) : (s.setNe x).get g = s.get g := rfl
@[simp] theorem setNe_flag (s : State) (x : Ntp) (g : Fld) : (s.setNe x).flag g = s.flag g := rfl

/-! ### `setLs` -/

@[simp] theorem setLs_pending (s : State) (x : Lease) : (s.setLs x).pending = s.pending := rfl
@[simp] theorem setLs_regs (s : State) (x : Lease) : (s.setLs x).regs = s.regs := rfl
@[simp] theorem setLs_freeCtr (s : State) (x : Lease) : (s.setLs x).freeCtr = s.freeCtr := rfl
@[simp] theorem setLs_latches (s : State) (x : Lease) : (s.setLs x).latches = s.latches := rfl
@[simp] theorem setLs_staging (s : State) (x : Lease) : (s.setLs x).staging = s.staging := rfl
@[simp] theorem setLs_readData (s : State) (x : Lease) : (s.setLs x).readData = s.readData := rfl
@[simp] theorem setLs_tc (s : State) (x : Lease) : (s.setLs x).tc = s.tc := rfl
@[simp] theorem setLs_whl (s : State) (x : Lease) : (s.setLs x).whl = s.whl := rfl
@[simp] theorem setLs_cfg (s : State) (x : Lease) : (s.setLs x).cfg = s.cfg := rfl
@[simp] theorem setLs_fc (s : State) (x : Lease) : (s.setLs x).fc = s.fc := rfl
@[simp] theorem setLs_jn (s : State) (x : Lease) : (s.setLs x).jn = s.jn := rfl
@[simp] theorem setLs_msix (s : State) (x : Lease) : (s.setLs x).msix = s.msix := rfl
@[simp] theorem setLs_pips (s : State) (x : Lease) : (s.setLs x).pips = s.pips := rfl
@[simp] theorem setLs_snapDue (s : State) (x : Lease) : (s.setLs x).snapDue = s.snapDue := rfl
@[simp] theorem setLs_dram (s : State) (x : Lease) : (s.setLs x).dram = s.dram := rfl
@[simp] theorem setLs_hostMem (s : State) (x : Lease) : (s.setLs x).hostMem = s.hostMem := rfl
@[simp] theorem setLs_rs (s : State) (x : Lease) : (s.setLs x).rs = s.rs := rfl
@[simp] theorem setLs_ho (s : State) (x : Lease) : (s.setLs x).ho = s.ho := rfl
@[simp] theorem setLs_eb (s : State) (x : Lease) : (s.setLs x).eb = s.eb := rfl
@[simp] theorem setLs_gn (s : State) (x : Lease) : (s.setLs x).gn = s.gn := rfl
@[simp] theorem setLs_sh (s : State) (x : Lease) : (s.setLs x).sh = s.sh := rfl
@[simp] theorem setLs_ports (s : State) (x : Lease) : (s.setLs x).ports = s.ports := rfl
@[simp] theorem setLs_sw (s : State) (x : Lease) : (s.setLs x).sw = s.sw := rfl
@[simp] theorem setLs_pc (s : State) (x : Lease) : (s.setLs x).pc = s.pc := rfl
@[simp] theorem setLs_cv (s : State) (x : Lease) : (s.setLs x).cv = s.cv := rfl
@[simp] theorem setLs_outs (s : State) (x : Lease) : (s.setLs x).outs = s.outs := rfl
@[simp] theorem setLs_ls (s : State) (x : Lease) : (s.setLs x).ls = x := rfl
@[simp] theorem setLs_links (s : State) (x : Lease) : (s.setLs x).links = s.links := rfl
@[simp] theorem setLs_dvMs (s : State) (x : Lease) : (s.setLs x).dvMs = s.dvMs := rfl
@[simp] theorem setLs_ks (s : State) (x : Lease) : (s.setLs x).ks = s.ks := rfl
@[simp] theorem setLs_pe (s : State) (x : Lease) : (s.setLs x).pe = s.pe := rfl
@[simp] theorem setLs_ne (s : State) (x : Lease) : (s.setLs x).ne = s.ne := rfl
@[simp] theorem setLs_ind (s : State) (x : Lease) : (s.setLs x).ind = s.ind := rfl
@[simp] theorem setLs_boot (s : State) (x : Lease) : (s.setLs x).boot = s.boot := rfl
@[simp] theorem setLs_rd (s : State) (y : Lease) (x : Nat) : (s.setLs y).rd x = s.rd x := rfl
@[simp] theorem setLs_rdN (s : State) (y : Lease) (x : Nat) : (s.setLs y).rdN x = s.rdN x := rfl
@[simp] theorem setLs_get (s : State) (x : Lease) (g : Fld) : (s.setLs x).get g = s.get g := rfl
@[simp] theorem setLs_flag (s : State) (x : Lease) (g : Fld) : (s.setLs x).flag g = s.flag g := rfl

end State

end Sys2Proof.Machine
end

