-- ==== Sys2Proof/Laws/Touches.lean ====
section
/-! SUPPORT. Everything that an event and a register update can do, said once: `Writes` and `Touches` for the shared operations. -/

namespace Sys2Proof.Machine

/-! ### Register updates -/

theorem Writes.refl (A : Nat → Prop) (s : State) : Writes A s s := ⟨rfl, fun _ _ => rfl⟩

theorem Writes.mono {A B : Nat → Prop} {s t : State} (h : Writes A s t) (hab : ∀ a, A a → B a) : Writes B s t :=
  ⟨h.1, fun a ha => h.2 a (fun h' => ha (hab a h'))⟩

theorem Writes.trans {A B : Nat → Prop} {s t u : State} (h : Writes A s t) (k : Writes B t u) : Writes (fun a => A a ∨ B a) s u := by
  refine ⟨?_, fun a ha => (k.2 a (fun h' => ha (.inr h'))).trans (h.2 a (fun h' => ha (.inl h')))⟩
  have h1 := h.1; have k1 := k.1
  rw [← h1, ← k1]

/-- Two updates within one set of words. -/
theorem Writes.then {A : Nat → Prop} {s t u : State} (h : Writes A s t) (k : Writes A t u) : Writes A s u :=
  (h.trans k).mono (fun _ h => h.elim id id)

theorem writes_wr {A : Nat → Prop} (s : State) {a : Nat} (w : Word) (h : A a) : Writes A s (s.wr a w) :=
  ⟨rfl, fun _ hb => State.rd_wr_other s w (fun e => hb (e ▸ h))⟩

theorem writes_wrN {A : Nat → Prop} (s : State) {a : Nat} (n : Nat) (h : A a) : Writes A s (s.wrN a n) := writes_wr s _ h

theorem writes_wrSat {A : Nat → Prop} (s : State) {a : Nat} (n : Nat) (h : A a) : Writes A s (s.wrSat a n) := writes_wr s _ h

theorem writes_set {A : Nat → Prop} (s : State) (f : Fld) (v : Nat) (h : A f.addr) : Writes A s (s.set f v) := writes_wr s _ h

theorem writes_setB {A : Nat → Prop} (s : State) (f : Fld) (b : Bool) (h : A f.addr) : Writes A s (s.setB f b) := writes_wr s _ h

theorem writes_bump {A : Nat → Prop} (s : State) {a : Nat} (h : A a) : Writes A s (s.bump a) := writes_wr s _ h

theorem writes_bumpF {A : Nat → Prop} (s : State) (f : Fld) (h : A f.addr) : Writes A s (s.bumpF f) := writes_wr s _ h

/-! ### What an event carries -/

theorem Touches.refl (A : Nat → Prop) (s : State) : Touches A s s := ⟨rfl, fun _ _ _ => rfl⟩

theorem Touches.mono {A B : Nat → Prop} {s t : State} (h : Touches A s t) (hab : ∀ a, A a → B a) : Touches B s t :=
  ⟨h.1, fun a ha => h.2 a (fun h' => ha (hab a h'))⟩

theorem Touches.then {A : Nat → Prop} {s t u : State} (h : Touches A s t) (k : Touches A t u) : Touches A s u := by
  refine ⟨?_, fun a ha hc => (k.2 a ha hc).trans (h.2 a ha hc)⟩
  have h1 := h.1; have k1 := k.1
  rw [← h1, ← k1]

/-! The parts that an event does not reach. -/

theorem Touches.pending {A : Nat → Prop} {s t : State} (h : Touches A s t) : t.pending = s.pending := by
  have e := congrArg State.pending h.1
  exact e
theorem Touches.latches {A : Nat → Prop} {s t : State} (h : Touches A s t) : t.latches = s.latches := by
  have e := congrArg State.latches h.1
  exact e
theorem Touches.staging {A : Nat → Prop} {s t : State} (h : Touches A s t) : t.staging = s.staging := by
  have e := congrArg State.staging h.1
  exact e
theorem Touches.readData {A : Nat → Prop} {s t : State} (h : Touches A s t) : t.readData = s.readData := by
  have e := congrArg State.readData h.1
  exact e
theorem Touches.tc {A : Nat → Prop} {s t : State} (h : Touches A s t) : t.tc = s.tc := by
  have e := congrArg State.tc h.1
  exact e
theorem Touches.whl {A : Nat → Prop} {s t : State} (h : Touches A s t) : t.whl = s.whl := by
  have e := congrArg State.whl h.1
  exact e
theorem Touches.cfg {A : Nat → Prop} {s t : State} (h : Touches A s t) : t.cfg = s.cfg := by
  have e := congrArg State.cfg h.1
  exact e
theorem Touches.snapDue {A : Nat → Prop} {s t : State} (h : Touches A s t) : t.snapDue = s.snapDue := by
  have e := congrArg State.snapDue h.1
  exact e
theorem Touches.dram {A : Nat → Prop} {s t : State} (h : Touches A s t) : t.dram = s.dram := by
  have e := congrArg State.dram h.1
  exact e
theorem Touches.hostMem {A : Nat → Prop} {s t : State} (h : Touches A s t) : t.hostMem = s.hostMem := by
  have e := congrArg State.hostMem h.1
  exact e
theorem Touches.rs {A : Nat → Prop} {s t : State} (h : Touches A s t) : t.rs = s.rs := by
  have e := congrArg State.rs h.1
  exact e
theorem Touches.ho {A : Nat → Prop} {s t : State} (h : Touches A s t) : t.ho = s.ho := by
  have e := congrArg State.ho h.1
  exact e
theorem Touches.eb {A : Nat → Prop} {s t : State} (h : Touches A s t) : t.eb = s.eb := by
  have e := congrArg State.eb h.1
  exact e
theorem Touches.gn {A : Nat → Prop} {s t : State} (h : Touches A s t) : t.gn = s.gn := by
  have e := congrArg State.gn h.1
  exact e
theorem Touches.sh {A : Nat → Prop} {s t : State} (h : Touches A s t) : t.sh = s.sh := by
  have e := congrArg State.sh h.1
  exact e
theorem Touches.ports {A : Nat → Prop} {s t : State} (h : Touches A s t) : t.ports = s.ports := by
  have e := congrArg State.ports h.1
  exact e
theorem Touches.sw {A : Nat → Prop} {s t : State} (h : Touches A s t) : t.sw = s.sw := by
  have e := congrArg State.sw h.1
  exact e
theorem Touches.pc {A : Nat → Prop} {s t : State} (h : Touches A s t) : t.pc = s.pc := by
  have e := congrArg State.pc h.1
  exact e
theorem Touches.cv {A : Nat → Prop} {s t : State} (h : Touches A s t) : t.cv = s.cv := by
  have e := congrArg State.cv h.1
  exact e
theorem Touches.outs {A : Nat → Prop} {s t : State} (h : Touches A s t) : t.outs = s.outs := by
  have e := congrArg State.outs h.1
  exact e
theorem Touches.ls {A : Nat → Prop} {s t : State} (h : Touches A s t) : t.ls = s.ls := by
  have e := congrArg State.ls h.1
  exact e
theorem Touches.links {A : Nat → Prop} {s t : State} (h : Touches A s t) : t.links = s.links := by
  have e := congrArg State.links h.1
  exact e
theorem Touches.dvMs {A : Nat → Prop} {s t : State} (h : Touches A s t) : t.dvMs = s.dvMs := by
  have e := congrArg State.dvMs h.1
  exact e
theorem Touches.ks {A : Nat → Prop} {s t : State} (h : Touches A s t) : t.ks = s.ks := by
  have e := congrArg State.ks h.1
  exact e
theorem Touches.pe {A : Nat → Prop} {s t : State} (h : Touches A s t) : t.pe = s.pe := by
  have e := congrArg State.pe h.1
  exact e
theorem Touches.ne {A : Nat → Prop} {s t : State} (h : Touches A s t) : t.ne = s.ne := by
  have e := congrArg State.ne h.1
  exact e
theorem Touches.ind {A : Nat → Prop} {s t : State} (h : Touches A s t) : t.ind = s.ind := by
  have e := congrArg State.ind h.1
  exact e
theorem Touches.boot {A : Nat → Prop} {s t : State} (h : Touches A s t) : t.boot = s.boot := by
  have e := congrArg State.boot h.1
  exact e

theorem Touches.rdN {A : Nat → Prop} {s t : State} (h : Touches A s t) {a : Nat} (ha : ¬A a) (hc : carried a = false) : t.rdN a = s.rdN a :=
  congrArg BitVec.toNat (h.2 a ha hc)

theorem Touches.get {A : Nat → Prop} {s t : State} (h : Touches A s t) {f : Fld} (ha : ¬A f.addr) (hc : carried f.addr = false) :
    t.get f = s.get f := by
  unfold State.get
  rw [h.rdN ha hc]

theorem Touches.flag {A : Nat → Prop} {s t : State} (h : Touches A s t) {f : Fld} (ha : ¬A f.addr) (hc : carried f.addr = false) :
    t.flag f = s.flag f := by
  unfold State.flag
  rw [h.get ha hc]

theorem Writes.touches {A : Nat → Prop} {s t : State} (h : Writes A s t) : Touches A s t := by
  refine ⟨?_, fun a ha _ => h.2 a ha⟩
  have h1 := h.1
  rw [← h1]

/-- A register update of a word that events may reach from any page. -/
theorem touches_wrN_carried (A : Nat → Prop) (s : State) {a : Nat} (n : Nat) (h : carried a = true) : Touches A s (s.wrN a n) :=
  ⟨rfl, fun b _ hc => State.rd_wr_other s _ (fun e => by rw [e, h] at hc; exact absurd hc (by decide))⟩

theorem touches_set_carried (A : Nat → Prop) (s : State) (f : Fld) (v : Nat) (h : carried f.addr = true) : Touches A s (s.set f v) :=
  touches_wrN_carried A s _ h

theorem touches_setB_carried (A : Nat → Prop) (s : State) (f : Fld) (b : Bool) (h : carried f.addr = true) : Touches A s (s.setB f b) :=
  touches_wrN_carried A s _ h

theorem touches_bump_carried (A : Nat → Prop) (s : State) {a : Nat} (h : carried a = true) : Touches A s (s.bump a) :=
  touches_wrN_carried A s _ h

/-- A change of the parts that an event carries. -/
theorem touches_parts (A : Nat → Prop) (s : State) (c : Nat) (f : Collector) (j : Journal) (m : List Msi) (p : List Pip) :
    Touches A s { s with freeCtr := c, fc := f, jn := j, msix := m, pips := p } := ⟨rfl, fun _ _ _ => rfl⟩

theorem touches_tick (A : Nat → Prop) (s : State) : Touches A s s.tick := ⟨rfl, fun _ _ _ => rfl⟩

theorem touches_modPip (A : Nat → Prop) (s : State) (k : Nat) (f : Pip → Pip) : Touches A s (s.modPip k f) := ⟨rfl, fun _ _ _ => rfl⟩

theorem touches_signal (A : Nat → Prop) (s : State) (page bit : Nat) : Touches A s (s.signal page bit) := by
  unfold State.signal
  split
  · exact ⟨rfl, fun _ _ _ => rfl⟩
  · exact Touches.refl A s

theorem touches_emitWith (A : Nat → Prop) (s : State) (full : Bool) (source cls : Nat) (name : String) (payload : Nat) (conseq forced : Bool) :
    Touches A s (s.emitWith full source cls name payload conseq forced) := by
  unfold State.emitWith
  split
  · exact Touches.refl A s
  · exact ⟨rfl, fun _ _ _ => rfl⟩

theorem touches_emit (A : Nat → Prop) (s : State) (source cls : Nat) (name : String) : Touches A s (s.emit source cls name) :=
  touches_emitWith A s _ _ _ _ _ _ _

theorem touches_emitT (A : Nat → Prop) (s : State) (source cls : Nat) (name : String) : Touches A s (s.emitT source cls name) :=
  touches_emitWith A s _ _ _ _ _ _ _

theorem carried_of_page {a : Nat} (h : 0xA0 ≤ pageOf a ∧ pageOf a ≤ 0xBB ∨ pageOf a = 0xD8) : carried a = true := by
  unfold carried
  rcases h with h | h <;> simp [h]

theorem touches_tell (A : Nat → Prop) (s : State) {k : Nat} (hk : k < 28) (m : PipMsg) : Touches A s (s.tell k m) := by
  have p1 : carried (Reg.PPk_INBOX_OVF k) = true := carried_of_page (by unfold pageOf Reg.PPk_INBOX_OVF; omega)
  have p2 : carried (Fld.PPk_EVT_INBOX_OVF k).addr = true :=
    carried_of_page (by show 0xA0 ≤ pageOf (Reg.PPk_EVT k) ∧ pageOf (Reg.PPk_EVT k) ≤ 0xBB ∨ _; unfold pageOf Reg.PPk_EVT; omega)
  unfold State.tell
  split
  · split
    · exact touches_modPip A s k _
    · exact ((touches_bump_carried A s p1).then (touches_set_carried A _ _ _ p2)).then (touches_signal A _ _ _)
  · split
    · exact touches_bump_carried A s (by decide)
    · exact Touches.refl A s

/-! ### The fault collector -/

theorem touches_refreshFc (A : Nat → Prop) (s : State) : Touches A s s.refreshFc := by
  unfold State.refreshFc
  exact (((touches_setB_carried A s _ _ (by decide)).then (touches_setB_carried A _ _ _ (by decide))).then
    (touches_setB_carried A _ _ _ (by decide))).then (touches_wrN_carried A _ _ (by decide))

theorem touches_enterSafe (A : Nat → Prop) (s : State) : Touches A s s.enterSafe :=
  (touches_setB_carried A s _ _ (by decide)).then (touches_refreshFc A _)

theorem touches_beginBlockReset (A : Nat → Prop) (s : State) (t inst : Nat) : Touches A s (s.beginBlockReset t inst) := by
  unfold State.beginBlockReset
  exact (touches_parts A s s.freeCtr _ s.jn s.msix s.pips).then ((touches_emit A _ _ _ _).then (touches_refreshFc A _))

theorem touches_faultNotice (A : Nat → Prop) (s : State) (src cls level : Nat) (a b c d e : Bool) :
    Touches A s (s.faultNotice src cls level a b c d e) := touches_tell A s (by decide) _

theorem touches_fcWindow (A : Nat → Prop) (s : State) (src : Nat) : Touches A s (s.fcWindow src).2 := by
  unfold State.fcWindow
  split
  · exact ⟨rfl, fun _ _ _ => rfl⟩
  · exact ⟨rfl, fun _ _ _ => rfl⟩

theorem carried_fc {n : Nat} (h : n < 0x1000) : carried (0xD8000 + n) = true := carried_of_page (by unfold pageOf; omega)

theorem touches_ite {A : Nat → Prop} {s t u : State} {c : Prop} [Decidable c] (h : Touches A s t) (k : Touches A s u) :
    Touches A s (if c then t else u) := by
  split
  · exact h
  · exact k

theorem touches_ite_left {A : Nat → Prop} {s t : State} {c : Prop} [Decidable c] (h : Touches A s t) : Touches A s (if c then t else s) :=
  touches_ite h (Touches.refl A s)

theorem touches_optReset (A : Nat → Prop) (s : State) (t : Option Nat) (inst : Nat) :
    Touches A s (match t with
      | some t => s.beginBlockReset t inst
      | none => s) := by
  split
  · exact touches_beginBlockReset A _ _ _
  · exact Touches.refl A s

theorem fcClass_le (src : Nat) : State.fcClass src ≤ 11 := by
  unfold State.fcClass
  by_cases h : src < 27
  · interval_cases src <;> decide
  · rw [List.getD_eq_default _ _ (by simp; omega)]; omega

theorem touches_fcReact (A : Nat → Prop) (s : State) (src inst level : Nat) (severe esc : Bool) :
    Touches A s (s.fcReact src inst level severe esc) := by
  have hc : carried (Fld.FC_CLASSc_LAST (State.fcClass src)).addr = true := by
    have h := fcClass_le src
    exact carried_of_page (by
      show _ ∨ pageOf (Reg.FC_CLASSc (State.fcClass src)) = 0xD8
      unfold pageOf Reg.FC_CLASSc; omega)
  unfold State.fcReact
  refine touches_ite (Touches.refl A s) ?_
  have h1 : ∀ u : State, Touches A s u →
      Touches A s (if level = 4 then
        { (u.wrN Reg.FC_RST_CAUSE (2 ^ 31 + (if (s.flag (if severe then Fld.FC_SRCs_CFG_SEV_PIN src else Fld.FC_SRCs_CFG_PIN src)) then 2 ^ 12 else 0) +
          (if esc then 2 ^ 11 else 0) + level * 2 ^ 8 + src)) with fc := { u.fc with chipResetDue := true } } else u) := fun u hu =>
    touches_ite ((hu.then (touches_wrN_carried A u (a := Reg.FC_RST_CAUSE) _ (by decide))).then (touches_parts A _ _ _ _ _ _)) hu
  refine h1 _ ?_
  refine Touches.then ?_ (touches_ite_left (touches_optReset A _ _ _))
  refine Touches.then ?_ (touches_ite_left ((touches_set_carried A _ Fld.FC_EVT_ESCALATE _ (by decide)).then (touches_signal A _ _ _)))
  refine Touches.then ?_ (touches_signal A _ _ _)
  refine Touches.then ?_ (touches_set_carried A _ Fld.FC_EVT_FAULT _ (by decide))
  refine Touches.then ?_ (touches_set_carried A _ _ _ hc)
  exact (touches_wrN_carried A s (a := Reg.FC_PEND) _ (by decide)).then (touches_parts A _ _ _ _ _ _)

/-- One occurrence of a fault source changes nothing but what an event carries. -/
theorem touches_raiseFault (A : Nat → Prop) (s : State) {src : Nat} (inst : Nat) (forced : Bool) (h : src < 27) :
    Touches A s (s.raiseFault src inst forced) := by
  have c1 : carried (Reg.FC_SRCs_CNT src) = true := carried_of_page (by unfold pageOf Reg.FC_SRCs_CNT; omega)
  have c2 : carried (Reg.FC_SRCs_CONSEQ src) = true := carried_of_page (by unfold pageOf Reg.FC_SRCs_CONSEQ; omega)
  unfold State.raiseFault
  split
  · exact touches_bump_carried A s c1
  · split
    · exact ((touches_bump_carried A s (by decide)).then (touches_emitWith A _ _ _ _ _ _ _ _)).then (touches_enterSafe A _)
    · split
      · have h1 := (touches_bump_carried A s c2).then (touches_emitWith A _ false 0x3C 2 "FAULT" src true forced)
        dsimp only
        split
        · exact h1.then (touches_faultNotice A _ _ _ _ _ _ _ _ _)
        · exact h1
      · have h1 := (touches_bump_carried A s c1).then (touches_fcWindow A _ src)
        dsimp only
        refine Touches.then ?_ (touches_refreshFc A _)
        refine Touches.then ?_ (touches_ite_left (touches_faultNotice A _ _ _ _ _ _ _ _ _))
        refine Touches.then ?_ (touches_fcReact A _ _ _ _ _ _)
        refine Touches.then ?_ (touches_emitWith A _ _ _ _ _ _ _ _)
        exact h1.then (touches_ite_left (((touches_wrN_carried A _ (a := Reg.FC_SEVERE) _ (by decide)).then
          (touches_set_carried A _ Fld.FC_EVT_SEVERE _ (by decide))).then (touches_signal A _ _ _)))

theorem lt_of_ite_some {c : Prop} [Decidable c] {x src : Nat} {y : Option Nat} (hx : x < 27) (hy : y = some src → src < 27)
    (h : (if c then some x else y) = some src) : src < 27 := by
  split at h
  · injection h with h; omega
  · exact hy h

theorem faultOfEvent_lt {page bit src : Nat} : State.faultOfEvent page bit = some src → src < 27 := by
  unfold State.faultOfEvent
  iterate 18 refine lt_of_ite_some (by decide) ?_
  exact fun h => nomatch h

/-- An event bit changes its page's EVT word, and what an event carries. -/
theorem touches_raiseEvt {A : Nat → Prop} (s : State) {page : Nat} (bit : Nat) (forced : Bool) (h : A (page * 0x1000 + 0x10)) :
    Touches A s (s.raiseEvt page bit forced) := by
  unfold State.raiseEvt
  have h1 := (writes_wrN s (setBitAt (s.rdN (page * 0x1000 + 0x10)) bit) h).touches.then (touches_signal A _ page bit)
  dsimp only
  split
  · rename_i src hs
    exact h1.then (touches_raiseFault A _ _ _ (faultOfEvent_lt hs))
  · exact h1

theorem touches_evt {A : Nat → Prop} (s : State) (f : Fld) (h : A (pageOf f.addr * 0x1000 + 0x10)) : Touches A s (s.evt f) :=
  touches_raiseEvt s _ _ h

/-- The EVT word of a page after one of its events: the bit is set, and stays. -/
theorem rdN_raiseEvt (s : State) (page bit : Nat) (forced : Bool) (hc : carried (page * 0x1000 + 0x10) = false) (hb : bit < 32) :
    (s.raiseEvt page bit forced).rdN (page * 0x1000 + 0x10) = setBitAt (s.rdN (page * 0x1000 + 0x10)) bit := by
  have hlt : setBitAt (s.rdN (page * 0x1000 + 0x10)) bit < 2 ^ 32 :=
    Nat.or_lt_two_pow (s.rdN_lt _) (Nat.pow_lt_pow_right (by decide) hb)
  have h1 : ((s.wrN (page * 0x1000 + 0x10) (setBitAt (s.rdN (page * 0x1000 + 0x10)) bit)).signal page bit).rdN (page * 0x1000 + 0x10) =
      setBitAt (s.rdN (page * 0x1000 + 0x10)) bit := by
    have h2 := (touches_signal (fun _ => False) (s.wrN (page * 0x1000 + 0x10) (setBitAt (s.rdN (page * 0x1000 + 0x10)) bit)) page bit).2
      (page * 0x1000 + 0x10) id hc
    unfold State.rdN at h2 ⊢
    rw [h2]
    show ((s.wrN _ _).rdN _) = _
    rw [State.rdN_wrN_same]
    exact Nat.mod_eq_of_lt hlt
  unfold State.raiseEvt
  dsimp only
  split
  · rename_i src hs
    have h3 := (touches_raiseFault (fun _ => False) ((s.wrN (page * 0x1000 + 0x10) (setBitAt (s.rdN (page * 0x1000 + 0x10)) bit)).signal page bit)
      (State.instanceOf page) forced (faultOfEvent_lt hs)).2 (page * 0x1000 + 0x10) id hc
    exact (congrArg BitVec.toNat h3).trans h1
  · exact h1

/-- An event field of a page that events do not reach from elsewhere is set by its source. -/
theorem flag_evt_same (s : State) (f : Fld) (h : f.addr = pageOf f.addr * 0x1000 + 0x10) (hc : carried f.addr = false) (hb : f.lo < 32)
    (hw : f.width = 1) : (s.evt f).flag f = true := by
  unfold State.flag State.get State.evt
  rw [h] at hc
  have h1 := rdN_raiseEvt s (pageOf f.addr) f.lo false hc hb
  rw [← h] at h1
  rw [h1, hw]
  unfold bitsOf setBitAt
  have h2 : ((s.rdN f.addr ||| 2 ^ f.lo) / 2 ^ f.lo) % 2 ^ 1 = 1 := by
    have h3 : (s.rdN f.addr ||| 2 ^ f.lo).testBit f.lo = true := by simp
    rw [Nat.testBit_eq_decide_div_mod_eq] at h3
    simpa using h3
  rw [h2]
  decide

/-- Words that an event leaves. -/
theorem rd_evt_other (s : State) (f : Fld) {a : Nat} (h : a ≠ pageOf f.addr * 0x1000 + 0x10) (hc : carried a = false) :
    (s.evt f).rd a = s.rd a :=
  (touches_evt (A := fun b => b = pageOf f.addr * 0x1000 + 0x10) s f rfl).2 a h hc

theorem get_evt_other (s : State) (f g : Fld) (h : g.addr ≠ pageOf f.addr * 0x1000 + 0x10) (hc : carried g.addr = false) :
    (s.evt f).get g = s.get g := by
  unfold State.get State.rdN
  rw [rd_evt_other s f h hc]

theorem flag_evt_other (s : State) (f g : Fld) (h : g.addr ≠ pageOf f.addr * 0x1000 + 0x10) (hc : carried g.addr = false) :
    (s.evt f).flag g = s.flag g := by
  unfold State.flag
  rw [get_evt_other s f g h hc]

@[simp] theorem evt_pending (s : State) (f : Fld) : (s.evt f).pending = s.pending := (touches_evt (A := fun _ => True) s f trivial).pending
@[simp] theorem evt_latches (s : State) (f : Fld) : (s.evt f).latches = s.latches := (touches_evt (A := fun _ => True) s f trivial).latches
@[simp] theorem evt_staging (s : State) (f : Fld) : (s.evt f).staging = s.staging := (touches_evt (A := fun _ => True) s f trivial).staging
@[simp] theorem evt_readData (s : State) (f : Fld) : (s.evt f).readData = s.readData := (touches_evt (A := fun _ => True) s f trivial).readData
@[simp] theorem evt_tc (s : State) (f : Fld) : (s.evt f).tc = s.tc := (touches_evt (A := fun _ => True) s f trivial).tc
@[simp] theorem evt_whl (s : State) (f : Fld) : (s.evt f).whl = s.whl := (touches_evt (A := fun _ => True) s f trivial).whl
@[simp] theorem evt_cfg (s : State) (f : Fld) : (s.evt f).cfg = s.cfg := (touches_evt (A := fun _ => True) s f trivial).cfg
@[simp] theorem evt_snapDue (s : State) (f : Fld) : (s.evt f).snapDue = s.snapDue := (touches_evt (A := fun _ => True) s f trivial).snapDue
@[simp] theorem evt_dram (s : State) (f : Fld) : (s.evt f).dram = s.dram := (touches_evt (A := fun _ => True) s f trivial).dram
@[simp] theorem evt_hostMem (s : State) (f : Fld) : (s.evt f).hostMem = s.hostMem := (touches_evt (A := fun _ => True) s f trivial).hostMem
@[simp] theorem evt_rs (s : State) (f : Fld) : (s.evt f).rs = s.rs := (touches_evt (A := fun _ => True) s f trivial).rs
@[simp] theorem evt_ho (s : State) (f : Fld) : (s.evt f).ho = s.ho := (touches_evt (A := fun _ => True) s f trivial).ho
@[simp] theorem evt_eb (s : State) (f : Fld) : (s.evt f).eb = s.eb := (touches_evt (A := fun _ => True) s f trivial).eb
@[simp] theorem evt_gn (s : State) (f : Fld) : (s.evt f).gn = s.gn := (touches_evt (A := fun _ => True) s f trivial).gn
@[simp] theorem evt_sh (s : State) (f : Fld) : (s.evt f).sh = s.sh := (touches_evt (A := fun _ => True) s f trivial).sh
@[simp] theorem evt_ports (s : State) (f : Fld) : (s.evt f).ports = s.ports := (touches_evt (A := fun _ => True) s f trivial).ports
@[simp] theorem evt_sw (s : State) (f : Fld) : (s.evt f).sw = s.sw := (touches_evt (A := fun _ => True) s f trivial).sw
@[simp] theorem evt_pc (s : State) (f : Fld) : (s.evt f).pc = s.pc := (touches_evt (A := fun _ => True) s f trivial).pc
@[simp] theorem evt_cv (s : State) (f : Fld) : (s.evt f).cv = s.cv := (touches_evt (A := fun _ => True) s f trivial).cv
@[simp] theorem evt_outs (s : State) (f : Fld) : (s.evt f).outs = s.outs := (touches_evt (A := fun _ => True) s f trivial).outs
@[simp] theorem evt_ls (s : State) (f : Fld) : (s.evt f).ls = s.ls := (touches_evt (A := fun _ => True) s f trivial).ls
@[simp] theorem evt_links (s : State) (f : Fld) : (s.evt f).links = s.links := (touches_evt (A := fun _ => True) s f trivial).links
@[simp] theorem evt_dvMs (s : State) (f : Fld) : (s.evt f).dvMs = s.dvMs := (touches_evt (A := fun _ => True) s f trivial).dvMs
@[simp] theorem evt_ks (s : State) (f : Fld) : (s.evt f).ks = s.ks := (touches_evt (A := fun _ => True) s f trivial).ks
@[simp] theorem evt_pe (s : State) (f : Fld) : (s.evt f).pe = s.pe := (touches_evt (A := fun _ => True) s f trivial).pe
@[simp] theorem evt_ne (s : State) (f : Fld) : (s.evt f).ne = s.ne := (touches_evt (A := fun _ => True) s f trivial).ne
@[simp] theorem evt_ind (s : State) (f : Fld) : (s.evt f).ind = s.ind := (touches_evt (A := fun _ => True) s f trivial).ind
@[simp] theorem evt_boot (s : State) (f : Fld) : (s.evt f).boot = s.boot := (touches_evt (A := fun _ => True) s f trivial).boot

@[simp] theorem emit_pending (s : State) (a b : Nat) (n : String) : (s.emit a b n).pending = s.pending := (touches_emit (fun _ => True) s a b n).pending
@[simp] theorem emit_latches (s : State) (a b : Nat) (n : String) : (s.emit a b n).latches = s.latches := (touches_emit (fun _ => True) s a b n).latches
@[simp] theorem emit_staging (s : State) (a b : Nat) (n : String) : (s.emit a b n).staging = s.staging := (touches_emit (fun _ => True) s a b n).staging
@[simp] theorem emit_readData (s : State) (a b : Nat) (n : String) : (s.emit a b n).readData = s.readData := (touches_emit (fun _ => True) s a b n).readData
@[simp] theorem emit_tc (s : State) (a b : Nat) (n : String) : (s.emit a b n).tc = s.tc := (touches_emit (fun _ => True) s a b n).tc
@[simp] theorem emit_whl (s : State) (a b : Nat) (n : String) : (s.emit a b n).whl = s.whl := (touches_emit (fun _ => True) s a b n).whl
@[simp] theorem emit_cfg (s : State) (a b : Nat) (n : String) : (s.emit a b n).cfg = s.cfg := (touches_emit (fun _ => True) s a b n).cfg
@[simp] theorem emit_snapDue (s : State) (a b : Nat) (n : String) : (s.emit a b n).snapDue = s.snapDue := (touches_emit (fun _ => True) s a b n).snapDue
@[simp] theorem emit_dram (s : State) (a b : Nat) (n : String) : (s.emit a b n).dram = s.dram := (touches_emit (fun _ => True) s a b n).dram
@[simp] theorem emit_hostMem (s : State) (a b : Nat) (n : String) : (s.emit a b n).hostMem = s.hostMem := (touches_emit (fun _ => True) s a b n).hostMem
@[simp] theorem emit_rs (s : State) (a b : Nat) (n : String) : (s.emit a b n).rs = s.rs := (touches_emit (fun _ => True) s a b n).rs
@[simp] theorem emit_ho (s : State) (a b : Nat) (n : String) : (s.emit a b n).ho = s.ho := (touches_emit (fun _ => True) s a b n).ho
@[simp] theorem emit_eb (s : State) (a b : Nat) (n : String) : (s.emit a b n).eb = s.eb := (touches_emit (fun _ => True) s a b n).eb
@[simp] theorem emit_gn (s : State) (a b : Nat) (n : String) : (s.emit a b n).gn = s.gn := (touches_emit (fun _ => True) s a b n).gn
@[simp] theorem emit_sh (s : State) (a b : Nat) (n : String) : (s.emit a b n).sh = s.sh := (touches_emit (fun _ => True) s a b n).sh
@[simp] theorem emit_ports (s : State) (a b : Nat) (n : String) : (s.emit a b n).ports = s.ports := (touches_emit (fun _ => True) s a b n).ports
@[simp] theorem emit_sw (s : State) (a b : Nat) (n : String) : (s.emit a b n).sw = s.sw := (touches_emit (fun _ => True) s a b n).sw
@[simp] theorem emit_pc (s : State) (a b : Nat) (n : String) : (s.emit a b n).pc = s.pc := (touches_emit (fun _ => True) s a b n).pc
@[simp] theorem emit_cv (s : State) (a b : Nat) (n : String) : (s.emit a b n).cv = s.cv := (touches_emit (fun _ => True) s a b n).cv
@[simp] theorem emit_outs (s : State) (a b : Nat) (n : String) : (s.emit a b n).outs = s.outs := (touches_emit (fun _ => True) s a b n).outs
@[simp] theorem emit_ls (s : State) (a b : Nat) (n : String) : (s.emit a b n).ls = s.ls := (touches_emit (fun _ => True) s a b n).ls
@[simp] theorem emit_links (s : State) (a b : Nat) (n : String) : (s.emit a b n).links = s.links := (touches_emit (fun _ => True) s a b n).links
@[simp] theorem emit_dvMs (s : State) (a b : Nat) (n : String) : (s.emit a b n).dvMs = s.dvMs := (touches_emit (fun _ => True) s a b n).dvMs
@[simp] theorem emit_ks (s : State) (a b : Nat) (n : String) : (s.emit a b n).ks = s.ks := (touches_emit (fun _ => True) s a b n).ks
@[simp] theorem emit_pe (s : State) (a b : Nat) (n : String) : (s.emit a b n).pe = s.pe := (touches_emit (fun _ => True) s a b n).pe
@[simp] theorem emit_ne (s : State) (a b : Nat) (n : String) : (s.emit a b n).ne = s.ne := (touches_emit (fun _ => True) s a b n).ne
@[simp] theorem emit_ind (s : State) (a b : Nat) (n : String) : (s.emit a b n).ind = s.ind := (touches_emit (fun _ => True) s a b n).ind
@[simp] theorem emit_boot (s : State) (a b : Nat) (n : String) : (s.emit a b n).boot = s.boot := (touches_emit (fun _ => True) s a b n).boot

/-- An event of the journal alone changes no register. -/
@[simp] theorem emit_rd (s : State) (a b : Nat) (n : String) (x : Nat) : (s.emit a b n).rd x = s.rd x := by
  unfold State.emit State.emitWith
  split <;> rfl

@[simp] theorem emit_rdN (s : State) (a b : Nat) (n : String) (x : Nat) : (s.emit a b n).rdN x = s.rdN x := by
  unfold State.rdN
  rw [emit_rd]

@[simp] theorem emit_get (s : State) (a b : Nat) (n : String) (f : Fld) : (s.emit a b n).get f = s.get f := by
  unfold State.get
  rw [emit_rdN]

@[simp] theorem emit_flag (s : State) (a b : Nat) (n : String) (f : Fld) : (s.emit a b n).flag f = s.flag f := by
  unfold State.flag
  rw [emit_get]

theorem touches_setActive (A : Nat → Prop) (s : State) (src : Nat) (b : Bool) : Touches A s (s.setActive src b) :=
  touches_wrN_carried A s _ (by decide)

end Sys2Proof.Machine
end

