-- ==== Sys2Proof/Laws/Bus.lean ====
section
/-! SUPPORT. What a register access does once it has passed the fabric's checks, and what the mirroring of its registers leaves. -/

namespace Sys2Proof.Machine

namespace State

theorem result_reach (s : State) (r0 : Requester) (w : Word) (n : Nat) (req : Requester) (ap : Aperture) (page : Nat) :
    (s.result r0 w n).reach req ap page = s.reach req ap page := rfl

/-- A write that is admitted takes its register's effect, and a mirroring holder looks at its words (R421). -/
theorem busWriteWith_admitted {s : State} {req : Requester} {ap : Aperture} {a : Nat} {r : RegRow} (f : State → State)
    (h : s.Admits req ap a) (hr : findRow a = some r) (hm : r.rw ||| r.rwl ||| r.w1c ||| r.wo ||| r.rsv ≠ 0) :
    s.busWriteWith req ap a f = f (s.result req 0 0) := by
  obtain ⟨h1, h2⟩ := h
  obtain ⟨hs, hc, hl⟩ := h2 r hr
  unfold busWriteWith
  simp only [result_reach, h1, hr, guarded, hm, if_false]
  rw [if_neg (by decide)]
  have e1 : (secureOnly a r && !isSecurePath req ap) = false := by
    cases h3 : secureOnly a r <;> simp_all
  have e2 : (r.cfg && a ≠ Reg.CFG_CTL && (s.result req 0 0).flag Fld.CFG_STAT_WIN_OPEN && !(s.result req 0 0).ownsWindow req) = false := by
    have e3 : (s.result req 0 0).ownsWindow req = s.ownsWindow req := rfl
    rw [e3, result_flag]
    by_cases h5 : a = Reg.CFG_CTL
    · simp [h5]
    · cases h3 : r.cfg <;> cases h4 : s.flag Fld.CFG_STAT_WIN_OPEN <;> simp_all
  have e4 : (s.result req 0 0).fcLocked a r = false := hl
  rw [if_neg (by rw [e1]; decide), if_neg (by rw [e2]; decide), if_neg (by rw [e4]; decide)]

/-- A whole-word write that is admitted (R34, R38). -/
theorem writeAt_admitted {s : State} {req : Requester} {ap : Aperture} {a : Nat} {r : RegRow} (v : Nat)
    (h : s.Admits req ap a) (hr : findRow a = some r) (hm : r.rw ||| r.rwl ||| r.w1c ||| r.wo ||| r.rsv ≠ 0)
    (h4 : a % 4 = 0) (hi : pageOf a ≠ 2) :
    s.writeAt req ap a v = ((s.result req 0 0).wrKnown req a r (v % 2 ^ 32)).mirrorWatch := by
  have hg := busWriteWith_admitted (fun t => t.wrKnown req a r (v % 2 ^ 32)) h hr hm
  have h7 : ¬(s.result req 0 0).reach req ap (a / 0x1000) < 2 := by
    rw [result_reach]
    show ¬s.reach req ap (pageOf a) < 2
    rw [h.1]; decide
  have ha : addrOf ⟨req, ap, a / 0x1000, a % 0x1000, 15⟩ = a := by
    simp only [addrOf]; omega
  have h5 : a % 0x1000 % 4 = 0 := by omega
  have h6 : ¬0x1000 ≤ a % 0x1000 := by omega
  have h8 : a / 0x1000 ≠ 2 := hi
  unfold busWriteWith at hg
  dsimp only at hg
  rw [if_neg (show ¬(s.result req 0 0).reach req ap (pageOf a) < 2 from h7)] at hg
  unfold writeAt wordAccess busWrite
  simp only [ha, hr, BitVec.toNat_ofNat] at hg ⊢
  rw [if_neg h7, if_neg (by simp [h5, h6]), if_neg (by simp [h8]), hg]

/-- The mirroring of registers changes nothing but the lease's queue. -/
theorem mirQueue_same (s : State) (a b : Nat) (l : List Nat) : { s.mirQueue a b l with ls := s.ls } = s := by
  unfold mirQueue
  split
  · rfl
  · dsimp only
    split <;> rfl

theorem mirrorWatch_same (s : State) : { s.mirrorWatch with ls := s.ls } = s := by
  have key : ∀ (t : State) (a b : Nat) (l : List Nat) (x : Lease), { t with ls := s.ls } = s → { (t.setLs x).mirQueue a b l with ls := s.ls } = s := by
    intro t a b l x ht
    have h := mirQueue_same (t.setLs x) a b l
    rw [← ht]
    exact congrArg (fun y : State => { y with ls := s.ls }) h
  unfold mirrorWatch
  split
  · rfl
  · dsimp only
    split
    · split
      · rfl
      · exact key _ _ _ _ _ rfl
    · split
      · exact key _ _ _ _ _ rfl
      · exact key _ _ _ _ _ (key _ _ _ _ _ rfl)

theorem mirrorWatch_regs (s : State) : s.mirrorWatch.regs = s.regs := by
  have h := congrArg State.regs (mirrorWatch_same s)
  exact h

@[simp] theorem mirrorWatch_rd (s : State) (a : Nat) : s.mirrorWatch.rd a = s.rd a := by
  unfold rd; rw [mirrorWatch_regs]

@[simp] theorem mirrorWatch_rdN (s : State) (a : Nat) : s.mirrorWatch.rdN a = s.rdN a := by
  unfold rdN; rw [mirrorWatch_rd]

@[simp] theorem mirrorWatch_get (s : State) (f : Fld) : s.mirrorWatch.get f = s.get f := by
  unfold get; rw [mirrorWatch_rdN]

@[simp] theorem mirrorWatch_flag (s : State) (f : Fld) : s.mirrorWatch.flag f = s.flag f := by
  unfold flag; rw [mirrorWatch_get]

end State

/-- What an admitted write touches, with the requester's answer and the mirroring. -/
theorem accesses_of_touches {A : Nat → Prop} {s u : State} {req : Requester} (h : Touches A (s.result req 0 0) u) : Accesses A s u.mirrorWatch := by
  have hm := State.mirrorWatch_same u
  have h1 := h.1
  refine ⟨?_, fun a ha hc => (State.mirrorWatch_rd u a).trans (h.2 a ha hc)⟩
  generalize u.mirrorWatch = v at hm
  have hr : v.readData = (s.result req 0 0).readData := by
    have e1 := congrArg State.readData hm
    have e2 := congrArg State.readData h1
    exact e1.trans e2
  have e3 := congrArg (fun x : State => { x with
    regs := s.regs, freeCtr := s.freeCtr, fc := s.fc, jn := s.jn, msix := s.msix, pips := s.pips, ls := v.ls, readData := v.readData }) hm
  have e4 := congrArg (fun x : State => { x with ls := v.ls, readData := v.readData }) h1
  exact e3.trans e4

end Sys2Proof.Machine
end

