-- ==== Sys2Proof/Laws/Memory.lean ====
section
/-! SUPPORT. The laws of the sparse byte memories (DRAM, host memory): a byte read after a store, and the canonical form. -/

namespace Sys2Proof.Machine

theorem memByte_drop_same (m : List Host.Cell) (a : Nat) : memByte (memDrop m a) a = 0 := by
  induction m with
  | nil => rfl
  | cons e r ih =>
    obtain ⟨k, v⟩ := e
    by_cases h : k = a <;> simp [memDrop, memByte, h, ih]

theorem memByte_drop_other (m : List Host.Cell) {a b : Nat} (h : b ≠ a) : memByte (memDrop m a) b = memByte m b := by
  induction m with
  | nil => rfl
  | cons e r ih =>
    obtain ⟨k, v⟩ := e
    by_cases h1 : k = a
    · simp [memDrop, memByte, h1, ih, Ne.symm h]
    · by_cases h2 : k = b <;> simp [memDrop, memByte, h1, h2, ih, h]

theorem memByte_insert_same (m : List Host.Cell) (a : Nat) (b : Byte) : memByte (memInsert m a b) a = b := by
  induction m with
  | nil => simp [memInsert, memByte]
  | cons e r ih =>
    obtain ⟨k, v⟩ := e
    unfold memInsert
    by_cases h : k = a
    · simp [h, memByte]
    · by_cases h2 : a < k <;> simp [h, h2, memByte, ih]

theorem memByte_insert_other (m : List Host.Cell) {a b : Nat} (x : Byte) (h : b ≠ a) : memByte (memInsert m a x) b = memByte m b := by
  induction m with
  | nil => simp [memInsert, memByte, Ne.symm h]
  | cons e r ih =>
    obtain ⟨k, v⟩ := e
    unfold memInsert
    by_cases h1 : k = a
    · simp [h1, memByte, Ne.symm h]
    · by_cases h2 : a < k <;> simp [h1, h2, memByte, ih, Ne.symm h]

/-- A byte read where it was stored. -/
@[simp] theorem memByte_memStore_same (m : List Host.Cell) (a : Nat) (b : Byte) : memByte (memStore m a b) a = b := by
  unfold memStore
  split
  · rename_i h
    rw [memByte_drop_same, h]
  · exact memByte_insert_same m a b

/-- A store leaves every other byte. -/
theorem memByte_memStore_other (m : List Host.Cell) {a b : Nat} (x : Byte) (h : b ≠ a) : memByte (memStore m a x) b = memByte m b := by
  unfold memStore
  split
  · exact memByte_drop_other m h
  · exact memByte_insert_other m x h

/-- A store of several bytes leaves every byte outside them. -/
theorem memByte_storeList_outside (l : List Byte) (m : List Host.Cell) {a b : Nat} (h : b < a ∨ a + l.length ≤ b) :
    memByte (memStoreList m a l) b = memByte m b := by
  induction l generalizing m a with
  | nil => rfl
  | cons x r ih =>
    simp only [List.length_cons] at h
    rw [memStoreList, ih _ (by omega), memByte_memStore_other _ _ (by omega)]

/-- A byte read within a store of several. -/
theorem memByte_storeList_inside (l : List Byte) (m : List Host.Cell) (a : Nat) {k : Nat} (h : k < l.length) :
    memByte (memStoreList m a l) (a + k) = l.getD k 0 := by
  induction l generalizing m a k with
  | nil => simp at h
  | cons x r ih =>
    rw [memStoreList]
    cases k with
    | zero => rw [memByte_storeList_outside _ _ (by omega)]; simp
    | succ n => rw [show a + (n + 1) = a + 1 + n by omega, ih _ _ (by simpa using h)]; simp

/-! ### The canonical form -/

theorem memWf_iff (m : List Host.Cell) : memWf m = true ↔ m.Pairwise (fun x y => x.1 < y.1) ∧ ∀ e ∈ m, e.2 ≠ 0 := by
  simp only [memWf, Bool.and_eq_true, decide_eq_true_eq, List.all_eq_true, bne_iff_ne]

theorem mem_memDrop {m : List Host.Cell} {a : Nat} {e : Host.Cell} (h : e ∈ memDrop m a) : e ∈ m := by
  induction m with
  | nil => simp [memDrop] at h
  | cons x r ih =>
    obtain ⟨k, v⟩ := x
    unfold memDrop at h
    split at h
    · exact List.mem_cons_of_mem _ (ih h)
    · rcases List.mem_cons.1 h with rfl | h
      · simp
      · exact List.mem_cons_of_mem _ (ih h)

theorem memDrop_sorted {m : List Host.Cell} (a : Nat) (h : m.Pairwise (fun x y => x.1 < y.1)) :
    (memDrop m a).Pairwise (fun x y => x.1 < y.1) := by
  induction m with
  | nil => exact List.Pairwise.nil
  | cons x r ih =>
    have h' := List.pairwise_cons.1 h
    unfold memDrop
    split
    · exact ih h'.2
    · exact List.pairwise_cons.2 ⟨fun e he => h'.1 e (mem_memDrop he), ih h'.2⟩

theorem mem_memInsert {m : List Host.Cell} {a : Nat} {b : Byte} {e : Host.Cell} (h : e ∈ memInsert m a b) : e ∈ m ∨ e = (a, b) := by
  induction m with
  | nil => simpa [memInsert] using h
  | cons x r ih =>
    obtain ⟨k, v⟩ := x
    unfold memInsert at h
    split at h
    · rcases List.mem_cons.1 h with h | h
      · exact .inr h
      · exact .inl (List.mem_cons_of_mem _ h)
    · split at h
      · rcases List.mem_cons.1 h with h | h
        · exact .inr h
        · exact .inl h
      · rcases List.mem_cons.1 h with h | h
        · exact .inl (by simp [h])
        · exact (ih h).imp (List.mem_cons_of_mem _) id

theorem memInsert_sorted {m : List Host.Cell} (a : Nat) (b : Byte) (h : m.Pairwise (fun x y => x.1 < y.1)) :
    (memInsert m a b).Pairwise (fun x y => x.1 < y.1) := by
  induction m with
  | nil => simp [memInsert]
  | cons x r ih =>
    obtain ⟨k, v⟩ := x
    have h' := List.pairwise_cons.1 h
    unfold memInsert
    split
    · rename_i hk
      subst hk
      exact List.pairwise_cons.2 ⟨h'.1, h'.2⟩
    · rename_i hk
      split
      · rename_i hlt
        refine List.pairwise_cons.2 ⟨fun e he => ?_, h⟩
        rcases List.mem_cons.1 he with rfl | he
        · exact hlt
        · exact Nat.lt_trans hlt (h'.1 e he)
      · rename_i hge
        refine List.pairwise_cons.2 ⟨fun e he => ?_, ih h'.2⟩
        rcases mem_memInsert he with he | rfl
        · exact h'.1 e he
        · exact Nat.lt_of_le_of_ne (Nat.le_of_not_lt hge) hk

/-- A store keeps the canonical form. -/
theorem memWf_memStore {m : List Host.Cell} (h : memWf m = true) (a : Nat) (b : Byte) : memWf (memStore m a b) = true := by
  rw [memWf_iff] at h ⊢
  unfold memStore
  split
  · exact ⟨memDrop_sorted a h.1, fun e he => h.2 e (mem_memDrop he)⟩
  · rename_i hb
    refine ⟨memInsert_sorted a b h.1, fun e he => ?_⟩
    rcases mem_memInsert he with he | rfl
    · exact h.2 e he
    · exact hb

/-- A store of several bytes keeps the canonical form. -/
theorem memWf_memStoreList (l : List Byte) {m : List Host.Cell} (h : memWf m = true) (a : Nat) : memWf (memStoreList m a l) = true := by
  induction l generalizing m a with
  | nil => exact h
  | cons b r ih => exact ih (memWf_memStore h a b) (a + 1)

end Sys2Proof.Machine
end

