-- ==== Sys2Proof/WellFormed.lean ====
section
/-! DEFINITION. The commands whose operands lie in the ranges the spec gives them. A step is defined on every command; this says which terms
stand for something that can happen. -/

namespace Sys2Proof

/-- An access names one of the 512 pages and a byte offset within it, with four byte enables (R33, R38). -/
def Access.wf (x : Access) : Bool := x.page < 512 && x.offset < 0x1000 && x.be < 16

/-- A satellite's PRN is 1 to 63, the numbers that RAIM bars and predictions can name (R162, R168). -/
def Sat.wf (x : Sat) : Bool := 1 ≤ x.prn && x.prn < 64

/-- An Ethernet frame without its FCS: a whole header, and no more than is received of a frame beyond the largest PTp_MAXLEN, 9,216 bytes (R255). -/
def frameWf (b : List Byte) : Bool := 14 ≤ b.length && b.length ≤ 9213

/-- A command's operands lie in their ranges. -/
def Instr.wf : Instr → Bool
  | .registerWrite x _ | .lowerWordRead x | .lowerWordWrite x _ | .upperWordWrite x _ | .indAddrWrite x _ | .indDataRead x
  | .indDataWrite x _ | .outputCfgWrite x _ => x.wf
  | .w1cClear _ _ _ _ hw => hw < 2 ^ 32
  | .acqSearch _ sat _ | .raimBarExpiry _ sat | .navRecord _ _ sat _ _ _ _ => sat.wf
  | .frameReceive _ b _ | .ntpRequest _ _ b | .delayReq _ _ b | .pdelayReq _ _ b | .announceReceive _ b | .signaling _ b
  | .clientSync _ _ b | .clientFollowUp _ b | .clientDelayResp _ _ _ b | .clientGrant _ b => frameWf b
  | .calPassComplete _ hist _ _ => hist.length = 1024
  | .delayLineCal _ delays => delays.length = 64
  | .grantEdge gap | .heartbeatEdge _ gap => 0 < gap
  | .crewellReceive b => b.length ≤ 1514
  | _ => true

end Sys2Proof
end

