-- ==== Sys2Proof/Tests/Slice0.lean ====
section
/-! SUPPORT. Tests: terms that well-formedness refuses, states and operands that meet the hypotheses of the statements, and the spec's own examples on
one step or one operation each. -/

namespace Sys2Proof.Tests

open Sys2Proof Sys2Proof.Machine

/-! ### States and checks -/

/-- The block READY, with BAR2 enabled (R35, R506). -/
def up : State := ((State.reset.set Fld.SYS_BOOT_STAGE 5).setB Fld.SYS_BOOT_READY true).setB Fld.SYS_SECURE_EN_EN true

/-- `up` with TCLK present, TIME_STATE LOCKED. -/
def timed : State := (up.setB Fld.TC_STAT_TCLK_OK true).set Fld.TC_STAT_STATE 2

/-- The host's change window is open. -/
def windowed : State := (((up.setB Fld.CFG_STAT_WIN_OPEN true).set Fld.CFG_STAT_OWNER_REQ 0).set Fld.CFG_STAT_OWNER_PIP 0)

/-- `State.Admits` as a test. -/
def admitsB (s : State) (req : Requester) (ap : Aperture) (a : Nat) : Bool :=
  s.reach req ap (pageOf a) == 2 &&
    match findRow a with
    | none => true
    | some r => (!secureOnly a r || isSecurePath req ap) &&
        (!r.cfg || a == Reg.CFG_CTL || !s.flag Fld.CFG_STAT_WIN_OPEN || s.ownsWindow req) && !s.fcLocked a r

theorem admits_of_admitsB {s : State} {req : Requester} {ap : Aperture} {a : Nat} (h : admitsB s req ap a = true) : s.Admits req ap a := by
  unfold admitsB at h
  refine ⟨by simp_all, fun r hr => ?_⟩
  rw [hr] at h
  simp only [Bool.and_eq_true, Bool.or_eq_true, Bool.not_eq_true', beq_iff_eq] at h
  obtain ⟨-, ⟨h1, h2⟩, h3⟩ := h
  refine ⟨fun h4 => ?_, fun h4 h5 h6 => ?_, h3⟩
  · rcases h1 with h1 | h1
    · rw [h1] at h4; cases h4
    · exact h1
  · rcases h2 with ((h2 | h2) | h2) | h2
    · rw [h2] at h4; cases h4
    · exact absurd h2 h5
    · rw [h2] at h6; cases h6
    · exact h2

/-- `State.KeepsReserved` as a test. -/
def keepsB (s : State) (a v : Nat) : Bool :=
  match findRow a with
  | none => true
  | some r => (s.rdN a ^^^ v) &&& r.rsv == 0

theorem keeps_of_keepsB {s : State} {a v : Nat} (h : keepsB s a v = true) : s.KeepsReserved a v := by
  intro r hr
  unfold keepsB at h
  rw [hr] at h
  exact beq_iff_eq.mp h

/-! ### Well-formedness refuses each ill-formed operand -/

theorem test_wf_page_refused : (Instr.registerWrite ⟨.host, .bar0, 512, 0, 15⟩ 0).wf = false := by decide
theorem test_wf_offset_refused : (Instr.lowerWordRead ⟨.host, .bar0, 4, 0x1000, 15⟩).wf = false := by decide
theorem test_wf_enables_refused : (Instr.upperWordWrite ⟨.mgmt, .other, 4, 0x4C, 16⟩ 0).wf = false := by decide
theorem test_wf_collision_refused : (Instr.w1cClear .host .bar0 4 0 (2 ^ 32)).wf = false := by decide
theorem test_wf_prn_refused : (Instr.raimBarExpiry 0 ⟨0, 0⟩).wf = false ∧ (Instr.raimBarExpiry 0 ⟨0, 64⟩).wf = false := by decide
theorem test_wf_frame_refused :
    (Instr.signaling 0 (List.replicate 13 0)).wf = false ∧ frameWf (List.replicate 14 0) = true ∧ frameWf (List.replicate 9214 0) = false := by
  decide +kernel
theorem test_wf_histogram_refused : (Instr.calPassComplete 0 [] [] 0).wf = false := by decide +kernel
theorem test_wf_delays_refused : (Instr.delayLineCal 0 []).wf = false := by decide +kernel
theorem test_wf_gap_refused : (Instr.grantEdge 0).wf = false ∧ (Instr.heartbeatEdge true 0).wf = false := by decide
theorem test_wf_crewell_refused : (Instr.crewellReceive (List.replicate 1515 0)).wf = false := by decide +kernel
theorem test_wf_accepts : (Instr.registerWrite ⟨.host, .bar0, 511, 0xFFC, 15⟩ 0).wf = true ∧ (Instr.raimBarExpiry 1 ⟨2, 63⟩).wf = true := by decide

/-! ### The interface of the block -/

/-- No word spells a command, and a state keeps its queue. -/
theorem test_no_word_spells_a_command (n w : Nat) : decodeTableWord n w = none ∧ State.reset.withFetchWord n w = State.reset := ⟨rfl, rfl⟩

/-! ### The hypotheses of the statements are met: registers -/

/-- Registers of commands that the statements assume are admitted. -/
def commandRegs : List Nat :=
  [Reg.TC_INCR_SW_L, Reg.TC_INCR_SW_H, Reg.TC_SLEW_OFS_L, Reg.TC_SLEW_OFS_H, Reg.TC_SLOPE, Reg.TC_STEP_CTL, Reg.TC_UTC_CTL, Reg.TRGn_CMD 0, Reg.TRGn_CMD 31,
   Reg.TC_CAPn_CMD 0, Reg.TC_CAPn_CMD 7, Reg.CFG_CTL, Reg.RSn_CMD 0, Reg.RSn_CMD 11, Reg.RS11_HCMD, Reg.RS_INNER_BW, Reg.RS_OUTER_BW, Reg.HO_CMD,
   Reg.GN_PRED_CMD, Reg.GN_LEAP_CMD, Reg.GN_OSN_CMD, Reg.GN_FE_XFER, Reg.SH_CMD, Reg.SH_MB_CMD, Reg.PTp_CMD 0, Reg.PTp_CMD 15, Reg.SW_RXr_TAIL 0,
   Reg.SW_TXr_TAIL 15, Reg.SW_LAG_CMD, Reg.PE_TBL_QIDX, Reg.NE_MQ_TAIL, Reg.NE_ROT_CMD, Reg.PPk_CMD 0, Reg.PPk_CMD 27, Reg.PPk_MBOX_CMD 27, Reg.OUn_COMP 0,
   Reg.OUn_COMP 15, Reg.LS_CMD, Reg.JN_HEVT_CMD, Reg.FC_FORCE, Reg.FC_PEND, Reg.CVn_CMD 1, Reg.CVn_CMD 3, Reg.CVn_CTX 1, Reg.CK_PWR_CMD]

theorem commandRegs_admitted : commandRegs.all (fun a => admitsB up .host .bar2 a) = true := by decide +kernel

/-- Every command register is open to the host through BAR2 once the block is READY. -/
theorem witness_admitted (a : Nat) (h : a ∈ commandRegs) : up.Admits .host .bar2 a :=
  admits_of_admitsB (List.all_eq_true.mp commandRegs_admitted a h)

/-- The image's registers answer the management interface before READY. -/
theorem witness_image_admitted : State.reset.Admits .mgmt .bar0 Reg.SYS_IMG_DATA ∧ State.reset.Admits .mgmt .bar0 Reg.SYS_IMG_CMD :=
  ⟨admits_of_admitsB (by decide +kernel), admits_of_admitsB (by decide +kernel)⟩

/-- A Pip's write to a trigger is admitted by the fabric, and denied by the trigger (R88). -/
theorem witness_pip_admitted : up.Admits (.pip 3) .other (Reg.TRGn_CMD 31) := admits_of_admitsB (by decide +kernel)

theorem witness_reserved_kept : up.KeepsReserved Reg.TC_STEP_CTL 1 ∧ up.KeepsReserved Reg.TC_STEP_CTL 5 ∧ up.KeepsReserved Reg.TC_STEP_CTL 2 ∧
    up.KeepsReserved Reg.CFG_CTL 1 ∧ up.KeepsReserved Reg.CFG_CTL 2 ∧ up.KeepsReserved Reg.CFG_CTL 4 ∧ up.KeepsReserved Reg.CFG_CTL 8 :=
  ⟨keeps_of_keepsB (by decide +kernel), keeps_of_keepsB (by decide +kernel), keeps_of_keepsB (by decide +kernel), keeps_of_keepsB (by decide +kernel),
    keeps_of_keepsB (by decide +kernel), keeps_of_keepsB (by decide +kernel), keeps_of_keepsB (by decide +kernel)⟩

theorem witness_not_owned : [Reg.TC_SLOPE, Reg.RS_INNER_BW, Reg.RS_OUTER_BW, Reg.OUn_COMP 0, Reg.OUn_COMP 15].all (fun a => up.ownedMask a == 0) = true := by
  decide +kernel

theorem witness_pages_answer :
    up.reach .host .bar0 2 = 2 ∧ up.reach (.pip 0) .other 2 = 2 ∧ up.reach .host .bar0 4 ≠ 0 ∧ up.reach .mgmt .other 6 ≠ 0 ∧ up.reach .jtag .other 7 ≠ 0 ∧
      timed.tc.now ≤ timeMax ∧ up.heldByOther 27 = false := by decide +kernel

/-- A plain register: EB_SVC_LIMIT takes its value by the fields' access types. -/
theorem witness_plain_write : ∃ r, findRow Reg.EB_SVC_LIMIT = some r ∧ r.rw ||| r.w1c ||| r.wo ||| r.rsv ≠ 0 ∧ r.rwl = 0 ∧
    wholeWord ⟨.host, .bar0, 0x48, Reg.EB_SVC_LIMIT % 0x1000, 15⟩ ∧ up.Admits .host .bar0 Reg.EB_SVC_LIMIT ∧ up.KeepsReserved Reg.EB_SVC_LIMIT 5 ∧ up.ownedMask Reg.EB_SVC_LIMIT = 0 ∧
    ∀ t : State, t.wrKnown .host Reg.EB_SVC_LIMIT r 5 = t.wrWord .host Reg.EB_SVC_LIMIT r 5 :=
  ⟨(findRow Reg.EB_SVC_LIMIT).get (by decide +kernel), by decide +kernel, by decide +kernel, by decide +kernel, by unfold wholeWord; decide +kernel,
    admits_of_admitsB (by decide +kernel), keeps_of_keepsB (by decide +kernel), by decide +kernel, fun _ => rfl⟩

/-- An access through BAR0 by the host to a whole word of page 0x048. -/
theorem witness_bad_write : up.reach .host .bar0 0x48 = 2 ∧ (2 : Nat) % 4 ≠ 0 := by decide +kernel

/-- The host's window is open, and the management interface writes a configuration word. -/
theorem witness_locked_write : ∃ r, findRow Reg.TC_SLOPE = some r ∧ r.cfg = true ∧ r.rw ||| r.rwl ||| r.w1c ||| r.wo ||| r.rsv ≠ 0 ∧ Reg.TC_SLOPE ≠ Reg.CFG_CTL ∧
    wholeWord ⟨.mgmt, .other, 4, Reg.TC_SLOPE % 0x1000, 15⟩ ∧ windowed.reach .mgmt .other 4 = 2 ∧ secureOnly Reg.TC_SLOPE r = false ∧
    windowed.flag Fld.CFG_STAT_WIN_OPEN = true ∧ windowed.ownsWindow .mgmt = false ∧ windowed.ownsWindow .host = true :=
  ⟨(findRow Reg.TC_SLOPE).get (by decide +kernel), by decide +kernel, by decide +kernel, by decide +kernel, by decide +kernel, by unfold wholeWord; decide +kernel,
    by decide +kernel, by decide +kernel, by decide +kernel, by decide +kernel, by decide +kernel⟩

/-- The window's owner may commit, and abandon while no commit is busy; nobody holds a window in `up`. -/
theorem witness_windows : windowed.Admits .host .bar0 Reg.CFG_CTL ∧ windowed.KeepsReserved Reg.CFG_CTL 2 ∧ windowed.KeepsReserved Reg.CFG_CTL 4 ∧
    windowed.flag Fld.CFG_STAT_COMMIT_BUSY = false ∧ up.flag Fld.CFG_STAT_WIN_OPEN = false ∧
    ({ up with cfg := { up.cfg with scanning := true } } : State).cfg.scanning = true :=
  ⟨admits_of_admitsB (by decide +kernel), keeps_of_keepsB (by decide +kernel), keeps_of_keepsB (by decide +kernel), by decide +kernel, by decide +kernel, rfl⟩

/-- The event bits of the time core's page collide, are forced, and are not carried; its RECUR register can be cleared. -/
theorem witness_event_page : ∃ r w f, findRow (4 * 0x1000 + 0x10) = some r ∧ r.w1c.testBit 0 = true ∧ r.rwl = 0 ∧ carried (4 * 0x1000 + 0x10) = false ∧
    up.Admits .host .bar0 (4 * 0x1000 + 0x10) ∧ up.KeepsReserved (4 * 0x1000 + 0x10) 1 ∧ up.ownedMask (4 * 0x1000 + 0x10) = 0 ∧
    (∀ t : State, t.wrKnown .host (4 * 0x1000 + 0x10) r 1 = t.wrWord .host (4 * 0x1000 + 0x10) r 1) ∧
    findRow (4 * 0x1000 + 0x20) = some w ∧ w.wo ≠ 0 ∧ up.Admits .host .bar0 (4 * 0x1000 + 0x20) ∧
    findRow (4 * 0x1000 + 0x18) = some f ∧ f.wo ≠ 0 ∧ up.Admits .host .bar2 (4 * 0x1000 + 0x18) :=
  ⟨(findRow (4 * 0x1000 + 0x10)).get (by decide +kernel), (findRow (4 * 0x1000 + 0x20)).get (by decide +kernel), (findRow (4 * 0x1000 + 0x18)).get (by decide +kernel),
    by decide +kernel, by decide +kernel, by decide +kernel, by decide +kernel, admits_of_admitsB (by decide +kernel), keeps_of_keepsB (by decide +kernel),
    by decide +kernel, fun _ => rfl, by decide +kernel, by decide +kernel, admits_of_admitsB (by decide +kernel), by decide +kernel, by decide +kernel,
    admits_of_admitsB (by decide +kernel)⟩

/-- The lower word of JN_HEVT_P staged by the host. -/
def stagedUp : State := up.stage .host Reg.JN_HEVT_P_L 7

theorem pair_writes_both (t : State) (l r : RegRow) (h : findRow Reg.JN_HEVT_P_L = some l) :
    t.wrPair .host Reg.JN_HEVT_P_H r 7 9 = (t.wrWord .host Reg.JN_HEVT_P_L l 7).wrWord .host Reg.JN_HEVT_P_H r 9 := by
  have e : Reg.JN_HEVT_P_H - 4 = Reg.JN_HEVT_P_L := by decide
  have hr : t.ringBusy Reg.JN_HEVT_P_H = false := rfl
  have hu : decide (Reg.JN_HEVT_P_H = Reg.TC_UTC_EFF_H) = false := by decide
  have hc : (decide (0xE0 ≤ pageOf Reg.JN_HEVT_P_H) && decide (pageOf Reg.JN_HEVT_P_H ≤ 0xE3)) = false := by decide
  unfold State.wrPair
  rw [if_neg (by decide), if_neg (by decide), hu, Bool.false_and, if_neg (by decide), hr, if_neg (by decide), hc, if_neg (by decide), e, h]

theorem witness_pairs : ∃ l r, findRow Reg.JN_HEVT_P_L = some l ∧ findRow Reg.JN_HEVT_P_H = some r ∧ pairLow Reg.JN_HEVT_P_L = true ∧
    pairLow Reg.JN_HEVT_P_H = false ∧ l.rw = 0xFFFFFFFF ∧ r.rw = 0xFFFFFFFF ∧ l.rwl ||| l.w1c ||| l.rsv ||| r.rwl ||| r.w1c ||| r.rsv = 0 ∧
    up.Admits .host .bar0 Reg.JN_HEVT_P_L ∧ stagedUp.Admits .host .bar0 Reg.JN_HEVT_P_H ∧ up.staged .host Reg.JN_HEVT_P_L = none ∧
    stagedUp.staged .host Reg.JN_HEVT_P_L = some 7 ∧ stagedUp.ownedMask Reg.JN_HEVT_P_L = 0 ∧ stagedUp.ownedMask Reg.JN_HEVT_P_H = 0 ∧
    (∀ t : State, t.wrPair .host Reg.JN_HEVT_P_H r 7 9 = (t.wrWord .host Reg.JN_HEVT_P_L l 7).wrWord .host Reg.JN_HEVT_P_H r 9) ∧
    up.reach .jtag .other 0xD0 ≠ 0 ∧ wholeWord ⟨.jtag, .other, 0xD0, Reg.JN_HEVT_P_L % 0x1000, 15⟩ :=
  ⟨(findRow Reg.JN_HEVT_P_L).get (by decide +kernel), (findRow Reg.JN_HEVT_P_H).get (by decide +kernel), by decide +kernel, by decide +kernel, by decide +kernel,
    by decide +kernel, by decide +kernel, by decide +kernel, by decide +kernel, admits_of_admitsB (by decide +kernel), admits_of_admitsB (by decide +kernel),
    by decide +kernel, by decide +kernel, by decide +kernel, by decide +kernel, fun t => pair_writes_both t _ _ (by decide +kernel), by decide +kernel,
    by unfold wholeWord; decide +kernel⟩

/-- The holding of indirect set 2: free, and held by Pip 5. -/
theorem witness_holds : up.get (Fld.IND_STAT_OWNER 2) = 0xFF ∧ (up.set (Fld.IND_STAT_OWNER 2) 5).get (Fld.IND_STAT_OWNER 2) = 5 ∧
    (up.set (Fld.IND_STAT_OWNER 2) 5).reach (.pip 5) .other 2 = 2 := by decide +kernel

/-! ### The hypotheses of the statements are met: states -/

theorem witness_queue : ({ up with pending := [.eventSnapshot] } : State).pending = .eventSnapshot :: [] ∧ up.pending = [] ∧ up.safe = false ∧
    up.fc.chipResetDue = false := ⟨rfl, by decide +kernel, by decide +kernel, by decide +kernel⟩

/-- The safe state with every port fenced. -/
def safeUp : State := (List.range 16).foldl (fun s p => s.setB (Fld.PTp_STAT_FENCED p) true) (up.setB Fld.FC_STAT_SAFE true)

/-- The invariants stand in `safeUp`, and a step answers from it. -/
theorem witness_invariants : safeUp.safe = true ∧ safeUp.GatesFollow ∧ safeUp.LinksEnabled ∧ safeUp.SafeIsStill ∧ ∃ t, step safeUp = .next t := by
  have h : safeUp.pending = [] := by decide +kernel
  refine ⟨by decide +kernel, ?_, ?_, ?_, ⟨_, by unfold step; rw [h]⟩⟩
  · show ∀ p, p < 16 → _; decide +kernel
  · show ∀ k, k < 4 → _; decide +kernel
  · show _ → _; decide +kernel

theorem witness_not_consequential : [10, 14, 15, 17, 19, 20, 21, 24].all (fun k => !up.consequential k) = true ∧ up.enterSafe.safe = true := by decide +kernel

/-- A request that waits for the next frame. -/
theorem witness_withheld :
    ({ up with whl := { up.whl with withheld := [.hostRxDelivery] } } : State).whl.withheld[0]? = some .hostRxDelivery ∧ Instr.hostRxDelivery.mayWait = true :=
  ⟨rfl, rfl⟩

/-- An antenna that is on, its interface OK, with no satellite. -/
theorem witness_no_satellite :
    let s := ((up.setB Fld.GN_CTL_EN true).setB Fld.GN_CTL_ANTB_EN true).setB Fld.GN_STAT_GIFB_OK true
    s.antOn 1 = true ∧ s.gifOk 1 = true ∧ s.satFixes 1 [] = [] := by decide +kernel

/-- An armed one-shot trigger of the host: neither a Pip's nor another owner's (R88). -/
theorem witness_trigger : up.trgOwner 31 = 0 ∧ up.flag (Fld.TRGn_CFG_MODE 31) = false := by decide +kernel

/-- Rule 0 of Pip 0 matches every frame, and sends it to port 5 with priority 3. -/
def ruled : State := (up.wrN (Reg.PPk_RULEj_KEY 0 0) (2 ^ 31 + 3 * 2 ^ 28)).wrN (Reg.PPk_RULEj_ACT 0 0) (2 ^ 5 + 3 * 2 ^ 20)

/-- A frame of EtherType 0x88B5. -/
def plainFrame : List Byte := List.replicate 12 2 ++ [0x88, 0xB5] ++ List.replicate 46 0

theorem witness_rule : ruled.classify 0 (ruled.rxForm 0 plainFrame).1 = .direct (2 ^ 5) 3 0 0 ∧ 2 ^ 5 % 2 ^ 20 ≠ 0 ∧
    ruled.resolveLag (2 ^ 5) (ruled.rxForm 0 plainFrame).1 = ([5], []) ∧ ruled.swAdmits 5 3 (cellsOf (ruled.maxLen 0)) = true ∧
    (ruled.wrN (Reg.PPk_RULEj_ACT 0 0) 0).classify 0 plainFrame = .direct 0 0 0 0 := by decide +kernel

/-- Both ports up and open, cut-through on for them. -/
def cutting : State :=
  ((((((ruled.setB Fld.SW_CTL_CT_EN true).wrN Reg.SW_CT_PORTS 0x21).setB (Fld.PTp_STAT_LINK 0) true).setB (Fld.PTp_STAT_LINK 5) true).setB
    (Fld.PTp_STAT_TX_GATE 5) true).setB Fld.TC_STAT_TCLK_OK true)

theorem witness_cut_through :
    let x := 2 ^ 60
    cutting.classify 0 (cutting.rxForm 0 plainFrame).1 = .direct (2 ^ 5) 3 0 0 ∧ (cutting.resolveLag (2 ^ 5) plainFrame).1 = [5] ∧
      beAt plainFrame 12 2 ≠ 0x8808 ∧ cutting.cutPorts 0 5 = true ∧ cutting.mayStart 5 x plainFrame = true ∧ cutting.slotClear 5 x (cutting.maxLen 0) = true ∧
      ptpEvent plainFrame = none ∧ followUpOf plainFrame = none ∧ cutting.safe = false ∧ 5 < cutting.ports.length := by decide +kernel

/-- A frame for port 5, as it waits in the switch core. -/
def waitingReplica : Replica := ⟨0, 0, 5, plainFrame, 3, 0, 0, none, none, 1, 0, none, none⟩

/-- It waits at its port, at the host's, and at an engine's, and nothing else does. -/
def queued (p : Nat) : State := { cutting with sw := { cutting.sw with queues := cutting.sw.queues.modify p (fun _ => [{ waitingReplica with dest := p }]) } }

theorem witness_queue_heads :
    (queued 5).queueHead 5 = some { waitingReplica with dest := 5 } ∧ (queued 5).aged { waitingReplica with dest := 5 } = false ∧ ((queued 5).port 5).next = none ∧
      (queued 5).linkUp 5 = true ∧ (queued 5).gateOpen 5 = true ∧ (queued 5).tcDrop { waitingReplica with dest := 5 } = false ∧
      (queued 16).queueHead 16 = some { waitingReplica with dest := 16 } ∧ (queued 18).queueHead 18 = some { waitingReplica with dest := 18 } ∧
      ({ queued 5 with tc := { (queued 5).tc with cycle := 2 ^ 40 } } : State).aged { waitingReplica with dest := 5 } = true := by decide +kernel

/-- A receive ring of eight descriptors, all of them the device's, and one without any. -/
def ringUp : State := (((up.setB (Fld.SW_RXr_CFG_EN 15) true).set (Fld.SW_RXr_CFG_LOG2SIZE 15) 3).wrN (Reg.SW_RXr_TAIL 15) 7)

theorem witness_rings : ringUp.flag (Fld.SW_RXr_CFG_EN 15) = true ∧ 1 ≤ ringUp.rxAvail 15 ∧ (ringUp.admitFor 5 64).1 = true ∧ (ringUp.admitFor 5 (2 ^ 40)).1 = false ∧
    (ringUp.wrN (Reg.SW_RXr_TAIL 15) 0).rxAvail 15 < 1 ∧ up.flag (Fld.SW_RXr_CFG_EN 15) = false := by decide +kernel

/-- A PTP message over Ethernet with 54 octets after its header's start. -/
def ptpFrame : List Byte := List.replicate 12 1 ++ [0x88, 0xF7, 0x01] ++ List.replicate 53 0

theorem witness_ptp : ptpOff ptpFrame = some 14 ∧ up.halted = false ∧ up.svcAuth 0 = 0 ∧ up.flag Fld.EB_CTL_TLV_EN = false ∧ (ptpSource ptpFrame 14).length = 10 ∧
    0 ≤ ((2 ^ 40 : Nat) : Int) - up.rxExt 0 ∧ (((2 ^ 40 : Nat) : Int) - up.rxExt 0) / 65536 < 2 ^ 48 * 1000000000 := by decide +kernel

/-- A client of service 0, and the table with its first grant, for Announce. -/
def someClient : ClientKey := ⟨0, 0, 0, [1, 2, 3, 4], [5, 6], 7⟩
def granted : State := (up.grantOne someClient 0 false 0xB 0 300).2

theorem witness_grants : State.grantType 9 = some 2 ∧ up.logRange 0 = (-7, 4) ∧
    (granted.lookup someClient).1.any (fun i => (granted.tblEntry i).length == 16 && entryGranted (granted.tblEntry i) 0) = true ∧
    bitsOf (granted.rdN Reg.PE_GRANT) 16 16 ≤ 300 ∧ granted.pe.commit + rate16 0 ≤ granted.rdN Reg.PE_RATE_MAX * 2 * granted.get Fld.PE_CAP_LANES := by
  decide +kernel

/-- A valid snapshot is in force, and a plain NTP request of 48 octets waits for its launch. -/
def answering : State := { timed with eb := { timed.eb with snap := some ⟨1, 0, 1000, 0, true, 2, 0, 0⟩ } }
def ntpJob : LaunchJob :=
  ⟨17, 0, 0, 94, List.replicate 12 1 ++ [0x08, 0x00, 0x45] ++ List.replicate 8 0 ++ [17] ++ List.replicate 15 0 ++ [56, 0, 0] ++ [0x23] ++ List.replicate 47 0, [0], 10000⟩

theorem witness_ntp : answering.validSnap = some ⟨1, 0, 1000, 0, true, 2, 0, 0⟩ ∧ ntpJob.kind = 0 ∧ beAt (udpPayload ntpJob.tmpl) 0 1 = 0x23 ∧
    answering.wantsBound ⟨udpPayload ntpJob.tmpl, (ntpFields 100 (udpPayload ntpJob.tmpl) 48).getD []⟩ = false := by decide +kernel

/-- The rate check on, its unit admitted, and its class spent. -/
def rated : State := (up.setB Fld.NE_CTL_RATE_EN true).wrN Reg.NE_RATE_LIM 5

theorem witness_rates : rated.flag Fld.NE_CTL_RATE_EN = true ∧ rated.admits 13 1 = true ∧
    ({ rated with whl := { rated.whl with spent := rated.whl.spent.set 13 (2 ^ 60) } } : State).admits 13 1 = false := by decide +kernel

/-- Key-store commands by the host: GENERATE of a symmetric key into slot 3, DERIVE from it, EXPORT and INVALIDATE. -/
def ksJob (op slot parent arg0 : Nat) (input : List Byte) : KsJob := ⟨.host, op, slot, parent, arg0, 0, input, false, false⟩
def keyed : State :=
  let s := (up.setB Fld.KS_STAT_DRBG_OK true).setKs { up.ks with lc := 1 }
  (s.ksRun (ksJob 1 3 0 (2 ^ 28 + 63 * 2 ^ 22 + 7 * 2 ^ 12 + 63 * 2 ^ 16) [])).2.2

theorem witness_keys : keyed.slotValid 3 = true ∧ keyed.lcEff ≠ 4 ∧ keyed.drbgOk = true ∧ (keyed.ksRun (ksJob 2 4 3 (2 ^ 28) [0, 0])).1 = 0 ∧
    keyed.flag (Fld.KS_SLOTs_ATTR0_EXPORTABLE 3) = false ∧ (keyed.ksRun (ksJob 9 3 0 0 [])).1 = 0 ∧ keyed.descends 3 8 3 = true ∧
    (keyed.setKs { keyed.ks with lc := 4 }).lcEff = 4 := by decide +kernel

/-- A Pip that runs, and one of service at its last cycle. -/
def piping : State := (up.setB (Fld.PPk_STAT_RUNNING 3) true).setB (Fld.PPk_STAT_RUNNING 25) true

theorem witness_pips : piping.canIssue 3 (0x01 * 2 ^ 26) 1 = true ∧ piping.pipReady 25 (0x01 * 2 ^ 26) = true ∧ (piping.pip 25).block < 1 ∧
    ({ piping with whl := { piping.whl with spent := piping.whl.spent.set 6 (2 ^ 60) } } : State).admits 6 64 = false ∧
    (∀ r, r < 16 → piping.p 3 r < 2 ^ 32) ∧ memWf (piping.pip 3).dmem = true ∧ (piping.pip 3).queue = [] ∧ 3 < piping.pips.length ∧
    piping.pipAlive 3 = true ∧ (piping.pip 3).inbox.length < 16 ∧ up.pipReady 3 0 = false := by decide +kernel

/-- STAMP at the edges of its operands, and accesses that set ERR or meet it. -/
theorem witness_stamp_and_err : piping.canIssue 3 (0x31 * 2 ^ 26 + 14 * 2 ^ 22 + 1) 1 = true ∧ piping.canIssue 3 (0x31 * 2 ^ 26 + 15 * 2 ^ 22) 1 = true ∧
    piping.canIssue 3 (0x31 * 2 ^ 26 + 14 * 2 ^ 22 + 2) 1 = true ∧ up.flag (Fld.IND_STAT_ERR 0) = false ∧
    (up.wrIndAddr 0 .bar0 0xFF000000).flag (Fld.IND_STAT_ERR 0) = true ∧ (up.setB (Fld.IND_STAT_ERR 0) true).reach .host .bar0 2 = 2 := by decide +kernel

/-- An output in IRIG-B mode whose Pip runs the ROM's generator; the frame of second 37 of the epoch has 7 and 3 as its digits. -/
def irig : State :=
  ((up.setB (Fld.PPk_STAT_RUNNING 8) true).setB (Fld.PPk_IMG_ROM 8) true).set (Fld.PPk_IMG_ROMID 8) 1 |>.modOut 0 (fun o => { o with cfg := { o.cfg with mode := 3 } })
theorem witness_irig : irig.outGen 0 = true ∧ (irig.out 0).cfg.mode = 3 := by decide +kernel
theorem test_irig_date : State.yearDay 19782 = (2024, 60) ∧ State.yearDay 0 = (1970, 1) ∧ State.yearDay (-1) = (1969, 365) := by decide +kernel
theorem test_irig_marks : ((irig.irigFrameOf 37 4).take 10) = [8, 5, 5, 5, 2, 2, 5, 5, 2, 8] := by decide +kernel

/-- Routes over link 0 and over another, an output's lag that returns, and the arbiter bus without authentication. -/
theorem witness_links_and_lag : (up.get (Fld.UL_ROUTEe_LINK 127)) = 0 ∧ (up.set (Fld.UL_ROUTEe_LINK 127) 1).get (Fld.UL_ROUTEe_LINK 127) = 1 ∧
    timed.tc.slew = 0 ∧ timed.counting = true ∧ 0 < State.lagRate 1 ∧ up.flag Fld.AB_CTL_AUTH = false := by decide +kernel

/-- The journal: an open block, room for a record, and an event that is late. -/
def journalling : State := { up with jn := { up.jn with blocks := [JBlock.fresh 0 0 0 0 0 false false 0], lastKey := some (0, 100, 0, 0) } }
def oldEvent : JEvent := ⟨50, 0, 0x60, 1, false, false, 0, 12, [], false⟩

theorem witness_journal : journalling.extCount oldEvent = 0 ∧ journalling.stageUsed + 32 ≤ State.stageSize ∧ journalling.admits 1 32 = true ∧
    keyLt (oldEvent.epoch, oldEvent.stamp, oldEvent.source, journalling.jn.arrivals) (0, 100, 0, 0) = true ∧ lowest [(4, oldEvent)] = some (4, oldEvent) := by
  decide +kernel

/-- An export of the ring, and one of the sketch. -/
theorem witness_exports :
    (let s := ((up.setB Fld.JN_EXP_CFG_EN true).wr64 Reg.JN_WR_L 64)
     (State.exportNext { s with jn := { s.jn with ring := [⟨0, 64, false⟩] } }).map (fun f => (f.typ, f.count, f.next)) = some (0, 0, 64) ∧
     (State.exportNext { s with jn := { s.jn with ring := [⟨0, 64, true⟩] } }).map (fun f => (f.typ, f.count, f.next)) = some (0, 0, 64)) ∧
    (State.exportNext { up with jn := { up.jn with skExport := 100 } }).map (fun f => (f.typ, f.count, f.next)) = some (1, 1048476, 1048576) := by
  decide +kernel

/-- A Pip record of one instruction word for Pip 27. -/
theorem witness_pip_record : pipRecordOk ([0x50, 0x49, 0x50, 0x50, 27, 0, 0, 0, 1, 0, 0, 0, 0, 1, 0, 0] ++ List.replicate 56 0) = true := by decide +kernel

/-- A reset that holds, and one that does not. -/
theorem witness_held : (up.porstAssert).boot.held = true ∧ up.boot.held = false := by decide +kernel

/-! ### The spec's own examples -/

/-- R494: CRC-32C over the first four bytes of "123456789", then over the other five with CHAIN, gives 0xE3069283. -/
theorem test_crc_in_two_parts :
    cvResult 3 0xFFFFFFFF (cvRun 3 0x1EDC6F41 (cvRun 3 0x1EDC6F41 0xFFFFFFFF [0x31, 0x32, 0x33, 0x34]) [0x35, 0x36, 0x37, 0x38, 0x39]) = 0xE3069283 := by
  decide +kernel

/-- R481: the example's first three rows. PORT_HW takes IRQ; SW_BUF escalates to NMI, and again to BLOCK_RESET of the switch core, whose shadow covers
targets 5, 6, 8 and 9. -/
def loadedUp : State := { up with fc := { up.fc with baseLoaded := true } }
theorem test_escalation :
    let s1 := loadedUp.raiseFault 15 2 false
    let s2 := s1.raiseFault 16 0 false
    let s3 := s2.raiseFault 16 0 false
    s1.get (Fld.FC_CLASSc_LAST 5) = 1 ∧ s1.rdN Reg.FC_PEND = 0x8000 ∧ s2.get (Fld.FC_CLASSc_LAST 5) = 2 ∧ s2.flag Fld.FC_STAT_NMI = true ∧
      s3.get (Fld.FC_CLASSc_LAST 5) = 3 ∧ s3.rdN Reg.FC_SHADOW = 0x360 ∧ s3.consequential 19 = true := by decide +kernel

/-- The last row: the acknowledgement of both sources clears the class. -/
theorem test_acknowledged :
    let s := ((loadedUp.raiseFault 15 2 false).raiseFault 16 0 false).wrPend 0x18000
    s.rdN Reg.FC_PEND = 0 ∧ s.get (Fld.FC_CLASSc_LAST 5) = 0 ∧ s.flag Fld.FC_STAT_NMI = false := by decide +kernel

/-- R500: 10 MHz within ±0.5 % is class 1; 10.06 MHz is none. -/
theorem test_osc_classes : oscClass 10050000 = some 1 ∧ oscClass 10060000 = none ∧ oscClass 100000000 = some 3 := by decide +kernel

/-- R390 (the example's words): LUI p4, 0x000F as the image holds it. -/
def lone : State := piping.modPip 3 (fun p => { p with imem := [0x5D00000F] })
theorem test_lui_word : lone.canIssue 3 (0x17 * 2 ^ 26 + 4 * 2 ^ 22 + 0xF) 1 = true ∧ ((lone.issued 3 1).setP 3 4 (0xF * 2 ^ 16)).p 3 4 = 0xF0000 := by
  decide +kernel

/-- R38: a byte-wide write is no write, and counts. -/
theorem test_bad_access_counts : (up.busWrite ⟨.host, .bar0, 4, 0x48, 3⟩ 1).rdN Reg.SYS_BADACC = 1 := by decide +kernel

/-- R42: a pair written in the other order does nothing. -/
theorem test_upper_word_alone : (up.writeAt .host .bar0 Reg.JN_HEVT_P_H 9).rd64 Reg.JN_HEVT_P_L = 0 ∧
    ((up.writeAt .host .bar0 Reg.JN_HEVT_P_L 7).writeAt .host .bar0 Reg.JN_HEVT_P_H 9).rd64 Reg.JN_HEVT_P_L = 9 * 2 ^ 32 + 7 := by decide +kernel

/-- R65: one TCLK cycle of a nominal increment is 1 ns; an absent TCLK leaves time where it is. -/
theorem test_one_cycle : (timed.advance 1).tc.now = 2 ^ 48 ∧ (up.advance 1).tc.now = 0 := by decide +kernel

end Sys2Proof.Tests
end

section
/-! SUPPORT. Further laws of words and fields: counters, pairs and fields beside the one that is written. -/

namespace Sys2Proof.Machine

namespace State

theorem flag_set_other (s : State) (f g : Fld) (v : Nat) (hf : f.lo + f.width ≤ 32)
    (h : g.addr ≠ f.addr ∨ g.lo + g.width ≤ f.lo ∨ f.lo + f.width ≤ g.lo) : (s.set f v).flag g = s.flag g := by
  unfold flag
  rw [get_set_other s f g v hf h]

/-- Equal words have equal fields. -/
theorem rdN_of_rd {s t : State} {a : Nat} (h : t.rd a = s.rd a) : t.rdN a = s.rdN a := congrArg BitVec.toNat h

theorem get_of_rd {s t : State} {f : Fld} (h : t.rd f.addr = s.rd f.addr) : t.get f = s.get f := by
  unfold get
  rw [rdN_of_rd h]

theorem flag_of_rd {s t : State} {f : Fld} (h : t.rd f.addr = s.rd f.addr) : t.flag f = s.flag f := by
  unfold flag
  rw [get_of_rd h]

/-- A counter that holds at 0xFFFF_FFFF after it counted one. -/
theorem rdN_bump_same (s : State) (a : Nat) : (s.bump a).rdN a = oneMore (s.rdN a) := by
  unfold bump bumpBy wrSat satNat oneMore
  rw [rdN_wrN_same]
  omega

theorem rd_bump_other (s : State) {a b : Nat} (h : b ≠ a) : (s.bump a).rd b = s.rd b := rd_wrN_other s _ h

theorem rdN_bump_other (s : State) {a b : Nat} (h : b ≠ a) : (s.bump a).rdN b = s.rdN b := rdN_wrN_other s _ h

theorem get_bump_other (s : State) (f : Fld) {a : Nat} (h : f.addr ≠ a) : (s.bump a).get f = s.get f := get_wrN_other s f _ h

theorem flag_bump_other (s : State) (f : Fld) {a : Nat} (h : f.addr ≠ a) : (s.bump a).flag f = s.flag f := flag_wrN_other s f _ h

end State

/-! ### Events -/

/-- An event bit that is set stays set through any event (R43). -/
theorem flag_evt_mono {s : State} {f g : Fld} (hw : g.width = 1) (hc : carried g.addr = false) (hb : f.lo < 32) (h : s.flag g = true) :
    (s.evt f).flag g = true := by
  by_cases ha : g.addr = pageOf f.addr * 0x1000 + 0x10
  · unfold State.flag State.get State.evt at *
    rw [ha] at h hc ⊢
    rw [rdN_raiseEvt s _ _ false hc hb]
    have bit (n : Nat) : (bitsOf n g.lo g.width != 0) = n.testBit g.lo := by
      rw [hw, bitsOf, Nat.testBit_eq_decide_div_mod_eq, Nat.pow_one]
      rcases Nat.mod_two_eq_zero_or_one (n / 2 ^ g.lo) with h | h <;> rw [h] <;> rfl
    rw [bit] at h ⊢
    unfold setBitAt
    rw [Nat.testBit_or, h, Bool.true_or]
  · rw [flag_evt_other s f g ha hc, h]

/-! ### What no event reaches of the fault collector: the sources that are active -/

/-- The level sources that stand in FC_ACTIVE are the same (R474, R477). -/
def KeepsActive (s t : State) : Prop := t.rd Reg.FC_ACTIVE = s.rd Reg.FC_ACTIVE

theorem KeepsActive.refl (s : State) : KeepsActive s s := rfl

theorem KeepsActive.then {s t u : State} (h : KeepsActive s t) (k : KeepsActive t u) : KeepsActive s u := Eq.trans k h

theorem KeepsActive.ite {s t u : State} {c : Prop} [Decidable c] (h : KeepsActive s t) (k : KeepsActive s u) : KeepsActive s (if c then t else u) := by
  split
  · exact h
  · exact k

theorem KeepsActive.ite_left {s t : State} {c : Prop} [Decidable c] (h : KeepsActive s t) : KeepsActive s (if c then t else s) := h.ite (.refl s)

theorem keepsActive_wrN (s : State) {a : Nat} (n : Nat) (h : Reg.FC_ACTIVE ≠ a) : KeepsActive s (s.wrN a n) := State.rd_wrN_other s n h

theorem keepsActive_set (s : State) (f : Fld) (v : Nat) (h : Reg.FC_ACTIVE ≠ f.addr) : KeepsActive s (s.set f v) := keepsActive_wrN s _ h

theorem keepsActive_of_regs {s t : State} (h : t.regs = s.regs) : KeepsActive s t := congrArg (fun r : RegFile => r.word Reg.FC_ACTIVE) h

theorem signal_regs (s : State) (page bit : Nat) : (s.signal page bit).regs = s.regs := by
  unfold State.signal
  split <;> rfl

theorem emitWith_regs (s : State) (full : Bool) (source cls : Nat) (name : String) (payload : Nat) (conseq forced : Bool) :
    (s.emitWith full source cls name payload conseq forced).regs = s.regs := by
  unfold State.emitWith
  split <;> rfl

theorem fcWindow_regs (s : State) (src : Nat) : (s.fcWindow src).2.regs = s.regs := by
  unfold State.fcWindow
  split <;> rfl

theorem keepsActive_refreshFc (s : State) : KeepsActive s s.refreshFc :=
  (((keepsActive_set s _ _ (by decide)).then (keepsActive_set _ _ _ (by decide))).then (keepsActive_set _ _ _ (by decide))).then
    (keepsActive_wrN _ _ (by decide))

theorem keepsActive_tell (s : State) {k : Nat} (hk : k < 28) (m : PipMsg) : KeepsActive s (s.tell k m) := by
  have n1 : Reg.FC_ACTIVE ≠ Reg.PPk_INBOX_OVF k := by unfold Reg.FC_ACTIVE Reg.PPk_INBOX_OVF; omega
  have n2 : Reg.FC_ACTIVE ≠ (Fld.PPk_EVT_INBOX_OVF k).addr := by show _ ≠ Reg.PPk_EVT k; unfold Reg.FC_ACTIVE Reg.PPk_EVT; omega
  unfold State.tell
  refine .ite (.ite (keepsActive_of_regs rfl) ?_) (.ite_left (keepsActive_wrN s _ (by decide)))
  exact ((keepsActive_wrN s _ n1).then (keepsActive_set _ _ _ n2)).then (keepsActive_of_regs (signal_regs _ _ _))

theorem keepsActive_beginBlockReset (s : State) (t inst : Nat) : KeepsActive s (s.beginBlockReset t inst) := by
  have h (u : State) (hu : u.regs = s.regs) : KeepsActive s (u.emit 0x3C 2 "BLOCK_RESET").refreshFc :=
    (keepsActive_of_regs ((emitWith_regs u _ _ _ _ _ _ _).trans hu)).then (keepsActive_refreshFc _)
  unfold State.beginBlockReset
  exact h _ rfl

theorem keepsActive_fcReact (s : State) (src inst level : Nat) (severe esc : Bool) : KeepsActive s (s.fcReact src inst level severe esc) := by
  have nc : Reg.FC_ACTIVE ≠ (Fld.FC_CLASSc_LAST (State.fcClass src)).addr := by
    show _ ≠ Reg.FC_CLASSc (State.fcClass src); unfold Reg.FC_ACTIVE Reg.FC_CLASSc; omega
  have reset (u : State) (t : Option Nat) : KeepsActive u (match t with
      | some t => u.beginBlockReset t inst
      | none => u) := by
    split
    · exact keepsActive_beginBlockReset u _ inst
    · exact .refl u
  unfold State.fcReact
  refine .ite (.refl s) ?_
  have last (u : State) (n : Nat) (c : Collector) (h : KeepsActive s u) :
      KeepsActive s (if level = 4 then { (u.wrN Reg.FC_RST_CAUSE n) with fc := c } else u) :=
    .ite (h.then ((keepsActive_wrN u n (by decide)).then (keepsActive_of_regs rfl))) h
  refine last _ _ _ ?_
  refine .then ?_ (.ite_left (reset _ _))
  refine .then ?_ (.ite_left ((keepsActive_set _ Fld.FC_EVT_ESCALATE _ (by decide)).then (keepsActive_of_regs (signal_regs _ _ _))))
  refine .then ?_ (keepsActive_of_regs (signal_regs _ _ _))
  refine .then ?_ (keepsActive_set _ Fld.FC_EVT_FAULT _ (by decide))
  refine .then ?_ (keepsActive_set _ _ _ nc)
  exact (keepsActive_wrN s _ (by decide)).then (keepsActive_of_regs rfl)

theorem keepsActive_raiseFault (s : State) (src inst : Nat) (forced : Bool) : KeepsActive s (s.raiseFault src inst forced) := by
  have n1 : Reg.FC_ACTIVE ≠ Reg.FC_SRCs_CNT src := by unfold Reg.FC_ACTIVE Reg.FC_SRCs_CNT; omega
  have n2 : Reg.FC_ACTIVE ≠ Reg.FC_SRCs_CONSEQ src := by unfold Reg.FC_ACTIVE Reg.FC_SRCs_CONSEQ; omega
  have notice (u : State) (cls level : Nat) (a b c d e : Bool) : KeepsActive u (u.faultNotice src cls level a b c d e) :=
    keepsActive_tell u (by decide) _
  have emits (u : State) (name : String) (payload : Nat) (a b : Bool) : KeepsActive u (u.emitWith false 0x3C 2 name payload a b) :=
    keepsActive_of_regs (emitWith_regs u _ _ _ _ _ _ _)
  unfold State.raiseFault
  refine .ite (keepsActive_wrN s _ n1) (.ite ?_ (.ite ?_ ?_))
  · exact ((keepsActive_wrN s _ (by decide)).then (emits _ _ _ _ _)).then ((keepsActive_set _ _ _ (by decide)).then (keepsActive_refreshFc _))
  · exact ((keepsActive_wrN s _ n2).then (emits _ _ _ _ _)).then (.ite_left (notice _ _ _ _ _ _ _ _))
  · refine .then ?_ (keepsActive_refreshFc _)
    refine .then ?_ (.ite_left (notice _ _ _ _ _ _ _ _))
    refine .then ?_ (keepsActive_fcReact _ _ _ _ _ _)
    refine .then ?_ (emits _ _ _ _ _)
    refine ((keepsActive_wrN s _ n1).then (keepsActive_of_regs (fcWindow_regs _ _))).then (.ite_left ?_)
    exact ((keepsActive_wrN _ _ (by decide)).then (keepsActive_set _ Fld.FC_EVT_SEVERE _ (by decide))).then
      (keepsActive_of_regs (signal_regs _ _ _))

/-- No event makes a level source appear or go away. -/
theorem keepsActive_evt (s : State) (f : Fld) : KeepsActive s (s.evt f) := by
  have n1 : Reg.FC_ACTIVE ≠ pageOf f.addr * 0x1000 + 0x10 := by unfold Reg.FC_ACTIVE; omega
  have h1 := (keepsActive_wrN s (setBitAt (s.rdN (pageOf f.addr * 0x1000 + 0x10)) f.lo) n1).then (keepsActive_of_regs (signal_regs _ (pageOf f.addr) f.lo))
  unfold State.evt State.raiseEvt
  dsimp only
  split
  · exact h1.then (keepsActive_raiseFault _ _ _ _)
  · exact h1

end Sys2Proof.Machine
end

section
/-! SUPPORT. Register updates and events that raise no fault: they change register words and the interrupts that are signalled, and nothing else. -/

namespace Sys2Proof.Machine

/-- `t` is `s` but for register words of `A` and interrupts. -/
def Marks (A : Nat → Prop) (s t : State) : Prop := { t with regs := s.regs, msix := s.msix } = s ∧ ∀ a, ¬A a → t.rd a = s.rd a

theorem Marks.refl (A : Nat → Prop) (s : State) : Marks A s s := ⟨rfl, fun _ _ => rfl⟩

theorem Marks.mono {A B : Nat → Prop} {s t : State} (h : Marks A s t) (hab : ∀ a, A a → B a) : Marks B s t :=
  ⟨h.1, fun a ha => h.2 a (fun h' => ha (hab a h'))⟩

theorem Marks.then {A : Nat → Prop} {s t u : State} (h : Marks A s t) (k : Marks A t u) : Marks A s u :=
  ⟨(congrArg (fun x : State => { x with regs := s.regs, msix := s.msix }) k.1).trans h.1, fun a ha => (k.2 a ha).trans (h.2 a ha)⟩

theorem Writes.marks {A : Nat → Prop} {s t : State} (h : Writes A s t) : Marks A s t :=
  ⟨(congrArg (fun x : State => { x with regs := s.regs, msix := s.msix }) h.1), h.2⟩

theorem Marks.touches {A : Nat → Prop} {s t : State} (h : Marks A s t) : Touches A s t :=
  ⟨(congrArg (fun x : State => { x with
    regs := s.regs, freeCtr := s.freeCtr, fc := s.fc, jn := s.jn, msix := s.msix, pips := s.pips }) h.1), fun a ha _ => h.2 a ha⟩

theorem Marks.freeCtr {A : Nat → Prop} {s t : State} (h : Marks A s t) : t.freeCtr = s.freeCtr := (congrArg State.freeCtr h.1 :)
theorem Marks.fc {A : Nat → Prop} {s t : State} (h : Marks A s t) : t.fc = s.fc := (congrArg State.fc h.1 :)
theorem Marks.jn {A : Nat → Prop} {s t : State} (h : Marks A s t) : t.jn = s.jn := (congrArg State.jn h.1 :)
theorem Marks.pips {A : Nat → Prop} {s t : State} (h : Marks A s t) : t.pips = s.pips := (congrArg State.pips h.1 :)

theorem Marks.ite_left {A : Nat → Prop} {s t : State} {c : Prop} [Decidable c] (h : Marks A s t) : Marks A s (if c then t else s) := by
  split
  · exact h
  · exact .refl A s

theorem marks_signal (A : Nat → Prop) (s : State) (page bit : Nat) : Marks A s (s.signal page bit) := by
  unfold State.signal
  split
  · exact ⟨rfl, fun _ _ => rfl⟩
  · exact .refl A s

/-- An event bit that raises no fault (R43, R529). -/
theorem marks_raiseEvt {A : Nat → Prop} (s : State) {page bit : Nat} (forced : Bool) (hf : State.faultOfEvent page bit = none)
    (h : A (page * 0x1000 + 0x10)) : Marks A s (s.raiseEvt page bit forced) := by
  unfold State.raiseEvt
  rw [hf]
  exact (writes_wrN s (setBitAt (s.rdN (page * 0x1000 + 0x10)) bit) h).marks.then (marks_signal A _ page bit)

theorem marks_evt {A : Nat → Prop} (s : State) (f : Fld) (hf : State.faultOfEvent (pageOf f.addr) f.lo = none) (h : A (pageOf f.addr * 0x1000 + 0x10)) :
    Marks A s (s.evt f) :=
  marks_raiseEvt s false hf h

end Sys2Proof.Machine
end

section
/-! SUPPORT. The wheel's admission (R102, R103): what an admitted request and a stalled one leave, said once for every command that asks a class. -/

namespace Sys2Proof.Machine

/-- `t` is `s` but for the performance counters and interrupts. -/
def Counted (s t : State) : Prop := Marks (fun a => counterPage a = true) { s with pc := t.pc } t

/-- `t` is `s` but for the wheel's own fields, the performance counters and interrupts. -/
def Spent (s t : State) : Prop := Marks (fun a => counterPage a = true) { s with whl := t.whl, pc := t.pc } t

theorem Counted.refl (s : State) : Counted s s := Marks.refl _ s

theorem Counted.then {s t u : State} (h : Counted s t) (k : Counted t u) : Counted s u :=
  ⟨(congrArg (fun x : State => { x with regs := s.regs, msix := s.msix, pc := u.pc }) k.1).trans (congrArg (fun x : State => { x with pc := u.pc }) h.1),
    fun a ha => (k.2 a ha).trans (h.2 a ha)⟩

theorem counted_of_marks {s t : State} (h : Marks (fun a => counterPage a = true) s t) : Counted s t := by
  have hp : s.pc = t.pc := h.touches.pc.symm
  unfold Counted
  rwa [← hp]

theorem counted_foldl {α : Type} (l : List α) (f : State → α → State) (h : ∀ (t : State) (x : α), x ∈ l → Counted t (f t x)) (s : State) :
    Counted s (l.foldl f s) := by
  induction l generalizing s with
  | nil => exact Counted.refl s
  | cons x r ih => exact (h s x (by simp)).then (ih (fun t y hy => h t y (by simp [hy])) (f s x))

theorem counterPage_of_lt {g n : Nat} (hg : g < 4) (hn : n < 0x1000) : counterPage (0xE0000 + g * 0x1000 + n) = true := by
  have h : pageOf (0xE0000 + g * 0x1000 + n) = 0xE0 + g := by unfold pageOf; omega
  unfold counterPage
  rw [h]
  simp; omega

/-- An overflow of a counter raises no fault (R529). -/
theorem faultOfEvent_counters (g j : Nat) (hg : g < 4) (hj : j < 8) : State.faultOfEvent (0xE0 + g) j = none := by
  have h : ∀ (g : Fin 4) (j : Fin 8), State.faultOfEvent (0xE0 + g.val) j.val = none := by decide
  exact h ⟨g, hg⟩ ⟨j, hj⟩

theorem counted_pcAdd (s : State) {g j : Nat} (n : Nat) (hg : g < 4) (hj : j < 8) : Counted s (s.pcAdd g j n) := by
  have cL : counterPage (Reg.PCg_CNTj_L g j) = true := by
    have h := counterPage_of_lt hg (n := 0x88 + j * 0x10) (by omega)
    rwa [show 0xE0000 + g * 0x1000 + (0x88 + j * 0x10) = Reg.PCg_CNTj_L g j by unfold Reg.PCg_CNTj_L; omega] at h
  have cH : counterPage (Reg.PCg_CNTj_H g j) = true := by
    have h := counterPage_of_lt hg (n := 0x8C + j * 0x10) (by omega)
    rwa [show 0xE0000 + g * 0x1000 + (0x8C + j * 0x10) = Reg.PCg_CNTj_H g j by unfold Reg.PCg_CNTj_H; omega] at h
  have cR : counterPage (Fld.PCg_RUN_RUN g).addr = true := by
    have h := counterPage_of_lt hg (n := 0x40) (by omega)
    rwa [show 0xE0000 + g * 0x1000 + 0x40 = (Fld.PCg_RUN_RUN g).addr by show _ = Reg.PCg_RUN g; unfold Reg.PCg_RUN; omega] at h
  have cE : counterPage ((0xE0 + g) * 0x1000 + 0x10) = true := by
    have h := counterPage_of_lt hg (n := 0x10) (by omega)
    rwa [show 0xE0000 + g * 0x1000 + 0x10 = (0xE0 + g) * 0x1000 + 0x10 by omega] at h
  unfold State.pcAdd
  split
  · exact Counted.refl s
  · have h1 (x y : Nat) : Counted s ((s.wrN (Reg.PCg_CNTj_L g j) x).wrN (Reg.PCg_CNTj_H g j) y) :=
      counted_of_marks ((writes_wrN s x cL).then (writes_wrN _ y cH)).marks
    dsimp only
    split
    · exact h1 _ _
    · have h2 (x y : Nat) := (h1 x y).then (counted_of_marks (marks_raiseEvt _ false (faultOfEvent_counters g j hg hj) cE))
      split
      · exact ((h2 _ _).then (counted_of_marks (writes_set _ (Fld.PCg_RUN_RUN g) 0 cR).marks)).then ⟨rfl, fun _ _ => rfl⟩
      · exact h2 _ _

/-- An event that the counters may select changes nothing else (R486). -/
theorem counted_pcEvent (s : State) (ev inst n : Nat) : Counted s (s.pcEvent ev inst n) := by
  unfold State.pcEvent
  refine counted_foldl _ _ (fun t g hg => ?_) s
  split
  · exact Counted.refl t
  · refine counted_foldl _ _ (fun u j hj => ?_) t
    split
    · exact counted_pcAdd u n (List.mem_range.1 hg) (List.mem_range.1 hj)
    · exact Counted.refl u

theorem Counted.whl {s t : State} (h : Counted s t) : t.whl = s.whl := (Touches.whl (Marks.touches h) :)

theorem Counted.spent {s t : State} (h : Counted s t) : Spent s t := by
  unfold Spent
  rw [h.whl]
  exact h

theorem Spent.refl (s : State) : Spent s s := Marks.refl _ s

theorem Spent.then {s t u : State} (h : Spent s t) (k : Spent t u) : Spent s u :=
  ⟨(congrArg (fun x : State => { x with regs := s.regs, msix := s.msix, pc := u.pc, whl := u.whl }) k.1).trans
    (congrArg (fun x : State => { x with pc := u.pc, whl := u.whl }) h.1), fun a ha => (k.2 a ha).trans (h.2 a ha)⟩

theorem spent_whl (s : State) (w : Wheel) : Spent s { s with whl := w } := ⟨rfl, fun _ _ => rfl⟩

theorem spent_takeFrom (s : State) (i short : Nat) (l : List Nat) : Spent s (s.takeFrom i short l) := by
  induction l generalizing s short with
  | nil => exact Spent.refl s
  | cons j r ih => exact (spent_whl s _).then (ih _ _)

/-- An admitted request spends, and changes nothing else (R102). -/
theorem spent_admitted (s : State) (i c : Nat) : Spent s (s.admitted i c) :=
  ((spent_takeFrom s i _ _).then (spent_whl _ _)).then (counted_pcEvent _ _ _ _).spent

/-- The words that a stall of a class may change: its two, the wheel's event word, and the performance counters. -/
def stallWords (i a : Nat) : Prop := a = Reg.WHLn_STAT i ∨ a = Reg.WHLn_STALLS i ∨ a = Reg.WHL_EVT ∨ counterPage a = true

/-- `t` is `s` but for the wheel's own fields and what a stall of class `i` writes. -/
def Stalls (i : Nat) (s t : State) : Prop := Marks (stallWords i) { s with whl := t.whl, pc := t.pc } t

theorem Counted.stalls {s t : State} (i : Nat) (h : Counted s t) : Stalls i s t :=
  Marks.mono (Counted.spent h) (fun _ ha => .inr (.inr (.inr ha)))

theorem Stalls.marks {i : Nat} {s t u : State} (h : Stalls i s t) (k : Marks (stallWords i) t u) : Stalls i s u := by
  unfold Stalls
  rw [k.touches.whl, k.touches.pc]
  exact Marks.then h k

theorem stall_spec (s : State) (i : Nat) : Stalls i s (s.stall i) ∧ (s.stall i).whl = { s.whl with stalledNow := setBitAt s.whl.stalledNow i } := by
  have h1 := counted_pcEvent { s with whl := { s.whl with stalledNow := setBitAt s.whl.stalledNow i } } 0x0502 i 1
  unfold State.stall
  dsimp only
  generalize ({ s with whl := { s.whl with stalledNow := setBitAt s.whl.stalledNow i } } : State).pcEvent 0x0502 i 1 = u at h1 ⊢
  have h2 : Marks (stallWords i) u ((u.set (Fld.WHLn_STAT_STALLED i) 1).evt Fld.WHL_EVT_STALL) :=
    (writes_set u _ 1 (.inl rfl)).marks.then (marks_evt _ _ (by decide) (.inr (.inr (.inl rfl))))
  have h3 : Marks (stallWords i) u (if (!bitAt s.whl.stalledNow i) = true then
      ((u.set (Fld.WHLn_STAT_STALLED i) 1).evt Fld.WHL_EVT_STALL).bump (Reg.WHLn_STALLS i) else
      (u.set (Fld.WHLn_STAT_STALLED i) 1).evt Fld.WHL_EVT_STALL) := by
    split
    · exact h2.then (writes_bump _ (.inr (.inl rfl))).marks
    · exact h2
  exact ⟨Stalls.marks (h1.stalls i) h3, h3.touches.whl.trans h1.whl⟩

/-- A stall marks its class (R103). -/
theorem stalls_stall (s : State) (i : Nat) : Stalls i s (s.stall i) := (stall_spec s i).1

/-- A stall spends nothing (R103). -/
theorem stall_whl (s : State) (i : Nat) : (s.stall i).whl = { s.whl with stalledNow := setBitAt s.whl.stalledNow i } := (stall_spec s i).2

theorem Spent.pending {s t : State} (h : Spent s t) : t.pending = s.pending := (Touches.pending (Marks.touches h) :)
theorem Spent.tc {s t : State} (h : Spent s t) : t.tc = s.tc := (Touches.tc (Marks.touches h) :)
theorem Spent.cfg {s t : State} (h : Spent s t) : t.cfg = s.cfg := (Touches.cfg (Marks.touches h) :)
theorem Spent.dram {s t : State} (h : Spent s t) : t.dram = s.dram := (Touches.dram (Marks.touches h) :)
theorem Spent.hostMem {s t : State} (h : Spent s t) : t.hostMem = s.hostMem := (Touches.hostMem (Marks.touches h) :)
theorem Spent.rs {s t : State} (h : Spent s t) : t.rs = s.rs := (Touches.rs (Marks.touches h) :)
theorem Spent.eb {s t : State} (h : Spent s t) : t.eb = s.eb := (Touches.eb (Marks.touches h) :)
theorem Spent.gn {s t : State} (h : Spent s t) : t.gn = s.gn := (Touches.gn (Marks.touches h) :)
theorem Spent.sh {s t : State} (h : Spent s t) : t.sh = s.sh := (Touches.sh (Marks.touches h) :)
theorem Spent.ports {s t : State} (h : Spent s t) : t.ports = s.ports := (Touches.ports (Marks.touches h) :)
theorem Spent.sw {s t : State} (h : Spent s t) : t.sw = s.sw := (Touches.sw (Marks.touches h) :)
theorem Spent.ls {s t : State} (h : Spent s t) : t.ls = s.ls := (Touches.ls (Marks.touches h) :)
theorem Spent.links {s t : State} (h : Spent s t) : t.links = s.links := (Touches.links (Marks.touches h) :)
theorem Spent.ks {s t : State} (h : Spent s t) : t.ks = s.ks := (Touches.ks (Marks.touches h) :)
theorem Spent.pe {s t : State} (h : Spent s t) : t.pe = s.pe := (Touches.pe (Marks.touches h) :)
theorem Spent.ne {s t : State} (h : Spent s t) : t.ne = s.ne := (Touches.ne (Marks.touches h) :)
theorem Spent.boot {s t : State} (h : Spent s t) : t.boot = s.boot := (Touches.boot (Marks.touches h) :)
theorem Spent.jn {s t : State} (h : Spent s t) : t.jn = s.jn := (Marks.jn h :)
theorem Spent.fc {s t : State} (h : Spent s t) : t.fc = s.fc := (Marks.fc h :)
theorem Spent.pips {s t : State} (h : Spent s t) : t.pips = s.pips := (Marks.pips h :)
theorem Spent.freeCtr {s t : State} (h : Spent s t) : t.freeCtr = s.freeCtr := (Marks.freeCtr h :)

theorem Stalls.pending {i : Nat} {s t : State} (h : Stalls i s t) : t.pending = s.pending := (Touches.pending (Marks.touches h) :)
theorem Stalls.tc {i : Nat} {s t : State} (h : Stalls i s t) : t.tc = s.tc := (Touches.tc (Marks.touches h) :)
theorem Stalls.cfg {i : Nat} {s t : State} (h : Stalls i s t) : t.cfg = s.cfg := (Touches.cfg (Marks.touches h) :)
theorem Stalls.dram {i : Nat} {s t : State} (h : Stalls i s t) : t.dram = s.dram := (Touches.dram (Marks.touches h) :)
theorem Stalls.hostMem {i : Nat} {s t : State} (h : Stalls i s t) : t.hostMem = s.hostMem := (Touches.hostMem (Marks.touches h) :)
theorem Stalls.rs {i : Nat} {s t : State} (h : Stalls i s t) : t.rs = s.rs := (Touches.rs (Marks.touches h) :)
theorem Stalls.eb {i : Nat} {s t : State} (h : Stalls i s t) : t.eb = s.eb := (Touches.eb (Marks.touches h) :)
theorem Stalls.gn {i : Nat} {s t : State} (h : Stalls i s t) : t.gn = s.gn := (Touches.gn (Marks.touches h) :)
theorem Stalls.sh {i : Nat} {s t : State} (h : Stalls i s t) : t.sh = s.sh := (Touches.sh (Marks.touches h) :)
theorem Stalls.ports {i : Nat} {s t : State} (h : Stalls i s t) : t.ports = s.ports := (Touches.ports (Marks.touches h) :)
theorem Stalls.sw {i : Nat} {s t : State} (h : Stalls i s t) : t.sw = s.sw := (Touches.sw (Marks.touches h) :)
theorem Stalls.ls {i : Nat} {s t : State} (h : Stalls i s t) : t.ls = s.ls := (Touches.ls (Marks.touches h) :)
theorem Stalls.links {i : Nat} {s t : State} (h : Stalls i s t) : t.links = s.links := (Touches.links (Marks.touches h) :)
theorem Stalls.ks {i : Nat} {s t : State} (h : Stalls i s t) : t.ks = s.ks := (Touches.ks (Marks.touches h) :)
theorem Stalls.pe {i : Nat} {s t : State} (h : Stalls i s t) : t.pe = s.pe := (Touches.pe (Marks.touches h) :)
theorem Stalls.ne {i : Nat} {s t : State} (h : Stalls i s t) : t.ne = s.ne := (Touches.ne (Marks.touches h) :)
theorem Stalls.boot {i : Nat} {s t : State} (h : Stalls i s t) : t.boot = s.boot := (Touches.boot (Marks.touches h) :)
theorem Stalls.jn {i : Nat} {s t : State} (h : Stalls i s t) : t.jn = s.jn := (Marks.jn h :)
theorem Stalls.fc {i : Nat} {s t : State} (h : Stalls i s t) : t.fc = s.fc := (Marks.fc h :)
theorem Stalls.pips {i : Nat} {s t : State} (h : Stalls i s t) : t.pips = s.pips := (Marks.pips h :)
theorem Stalls.freeCtr {i : Nat} {s t : State} (h : Stalls i s t) : t.freeCtr = s.freeCtr := (Marks.freeCtr h :)

/-- The class's mark and the wheel's event after a stall (R103). -/
theorem flag_stall (s : State) {i : Nat} (hi : i < 16) :
    (s.stall i).flag (Fld.WHLn_STAT_STALLED i) = true ∧ (s.stall i).flag Fld.WHL_EVT_STALL = true := by
  have hne : Reg.WHLn_STAT i ≠ 0x8 * 0x1000 + 0x10 := by unfold Reg.WHLn_STAT; omega
  have hp : pageOf (Reg.WHLn_STAT i) = 0x8 := by unfold pageOf Reg.WHLn_STAT; omega
  have hc : carried (Reg.WHLn_STAT i) = false := by unfold carried; rw [hp]; decide
  unfold State.stall
  dsimp only
  generalize ({ s with whl := { s.whl with stalledNow := setBitAt s.whl.stalledNow i } } : State).pcEvent 0x0502 i 1 = u
  have h1 : ((u.set (Fld.WHLn_STAT_STALLED i) 1).evt Fld.WHL_EVT_STALL).flag (Fld.WHLn_STAT_STALLED i) = true := by
    rw [flag_evt_other _ _ _ hne hc]
    exact State.flag_setB_same u (Fld.WHLn_STAT_STALLED i) true (by simp) rfl
  have h2 : ((u.set (Fld.WHLn_STAT_STALLED i) 1).evt Fld.WHL_EVT_STALL).flag Fld.WHL_EVT_STALL = true :=
    flag_evt_same _ _ rfl rfl (by decide) rfl
  split
  · have n1 : (Fld.WHLn_STAT_STALLED i).addr ≠ Reg.WHLn_STALLS i := by
      show Reg.WHLn_STAT i ≠ _; unfold Reg.WHLn_STAT Reg.WHLn_STALLS; omega
    have n2 : Fld.WHL_EVT_STALL.addr ≠ Reg.WHLn_STALLS i := by
      show 0x8010 ≠ _; unfold Reg.WHLn_STALLS; omega
    exact ⟨(State.flag_wrN_other _ _ _ n1).trans h1, (State.flag_wrN_other _ _ _ n2).trans h2⟩
  · exact ⟨h1, h2⟩

/-- A command that its class refuses is kept by the wheel (R103). -/
theorem withheld_stall (s : State) {i : Nat} (c : Instr) (hi : i < 16) : s.Withheld i c ((s.stall i).withhold c) := by
  have h1 := stalls_stall s i
  have h2 := stall_whl s i
  obtain ⟨f1, f2⟩ := flag_stall s hi
  refine ⟨?_, ?_, f1, f2, ?_, fun a ha _ => h1.2 a ha⟩
  · show (s.stall i).whl.withheld ++ [c] = _
    rw [h2]
  · show (s.stall i).whl.spent = _
    rw [h2]
  · exact congrArg (fun x : State => { x with whl := ((s.stall i).withhold c).whl }) (Marks.touches h1).1

namespace State

/-! ### What admission looks at -/

/-- The same wheel, and the same words that admission reads: floors and ceilings in force, and the DRAM capacity of the group (R102). -/
structure SameBudget (s t : State) : Prop where
  whl : t.whl = s.whl
  floor : ∀ j, j < 16 → t.rd (Reg.WHLn_FLOOR_IF j) = s.rd (Reg.WHLn_FLOOR_IF j)
  ceil : ∀ j, j < 16 → t.rd (Reg.WHLn_CEIL_IF j) = s.rd (Reg.WHLn_CEIL_IF j)
  dram : t.rd Reg.WHL_GRP_DRAM_IF = s.rd Reg.WHL_GRP_DRAM_IF

theorem mem_groupOf_lt {i j : Nat} (h : j ∈ groupOf i) : j < 16 := by
  unfold groupOf at h
  split at h
  · simp at h; omega
  · split at h
    · simp at h; omega
    · simp at h

theorem admits_congr {s t : State} (h : SameBudget s t) {i : Nat} (c : Nat) (hi : i < 16) : t.admits i c = s.admits i c := by
  have e1 : t.wSpent = s.wSpent := by funext j; unfold wSpent spent; rw [h.whl]
  have e2 (j : Nat) (hj : j < 16) : t.wFloor j = s.wFloor j := by unfold wFloor; rw [rdN_of_rd (h.floor j hj)]
  have e3 (j : Nat) (hj : j < 16) : t.wCeil j = s.wCeil j := by unfold wCeil; rw [rdN_of_rd (h.ceil j hj), h.whl]
  have e4 : t.groupCapacity = s.groupCapacity := by funext j; unfold groupCapacity; rw [rdN_of_rd h.dram, h.whl]
  have e5 : t.lenders i = s.lenders i := by unfold lenders; rw [h.whl]
  have e6 (j : Nat) (hj : j < 16) : t.lendable j = s.lendable j := by unfold lendable; rw [e1, e2 j hj, e3 j hj]
  have f1 (n : Nat) : ((groupOf i).filter (· != i)).foldl (fun n j => n + max (s.wSpent j) (t.wFloor j)) n =
      ((groupOf i).filter (· != i)).foldl (fun n j => n + max (s.wSpent j) (s.wFloor j)) n :=
    List.foldl_ext _ _ _ (fun n j hj => by rw [e2 j (mem_groupOf_lt (List.mem_of_mem_filter hj))])
  have f2 (n : Nat) : (s.lenders i).foldl (fun n j => n + t.lendable j) n = (s.lenders i).foldl (fun n j => n + s.lendable j) n :=
    List.foldl_ext _ _ _ (fun n j hj => by rw [e6 j (mem_groupOf_lt (List.mem_of_mem_filter hj))])
  unfold admits
  dsimp only
  rw [e1, e2 i hi, e3 i hi, e4, e5, h.whl, f1, f2]

/-! ### The two outcomes -/

theorem admitFor_pos {s : State} {i c : Nat} (h : s.admits i c = true) : s.admitFor i c = (true, s.admitted i c) := by
  unfold admitFor; rw [if_pos h]

theorem admitFor_neg {s : State} {i c : Nat} (h : s.admits i c = false) : s.admitFor i c = (false, s.stall i) := by
  unfold admitFor; rw [if_neg (by simp [h])]

@[simp] theorem admitFor_fst (s : State) (i c : Nat) : (s.admitFor i c).1 = s.admits i c := by
  cases h : s.admits i c
  · rw [admitFor_neg h]
  · rw [admitFor_pos h]

end State

end Sys2Proof.Machine
end

section
/-! PROOF. O18: what STALLED_REQUEST_RESUME does with each kind of withheld request (R21, R103, R383, R463). -/

namespace Sys2Proof.Machine

/-- A command that a class may withhold is presented as itself. -/
theorem runHeld_mayWait (i : Instr) (s : State) (h : i.mayWait = true) : runHeld i s = exec i s := by
  unfold Instr.mayWait at h
  split at h
  case h_18 => cases h
  all_goals rfl

namespace State

theorem exec_resume_command {s : State} {k : Nat} {i : Instr} (hk : s.whl.withheld[k]? = some i) (hi : i.mayWait = true) :
    exec (.stalledRequestResume (.command k)) s = exec i { s with whl := { s.whl with withheld := s.whl.withheld.eraseIdx k } } := by
  have h : s.heldCommand k = (some i, { s with whl := { s.whl with withheld := s.whl.withheld.eraseIdx k } }) := by
    unfold heldCommand; rw [hk]
  show (match s.heldCommand k with
    | (some i, t) => runHeld i t
    | (none, _) => finish s) = _
  rw [h]
  exact runHeld_mayWait i _ hi

/-- A key-store command that waits for KS_CMD is admitted, or waits on. -/
theorem ksRetry_spec (s : State) :
    match s.ks.job with
    | none => s.ksRetry = s
    | some j => if j.waiting then (if (s.admitFor 12 1).1 then s.ksRetry.ks.job = some { j with waiting := false } else s.ksRetry.ks = s.ks)
        else s.ksRetry = s := by
  unfold ksRetry
  cases s.ks.job with
  | none => rfl
  | some j =>
    dsimp only
    cases hw : j.waiting
    · simp only [Bool.not_false, Bool.false_eq_true, if_true, if_false]
    · cases ha : s.admits 12 1
      · simp only [admitFor_neg ha, Bool.not_true, Bool.false_eq_true, if_true, if_false]
        exact (stalls_stall s 12).ks
      · simp only [admitFor_pos ha, Bool.not_true, Bool.false_eq_true, if_true, if_false]
        rfl

theorem refuseStatement_eb (s : State) (code : Nat) : (s.refuseStatement code).eb = s.eb := evt_eb _ _

theorem refuseStatement_busy (s : State) (code : Nat) : (s.refuseStatement code).flag Fld.EB_ATT_STAT_BUSY = s.flag Fld.EB_ATT_STAT_BUSY :=
  (flag_evt_other _ _ _ (by decide) (by decide)).trans (flag_set_other _ _ _ _ (by decide) (by decide))

/-- An attestation that waits for KS_CMD ends unsealed, is admitted, or waits on (R236). -/
theorem attRetry_spec (s : State) :
    match s.eb.att with
    | none => s.attRetry = s
    | some a =>
      if a.admitted then s.attRetry = s
      else if s.flag Fld.EB_STAT_UNSEALED then s.attRetry.eb.att = none ∧ s.attRetry.flag Fld.EB_ATT_STAT_BUSY = false
      else if (s.admitFor 12 1).1 then s.attRetry.eb.att = some { a with admitted := true } else s.attRetry.eb.att = s.eb.att := by
  unfold attRetry
  cases h : s.eb.att with
  | none => rfl
  | some a =>
    dsimp only
    cases hw : a.admitted
    · cases hu : s.flag Fld.EB_STAT_UNSEALED
      · cases ha : s.admits 12 1
        · simp only [admitFor_neg ha, Bool.false_eq_true, if_false]
          rw [← h, (stalls_stall s 12).eb]
        · simp only [admitFor_pos ha, Bool.false_eq_true, if_true, if_false]
          rfl
      · simp only [Bool.false_eq_true, if_true, if_false]
        exact ⟨congrArg BoundUnit.att (refuseStatement_eb _ _),
          (refuseStatement_busy _ _).trans (flag_setB_same _ Fld.EB_ATT_STAT_BUSY false (by decide) rfl)⟩
    · simp only [if_true]

/-- Messages for the arbiter bus that wait for ARB: none changes nothing, and one that is not admitted waits on. -/
theorem abRetry_spec (s : State) :
    (s.ls.unadmitted = [] → s.abRetry = s) ∧ (∀ f, s.ls.unadmitted = [f] → (s.admitFor 9 1).1 = false → s.abRetry.ls.unadmitted = [f]) := by
  unfold abRetry
  refine ⟨fun h => ?_, fun f h ha => ?_⟩
  · rw [h]
    show s.setLs { s.ls with unadmitted := [] } = s
    rw [← h]; rfl
  · rw [h, List.foldl_cons, List.foldl_nil]
    have ha' : (s.setLs { s.ls with unadmitted := [] }).admits 9 1 = false := (admitFor_fst s 9 1).symm.trans ha
    generalize hs : s.setLs { s.ls with unadmitted := [] } = t at ha'
    have ht : t.ls.unadmitted = [] := by rw [← hs]; rfl
    rw [admitFor_neg ha']
    show (t.stall 9).ls.unadmitted ++ [f] = _
    rw [(stalls_stall t 9).ls, ht]
    rfl

theorem lateVisits_none {s : State} (h : s.pe.late = []) : s.lateVisits = s := by
  unfold lateVisits
  rw [h]
  show s.setPe { s.pe with late := [] } = s
  rw [← h]; rfl

end State

theorem engine_eq (s t : State) : engine s t = .next (if s.safe || s.boot.sleeping then s else t).settle := rfl

/-- Settles O18: each kind of withheld request has its own law above. -/
theorem stalledRequestsResume : Obligations.StalledRequestsResume := by
  intro s
  refine ⟨fun k i hk hi => State.exec_resume_command hk hi, ⟨_, rfl, s.ksRetry_spec⟩, ⟨_, rfl, s.attRetry_spec⟩, ⟨_, rfl, s.abRetry_spec⟩,
    ⟨_, engine_eq s _, ?_⟩, fun k => ⟨_, engine_eq s _, ?_⟩⟩
  · cases s.safe <;> cases s.boot.sleeping <;> by_cases h : s.pe.late = [] <;> simp [h, State.lateVisits_none]
  · unfold State.pipRetry
    cases s.safe <;> cases s.boot.sleeping <;> cases s.pipAlive k.val <;> cases s.flag (Fld.PPk_STAT_STALLED k.val) <;> rfl

end Sys2Proof.Machine
end

section
/-! PROOF. O57: the oscillator's class, the clocks of the Time APLL and their loss, and the held resets (R28, R500, R501, R503, R505). -/

namespace Sys2Proof.Machine

/-! ### The sparse list under a filter by address -/

theorem look_filter (f : RegFile) (k : Nat → Bool) (a : Nat) : RegFile.look (f.filter (fun e => k e.1)) a = if k a then f.look a else none := by
  induction f with
  | nil => simp [RegFile.look]
  | cons e r ih =>
    obtain ⟨b, v⟩ := e
    rw [List.filter_cons]
    by_cases hb : b = a
    · subst hb
      cases hk : k b <;> simp [hk, RegFile.look, ih]
    · cases hk : k b <;> simp [RegFile.look, ih, hb]

/-- A word that a filter by address keeps reads as before; any other reads its reset value. -/
theorem word_filter (f : RegFile) (k : Nat → Bool) (a : Nat) : RegFile.word (f.filter (fun e => k e.1)) a = if k a then f.word a else resetWord a := by
  unfold RegFile.word
  rw [look_filter]
  cases k a <;> rfl

namespace State

/-- Words after a chip reset, but for the two that show the collector's levels (R40, R482). -/
theorem chipReset_rd (s : State) (porst : Bool) {a : Nat} (h1 : a ≠ Reg.FC_STAT) (h2 : a ≠ Reg.FC_SHADOW) :
    (s.chipReset porst).rd a = if keptWord a || (a == Reg.FC_RST_CAUSE && !porst) then s.rd a else State.reset.rd a := by
  unfold chipReset refreshFc setB
  dsimp only
  rw [rd_wrN_other _ _ h2, rd_set_other _ _ _ h1, rd_set_other _ _ _ h1, rd_set_other _ _ _ h1]
  exact word_filter s.regs (fun a => keptWord a || (a == Reg.FC_RST_CAUSE && !porst)) a

/-! ### The oscillator (R500) -/

theorem oscClass_lt {hz k : Nat} (h : oscClass hz = some k) : k < 4 := by
  have hm := List.mem_of_find?_eq_some h
  simp only [List.mem_cons, List.not_mem_nil, or_false] at hm
  omega

/-- A class lies within half a percent of its frequency; without a class no frequency is so near. -/
theorem oscClass_spec (hz : Nat) :
    (∀ k, oscClass hz = some k → k < 4 ∧ ((hz : Int) - ([5000000, 10000000, 20000000, 100000000] : List Nat).getD k 0).natAbs * 200 ≤
      ([5000000, 10000000, 20000000, 100000000] : List Nat).getD k 0) ∧
    (oscClass hz = none → ∀ f, f ∈ ([5000000, 10000000, 20000000, 100000000] : List Nat) → f < ((hz : Int) - f).natAbs * 200) := by
  refine ⟨fun k h => ⟨oscClass_lt h, by simpa using List.find?_some h⟩, fun h f hf => ?_⟩
  have hn := List.find?_eq_none.1 h
  obtain ⟨k, hk, rfl⟩ := List.getElem_of_mem hf
  have hk4 : k ∈ [0, 1, 2, 3] := by simp at hk ⊢; omega
  have hd : ([5000000, 10000000, 20000000, 100000000] : List Nat).getD k 0 = ([5000000, 10000000, 20000000, 100000000] : List Nat)[k] :=
    List.getD_eq_getElem _ _ hk
  have h1 := hn k hk4
  simp only [hd, decide_eq_true_eq, Nat.not_le] at h1
  exact h1

theorem oscMeasure_spec (s : State) (hz : Nat) :
    (s.oscMeasure hz).rdN Reg.CK_OSC_MEAS = min hz 0xFFFFFFFF ∧ (s.oscMeasure hz).flag Fld.CK_STAT_OSC_OK = (oscClass hz).isSome ∧
      (∀ k, oscClass hz = some k → (s.oscMeasure hz).get Fld.CK_STAT_OSC_CLASS = k) ∧
      Writes (fun a => a = Reg.CK_OSC_MEAS ∨ a = Reg.CK_STAT) s (s.oscMeasure hz) := by
  have hm (t : State) : (t.wrSat Reg.CK_OSC_MEAS hz).rdN Reg.CK_OSC_MEAS = min hz 0xFFFFFFFF := by
    unfold wrSat satNat
    rw [rdN_wrN_same]
    omega
  have hw := writes_wrSat (A := fun a => a = Reg.CK_OSC_MEAS ∨ a = Reg.CK_STAT) s hz (.inl rfl)
  unfold oscMeasure
  cases hc : oscClass hz with
  | none =>
    dsimp only
    refine ⟨(rdN_set_other _ _ _ (by decide)).trans (hm s), flag_setB_same _ _ _ (by decide) rfl, fun k hk => (Option.some_ne_none k hk.symm).elim, ?_⟩
    exact hw.then (writes_setB _ _ _ (.inr rfl))
  | some k =>
    dsimp only
    refine ⟨(rdN_set_other _ _ _ (by decide)).trans ((rdN_set_other _ _ _ (by decide)).trans (hm s)),
      (flag_set_other _ _ _ _ (by decide) (by decide)).trans (flag_setB_same _ _ _ (by decide) rfl), fun j hj => ?_,
      (hw.then (writes_setB _ _ _ (.inr rfl))).then (writes_set _ _ _ (.inr rfl))⟩
    injection hj with hj
    rw [get_set_same _ _ _ (by decide), ← hj]
    exact Nat.mod_eq_of_lt (oscClass_lt hc)

/-! ### The Time APLL (R501, R503) -/

theorem shTclkSeen_spec (s : State) :
    Writes (· = Reg.SH_STAT) s s.shTclkSeen ∧ s.shTclkSeen.flag Fld.SH_STAT_TCLK_SEEN = true ∧
      s.shTclkSeen.get Fld.SH_STAT_STATE = (if s.shState = 1 then 2 else s.shState) := by
  have hs : (s.setB Fld.SH_STAT_TCLK_SEEN true).shState = s.shState := get_setB_other s _ _ true (by decide) (by decide)
  have hf : (s.setB Fld.SH_STAT_TCLK_SEEN true).flag Fld.SH_STAT_TCLK_SEEN = true := flag_setB_same s _ true (by decide) rfl
  have hw : Writes (· = Reg.SH_STAT) s (s.setB Fld.SH_STAT_TCLK_SEEN true) := writes_setB s _ true rfl
  unfold shTclkSeen
  dsimp only
  rw [hs]
  by_cases h : s.shState = 1
  · rw [if_pos h, if_pos h]
    exact ⟨hw.then (writes_set _ _ _ rfl), (flag_set_other _ _ _ _ (by decide) (by decide)).trans hf, get_set_same _ _ _ (by decide)⟩
  · rw [if_neg h, if_neg h]
    exact ⟨hw, hf, hs⟩

/-- A level source after its condition appeared or went away. -/
theorem bitAt_setActive (s : State) {src : Nat} (b : Bool) (hs : src < 32) : bitAt ((s.setActive src b).rdN Reg.FC_ACTIVE) src = b := by
  unfold setActive bitAt putBitAt setBitAt clearBitAt
  rw [rdN_wrN_same, Nat.testBit_mod_two_pow]
  cases b
  · simp only [Bool.false_eq_true, if_false, hs, decide_true, Bool.true_and]
    split
    · rename_i h
      rw [Nat.testBit_eq_decide_div_mod_eq, decide_eq_true_eq] at h
      have hd := Nat.sub_mul_div (s.rdN Reg.FC_ACTIVE) (2 ^ src) 1
      rw [Nat.mul_one] at hd
      rw [Nat.testBit_eq_decide_div_mod_eq, hd, decide_eq_false_iff_not]
      omega
    · rename_i h
      exact Bool.eq_false_iff.2 h
  · simp [hs]

/-- What a lock of the Time APLL shows (R503). -/
def TimeLocked (s u : State) : Prop :=
  u.flag Fld.CK_STAT_TLOCK = true ∧ u.flag Fld.CK_STAT_TCLK_RUN = true ∧ u.flag Fld.TC_STAT_TCLK_OK = true ∧ u.flag Fld.CK_EVT_TLOCK_GAIN = true ∧
    bitAt (u.rdN Reg.FC_ACTIVE) 3 = false ∧ u.flag Fld.SH_STAT_TCLK_SEEN = true ∧ u.get Fld.SH_STAT_STATE = (if s.shState = 1 then 2 else s.shState)

theorem timeLocked_words (s : State) :
    let t := (((((s.setB Fld.CK_STAT_TLOCK true).setB Fld.CK_STAT_TCLK_RUN true).setB Fld.TC_STAT_TCLK_OK true).evt Fld.CK_EVT_TLOCK_GAIN).setActive 3
      false).shTclkSeen
    TimeLocked s t ∧ t.bridging = s.bridging ∧ t.tc = s.tc := by
  intro t
  obtain ⟨hw, hseen, hstate⟩ := shTclkSeen_spec (((((s.setB Fld.CK_STAT_TLOCK true).setB Fld.CK_STAT_TCLK_RUN true).setB Fld.TC_STAT_TCLK_OK true).evt
    Fld.CK_EVT_TLOCK_GAIN).setActive 3 false)
  have hwt := hw.touches
  refine ⟨⟨?_, ?_, ?_, ?_, ?_, hseen, ?_⟩, ?_, ?_⟩
  · rw [hwt.flag (by decide) (by decide)]
    unfold setActive
    simp (disch := decide) only [flag_wrN_other, flag_evt_other, flag_setB_other, flag_setB_same]
  · rw [hwt.flag (by decide) (by decide)]
    unfold setActive
    simp (disch := decide) only [flag_wrN_other, flag_evt_other, flag_setB_other, flag_setB_same]
  · rw [hwt.flag (by decide) (by decide)]
    unfold setActive
    simp (disch := decide) only [flag_wrN_other, flag_evt_other, flag_setB_same]
  · rw [hwt.flag (by decide) (by decide)]
    unfold setActive
    simp (disch := decide) only [flag_wrN_other, flag_evt_same]
  · show bitAt ((shTclkSeen _).rd Reg.FC_ACTIVE).toNat 3 = false
    rw [hw.2 _ (by decide)]
    exact bitAt_setActive _ false (by decide)
  · rw [hstate]
    unfold shState setActive
    simp (disch := decide) only [get_wrN_other, get_evt_other, get_setB_other]
  · show ((shTclkSeen _).get Fld.TC_STAT_STATE == 5) = (s.get Fld.TC_STAT_STATE == 5)
    rw [hwt.get (by decide) (by decide)]
    unfold setActive
    simp (disch := decide) only [get_wrN_other, get_evt_other, get_setB_other]
  · rw [hwt.tc]
    exact evt_tc _ _

/-- The Time APLL's lock to an accepted oscillator starts TCLK; in BRIDGE the time since which it is good is kept (R78, R503). -/
theorem timeLock_spec (s : State) (h1 : s.flag Fld.CK_STAT_OSC_OK = true) (h2 : s.flag Fld.CK_STAT_TLOCK = false) :
    TimeLocked s s.timeLock ∧ s.timeLock.tc = (if s.bridging then { s.tc with okSince := some s.tc.now } else s.tc) := by
  obtain ⟨hl, hb, htc⟩ := timeLocked_words s
  unfold timeLock
  rw [if_neg (by simp [h1, h2])]
  dsimp only
  rw [hb]
  split
  · exact ⟨hl, by rw [htc]⟩
  · exact ⟨hl, htc⟩

/-! ### The loss of TCLK (R501) -/

/-- A change of the time core's state and captures: time stands, the words outside TC_EVT and those of `A` stay, and so do the active level sources
and the time core's events. -/
structure Stands (A : Nat → Prop) (s t : State) : Prop where
  now : t.tc.now = s.tc.now
  sh : t.sh = s.sh
  words : ∀ a, a ≠ Reg.TC_EVT → ¬A a → carried a = false → t.rd a = s.rd a
  active : KeepsActive s t
  events : ∀ g : Fld, g.addr = Reg.TC_EVT → g.width = 1 → s.flag g = true → t.flag g = true

theorem Stands.refl {A : Nat → Prop} (s : State) : Stands A s s := ⟨rfl, rfl, fun _ _ _ _ => rfl, .refl s, fun _ _ _ h => h⟩

theorem Stands.then {A : Nat → Prop} {s t u : State} (h : Stands A s t) (k : Stands A t u) : Stands A s u where
  now := k.now.trans h.now
  sh := k.sh.trans h.sh
  words a h1 h2 h3 := (k.words a h1 h2 h3).trans (h.words a h1 h2 h3)
  active := h.active.then k.active
  events g h1 h2 h3 := k.events g h1 h2 (h.events g h1 h2 h3)

theorem Stands.mono {A B : Nat → Prop} {s t : State} (h : Stands A s t) (hab : ∀ a, A a → B a) : Stands B s t :=
  { h with words := fun a h1 h2 => h.words a h1 (fun ha => h2 (hab a ha)) }

theorem stands_of_regs {A : Nat → Prop} {s t : State} (h : t.regs = s.regs) (htc : t.tc.now = s.tc.now) (hsh : t.sh = s.sh) : Stands A s t where
  now := htc
  sh := hsh
  words a _ _ _ := congrArg (fun r : RegFile => r.word a) h
  active := keepsActive_of_regs h
  events g _ _ hg := by
    have he : t.flag g = s.flag g := congrArg (fun r : RegFile => bitsOf (r.word g.addr).toNat g.lo g.width != 0) h
    rwa [he]

theorem stands_evt {A : Nat → Prop} (s : State) {f : Fld} (hf : f.addr = Reg.TC_EVT) (hb : f.lo < 32) : Stands A s (s.evt f) where
  now := congrArg TimeCore.now (evt_tc s f)
  sh := evt_sh s f
  words a h1 _ h3 := rd_evt_other s f (by rw [hf]; exact h1) h3
  active := keepsActive_evt s f
  events g h1 h2 h3 := flag_evt_mono h2 (by rw [h1]; decide) hb h3

theorem stands_set {A : Nat → Prop} (s : State) (f : Fld) (v : Nat) (h1 : A f.addr) (h2 : f.addr ≠ Reg.TC_EVT) (h3 : f.addr ≠ Reg.FC_ACTIVE) :
    Stands A s (s.set f v) where
  now := rfl
  sh := rfl
  words a _ ha _ := rd_set_other s f v (fun e => ha (e ▸ h1))
  active := keepsActive_set s f v h3.symm
  events g hg _ h := by
    have he : (s.set f v).flag g = s.flag g := flag_wrN_other s g _ (by rw [hg]; exact h2.symm)
    rwa [he]

theorem stands_capStamp {A : Nat → Prop} (s : State) (n stamp : Nat) : Stands A s (s.capStamp n stamp) := by
  unfold capStamp
  dsimp only
  split
  · split <;> exact stands_of_regs rfl rfl rfl
  · refine Stands.then ?_ (stands_evt _ (f := Fld.TC_EVT_CAP_OVF) rfl (by decide))
    exact stands_of_regs rfl rfl rfl

theorem Stands.ite_left {A : Nat → Prop} {s t : State} {c : Prop} [Decidable c] (h : Stands A s t) : Stands A s (if c then t else s) := by
  split
  · exact h
  · exact .refl s

theorem stands_foldl {A : Nat → Prop} {α : Type} (l : List α) (f : State → α → State) (h : ∀ t x, Stands A t (f t x)) (s : State) :
    Stands A s (l.foldl f s) := by
  induction l generalizing s with
  | nil => exact .refl s
  | cons x r ih => exact (h s x).then (ih _)

theorem stands_capture {A : Nat → Prop} (s : State) (src : Nat) (sel : Option Nat) (stamp : Nat) : Stands A s (s.capture src sel stamp) :=
  stands_foldl _ _ (fun t n => .ite_left (stands_capStamp t n stamp)) s

/-- A change of TIME_STATE (R75). -/
theorem toState_spec (s : State) (n : Nat) (hn : n < 8) :
    Stands (fun a => a = Reg.TC_STAT ∨ a = Reg.TC_STATE) s (s.toState n) ∧ (s.toState n).timeState = n ∧
      (s.toState n).flag Fld.TC_STAT_TCLK_OK = s.flag Fld.TC_STAT_TCLK_OK := by
  unfold toState
  dsimp only
  split
  · rename_i h
    exact ⟨.refl s, h, rfl⟩
  · generalize hs1 : (((s.set Fld.TC_STAT_STATE n).set Fld.TC_STATE_STATE n).set Fld.TC_STATE_PREV s.timeState).bumpF Fld.TC_STATE_CHANGES = s1
    have h1 : Stands (fun a => a = Reg.TC_STAT ∨ a = Reg.TC_STATE) s s1 := by
      rw [← hs1]
      exact (((stands_set s _ _ (.inl rfl) (by decide) (by decide)).then (stands_set _ _ _ (.inr rfl) (by decide) (by decide))).then
        (stands_set _ _ _ (.inr rfl) (by decide) (by decide))).then (stands_set _ _ _ (.inr rfl) (by decide) (by decide))
    have h2 : Stands (fun _ => False) s1 ((s1.evt Fld.TC_EVT_STATE_CHG).emitT 0x01 0 "TIME_STATE") :=
      (stands_evt s1 (f := Fld.TC_EVT_STATE_CHG) rfl (by decide)).then
        (stands_of_regs (emitWith_regs _ _ _ _ _ _ _ _) (congrArg TimeCore.now (touches_emitT (fun _ => True) _ _ _ _).tc)
          (touches_emitT (fun _ => True) _ _ _ _).sh)
    generalize (s1.evt Fld.TC_EVT_STATE_CHG).emitT 0x01 0 "TIME_STATE" = s2 at h2
    have h3 : Stands (fun _ => False) s1 ({ (s2.capture 4 none s2.tc.now) with snapDue := true } : State) :=
      (h2.then (stands_capture s2 4 none s2.tc.now)).then (stands_of_regs rfl rfl rfl)
    have stat (f : Fld) (hf : f.addr = Reg.TC_STAT) : ({ (s2.capture 4 none s2.tc.now) with snapDue := true } : State).get f = s1.get f := by
      unfold get rdN
      rw [h3.words _ (by rw [hf]; decide) id (by rw [hf]; decide)]
    refine ⟨h1.then (h3.mono fun a h => h.elim), (stat _ rfl).trans ?_, ?_⟩
    · rw [← hs1]
      unfold bumpF
      simp (disch := decide) only [get_set_other, get_set_same]
      exact Nat.mod_eq_of_lt hn
    · unfold flag
      rw [stat _ rfl, ← hs1]
      unfold bumpF
      simp (disch := decide) only [get_set_other]

/-- BRIDGE is entered where time is set (R78): TCLK is gone, and time stands. -/
theorem enterBridge_spec (s : State) :
    Stands (fun a => a = Reg.TC_STAT ∨ a = Reg.TC_STATE) s s.enterBridge ∧ s.enterBridge.timeState = (if s.timeState = 0 then 0 else 5) ∧
      s.enterBridge.flag Fld.TC_STAT_TCLK_OK = false ∧ s.enterBridge.flag Fld.TC_EVT_BRIDGE_ENTER = true := by
  have hst := get_setB_other s Fld.TC_STAT_TCLK_OK Fld.TC_STAT_STATE false (by decide) (by decide)
  have hok := flag_setB_same s Fld.TC_STAT_TCLK_OK false (by decide) rfl
  have h1 : Stands (fun a => a = Reg.TC_STAT ∨ a = Reg.TC_STATE) s (s.setB Fld.TC_STAT_TCLK_OK false) :=
    stands_set s _ _ (.inl rfl) (by decide) (by decide)
  unfold enterBridge
  dsimp only
  generalize s.setB Fld.TC_STAT_TCLK_OK false = s1 at *
  have h2 := stands_evt (A := fun a => a = Reg.TC_STAT ∨ a = Reg.TC_STATE) s1 (f := Fld.TC_EVT_BRIDGE_ENTER) rfl (by decide)
  have hst2 := get_evt_other s1 Fld.TC_EVT_BRIDGE_ENTER Fld.TC_STAT_STATE (by decide) (by decide)
  have hok2 := flag_evt_other s1 Fld.TC_EVT_BRIDGE_ENTER Fld.TC_STAT_TCLK_OK (by decide) (by decide)
  have hev := flag_evt_same s1 Fld.TC_EVT_BRIDGE_ENTER rfl (by decide) (by decide) rfl
  generalize s1.evt Fld.TC_EVT_BRIDGE_ENTER = s2 at *
  have h3 (tc : TimeCore) (h : tc.now = s2.tc.now) : Stands (fun a => a = Reg.TC_STAT ∨ a = Reg.TC_STATE) s ({ s2 with tc := tc } : State) :=
    (h1.then h2).then (stands_of_regs rfl h rfl)
  split
  · rename_i h0
    exact ⟨h3 _ rfl, (hst2.trans hst).trans h0, hok2.trans hok, hev⟩
  · obtain ⟨k1, k2, k3⟩ := toState_spec ({ s2 with tc := { s2.tc with okSince := none } } : State) 5 (by decide)
    exact ⟨(h3 { s2.tc with okSince := none } rfl).then k1, k2, k3.trans (hok2.trans hok), k1.events _ rfl rfl hev⟩

theorem writes_refreshSpares (s : State) : Writes (· = Reg.SH_STAT) s s.refreshSpares := by
  unfold refreshSpares
  exact (writes_set (A := (· = Reg.SH_STAT)) s Fld.SH_STAT_SPARES_LEFT _ rfl).then (writes_set _ Fld.SH_STAT_SPARES_FREE _ rfl)

theorem foldl_dropLiveCal (l : List LiveCal) (s : State) : ∃ x, l.foldl (fun t c => t.dropLiveCal c) s = s.setSh x := by
  induction l generalizing s with
  | nil => exact ⟨s.sh, rfl⟩
  | cons c r ih =>
    obtain ⟨y, hy⟩ : ∃ y, s.dropLiveCal c = s.setSh y := by
      unfold dropLiveCal
      dsimp only
      split <;> exact ⟨_, rfl⟩
    obtain ⟨x, hx⟩ := ih (s.setSh y)
    exact ⟨x, by rw [List.foldl_cons, hy, hx]; rfl⟩

/-- What the Shell does as TCLK is lost (R194): every source's next record carries GAP. -/
theorem shTclkLost_spec (s : State) : ∃ y : Shell, Writes (· = Reg.SH_STAT) (s.setSh y) s.shTclkLost ∧ y.gap = List.replicate 48 true := by
  obtain ⟨x, hx⟩ := foldl_dropLiveCal s.sh.liveCal s
  obtain ⟨y, hy, hg⟩ : ∃ y : Shell, s.shTclkLost = ((s.setSh y).setB Fld.SH_STAT_TCLK_SEEN false).refreshSpares ∧ y.gap = List.replicate 48 true := by
    unfold shTclkLost
    rw [hx]
    exact ⟨_, rfl, rfl⟩
  rw [hy]
  exact ⟨y, (writes_setB (A := (· = Reg.SH_STAT)) _ Fld.SH_STAT_TCLK_SEEN false rfl).then (writes_refreshSpares _), hg⟩

theorem ebBridgeEnter_eq (s : State) : ∃ e, s.ebBridgeEnter = s.setEb e := by
  unfold ebBridgeEnter
  split <;> exact ⟨_, rfl⟩

/-- What the loss of TCLK shows (R501). -/
def TclkGone (s u : State) : Prop :=
  u.flag Fld.CK_STAT_TLOCK = false ∧ u.flag Fld.CK_STAT_TCLK_RUN = false ∧ u.flag Fld.TC_STAT_TCLK_OK = false ∧
    u.rdN Reg.CK_TLOCK_LOSS = oneMore (s.rdN Reg.CK_TLOCK_LOSS) ∧ u.flag Fld.CK_EVT_TLOCK_LOST = true ∧ u.flag Fld.TC_EVT_BRIDGE_ENTER = true ∧
    bitAt (u.rdN Reg.FC_ACTIVE) 3 = true ∧ u.timeState = (if s.timeState = 0 then 0 else 5) ∧ u.tc.now = s.tc.now ∧ u.sh.gap = List.replicate 48 true

theorem tclkLost_spec (s : State) (h : s.flag Fld.TC_STAT_TCLK_OK = true) : TclkGone s s.tclkLost := by
  unfold tclkLost
  rw [if_neg (by simp [h])]
  dsimp only
  generalize hs1 : ((s.setB Fld.CK_STAT_TLOCK false).setB Fld.CK_STAT_TCLK_RUN false).bump Reg.CK_TLOCK_LOSS = s1
  generalize hs2 : (s1.setActive 3 true).evt Fld.CK_EVT_TLOCK_LOST = s2
  obtain ⟨e, he⟩ : ∃ e, (if s2.timeState = 0 then s2 else s2.ebBridgeEnter) = s2.setEb e := by
    split
    · exact ⟨s2.eb, rfl⟩
    · exact ebBridgeEnter_eq s2
  rw [he]
  obtain ⟨hst, htime, hok, hbridge⟩ := enterBridge_spec (s2.setEb e)
  generalize (s2.setEb e).enterBridge = s3 at *
  obtain ⟨y, hsh, hgap⟩ := shTclkLost_spec s3
  generalize s3.shTclkLost = u at *
  have now2 : s2.tc = s.tc := by rw [← hs2, ← hs1]; exact evt_tc _ _
  have active2 : s2.rd Reg.FC_ACTIVE = (s1.setActive 3 true).rd Reg.FC_ACTIVE := by rw [← hs2]; exact keepsActive_evt _ _
  have ck (a : Nat) (h1 : a ≠ Reg.SH_STAT) (h2 : a ≠ Reg.TC_EVT) (h3 : ¬(a = Reg.TC_STAT ∨ a = Reg.TC_STATE)) (h4 : carried a = false) : u.rd a = s2.rd a :=
    (hsh.2 a h1).trans (hst.words a h2 h3 h4)
  have tc (a : Nat) (h1 : a ≠ Reg.SH_STAT) : u.rd a = s3.rd a := hsh.2 a h1
  refine ⟨?_, ?_, ?_, ?_, ?_, ?_, ?_, ?_, ?_, ?_⟩
  · rw [flag_of_rd (ck _ (by decide) (by decide) (by decide) (by decide)), ← hs2, ← hs1]
    unfold setActive
    simp (disch := decide) only [flag_wrN_other, flag_bump_other, flag_evt_other, flag_setB_other, flag_setB_same]
  · rw [flag_of_rd (ck _ (by decide) (by decide) (by decide) (by decide)), ← hs2, ← hs1]
    unfold setActive
    simp (disch := decide) only [flag_wrN_other, flag_bump_other, flag_evt_other, flag_setB_same]
  · rw [flag_of_rd (tc _ (by decide)), hok]
  · rw [rdN_of_rd (ck _ (by decide) (by decide) (by decide) (by decide)), ← hs2, rdN_of_rd (rd_evt_other _ _ (by decide) (by decide))]
    unfold setActive
    rw [rdN_wrN_other _ _ (by decide), ← hs1, rdN_bump_same]
    unfold setB
    rw [rdN_set_other _ _ _ (by decide), rdN_set_other _ _ _ (by decide)]
  · rw [flag_of_rd (ck _ (by decide) (by decide) (by decide) (by decide)), ← hs2]
    exact flag_evt_same _ _ rfl (by decide) (by decide) rfl
  · rw [flag_of_rd (tc _ (by decide)), hbridge]
  · rw [rdN_of_rd ((tc _ (by decide)).trans (hst.active.trans active2))]
    exact bitAt_setActive s1 true (by decide)
  · have h2 : s2.timeState = s.timeState := by
      unfold timeState
      rw [← hs2, ← hs1]
      unfold setActive
      simp (disch := decide) only [get_evt_other, get_wrN_other, get_bump_other, get_setB_other]
    have h3 : u.timeState = s3.timeState := get_of_rd (tc _ (by decide))
    have h4 : (s2.setEb e).timeState = s.timeState := h2
    rw [h3, htime, h4]
  · exact (congrArg TimeCore.now (congrArg State.tc hsh.1)).trans (hst.now.trans (congrArg TimeCore.now now2))
  · exact (congrArg Shell.gap (congrArg State.sh hsh.1)).trans hgap

/-! ### Held resets (R40, R482, R499, R505) -/

theorem kept_not_fc {a : Nat} (h : keptWord a = true) : pageOf a ≠ 0xD8 := by
  intro hp
  unfold keptWord at h
  dsimp only at h
  rw [hp] at h
  have ha : a ≠ Reg.KS_LC := by rintro rfl; revert hp; decide
  simp [ha] at h

/-- What a chip reset leaves: memories, Shell and queue as they were, the journal, the time core and the Pips as after reset. -/
theorem chipReset_parts (s : State) (porst : Bool) :
    let u := s.chipReset porst
    u.boot = Boot.blank ∧ u.sh = s.sh ∧ u.dram = s.dram ∧ u.hostMem = s.hostMem ∧ u.jn = State.reset.jn ∧ u.tc = State.reset.tc ∧
      u.pending = s.pending ∧ u.sw.queues = State.reset.sw.queues ∧ u.pips = State.reset.pips :=
  ⟨rfl, rfl, rfl, rfl, rfl, rfl, rfl, rfl, rfl⟩

theorem chipReset_words (s : State) (porst : Bool) :
    let u := s.chipReset porst
    (∀ a, keptWord a = true → u.rd a = s.rd a) ∧
      u.rd Reg.FC_RST_CAUSE = (if porst then State.reset.rd Reg.FC_RST_CAUSE else s.rd Reg.FC_RST_CAUSE) ∧
      (∀ a, keptWord a = false → a ≠ Reg.FC_RST_CAUSE → a ≠ Reg.FC_STAT → a ≠ Reg.FC_SHADOW → u.rd a = State.reset.rd a) := by
  have hk : keptWord Reg.FC_RST_CAUSE = false := Bool.eq_false_iff.2 (fun h => kept_not_fc h (by decide))
  refine ⟨fun a h => ?_, ?_, fun a h h1 h2 h3 => ?_⟩
  · have n1 : a ≠ Reg.FC_STAT := by rintro rfl; exact kept_not_fc h (by decide)
    have n2 : a ≠ Reg.FC_SHADOW := by rintro rfl; exact kept_not_fc h (by decide)
    rw [chipReset_rd s porst n1 n2, h]
    rfl
  · rw [chipReset_rd s porst (by decide) (by decide), hk]
    cases porst <;> rfl
  · rw [chipReset_rd s porst h2 h3, h]
    simp [h1]

end State

theorem clocks_hold : Claims.Clocks := by
  refine ⟨fun hz s => ⟨_, rfl, s.oscMeasure_spec hz⟩, State.oscClass_spec, fun s => ⟨⟨_, rfl, ?_⟩, ⟨_, rfl, ?_⟩⟩⟩
  · beta_reduce
    by_cases h : s.flag Fld.CK_STAT_OSC_OK = false ∨ s.flag Fld.CK_STAT_TLOCK = true
    · rw [if_pos h]
      unfold State.timeLock
      rw [if_pos (by rcases h with h | h <;> simp [h])]
    · rw [if_neg h]
      obtain ⟨⟨h1, h2, h3, h4, h5, h6, h7⟩, h8⟩ := s.timeLock_spec (by simp at h; exact h.1) (by simp at h; exact h.2)
      exact ⟨h1, h2, h3, h4, h5, h6, h7, h8⟩
  · beta_reduce
    cases h : s.flag Fld.TC_STAT_TCLK_OK
    · rw [if_pos rfl]
      unfold State.tclkLost
      rw [if_pos (by simp [h])]
    · rw [if_neg (by decide)]
      exact s.tclkLost_spec h

/-- A chip reset that holds. -/
def HeldReset (s u : State) (porst : Bool) : Prop :=
  u.boot = { Boot.blank with held := true } ∧ u.sh = s.sh ∧ u.dram = s.dram ∧ u.hostMem = s.hostMem ∧ u.jn = State.reset.jn ∧ u.tc = State.reset.tc ∧
    u.pending = s.pending ∧ u.sw.queues = State.reset.sw.queues ∧ u.pips = State.reset.pips ∧ (∀ a, State.keptWord a = true → u.rd a = s.rd a) ∧
    u.rd Reg.FC_RST_CAUSE = (if porst then State.reset.rd Reg.FC_RST_CAUSE else s.rd Reg.FC_RST_CAUSE) ∧
    (∀ a, State.keptWord a = false → a ≠ Reg.FC_RST_CAUSE → a ≠ Reg.FC_STAT → a ≠ Reg.FC_SHADOW → u.rd a = State.reset.rd a)

theorem heldReset_of_chipReset (s : State) (porst : Bool) {u : State} (hu : s.chipReset porst = u) :
    HeldReset s { u with boot := { u.boot with held := true } } porst := by
  have hp := s.chipReset_parts porst
  have hw := s.chipReset_words porst
  dsimp only at hp hw
  rw [hu] at hp hw
  obtain ⟨b, p⟩ := hp
  obtain ⟨w1, w2, w3⟩ := hw
  obtain ⟨p1, p2, p3, p4, p5, p6, p7, p8⟩ := p
  exact ⟨congrArg (fun x : Boot => { x with held := true }) b, p1, p2, p3, p4, p5, p6, p7, p8, w1, w2, w3⟩

theorem heldResets_hold : Claims.HeldResets := fun s =>
  ⟨⟨s.cclkLost, rfl, heldReset_of_chipReset s false rfl⟩, ⟨s.porstAssert, rfl, heldReset_of_chipReset s true rfl⟩⟩

/-- Settles O57: the clocks and the held resets. -/
theorem clocksAndResets : Obligations.ClocksAndResets := ⟨clocks_hold, heldResets_hold⟩

end Sys2Proof.Machine
end

section
/-! PROOF. O52: events at the merge unit, the merge order, host events and the sketch's end (R22, R453, R456, R462, R467). -/

namespace Sys2Proof.Machine

/-! ### The merge order (R456) -/

/-- Within one epoch keys are ordered by stamp, source and arrival. -/
theorem keyLt_iff {a b : JKey} (h : a.1 % 4 = b.1 % 4) : keyLt a b = true ↔
    a.2.1 < b.2.1 ∨ a.2.1 = b.2.1 ∧ (a.2.2.1 < b.2.2.1 ∨ a.2.2.1 = b.2.2.1 ∧ a.2.2.2 < b.2.2.2) := by
  unfold keyLt
  rw [if_neg (by simp [h])]
  by_cases h1 : a.2.1 = b.2.1
  · rw [if_neg (by simp [h1])]
    by_cases h2 : a.2.2.1 = b.2.2.1
    · simp [h1, h2]
    · rw [if_pos (by simp [h2])]
      simp [h1, h2]
  · rw [if_pos (by simp [h1])]
    simp [h1]

/-- The event that `lowest` picks is one of them, and within one epoch none has a lower key. -/
theorem lowest_spec : ∀ (l : List (Nat × JEvent)) (x : Nat × JEvent), lowest l = some x →
    x ∈ l ∧ ((∀ y, y ∈ l → y.2.epoch % 4 = x.2.epoch % 4) → ∀ y, y ∈ l → keyLt (jkey y.1 y.2) (jkey x.1 x.2) = false) := by
  intro l
  induction l with
  | nil => intro x h; cases h
  | cons a r ih =>
    intro x h
    have irrefl (k : JKey) : keyLt k k = false := by
      rw [Bool.eq_false_iff, ne_eq, keyLt_iff rfl]; omega
    unfold lowest at h
    cases hr : lowest r with
    | none =>
      rw [hr] at h
      injection h with h
      subst h
      refine ⟨by simp, fun _ y hy => ?_⟩
      have hn : r = [] := by
        cases r with
        | nil => rfl
        | cons b r =>
          unfold lowest at hr
          split at hr
          · cases hr
          · split at hr <;> cases hr
      rw [hn, List.mem_singleton] at hy
      rw [hy]
      exact irrefl _
    | some z =>
      obtain ⟨hz, hmin⟩ := ih z hr
      rw [hr] at h
      dsimp only at h
      cases hlt : keyLt (jkey z.1 z.2) (jkey a.1 a.2) with
      | true =>
        rw [hlt] at h
        injection h with h
        subst h
        refine ⟨List.mem_cons_of_mem _ hz, fun he y hy => ?_⟩
        rcases List.mem_cons.1 hy with rfl | hy
        · have e : (jkey z.1 z.2).1 % 4 = (jkey y.1 y.2).1 % 4 := (he y (by simp)).symm
          rw [keyLt_iff e] at hlt
          rw [Bool.eq_false_iff, ne_eq, keyLt_iff e.symm]
          omega
        · exact hmin (fun y hy => he y (List.mem_cons_of_mem _ hy)) y hy
      | false =>
        rw [hlt] at h
        injection h with h
        subst h
        refine ⟨by simp, fun he y hy => ?_⟩
        rcases List.mem_cons.1 hy with rfl | hy
        · exact irrefl _
        · have ez : (jkey z.1 z.2).1 % 4 = (jkey a.1 a.2).1 % 4 := he z (List.mem_cons_of_mem _ hz)
          have ey : (jkey y.1 y.2).1 % 4 = (jkey a.1 a.2).1 % 4 := he y (List.mem_cons_of_mem _ hy)
          have h1 := hmin (fun w hw => (he w (List.mem_cons_of_mem _ hw)).trans ez.symm) y hy
          rw [Bool.eq_false_iff, ne_eq, keyLt_iff (ey.trans ez.symm)] at h1
          rw [Bool.eq_false_iff, ne_eq, keyLt_iff ez] at hlt
          rw [Bool.eq_false_iff, ne_eq, keyLt_iff ey]
          omega

/-! ### What writing of records leaves -/

/-- The merge unit's window, its last key and the events on their way are as they were, and so is the count of late events. -/
structure MergeStays (s t : State) : Prop where
  window : t.jn.window = s.jn.window
  lastKey : t.jn.lastKey = s.jn.lastKey
  inflight : t.jn.inflight = s.jn.inflight
  count : t.rd Reg.JN_LATE = s.rd Reg.JN_LATE
  event : s.flag Fld.JN_EVT_LATE = true → t.flag Fld.JN_EVT_LATE = true

theorem MergeStays.refl (s : State) : MergeStays s s := ⟨rfl, rfl, rfl, rfl, id⟩

theorem MergeStays.then {s t u : State} (h : MergeStays s t) (k : MergeStays t u) : MergeStays s u :=
  ⟨k.window.trans h.window, k.lastKey.trans h.lastKey, k.inflight.trans h.inflight, k.count.trans h.count, fun e => k.event (h.event e)⟩

/-- A change of other parts of the journal and of words outside JN_LATE and JN_EVT. -/
theorem mergeStays_of {s t : State} (h1 : t.jn.window = s.jn.window) (h2 : t.jn.lastKey = s.jn.lastKey) (h3 : t.jn.inflight = s.jn.inflight)
    (h4 : t.rd Reg.JN_LATE = s.rd Reg.JN_LATE) (h5 : t.rd Reg.JN_EVT = s.rd Reg.JN_EVT) : MergeStays s t :=
  ⟨h1, h2, h3, h4, fun e => (State.flag_of_rd h5).trans e⟩

theorem mergeStays_parts {s t : State} (h1 : t.jn.window = s.jn.window) (h2 : t.jn.lastKey = s.jn.lastKey) (h3 : t.jn.inflight = s.jn.inflight)
    (h : t.regs = s.regs) : MergeStays s t :=
  mergeStays_of h1 h2 h3 (congrArg (fun r : RegFile => r.word _) h) (congrArg (fun r : RegFile => r.word _) h)

theorem mergeStays_wrN (s : State) {a : Nat} (n : Nat) (h1 : a ≠ Reg.JN_LATE) (h2 : a ≠ Reg.JN_EVT) : MergeStays s (s.wrN a n) :=
  mergeStays_of rfl rfl rfl (State.rd_wrN_other s n h1.symm) (State.rd_wrN_other s n h2.symm)

namespace State

theorem mergeStays_records (s : State) (n : Nat) : MergeStays s (s.bump64 Reg.JN_RECORDS_L n) := by
  unfold bump64 wr64
  exact (mergeStays_wrN s _ (by decide) (by decide)).then (mergeStays_wrN _ _ (by decide) (by decide))

/-- An event that is lost (R464). -/
theorem jnLose_spec (s : State) :
    (s.jnLose 1).jn = { s.jn with lost := s.jn.lost + 1, frameLost := s.jn.frameLost + 1 } ∧
      (s.jnLose 1).rdN Reg.JN_LOST = oneMore (s.rdN Reg.JN_LOST) ∧ (s.jnLose 1).flag Fld.JN_EVT_LOST = true ∧ MergeStays s (s.jnLose 1) := by
  unfold jnLose
  rw [if_neg (by decide)]
  generalize hs1 : ({ (s.bumpBy Reg.JN_LOST 1) with jn := { s.jn with lost := s.jn.lost + 1, frameLost := s.jn.frameLost + 1 } } : State) = s1
  have hj : s1.jn = { s.jn with lost := s.jn.lost + 1, frameLost := s.jn.frameLost + 1 } := by rw [← hs1]
  have hr : s1.regs = (s.bump Reg.JN_LOST).regs := by rw [← hs1]; rfl
  have hw (a : Nat) : s1.rd a = (s.bump Reg.JN_LOST).rd a := congrArg (fun r : RegFile => r.word a) hr
  have hm : Marks (· = Reg.JN_EVT) s1 (s1.evt Fld.JN_EVT_LOST) := marks_evt s1 _ (by decide) rfl
  refine ⟨hm.jn.trans hj, ?_, flag_evt_same _ _ rfl (by decide) (by decide) rfl, ?_, ?_, ?_, ?_, fun h => ?_⟩
  · rw [rdN_of_rd ((hm.2 _ (by decide)).trans (hw _)), rdN_bump_same]
  · rw [hm.jn, hj]
  · rw [hm.jn, hj]
  · rw [hm.jn, hj]
  · rw [hm.2 _ (by decide), hw, rd_bump_other _ (by decide)]
  · refine flag_evt_mono rfl (by decide) (by decide) ?_
    rw [flag_of_rd (hw _), flag_bump_other _ _ (by decide), h]

theorem mergeStays_admitFor (s : State) (c : Nat) : MergeStays s (s.admitFor 1 c).2 := by
  have words (a : Nat) (h : ¬stallWords 1 a) : ∀ t : State, (∀ b, ¬stallWords 1 b → t.rd b = s.rd b) → t.rd a = s.rd a := fun t ht => ht a h
  cases h : s.admits 1 c
  · rw [admitFor_neg h]
    have k := stalls_stall s 1
    have hj : (s.stall 1).jn = s.jn := k.jn
    exact mergeStays_of (by rw [hj]) (by rw [hj]) (by rw [hj]) (k.2 _ (by unfold stallWords; decide)) (k.2 _ (by unfold stallWords; decide))
  · rw [admitFor_pos h]
    have k := spent_admitted s 1 c
    have hj : (s.admitted 1 c).jn = s.jn := k.jn
    exact mergeStays_of (by rw [hj]) (by rw [hj]) (by rw [hj]) (k.2 _ (by decide)) (k.2 _ (by decide))

theorem mergeStays_setHead (s : State) (b : JBlock) : MergeStays s (s.setHead b) := by
  unfold setHead
  split
  · exact .refl s
  · exact mergeStays_parts rfl rfl rfl rfl

theorem mergeStays_ensureBlock (s : State) : MergeStays s s.ensureBlock := by
  unfold ensureBlock
  split
  · exact mergeStays_parts rfl rfl rfl rfl
  · exact .refl s

theorem mergeStays_closeBlock (s : State) : MergeStays s s.closeBlock := by
  unfold closeBlock
  split
  · exact .refl s
  · refine MergeStays.then ?_ (mergeStays_records _ _)
    exact mergeStays_parts rfl rfl rfl rfl

theorem mergeStays_closeUpTo (k : Nat) (s : State) (e : JEvent) : MergeStays s (closeUpTo k s e) := by
  induction k generalizing s with
  | zero => exact .refl s
  | succ k ih =>
    unfold closeUpTo
    split
    · split
      · exact (mergeStays_closeBlock s).then (ih _)
      · exact .refl s
    · exact .refl s

theorem mergeStays_overflowBlocks (k : Nat) (s : State) (e : JEvent) : MergeStays s (overflowBlocks k s e) := by
  induction k generalizing s with
  | zero => exact .refl s
  | succ k ih =>
    unfold overflowBlocks
    split
    · exact .refl s
    · split
      · refine MergeStays.then (MergeStays.then ?_ (mergeStays_closeBlock _)) (ih _)
        exact mergeStays_parts rfl rfl rfl rfl
      · exact .refl s

theorem mergeStays_putRecord (s : State) (b : JBlock) (e : JEvent) (bytes : List Byte) (f : Bool) : MergeStays s (s.putRecord b e bytes f) := by
  unfold putRecord
  split
  · exact (jnLose_spec s).2.2.2
  · have h1 : MergeStays s (if f then (true, s.charge 1 bytes.length) else s.admitFor 1 bytes.length).2 := by
      split
      · exact mergeStays_parts rfl rfl rfl rfl
      · exact mergeStays_admitFor s _
    generalize (if f then (true, s.charge 1 bytes.length) else s.admitFor 1 bytes.length) = a at h1 ⊢
    obtain ⟨ok, s1⟩ := a
    refine h1.then ?_
    dsimp only
    split
    · exact mergeStays_parts rfl rfl rfl rfl
    · have h2 (b : JBlock) (recs n : Nat) : MergeStays s1 ({ ((s1.setHead b).bump64 Reg.JN_RECORDS_L recs) with
          jn := { (s1.setHead b).jn with frameBytes := (s1.setHead b).jn.frameBytes + n } } : State) :=
        ((mergeStays_setHead s1 b).then (mergeStays_records _ recs)).then (mergeStays_parts rfl rfl rfl rfl)
      exact h2 _ _ _

theorem mergeStays_writeEvent (s : State) (e : JEvent) (late : Bool) : MergeStays s (s.writeEvent e late) := by
  unfold writeEvent
  refine (mergeStays_ensureBlock s).then ?_
  dsimp only
  generalize s.ensureBlock = t
  split
  · exact .refl t
  · split
    · exact mergeStays_putRecord _ _ _ _ _
    · refine (mergeStays_overflowBlocks 1024 t e).then ?_
      generalize overflowBlocks 1024 t e = v
      split
      · exact .refl v
      · split
        · split
          · exact mergeStays_setHead _ _
          · exact mergeStays_putRecord _ _ _ _ _
        · exact mergeStays_putRecord _ _ _ _ _

theorem mergeStays_jnWrite (s : State) (e : JEvent) (late : Bool) : MergeStays s (s.jnWrite e late) := by
  unfold jnWrite
  split
  · exact .refl s
  · exact mergeStays_writeEvent s e late

/-! ### A late event's record -/

theorem length_wordsBytes (l : List Nat) : (wordsBytes l).length = 4 * l.length := by
  have h4 (n : Nat) : (leBytes 4 n).length = 4 := rfl
  unfold wordsBytes
  induction l with
  | nil => rfl
  | cons n r ih => rw [List.flatMap_cons, List.length_append, h4, ih, List.length_cons]; omega

theorem length_exactRec (e : JEvent) (late : Bool) : (exactRec e late 0).length = 32 := by
  unfold exactRec
  dsimp only
  rw [List.length_append, List.length_append, length_wordsBytes]
  rfl

/-- An event in exact form goes behind the open block's records where JRN admits it and staging holds it (R463, R464). -/
theorem jnWrite_late {s : State} {e : JEvent} {b : JBlock} {rest : List JBlock} (hs : s.safe = false) (hb : s.jn.blocks = b :: rest)
    (hx : s.extCount e = 0) (hu : s.stageUsed + 32 ≤ stageSize) (ha : s.admits 1 32 = true) :
    (s.jnWrite e true).jn.blocks = { b with body := b.body ++ exactRec e true 0, records := b.records + 1 } :: rest := by
  have hg : e.lastGasp = false := by
    unfold extCount at hx
    cases h : e.lastGasp
    · rfl
    · rw [h] at hx; cases hx
  have he : s.ensureBlock = s := by unfold ensureBlock; rw [hb]; rfl
  have hj : (s.admitted 1 32).jn = s.jn := (spent_admitted s 1 32).jn
  have hl := length_exactRec e true
  generalize hrec : exactRec e true 0 = bytes at hl ⊢
  have key : s.writeEvent e true = s.putRecord b e bytes e.lastGasp := by
    unfold writeEvent
    dsimp only
    rw [he, hb, hx, hrec]
    rfl
  unfold jnWrite
  rw [hs, if_neg (by decide), key, hg]
  unfold putRecord
  rw [hl, if_neg (by simp; omega), admitFor_pos ha, hg]
  simp only [Bool.false_eq_true, if_false, Bool.not_true]
  show ((s.admitted 1 32).setHead _).jn.blocks = _
  unfold setHead
  rw [hj, hb]
  rfl

/-- A late event (R456): counted and shown, and written where there is room. -/
theorem jnLate_spec {s s1 : State} (e : JEvent) (hs : s.safe = false) (h1 : s1 = { s with jn := { s.jn with arrivals := s.jn.arrivals + 1 } }) :
    let u := ((s1.bump Reg.JN_LATE).evt Fld.JN_EVT_LATE).jnWrite e true
    u.rdN Reg.JN_LATE = oneMore (s.rdN Reg.JN_LATE) ∧ u.flag Fld.JN_EVT_LATE = true ∧ u.jn.window = s.jn.window ∧
      (∀ b rest, s.jn.blocks = b :: rest → s.extCount e = 0 → s.stageUsed + 32 ≤ stageSize → s.admits 1 32 = true →
        u.jn.blocks = { b with body := b.body ++ exactRec e true 0, records := b.records + 1 } :: rest) := by
  dsimp only
  have hr : s1.regs = s.regs := by rw [h1]
  have hw : s1.whl = s.whl := by rw [h1]
  have hd (a : Nat) : s1.rd a = s.rd a := congrArg (fun r : RegFile => r.word a) hr
  have hm : Marks (fun a => a = Reg.JN_LATE ∨ a = Reg.JN_EVT) s1 ((s1.bump Reg.JN_LATE).evt Fld.JN_EVT_LATE) :=
    (writes_bump s1 (.inl rfl)).marks.then (marks_evt _ _ (by decide) (.inr rfl))
  have hlate := rdN_of_rd (rd_evt_other (s1.bump Reg.JN_LATE) Fld.JN_EVT_LATE (a := Reg.JN_LATE) (by decide) (by decide))
  have hev := flag_evt_same (s1.bump Reg.JN_LATE) Fld.JN_EVT_LATE rfl (by decide) (by decide) rfl
  generalize (s1.bump Reg.JN_LATE).evt Fld.JN_EVT_LATE = t at *
  have hk := mergeStays_jnWrite t e true
  have off (a : Nat) (h : a ≠ Reg.JN_LATE) (h' : a ≠ Reg.JN_EVT) : t.rd a = s.rd a := (hm.2 a (by simp [h, h'])).trans (hd a)
  refine ⟨?_, hk.event hev, ?_, fun b rest hb hx hu ha => ?_⟩
  · rw [rdN_of_rd hk.count, hlate, rdN_bump_same, rdN_of_rd (hd _)]
  · rw [hk.window, hm.jn, h1]
  · have ts : t.safe = false := (flag_of_rd (off Fld.FC_STAT_SAFE.addr (by decide) (by decide))).trans hs
    have tb : t.jn.blocks = b :: rest := by rw [hm.jn, h1]; exact hb
    have tu : t.stageUsed = s.stageUsed := by unfold stageUsed; rw [hm.jn, h1]
    have tx : t.extCount e = s.extCount e := by
      unfold extCount
      rw [flag_of_rd (off (Fld.JN_CLSc_PKT e.cls).addr (by show Reg.JN_CLSc _ ≠ _; unfold Reg.JN_CLSc Reg.JN_LATE; omega)
        (by show Reg.JN_CLSc _ ≠ _; unfold Reg.JN_CLSc Reg.JN_EVT; omega)), rdN_of_rd (off Reg.JN_PKT_LEN (by decide) (by decide))]
    have ta : t.admits 1 32 = s.admits 1 32 := admits_congr
      ⟨hm.touches.whl.trans hw, fun j hj => off _ (by unfold Reg.WHLn_FLOOR_IF Reg.JN_LATE; omega) (by unfold Reg.WHLn_FLOOR_IF Reg.JN_EVT; omega),
        fun j hj => off _ (by unfold Reg.WHLn_CEIL_IF Reg.JN_LATE; omega) (by unfold Reg.WHLn_CEIL_IF Reg.JN_EVT; omega), off _ (by decide) (by decide)⟩ 32 (by decide)
    exact jnWrite_late ts tb (tx.trans hx) (by rw [tu]; exact hu) (ta.trans ha)

end State

/-- An event whose key lies before the last one released comes late (R456). -/
def lateKey (s : State) (e : JEvent) : Bool :=
  match s.jn.lastKey with
  | some lk => keyLt (jkey s.jn.arrivals e) lk
  | none => false

/-- What reaching the merge unit does, by cases: not journalled, late, no room, in the window. -/
theorem jnArrive_eq (s : State) (e : JEvent) : s.jnArrive e =
    if s.safe || !s.flag (Fld.JN_CLSc_EN e.cls) then s
    else if lateKey s e then ((({ s with jn := { s.jn with arrivals := s.jn.arrivals + 1 } } : State).bump Reg.JN_LATE).evt Fld.JN_EVT_LATE).jnWrite e true
    else if 4096 ≤ s.jn.window.length then ({ s with jn := { s.jn with arrivals := s.jn.arrivals + 1 } } : State).jnLose 1
    else { s with jn := { s.jn with arrivals := s.jn.arrivals + 1, window := s.jn.window ++ [(s.jn.arrivals, e)] } } := rfl

/-- An event comes late, is lost, or waits in the window (R456, R464). -/
theorem jnArrive_spec (s : State) (e : JEvent) :
    let u := s.jnArrive e
    if s.safe = true ∨ s.flag (Fld.JN_CLSc_EN e.cls) = false then u = s
    else if lateKey s e then
      u.rdN Reg.JN_LATE = oneMore (s.rdN Reg.JN_LATE) ∧ u.flag Fld.JN_EVT_LATE = true ∧ u.jn.window = s.jn.window ∧
        (∀ b rest, s.jn.blocks = b :: rest → s.extCount e = 0 → s.stageUsed + 32 ≤ State.stageSize → s.admits 1 32 = true →
          u.jn.blocks = { b with body := b.body ++ exactRec e true 0, records := b.records + 1 } :: rest)
    else if 4096 ≤ s.jn.window.length then
      u.jn.window = s.jn.window ∧ u.rdN Reg.JN_LOST = oneMore (s.rdN Reg.JN_LOST) ∧ u.jn.lost = s.jn.lost + 1 ∧ u.flag Fld.JN_EVT_LOST = true
    else u = { s with jn := { s.jn with arrivals := s.jn.arrivals + 1, window := s.jn.window ++ [(s.jn.arrivals, e)] } } := by
  dsimp only
  rw [jnArrive_eq]
  cases hs : s.safe
  case true => simp
  cases hen : s.flag (Fld.JN_CLSc_EN e.cls)
  case false => simp
  cases hl : lateKey s e
  · simp only [Bool.false_eq_true, if_false, Bool.not_true, Bool.or_self, Bool.true_eq_false, or_self]
    by_cases hfull : 4096 ≤ s.jn.window.length
    · rw [if_pos hfull, if_pos hfull]
      obtain ⟨hj, hn, hf, -⟩ := State.jnLose_spec { s with jn := { s.jn with arrivals := s.jn.arrivals + 1 } }
      exact ⟨(congrArg Journal.window hj :), hn, (congrArg Journal.lost hj :), hf⟩
    · rw [if_neg hfull, if_neg hfull]
  · simp only [Bool.false_eq_true, if_false, if_true, Bool.not_true, Bool.or_self, Bool.true_eq_false, or_self]
    exact State.jnLate_spec e hs rfl

theorem mergeRelease_spec (s : State) :
    let u := if s.safe then s else s.jnRelease
    match lowest s.jn.window with
    | none => u = s
    | some x =>
      if s.safe = true ∨ s.jnReady x.2 = false then u = s
      else u.jn.window = s.jn.window.filter (fun y => y.1 != x.1) ∧ u.jn.lastKey = some (x.2.epoch, x.2.stamp, x.2.source, x.1) ∧
        u.jn.inflight = s.jn.inflight := by
  dsimp only
  unfold State.jnRelease
  cases hl : lowest s.jn.window with
  | none => dsimp only; split <;> rfl
  | some x =>
    obtain ⟨n, e⟩ := x
    dsimp only
    cases hs : s.safe
    case true => simp
    cases hr : s.jnReady e
    case false => simp
    simp only [Bool.false_eq_true, if_false, if_true, Bool.true_eq_false, or_self]
    generalize hs1 : ({ s with jn := { s.jn with window := s.jn.window.filter (fun x => x.1 != n), lastKey := some (jkey n e) } } : State) = s1
    have hk (k : Nat) : MergeStays s1 ((State.closeUpTo k s1.ensureBlock e).jnWrite e false) :=
      ((State.mergeStays_ensureBlock s1).then (State.mergeStays_closeUpTo _ _ e)).then (State.mergeStays_jnWrite _ e false)
    exact ⟨(hk _).window.trans (by rw [← hs1]), (hk _).lastKey.trans (by rw [← hs1]; rfl), (hk _).inflight.trans (by rw [← hs1])⟩

theorem journalArrivals_hold : Claims.JournalArrivals := by
  refine ⟨jnArrive_spec, fun s => ⟨fun k => ⟨_, rfl, ?_⟩, fun stamp epoch source code payload cls conseq forced pkt he hp hc => ⟨_, rfl, ?_⟩,
    ⟨_, rfl, mergeRelease_spec s⟩⟩, lowest_spec⟩
  · dsimp only
    cases s.jn.inflight[k]? <;> rfl
  · dsimp only
    rw [Nat.mod_eq_of_lt he, Nat.mod_eq_of_lt hp, Nat.mod_eq_of_lt hc]

/-- A sketch that has not been written out in time is abandoned and counted (R467). -/
theorem skAbandon_spec (s : State) :
    let u := if s.jn.skExport = 0 then s
      else ({ (s.bump Reg.JN_SK_ABANDON) with jn := { s.jn with skExport := 0 } } : State).evt Fld.JN_EVT_SK_ABANDON
    if s.jn.skExport = 0 then u = s
    else u.jn.skExport = 0 ∧ u.rdN Reg.JN_SK_ABANDON = oneMore (s.rdN Reg.JN_SK_ABANDON) ∧ u.flag Fld.JN_EVT_SK_ABANDON = true := by
  have hm (t : State) : Marks (· = Reg.JN_EVT) t (t.evt Fld.JN_EVT_SK_ABANDON) := marks_evt t _ (by decide) rfl
  by_cases h : s.jn.skExport = 0
  · simp only [h, if_true]
  · simp only [h, if_false]
    exact ⟨congrArg Journal.skExport (hm _).jn, (State.rdN_of_rd ((hm _).2 _ (by decide))).trans (State.rdN_bump_same s _),
      flag_evt_same _ _ rfl (by decide) (by decide) rfl⟩

/-- A write of JN_HEVT_CMD with GO reaches the journal's host event (R462). -/
theorem hostEvent_write {s : State} {req : Requester} {ap : Aperture} (code : BitVec 10) (h : s.Admits req ap Reg.JN_HEVT_CMD) :
    s.writeAt req ap Reg.JN_HEVT_CMD (2 ^ 31 + code.toNat) = ((s.result req 0 0).wrHevt req (2 ^ 31 + code.toNat)).mirrorWatch := by
  have hlt := code.isLt
  obtain ⟨r, hr, hm⟩ : ∃ r, findRow Reg.JN_HEVT_CMD = some r ∧ r.rw ||| r.rwl ||| r.w1c ||| r.wo ||| r.rsv ≠ 0 := by decide +kernel
  rw [State.writeAt_admitted _ h hr hm (by decide) (by decide), Nat.mod_eq_of_lt (by omega)]
  rfl

/-- A host event sets out for the journal, stamped by the time view (R462); in the safe state nothing does. -/
theorem wrHevt_spec (s : State) (req : Requester) (code : BitVec 10) :
    let t := s.wrHevt req (2 ^ 31 + code.toNat)
    (t.jn = if s.safe then s.jn else { s.jn with inflight := s.jn.inflight ++ [⟨s.view * 1024, s.jn.epoch, match req with | .mgmt => 0x61 | _ => 0x60,
      code.toNat, false, false, s.rd64 Reg.JN_HEVT_P_L, 12, [], false⟩] }) ∧ Touches (fun _ => False) s t := by
  have hlt := code.isLt
  have hbit : bitAt (2 ^ 31 + code.toNat) 31 = true := by
    unfold bitAt
    rw [Nat.testBit_eq_decide_div_mod_eq, decide_eq_true_eq]
    omega
  have hmod : (2 ^ 31 + code.toNat) % 1024 = code.toNat := by omega
  unfold State.wrHevt
  rw [hbit, hmod]
  simp only [Bool.not_true, Bool.false_eq_true, if_false]
  cases s.safe
  · exact ⟨rfl, rfl, fun _ _ _ => rfl⟩
  · exact ⟨rfl, .refl _ s⟩

theorem hostEvents_hold : Claims.HostEvents := by
  intro s
  refine ⟨fun req ap code h => ⟨_, rfl, ?_⟩, ⟨_, rfl, skAbandon_spec s⟩⟩
  · obtain ⟨hj, ht⟩ := wrHevt_spec (s.result req 0 0) req code
    have hu : (s.writeAt req ap Reg.JN_HEVT_CMD (2 ^ 31 + code.toNat)).jn = ((s.result req 0 0).wrHevt req (2 ^ 31 + code.toNat)).jn := by
      rw [hostEvent_write code h]
      exact (congrArg State.jn (State.mirrorWatch_same _) :)
    have hacc : Accesses (fun _ => False) s (s.writeAt req ap Reg.JN_HEVT_CMD (2 ^ 31 + code.toNat)) := by
      rw [hostEvent_write code h]
      exact accesses_of_touches ht
    cases hs : s.safe
    · rw [if_neg (by decide)]
      refine ⟨hu.trans (hj.trans ?_), hacc⟩
      have hs' : (s.result req 0 0).safe = false := hs
      rw [hs', if_neg (by decide)]
      cases req <;> rfl
    · rw [if_pos rfl]
      have hs' : (s.result req 0 0).safe = true := hs
      exact hu.trans (hj.trans (by rw [hs', if_pos rfl]; rfl))

/-- Settles O52: arrivals at the merge unit, and host events. -/
theorem journalArrivals : Obligations.JournalArrivals := ⟨journalArrivals_hold, hostEvents_hold⟩

end Sys2Proof.Machine
end

section
/-! PROOF. O26: the Shell's edges, publications, record numbers and interval units (R16, R155, R189 to R197). -/

namespace Sys2Proof.Machine

namespace State

/-! ### TDC_EDGE (R189 to R191) -/

/-- The edge that a channel takes now. -/
def edgeNow (s : State) (c raw tag : Nat) : TdcEdge := ⟨s.tc.cycle, s.tc.now, s.incr, raw, (s.tdc c).tgen, tag⟩

/-- An edge within 2 ns of the channel's last. -/
def edgeCollides (s : State) (c raw tag : Nat) : Bool :=
  match (s.tdc c).lastEdge with
  | some t0 => decide (s.edgeTime c (s.edgeNow c raw tag) < t0 + 2 * nsU)
  | none => false

theorem edgeCollides_iff (s : State) (c raw tag : Nat) : s.edgeCollides c raw tag = true ↔
    ∃ t0, (s.tdc c).lastEdge = some t0 ∧ s.edgeTime c (s.edgeNow c raw tag) < t0 + 2 * nsU := by
  unfold edgeCollides
  cases (s.tdc c).lastEdge <;> simp

/-- The edge that was captured, as it stands in its FIFO and in the calibrations that watch its channel. -/
def captureEdge (s : State) (c raw tag : Nat) : State :=
  let t := s.edgeTime c (s.edgeNow c raw tag)
  let s1 := s.modTdc c (fun y => { y with fifo := y.fifo ++ [s.edgeNow c raw tag], lastEdge := some t })
  s1.setSh { s1.sh with liveCal := s1.sh.liveCal.map (fun l =>
    if l.step = 1 then l
    else if l.chan = c then { l with sumC := l.sumC + t, numC := l.numC + 1 }
    else if l.spare = c then { l with sumS := l.sumS + t, numS := l.numS + 1 } else l) }

theorem tdcEdge_eq (s : State) (c raw tag : Nat) : s.tdcEdge c raw tag =
    if !s.shMeasures || (s.tdc c).fenced || s.sh.liveCal.any (fun l => l.chan == c && l.step == 1) then s
    else if s.edgeCollides c raw tag then (s.bump (Reg.SHc_COLLIDE c)).modTdc c (fun y => { y with lossPrior := true })
    else if 32 ≤ (s.tdc c).fifo.length then (s.bump (Reg.SHc_FIFO_OVF c)).modTdc c (fun y => { y with
      lossPrior := true, lastEdge := some (s.edgeTime c (s.edgeNow c raw tag)) })
    else s.captureEdge c raw tag := rfl

/-- A word that was counted, beside a change of the Shell. -/
theorem counted_modTdc (s : State) (a c : Nat) (f : TdcChan → TdcChan) :
    ((s.bump a).modTdc c f).sh = { s.sh with chans := s.sh.chans.modify c f } ∧
      ((s.bump a).modTdc c f).rdN a = oneMore (s.rdN a) ∧
      Writes (· = a) { s with sh := ((s.bump a).modTdc c f).sh } ((s.bump a).modTdc c f) :=
  ⟨rfl, rdN_bump_same s a, rfl, fun _ hb => rd_bump_other s hb⟩

theorem edgesAreCaptured : Claims.EdgesAreCaptured := by
  intro ch raw tag s
  refine ⟨_, rfl, ?_⟩
  show if _ then s.tdcEdge ch.val raw.val tag = s else if ∃ t0, _ ∧ s.edgeTime ch.val (s.edgeNow ch.val raw.val tag) < _ then _ else _
  rw [tdcEdge_eq]
  by_cases h : s.shMeasures = false ∨ (s.tdc ch.val).fenced = true ∨ s.sh.liveCal.any (fun l => l.chan == ch.val && l.step == 1) = true
  · rw [if_pos h, if_pos (by simpa [or_assoc] using h)]
  rw [if_neg h, if_neg (by simpa [or_assoc] using h)]
  by_cases hn : s.edgeCollides ch.val raw.val tag = true
  · rw [if_pos hn]
    exact (if_pos ((edgeCollides_iff s _ _ _).1 hn)).mpr (counted_modTdc s _ _ _)
  rw [if_neg hn]
  refine (if_neg (fun e => hn ((edgeCollides_iff s _ _ _).2 e))).mpr ?_
  by_cases hf : 32 ≤ (s.tdc ch.val).fifo.length
  · rw [if_pos hf, if_pos hf]
    exact counted_modTdc s _ _ _
  · rw [if_neg hf, if_neg hf]
    exact ⟨rfl, rfl⟩

/-! ### PUBLICATION (R192) -/

theorem fifo_of_drainNext {s : State} {c : Nat} (h : s.drainNext = some c) : ∃ e r, (s.tdc c).fifo = e :: r := by
  have hne := List.find?_some h
  cases hf : (s.tdc c).fifo with
  | nil => simp [hf] at hne
  | cons e r => exact ⟨e, r, rfl⟩

theorem publications : Claims.Publications := by
  intro s
  refine ⟨_, rfl, ?_⟩
  show match s.drainNext with | none => s.drain = s | some c => _
  cases hd : s.drainNext with
  | none =>
    show s.drain = s
    unfold drain
    rw [hd, ite_self]
  | some c =>
    cases hm : s.shMeasures with
    | false =>
      show s.drain = s
      unfold drain
      rw [hm]
      rfl
    | true =>
      obtain ⟨e, r, hf⟩ := fifo_of_drainNext hd
      refine ⟨e, r, hf, ?_, rfl⟩
      show s.drain = _
      unfold drain
      simp only [hm, hd, hf, Bool.not_true, Bool.false_eq_true, if_false]

/-! ### Records (R192, R193) -/

theorem rd_wrWords_other (l : List Nat) : ∀ (s : State) {a b : Nat}, (∀ i, i < l.length → b ≠ a + 4 * i) → (s.wrWords a l).rd b = s.rd b := by
  induction l with
  | nil => intro s a b _; rfl
  | cons w r ih =>
    intro s a b h
    unfold wrWords
    rw [ih _ (fun i hi => by have := h (i + 1) (by simpa using hi); omega), rd_wrN_other _ _ (by simpa using h 0 (by simp))]

/-- A word of a block of words. -/
theorem rdN_wrWords (l : List Nat) : ∀ (s : State) (a i w : Nat), l[i]? = some w → (s.wrWords a l).rdN (a + 4 * i) = w % 2 ^ 32 := by
  induction l with
  | nil => intro s a i w h; simp at h
  | cons x r ih =>
    intro s a i w h
    unfold wrWords
    cases i with
    | zero =>
      have e : x = w := by simpa using h
      rw [rdN_of_rd (rd_wrWords_other r _ (fun i _ => by omega)), ← e]
      exact rdN_wrN_same s a x
    | succ i =>
      have k := ih (s.wrN a x) (a + 4) i w (by simpa using h)
      rwa [show a + 4 + 4 * i = a + 4 * (i + 1) by omega] at k

/-- A 64-bit word pair that was written. -/
theorem rd64_wr64_same (s : State) (a n : Nat) : (s.wr64 a n).rd64 a = n % 2 ^ 64 := by
  unfold wr64 rd64
  rw [rdN_wrN_other _ _ (by omega), rdN_wrN_same, rdN_wrN_same]
  omega

theorem rd_wr64_other (s : State) (n : Nat) {a b : Nat} (h1 : b ≠ a) (h2 : b ≠ a + 4) : (s.wr64 a n).rd b = s.rd b := by
  unfold wr64
  rw [rd_wrN_other _ _ h2, rd_wrN_other _ _ h1]

theorem wr64_sh (s : State) (a n : Nat) : (s.wr64 a n).sh = s.sh := rfl

theorem wrWords_sh (l : List Nat) : ∀ (s : State) (a : Nat), (s.wrWords a l).sh = s.sh := by
  induction l with
  | nil => intro s a; rfl
  | cons x r ih => intro s a; exact ih _ _

/-- The state in which a publication's record is formed: numbered, and its bandwidth charged (R102, R193). -/
def numbered (s : State) : State :=
  let s0 := s.setSh { s.sh with seq := s.sh.seq + 1 }
  if s0.admits 8 1 then s0.admitted 8 1 else s0.charge 8 1

theorem numbered_sh (s : State) : s.numbered.sh = { s.sh with seq := s.sh.seq + 1 } := by
  unfold numbered
  dsimp only
  split
  · exact (spent_admitted _ 8 1).sh
  · rfl

theorem nsOf_lt (t : Nat) : nsOf t < 1000000000 := by
  unfold nsOf secU
  rw [Nat.mul_comm, Nat.mod_mul_right_div_self]
  exact Nat.mod_lt _ (by decide)

/-- The record of a publication in its source's words (R193). -/
def recorded (s : State) (p : Pub) : State := s.numbered.wrWords (Reg.SH_REC (12 * p.src)) (s.numbered.pubWords p)

theorem recorded_sh (s : State) (p : Pub) : (s.recorded p).sh = { s.sh with seq := s.sh.seq + 1 } := by
  unfold recorded
  rw [wrWords_sh, numbered_sh]

/-- A published source and its channel, whose marks have been told. -/
def marksTold (s : State) (p : Pub) : State :=
  { s with freeCtr := s.freeCtr + 1, sh := { s.sh with
      gap := s.sh.gap.set p.src false, restart := s.sh.restart.set p.src false,
      chans := s.sh.chans.modify p.chan (fun c => { c with lossPrior := false }) } }

/-- The record and its number, counted. -/
def published (s : State) (p : Pub) : State := ((s.recorded p).wr64 Reg.SH_SEQ_L (s.recorded p).sh.seq).pcEvent 0x0901 0 1

theorem sendPub_eq {s : State} {p : Pub} (hp : p.src < 48) : s.sendPub p = (s.published p).marksTold p := by
  have h : s.sendPub p = (((if p.src < 48 then s.recorded p else s.numbered).wr64 Reg.SH_SEQ_L
    (if p.src < 48 then s.recorded p else s.numbered).sh.seq).pcEvent 0x0901 0 1).marksTold p := rfl
  rw [h, if_pos hp]
  rfl

theorem published_sh (s : State) (p : Pub) : (s.published p).sh = { s.sh with seq := s.sh.seq + 1 } := by
  unfold published
  rw [(counted_pcEvent _ 0x0901 0 1).spent.sh, wr64_sh, recorded_sh]

/-- What a publication leaves of the words: its record, its number, and what the counters count (R193). -/
theorem sendPub_rd {s : State} {p : Pub} (hp : p.src < 48) {a : Nat} (ha : counterPage a = false) :
    (s.sendPub p).rd a = ((s.recorded p).wr64 Reg.SH_SEQ_L (s.sh.seq + 1)).rd a := by
  have h (t : State) : (t.pcEvent 0x0901 0 1).rd a = t.rd a := (counted_pcEvent t 0x0901 0 1).2 a (by simp [ha])
  have hm (t : State) : (t.marksTold p).rd a = t.rd a := rfl
  rw [sendPub_eq hp, hm]
  unfold published
  rw [h, recorded_sh]

theorem sendPub_sh {s : State} {p : Pub} (hp : p.src < 48) : (s.sendPub p).sh = { s.sh with
    seq := s.sh.seq + 1, gap := s.sh.gap.set p.src false, restart := s.sh.restart.set p.src false,
    chans := s.sh.chans.modify p.chan (fun c => { c with lossPrior := false }) } := by
  have h : ((s.published p).marksTold p).sh = { (s.published p).sh with
      gap := (s.published p).sh.gap.set p.src false, restart := (s.published p).sh.restart.set p.src false,
      chans := (s.published p).sh.chans.modify p.chan (fun c => { c with lossPrior := false }) } := rfl
  rw [sendPub_eq hp, h, published_sh]

/-- A word of the record that was published (R193). -/
theorem rdN_sendPub_rec {s : State} {p : Pub} (hp : p.src < 48) {i w : Nat} (hi : i < 12) (hw : (s.numbered.pubWords p)[i]? = some w) :
    (s.sendPub p).rdN (Reg.SH_REC (12 * p.src + i)) = w % 2 ^ 32 := by
  have ha : Reg.SH_REC (12 * p.src + i) = Reg.SH_REC (12 * p.src) + 4 * i := by unfold Reg.SH_REC; omega
  have hc : counterPage (Reg.SH_REC (12 * p.src + i)) = false := by
    unfold counterPage pageOf Reg.SH_REC
    simp; omega
  rw [rdN_of_rd (sendPub_rd hp hc), ← rdN_wrWords _ _ _ _ _ hw, ← ha]
  exact rdN_of_rd (rd_wr64_other _ _ (by unfold Reg.SH_REC Reg.SH_SEQ_L; omega) (by unfold Reg.SH_REC Reg.SH_SEQ_L; omega))

theorem recordsAreNumbered : Claims.RecordsAreNumbered := by
  intro p s hp
  have hsh := sendPub_sh (s := s) hp
  have hseq : (s.sendPub p).rd64 Reg.SH_SEQ_L = (s.sh.seq + 1) % 2 ^ 64 := by
    have e (a : Nat) (ha : counterPage a = false) := rdN_of_rd (sendPub_rd (s := s) hp ha)
    unfold rd64
    rw [e _ (by decide), e _ (by decide)]
    exact rd64_wr64_same _ _ _
  have h1 : (s.sendPub p).rdN (Reg.SH_REC (12 * p.src + 1)) = (s.sh.seq + 1) % 2 ^ 32 := by
    have h := rdN_sendPub_rec (s := s) hp (i := 1) (by decide) rfl
    rw [numbered_sh, Nat.mod_mod] at h
    exact h
  have h7 : (s.sendPub p).rdN (Reg.SH_REC (12 * p.src + 7)) = nsOf p.time :=
    (rdN_sendPub_rec (s := s) hp (i := 7) (by decide) rfl).trans (Nat.mod_eq_of_lt (Nat.lt_trans (nsOf_lt _) (by decide)))
  have h10 : (s.sendPub p).rdN (Reg.SH_REC (12 * p.src + 10)) = p.payload % 2 ^ 32 :=
    (rdN_sendPub_rec (s := s) hp (i := 10) (by decide) rfl).trans (Nat.mod_mod _ _)
  exact ⟨by rw [hsh], hseq, h1, h7, h10, by rw [hsh], by rw [hsh]⟩

/-! ### Intervals (R196, R197) -/

/-- The units' starts that wait for their stops are the same. -/
def SameUnits (s t : State) : Prop := t.sh.units = s.sh.units

theorem SameUnits.then {s t u : State} (h : SameUnits s t) (k : SameUnits t u) : SameUnits s u := Eq.trans k h

theorem sameUnits_outCheck (s : State) (n : Nat) (interval : Int) : SameUnits s (s.outCheck n interval) := by
  have hev (t : State) : SameUnits t (t.evt (Fld.OUn_EVT_CHK_FAIL n)) := congrArg Shell.units (evt_sh t _)
  unfold outCheck
  dsimp only
  split
  · split
    · exact hev _
    · exact rfl
  · exact rfl

theorem sameUnits_consume {s : State} {p : Pub} (h : p.kind = 8) : SameUnits s (s.consume p) := by
  unfold consume
  dsimp only
  simp only [h, Nat.reduceEqDiff, if_false, if_true]
  split
  · split
    · exact rfl
    · exact sameUnits_outCheck s _ _
  · split
    · exact rfl
    · exact rfl

theorem sameUnits_publish {s : State} {p : Pub} (hk : p.kind = 8) (hp : p.src < 48) : SameUnits s (s.publish p) := by
  have hs : SameUnits s (s.sendPub p) := by
    unfold SameUnits
    rw [sendPub_sh hp]
  unfold publish
  split
  · exact hs.then (sameUnits_consume hk)
  · split
    · have hh : (s.holdPub p).sh.units = s.sh.units := by
        unfold holdPub
        dsimp only
        rw [evt_sh]
        split <;> rfl
      exact hh
    · exact rfl

theorem sourceOf_lt {s : State} {c x : Nat} (h : s.sourceOf c = some x) : x < 44 := List.mem_range.1 (List.mem_of_find?_eq_some h)

/-- A stop that has a start takes it out of its unit, whatever is made of the interval (R196, R197). -/
theorem pairStop_units {s : State} {n c x : Nat} {stop : Resolved} {a : UnitStart} (hm : s.shMeasures = true) (hx : s.sourceOf c = some x)
    (ha : pairOf ((s.sh.units.getD n []).filter (fun a => stopChan n a.owner == x)) stop = some a) :
    (s.pairStop n c stop).sh.units = s.sh.units.modify n (fun l => l.erase a) := by
  have interval (t : State) (v : Int) (tie rev : Bool) (o : Nat) : SameUnits t (t.publishInterval c x o v tie rev) :=
    sameUnits_publish rfl (Nat.lt_trans (sourceOf_lt hx) (by decide))
  unfold pairStop
  simp only [hm, hx, ha, Bool.not_true, Bool.false_eq_true, if_false]
  split
  · exact interval _ _ _ _ _
  · exact rfl

theorem intervalUnits : Claims.IntervalUnits := by
  intro n s
  refine ⟨fun ch stop => ⟨_, rfl, ?_⟩, _, rfl, ?_⟩
  · show match s.sourceOf ch.val with | none => s.pairStop n.val ch.val stop = s | some x => _
    cases hx : s.sourceOf ch.val with
    | none =>
      show s.pairStop n.val ch.val stop = s
      unfold pairStop
      rw [hx, ite_self]
    | some x =>
      cases hm : s.shMeasures with
      | false =>
        refine (if_pos rfl).mpr ?_
        unfold pairStop
        rw [hm]
        rfl
      | true =>
        refine (if_neg (by decide)).mpr ?_
        cases ha : pairOf ((s.sh.units.getD n.val []).filter (fun a => stopChan n.val a.owner == x)) stop with
        | none =>
          have e : s.pairStop n.val ch.val stop = s.bump (Reg.SHc_ORPHAN ch.val) := by
            unfold pairStop
            simp only [hm, hx, ha, Bool.not_true, Bool.false_eq_true, if_false]
          refine e ▸ ⟨rdN_bump_same s _, writes_bump s rfl⟩
        | some a => exact pairStop_units hm hx ha
  · show match s.sh.units.getD n.val [] with | [] => s.dropStart n.val = s | a :: r => _
    cases hu : s.sh.units.getD n.val [] with
    | nil =>
      show s.dropStart n.val = s
      unfold dropStart
      rw [hu]
    | cons a r =>
      have e : s.dropStart n.val = (s.setSh { s.sh with units := s.sh.units.set n.val r }).bump (Reg.SHc_STALE_START (stopChan n.val a.owner)) := by
        unfold dropStart
        rw [hu]
      exact e ▸ ⟨rfl, rdN_bump_same _ _, writes_bump _ rfl⟩

end State

/-- Settles O26: edges, publications, records and intervals, each from what its function does. -/
theorem measurements : Obligations.Measurements :=
  ⟨State.edgesAreCaptured, State.publications, State.recordsAreNumbered, State.intervalUnits⟩

end Sys2Proof.Machine
end

section
/-! PROOF. O58: main boot in order, and what stops it (R31, R52, R58, R505 to R509). -/

namespace Sys2Proof.Machine

/-! ### What main boot shows once -/

/-- The fields that main boot shows before it looks at an image: loops and straps, the memory channels, and which image (R506 to R508). -/
def shownFields : List Fld :=
  [Fld.CK_STAT_SLOCK, Fld.LS_STAT_ROLE, Fld.SYS_BOOT_BOOTSRC, Fld.SYS_BOOT_DDR0_FAIL, Fld.SYS_BOOT_DDR1_FAIL, Fld.SYS_BOOT_IMAGE_B]

/-- Those fields are as they were, and no reset is held nor SLEEP prepared anew. -/
structure KeepsShown (s t : State) : Prop where
  held : t.boot.held = s.boot.held
  sleeping : t.boot.sleeping = s.boot.sleeping
  fields : ∀ f, f ∈ shownFields → t.get f = s.get f

theorem KeepsShown.refl (s : State) : KeepsShown s s := ⟨rfl, rfl, fun _ _ => rfl⟩

theorem KeepsShown.then {s t u : State} (h : KeepsShown s t) (k : KeepsShown t u) : KeepsShown s u :=
  ⟨k.held.trans h.held, k.sleeping.trans h.sleeping, fun f hf => (k.fields f hf).trans (h.fields f hf)⟩

theorem KeepsShown.flag {s t : State} (h : KeepsShown s t) {f : Fld} (hf : f ∈ shownFields) : t.flag f = s.flag f := by
  unfold State.flag
  rw [h.fields f hf]

/-- A word that shows none of those fields. -/
def ShowsNothing (a : Nat) : Prop := a ≠ Reg.CK_STAT ∧ a ≠ Reg.LS_STAT ∧ a ≠ Reg.SYS_BOOT

theorem shownFields_addr {f : Fld} (hf : f ∈ shownFields) : f.addr = Reg.CK_STAT ∨ f.addr = Reg.LS_STAT ∨ f.addr = Reg.SYS_BOOT := by
  have h : ∀ f ∈ shownFields, f.addr = Reg.CK_STAT ∨ f.addr = Reg.LS_STAT ∨ f.addr = Reg.SYS_BOOT := by decide
  exact h f hf

theorem keepsShown_of_words {s t : State} (hb : t.boot = s.boot) (h : ∀ a, ¬ShowsNothing a → t.rd a = s.rd a) : KeepsShown s t := by
  refine ⟨congrArg Boot.held hb, congrArg Boot.sleeping hb, fun f hf => State.get_of_rd (h _ ?_)⟩
  rintro ⟨h1, h2, h3⟩
  rcases shownFields_addr hf with e | e | e
  · exact h1 e
  · exact h2 e
  · exact h3 e

theorem Marks.keepsShown {A : Nat → Prop} {s t : State} (h : Marks A s t) (hA : ∀ a, A a → ShowsNothing a) : KeepsShown s t :=
  keepsShown_of_words h.touches.boot (fun a ha => h.2 a (fun e => ha (hA a e)))

theorem keepsShown_wrN (s : State) {a : Nat} (n : Nat) (h : ShowsNothing a) : KeepsShown s (s.wrN a n) :=
  (writes_wrN (A := (· = a)) s n rfl).marks.keepsShown (fun _ e => e ▸ h)

theorem keepsShown_wr (s : State) {a : Nat} (w : Word) (h : ShowsNothing a) : KeepsShown s (s.wr a w) :=
  (writes_wr (A := (· = a)) s w rfl).marks.keepsShown (fun _ e => e ▸ h)

theorem keepsShown_parts {s t : State} (hb : t.boot = s.boot) (h : t.regs = s.regs) : KeepsShown s t :=
  keepsShown_of_words hb (fun a _ => congrArg (fun r : RegFile => r.word a) h)

theorem keepsShown_modPip (s : State) (k : Nat) (f : Pip → Pip) : KeepsShown s (s.modPip k f) := keepsShown_parts rfl rfl

theorem keepsShown_setLs (s : State) (x : Lease) : KeepsShown s (s.setLs x) := keepsShown_parts rfl rfl

theorem keepsShown_waiting (s : State) (w : Bool) : KeepsShown s { s with boot := { s.boot with waiting := w } } := ⟨rfl, rfl, fun _ _ => rfl⟩

theorem KeepsShown.waiting {s t : State} (h : KeepsShown s t) (w : Bool) : KeepsShown s { t with boot := { s.boot with waiting := w } } :=
  ⟨rfl, rfl, h.fields⟩

/-- A field beside those that are shown. -/
theorem keepsShown_set (s : State) (f : Fld) (v : Nat) (hf : f.lo + f.width ≤ 32)
    (h : ∀ g ∈ shownFields, g.addr ≠ f.addr ∨ g.lo + g.width ≤ f.lo ∨ f.lo + f.width ≤ g.lo) : KeepsShown s (s.set f v) :=
  ⟨by rw [State.set_boot], by rw [State.set_boot], fun g hg => State.get_set_other s f g v hf (h g hg)⟩

theorem keepsShown_foldl {α : Type} (l : List α) (f : State → α → State) (h : ∀ (t : State) (x : α), x ∈ l → KeepsShown t (f t x)) (s : State) :
    KeepsShown s (l.foldl f s) := by
  induction l generalizing s with
  | nil => exact .refl s
  | cons x r ih => exact (h s x (by simp)).then (ih (fun t y hy => h t y (by simp [hy])) (f s x))

theorem keepsShown_wrWords (l : List Nat) : ∀ (s : State) (a : Nat), (∀ i, i < l.length → ShowsNothing (a + 4 * i)) →
    KeepsShown s (s.wrWords a l) := by
  induction l with
  | nil => intro s a _; exact .refl s
  | cons w r ih =>
    intro s a h
    have tail (i : Nat) (hi : i < r.length) : ShowsNothing (a + 4 + 4 * i) := by
      have e := h (i + 1) (by simpa using hi)
      rwa [show a + 4 * (i + 1) = a + 4 + 4 * i by omega] at e
    exact (keepsShown_wrN s w (h 0 (by simp))).then (ih _ _ tail)

namespace State

/-- The words that show main boot's progress have no bit that an image's base set could write (R52). -/
theorem shown_readOnly {a : Nat} (h : ¬ShowsNothing a) {r : RegRow} (hr : findRow a = some r) : r.rw ||| r.rwl ||| r.rsv = 0 := by
  have key : ∀ a ∈ [Reg.CK_STAT, Reg.LS_STAT, Reg.SYS_BOOT], ∀ r ∈ findRow a, r.rw ||| r.rwl ||| r.rsv = 0 := by decide +kernel
  refine key a ?_ r hr
  unfold ShowsNothing at h
  by_cases h1 : a = Reg.CK_STAT
  · simp [h1]
  by_cases h2 : a = Reg.LS_STAT
  · simp [h2]
  by_cases h3 : a = Reg.SYS_BOOT
  · simp [h3]
  exact absurd ⟨h1, h2, h3⟩ h

theorem keepsShown_baseWord (s : State) (a : Nat) (v : Word) : KeepsShown s (s.baseWord a v) := by
  unfold baseWord
  cases hr : findRow a with
  | none => exact .refl s
  | some r =>
    have h1 : KeepsShown s (s.wrN a ((s.rdN a &&& (0xFFFFFFFF ^^^ (r.rw ||| r.rwl ||| r.rsv))) ||| (v.toNat &&& (r.rw ||| r.rwl ||| r.rsv)))) := by
      by_cases h : ShowsNothing a
      · exact keepsShown_wrN s _ h
      · rw [shown_readOnly h hr]
        refine keepsShown_of_words rfl (fun b _ => ?_)
        by_cases hb : b = a
        · subst hb
          rw [rd_wrN_same]
          have e : s.rdN b &&& 0xFFFFFFFF = s.rdN b := (Nat.and_two_pow_sub_one_eq_mod _ 32).trans (Nat.mod_eq_of_lt (s.rd b).isLt)
          rw [Nat.xor_zero, Nat.and_zero, Nat.or_zero, e]
          exact BitVec.ofNat_toNat 32 (s.rd b)
        · exact rd_wrN_other s _ hb
    dsimp only
    split
    · exact h1.then (keepsShown_parts rfl rfl)
    · exact h1

theorem keepsShown_loadOverlays (s : State) (l : List OvlSection) (compat : List Nat) : KeepsShown s (s.loadOverlays l compat) := by
  have told {u : State} {c : Prop} [Decidable c] (h : KeepsShown s u) : KeepsShown s (if c then u.evt Fld.CFG_EVT_OVL_OVERLAP else u) := by
    split
    · exact h.then ((marks_evt (A := (· = Reg.CFG_EVT)) u _ (by decide) rfl).keepsShown (fun a e => e ▸ by unfold ShowsNothing; decide))
    · exact h
  have marks (m n : Nat) : KeepsShown s ((s.set Fld.CFG_OVL_LOADED_PRESENT m).set Fld.CFG_OVL_LOADED_BAD n) :=
    (keepsShown_set s Fld.CFG_OVL_LOADED_PRESENT m (by decide) (by decide)).then (keepsShown_set _ Fld.CFG_OVL_LOADED_BAD n (by decide) (by decide))
  unfold loadOverlays
  dsimp only
  refine told (.then ?_ (keepsShown_foldl _ _ (fun t k hk => keepsShown_wrN t _ ?_) _))
  · refine .then ?_ (keepsShown_foldl _ _ (fun t i hi => keepsShown_wrN t _ ?_) _)
    · have h1 := marks (maskOf ((List.range (min 16 l.length)).filter (fun k => !ovlBad (l.getD k ⟨[], 0⟩))))
        (maskOf ((List.range (min 16 l.length)).filter (fun k => ovlBad (l.getD k ⟨[], 0⟩))))
      generalize (s.set Fld.CFG_OVL_LOADED_PRESENT _).set Fld.CFG_OVL_LOADED_BAD _ = u at h1 ⊢
      exact h1.then (keepsShown_parts rfl rfl)
    · have := List.mem_range.1 hi
      unfold ShowsNothing Reg.CFG_OVL_INCOMPAT Reg.CK_STAT Reg.LS_STAT Reg.SYS_BOOT
      omega
  · have := List.mem_range.1 (List.mem_of_mem_filter hk)
    unfold ShowsNothing Reg.CFG_DELTA Reg.CK_STAT Reg.LS_STAT Reg.SYS_BOOT
    omega

/-- A Pip's record names one of the 28 Pips. -/
theorem pipRecordOk_index {b : List Byte} (h : pipRecordOk b = true) : fromLe ((b.drop 4).take 1) < 28 := by
  unfold pipRecordOk at h
  simp only [Bool.and_eq_true, decide_eq_true_eq] at h
  tauto

theorem keepsShown_loadPip (s : State) {r : List Byte} (h : pipRecordOk r = true) : KeepsShown s (s.loadPip r) := by
  have hk := pipRecordOk_index h
  have page (n : Nat) (hn : n < 0x1000) : ShowsNothing (0xA0000 + n + fromLe ((r.drop 4).take 1) * 0x1000) := by
    unfold ShowsNothing Reg.CK_STAT Reg.LS_STAT Reg.SYS_BOOT
    omega
  have words (l : List Nat) (hl : l.length ≤ 8) (a b c : Nat) : KeepsShown s ((((s.wrN (Reg.PPk_WDOG (fromLe ((r.drop 4).take 1))) a).wrN
      (Reg.PPk_EMIT (fromLe ((r.drop 4).take 1))) b).wrN (Reg.PPk_IMG (fromLe ((r.drop 4).take 1))) c).wrWords
      (Reg.PPk_ACL (fromLe ((r.drop 4).take 1)) 0) l) :=
    (((keepsShown_wrN s a (page 0x44 (by decide))).then (keepsShown_wrN _ b (page 0x4C (by decide)))).then
      (keepsShown_wrN _ c (page 0x70 (by decide)))).then (keepsShown_wrWords l _ _ (fun i hi => by
        unfold ShowsNothing Reg.PPk_ACL Reg.CK_STAT Reg.LS_STAT Reg.SYS_BOOT
        omega))
  unfold loadPip
  dsimp only
  refine (words _ ?_ _ _ _).then (keepsShown_modPip _ _ _)
  simp

/-! ### Loading -/

theorem keepsShown_bootStop (s : State) (c : Nat) : KeepsShown s (s.bootStop c) :=
  ((keepsShown_set s Fld.SYS_BOOT_STAGE _ (by decide) (by decide)).then (keepsShown_set _ Fld.SYS_BOOT_CAUSE c (by decide) (by decide))).waiting false

/-- What a stop of main boot shows (R509). -/
theorem bootStop_spec (s : State) {c : Nat} (hc : c < 64) :
    (s.bootStop c).bootStage = (if c = 9 then 7 else 6) ∧ (s.bootStop c).get Fld.SYS_BOOT_CAUSE = c ∧ (s.bootStop c).boot.waiting = false ∧
      (s.bootStop c).flag Fld.SYS_BOOT_READY = s.flag Fld.SYS_BOOT_READY := by
  have hp (t : State) (b : Boot) (f : Fld) : ({ t with boot := b } : State).get f = t.get f := rfl
  have hq (t : State) (b : Boot) (f : Fld) : ({ t with boot := b } : State).flag f = t.flag f := rfl
  unfold bootStage bootStop
  refine ⟨?_, ?_, rfl, ?_⟩
  · rw [hp, get_set_other _ _ _ _ (by decide) (by decide), get_set_same _ _ _ (by decide)]
    split <;> rfl
  · rw [hp, get_set_same _ _ _ (by decide)]
    exact Nat.mod_eq_of_lt hc
  · rw [hq, flag_set_other _ _ _ _ (by decide) (by decide), flag_set_other _ _ _ _ (by decide) (by decide)]

/-- The base set, the overlays and the Pip records are loaded (R52, R58, R388). -/
def loaded (s : State) (x : BootSections) : State :=
  x.pips.foldl (fun t r => t.loadPip r)
    ((x.baseSet.foldl (fun t e => t.baseWord e.1 e.2) (s.set Fld.SYS_BOOT_STAGE 4)).loadOverlays x.overlays x.compat)

/-- The references of a sealed image are in place, and the scan runs (R52, R54). -/
def sealed (s : State) (r : Word) : State :=
  let s3 := (((s.wr Reg.CFG_BASE_REF r).wr Reg.CFG_RUN_REF r).wr Reg.CFG_EXP_REF r).copyShadow
  let s4 := { s3 with cfg := { s3.cfg with scanning := true }, fc := { s3.fc with baseLoaded := true } }
  s4.startScan

/-- The device is READY (R513). -/
def readied (s : State) (ms : Nat) : State :=
  let s5 := ((s.set Fld.SYS_BOOT_STAGE 5).setB Fld.SYS_BOOT_READY true).wrN Reg.SYS_BOOT_MS (satNat 16 ms)
  let mode := s5.get Fld.CK_SAPLL_CFG_SSC_MODE
  let s6 := s5.setB Fld.CK_STAT_SSC_ACTIVE (mode == 1 || mode == 2)
  if s6.get Fld.LS_STAT_ROLE = 3 then (s6.setB Fld.LS_ARB_STAT_WAIT true).setLs { s6.ls with waitFor := none } else s6

theorem loadSections_eq (s : State) (x : BootSections) (ms : Nat) : s.loadSections x ms =
    if 16 < x.overlays.length || x.pips.any (fun r => !pipRecordOk r) then s.bootStop 5
    else if BitVec.ofNat 32 (s.loaded x).sealNow ≠ x.sealRef then (s.loaded x).bootStop 7
    else ((s.loaded x).sealed x.sealRef).readied ms := rfl

theorem keepsShown_loaded (s : State) {x : BootSections} (hp : ∀ r ∈ x.pips, pipRecordOk r = true) : KeepsShown s (s.loaded x) :=
  (((keepsShown_set s Fld.SYS_BOOT_STAGE 4 (by decide) (by decide)).then (keepsShown_foldl _ _ (fun t e _ => keepsShown_baseWord t e.1 e.2) _)).then
    (keepsShown_loadOverlays _ _ _)).then (keepsShown_foldl _ _ (fun t r hr => keepsShown_loadPip t (hp r hr)) _)

theorem keepsShown_sealed (s : State) (r : Word) : KeepsShown s (s.sealed r) := by
  have h (a : Nat) (ha : a < 0xC000) (h2 : a ≠ 0x54) : ShowsNothing a := by
    unfold ShowsNothing Reg.CK_STAT Reg.LS_STAT Reg.SYS_BOOT
    omega
  have h3 : KeepsShown s (((s.wr Reg.CFG_BASE_REF r).wr Reg.CFG_RUN_REF r).wr Reg.CFG_EXP_REF r) :=
    ((keepsShown_wr s r (h _ (by decide) (by decide))).then (keepsShown_wr _ r (h _ (by decide) (by decide)))).then
      (keepsShown_wr _ r (h _ (by decide) (by decide)))
  unfold sealed
  dsimp only
  generalize ((s.wr Reg.CFG_BASE_REF r).wr Reg.CFG_RUN_REF r).wr Reg.CFG_EXP_REF r = u at h3 ⊢
  exact h3.then (keepsShown_parts rfl rfl)

theorem keepsShown_readied (s : State) (ms : Nat) : KeepsShown s (s.readied ms) := by
  have h5 : KeepsShown s (((s.set Fld.SYS_BOOT_STAGE 5).setB Fld.SYS_BOOT_READY true).wrN Reg.SYS_BOOT_MS (satNat 16 ms)) :=
    ((keepsShown_set s Fld.SYS_BOOT_STAGE 5 (by decide) (by decide)).then (keepsShown_set _ Fld.SYS_BOOT_READY _ (by decide) (by decide))).then
      (keepsShown_wrN _ _ (by unfold ShowsNothing; decide))
  have h6 (b : Bool) := h5.then (keepsShown_set _ Fld.CK_STAT_SSC_ACTIVE (if b then 1 else 0) (by decide) (by decide))
  unfold readied
  dsimp only
  split
  · exact ((h6 _).then (keepsShown_set _ Fld.LS_ARB_STAT_WAIT _ (by decide) (by decide))).then (keepsShown_setLs _ _)
  · exact h6 _

theorem keepsShown_loadSections (s : State) (x : BootSections) (ms : Nat) : KeepsShown s (s.loadSections x ms) := by
  rw [loadSections_eq]
  split
  · exact keepsShown_bootStop s 5
  · next h =>
    have hp : ∀ r ∈ x.pips, pipRecordOk r = true := by
      simp only [Bool.or_eq_true, List.any_eq_true, Bool.not_eq_true', not_or, not_exists, not_and, Bool.not_eq_false] at h
      exact h.2
    split
    · exact (keepsShown_loaded s hp).then (keepsShown_bootStop _ 7)
    · exact ((keepsShown_loaded s hp).then (keepsShown_sealed _ _)).then (keepsShown_readied _ ms)

/-! ### The image (R508) -/

/-- An image that passed its checks is about to be loaded. -/
def imageSeen (s : State) (x : BootImage) : State :=
  let s1 := (s.wrN Reg.SYS_IMG_VER (fromLe ((x.bytes.drop 8).take 4))).set Fld.SYS_BOOT_STAGE 3
  (s1.setB Fld.KS_STAT_SELFTEST_OK true).setB Fld.KS_STAT_DRBG_OK true

theorem keepsShown_imageSeen (s : State) (x : BootImage) : KeepsShown s (s.imageSeen x) :=
  (((keepsShown_wrN s _ (by unfold ShowsNothing; decide)).then (keepsShown_set _ Fld.SYS_BOOT_STAGE 3 (by decide) (by decide))).then
    (keepsShown_set _ Fld.KS_STAT_SELFTEST_OK _ (by decide) (by decide))).then (keepsShown_set _ Fld.KS_STAT_DRBG_OK _ (by decide) (by decide))

theorem imageSeen_spec (s : State) (x : BootImage) :
    (s.imageSeen x).rd Reg.SYS_IMG_VER = BitVec.ofNat 32 (fromLe ((x.bytes.drop 8).take 4)) ∧
      (s.imageSeen x).flag Fld.KS_STAT_SELFTEST_OK = true ∧ (s.imageSeen x).flag Fld.KS_STAT_DRBG_OK = true := by
  unfold imageSeen
  refine ⟨?_, ?_, flag_setB_same _ _ _ (by decide) rfl⟩
  · exact (rd_wrN_other _ _ (by decide)).trans ((rd_wrN_other _ _ (by decide)).trans ((rd_wrN_other _ _ (by decide)).trans (rd_wrN_same _ _ _)))
  · rw [flag_setB_other _ _ _ _ (by decide) (by decide), flag_setB_same _ _ _ (by decide) rfl]

theorem bootImage_fault {s : State} {i : Option BootImage} {selftest : Bool} {c : Nat} (ms : Nat) (h : imageFault i selftest = some c) :
    s.bootImage i selftest ms = s.bootStop c := by
  unfold bootImage
  rw [h]

/-- The causes that an image may stop main boot with before its sections are looked at. -/
theorem imageFault_lt {i : Option BootImage} {selftest : Bool} {c : Nat} (h : imageFault i selftest = some c) : c = 4 ∨ c = 5 ∨ c = 6 ∨ c = 8 := by
  unfold imageFault at h
  split at h
  · cases h; simp
  · split at h
    · cases h; simp
    · split at h
      · cases h; simp
      · split at h
        · cases h; simp
        · split at h
          · cases h; simp
          · cases h

theorem image_of_noFault {i : Option BootImage} {selftest : Bool} (h : imageFault i selftest = none) : ∃ x p, i = some x ∧ x.parts = some p := by
  unfold imageFault at h
  cases i with
  | none => cases h
  | some x =>
    cases hp : x.parts with
    | some p => exact ⟨x, p, rfl, hp⟩
    | none =>
      simp only [hp, Option.isNone_none, if_true] at h
      split at h
      · cases h
      · split at h
        · cases h
        · split at h <;> cases h

theorem bootImage_load {s : State} {x : BootImage} {p : BootSections} {selftest : Bool} (ms : Nat) (h : imageFault (some x) selftest = none)
    (hp : x.parts = some p) : s.bootImage (some x) selftest ms = (s.imageSeen x).loadSections p ms := by
  unfold bootImage
  rw [h]
  dsimp only
  rw [hp]
  rfl

theorem keepsShown_bootImage (s : State) (i : Option BootImage) (selftest : Bool) (ms : Nat) : KeepsShown s (s.bootImage i selftest ms) := by
  cases h : imageFault i selftest with
  | some c => rw [bootImage_fault ms h]; exact keepsShown_bootStop s c
  | none =>
    obtain ⟨x, p, rfl, hp⟩ := image_of_noFault h
    rw [bootImage_load ms h hp]
    exact (keepsShown_imageSeen s x).then (keepsShown_loadSections _ _ _)

/-! ### Main boot (R506, R507) -/

/-- The loops have locked, the straps are read and the memory channels are trained. -/
def strapped (s : State) (b : BootInputs) : State :=
  let s1 := ({ s with boot := { Boot.blank with mgmt := s.boot.mgmt } }).setB Fld.CK_STAT_SLOCK true
  let s2 := (s1.set Fld.SYS_BOOT_BOOTSRC b.bootsrc).set Fld.LS_STAT_ROLE b.role
  (s2.setB Fld.SYS_BOOT_DDR0_FAIL (!b.ddr0)).setB Fld.SYS_BOOT_DDR1_FAIL (!b.ddr1)

theorem strapped_spec (s : State) {b : BootInputs} (hr : b.role < 8) (hb : b.bootsrc < 4) :
    (s.strapped b).flag Fld.CK_STAT_SLOCK = true ∧ (s.strapped b).get Fld.LS_STAT_ROLE = b.role ∧
      (s.strapped b).get Fld.SYS_BOOT_BOOTSRC = b.bootsrc ∧ (s.strapped b).flag Fld.SYS_BOOT_DDR0_FAIL = !b.ddr0 ∧
      (s.strapped b).flag Fld.SYS_BOOT_DDR1_FAIL = !b.ddr1 := by
  unfold strapped
  dsimp only
  refine ⟨?_, ?_, ?_, ?_, ?_⟩
  · simp (disch := decide) only [flag_setB_other, flag_set_other, flag_setB_same]
  · simp (disch := decide) only [get_setB_other, get_set_same]
    exact Nat.mod_eq_of_lt hr
  · simp (disch := decide) only [get_setB_other, get_set_other, get_set_same]
    exact Nat.mod_eq_of_lt hb
  · simp (disch := decide) only [flag_setB_other, flag_setB_same]
  · exact flag_setB_same _ _ _ (by decide) rfl

theorem strapped_ready (s : State) (b : BootInputs) : (s.strapped b).flag Fld.SYS_BOOT_READY = s.flag Fld.SYS_BOOT_READY := by
  have hq (t : State) (x : Boot) (f : Fld) : ({ t with boot := x } : State).flag f = t.flag f := rfl
  unfold strapped
  dsimp only
  simp (disch := decide) only [flag_setB_other, flag_set_other, hq]

theorem strapped_boot (s : State) (b : BootInputs) : (s.strapped b).boot = { Boot.blank with mgmt := s.boot.mgmt } := by
  unfold strapped
  dsimp only
  simp only [setB_boot, set_boot]

/-- Straps and channels are shown in words that the loops' tamper does not look at. -/
theorem loopOpen_congr {s t : State} (hk : t.ks = s.ks) (h : t.rd Reg.TP_LOOP_CFG = s.rd Reg.TP_LOOP_CFG) : t.loopOpen = s.loopOpen := by
  unfold loopOpen
  rw [hk, rdN_of_rd h]

theorem loopOpen_set (s : State) (f : Fld) (v : Nat) (h : Reg.TP_LOOP_CFG ≠ f.addr) : (s.set f v).loopOpen = s.loopOpen :=
  loopOpen_congr (set_ks s f v) (rd_set_other s f v h)

theorem strapped_loopOpen (s : State) (b : BootInputs) : (s.strapped b).loopOpen = s.loopOpen := by
  have hb (t : State) (x : Boot) : ({ t with boot := x } : State).loopOpen = t.loopOpen := loopOpen_congr rfl rfl
  unfold strapped
  dsimp only
  simp (disch := decide) only [loopOpen_set, setB, hb]

/-- The image that main boot chose from the Flash (R508): image B where image A is refused for another cause than a failing self-test or its seal. -/
def bootFlash (s : State) (b : BootInputs) : State :=
  let a := s.bootImage b.imageA b.selftest b.ms
  if a.bootStage = 5 then a
  else if a.get Fld.SYS_BOOT_CAUSE = 8 || a.get Fld.SYS_BOOT_CAUSE = 7 then a
  else (s.setB Fld.SYS_BOOT_IMAGE_B true).bootImage b.imageB b.selftest b.ms

/-- Main boot waits for an image on the bus (R507). -/
def awaitImage (s : State) : State := { s with boot := { s.boot with waiting := true } }

theorem mainBoot_eq {s : State} {b : BootInputs} (hr : b.role < 8) (hb : b.bootsrc < 4) (h : s.bootStage = 0) : s.mainBoot b =
    if b.role = 7 then (s.strapped b).bootStop 1
    else if b.bootsrc = 3 then (s.strapped b).bootStop 2
    else if !b.ddr0 || !b.ddr1 then (s.strapped b).bootStop 3
    else if s.loopOpen then (s.strapped b).bootStop 9
    else if b.bootsrc = 2 then
      ((s.strapped b).set Fld.SYS_BOOT_STAGE 2).awaitImage
    else if b.bootsrc = 1 then ((s.strapped b).set Fld.SYS_BOOT_STAGE 2).bootFlash b
    else ((s.strapped b).set Fld.SYS_BOOT_STAGE 2).bootImage b.imageA b.selftest b.ms := by
  obtain ⟨_, hrole, hsrc, _, _⟩ := strapped_spec s hr hb
  have e : s.mainBoot b = if s.bootStage ≠ 0 then s
    else if (s.strapped b).get Fld.LS_STAT_ROLE = 7 then (s.strapped b).bootStop 1
    else if (s.strapped b).get Fld.SYS_BOOT_BOOTSRC = 3 then (s.strapped b).bootStop 2
    else if !b.ddr0 || !b.ddr1 then (s.strapped b).bootStop 3
    else if (s.strapped b).loopOpen then (s.strapped b).bootStop 9
    else if (s.strapped b).get Fld.SYS_BOOT_BOOTSRC = 2 then
      ((s.strapped b).set Fld.SYS_BOOT_STAGE 2).awaitImage
    else if (s.strapped b).get Fld.SYS_BOOT_BOOTSRC = 1 then ((s.strapped b).set Fld.SYS_BOOT_STAGE 2).bootFlash b
    else ((s.strapped b).set Fld.SYS_BOOT_STAGE 2).bootImage b.imageA b.selftest b.ms := rfl
  rw [e, if_neg (not_not.2 h), hrole, hsrc, strapped_loopOpen]

/-- What main boot has shown of loops, straps and memory channels stands in `u`. -/
structure ShowsStraps (b : BootInputs) (u : State) : Prop where
  held : u.boot.held = false
  sleeping : u.boot.sleeping = false
  slock : u.flag Fld.CK_STAT_SLOCK = true
  role : u.get Fld.LS_STAT_ROLE = b.role
  bootsrc : u.get Fld.SYS_BOOT_BOOTSRC = b.bootsrc
  ddr0 : u.flag Fld.SYS_BOOT_DDR0_FAIL = !b.ddr0
  ddr1 : u.flag Fld.SYS_BOOT_DDR1_FAIL = !b.ddr1

theorem ShowsStraps.keeps {b : BootInputs} {s t : State} (h : ShowsStraps b s) (k : KeepsShown s t) : ShowsStraps b t :=
  ⟨k.held.trans h.held, k.sleeping.trans h.sleeping, (k.flag (by decide)).trans h.slock, (k.fields _ (by decide)).trans h.role,
    (k.fields _ (by decide)).trans h.bootsrc, (k.flag (by decide)).trans h.ddr0, (k.flag (by decide)).trans h.ddr1⟩

theorem ShowsStraps.imageB {b : BootInputs} {s : State} (h : ShowsStraps b s) : ShowsStraps b (s.setB Fld.SYS_BOOT_IMAGE_B true) :=
  ⟨by rw [setB_boot]; exact h.held, by rw [setB_boot]; exact h.sleeping, (flag_setB_other _ _ _ _ (by decide) (by decide)).trans h.slock, (get_setB_other _ _ _ _ (by decide) (by decide)).trans h.role,
    (get_setB_other _ _ _ _ (by decide) (by decide)).trans h.bootsrc, (flag_setB_other _ _ _ _ (by decide) (by decide)).trans h.ddr0,
    (flag_setB_other _ _ _ _ (by decide) (by decide)).trans h.ddr1⟩

theorem showsStraps_strapped (s : State) {b : BootInputs} (hr : b.role < 8) (hb : b.bootsrc < 4) : ShowsStraps b (s.strapped b) := by
  obtain ⟨hslock, hrole, hsrc, hd0, hd1⟩ := strapped_spec s hr hb
  have hb := strapped_boot s b
  exact ⟨by rw [hb]; rfl, by rw [hb]; rfl, hslock, hrole, hsrc, hd0, hd1⟩

/-- The straps and channels have let main boot go on to an image. -/
theorem showsStraps_stage (s : State) {b : BootInputs} (hr : b.role < 8) (hb : b.bootsrc < 4) :
    ShowsStraps b ((s.strapped b).set Fld.SYS_BOOT_STAGE 2) :=
  (showsStraps_strapped s hr hb).keeps (keepsShown_set _ Fld.SYS_BOOT_STAGE 2 (by decide) (by decide))

/-- Main boot has stopped with cause `c` (R509). -/
def StoppedAs (s : State) (c : Nat) (u : State) : Prop :=
  u.bootStage = (if c = 9 then 7 else 6) ∧ u.get Fld.SYS_BOOT_CAUSE = c ∧ u.boot.waiting = false ∧ u.flag Fld.SYS_BOOT_READY = s.flag Fld.SYS_BOOT_READY

theorem stoppedAs_bootStop {s t : State} {c : Nat} (hc : c < 64) (h : t.flag Fld.SYS_BOOT_READY = s.flag Fld.SYS_BOOT_READY) :
    StoppedAs s c (t.bootStop c) := by
  obtain ⟨h1, h2, h3, h4⟩ := bootStop_spec t hc
  exact ⟨h1, h2, h3, h4.trans h⟩

theorem showsStraps_bootFlash {s : State} {b : BootInputs} (h : ShowsStraps b s) : ShowsStraps b (s.bootFlash b) := by
  unfold bootFlash
  dsimp only
  split
  · exact h.keeps (keepsShown_bootImage _ _ _ _)
  · split
    · exact h.keeps (keepsShown_bootImage _ _ _ _)
    · exact h.imageB.keeps (keepsShown_bootImage _ _ _ _)

/-- Image A is refused before its sections are looked at, for another cause than a failing self-test: image B is taken (R508). -/
theorem bootFlash_imageB {s : State} {b : BootInputs} {c : Nat} (h : imageFault b.imageA b.selftest = some c) (hc : c ≠ 8) :
    s.bootFlash b = (s.setB Fld.SYS_BOOT_IMAGE_B true).bootImage b.imageB b.selftest b.ms := by
  have hlt := imageFault_lt h
  obtain ⟨h1, h2, _, _⟩ := bootStop_spec s (c := c) (by omega)
  unfold bootFlash
  simp only [bootImage_fault b.ms h, h1, h2]
  rw [if_neg (by split <;> decide), if_neg (by simp; omega)]

theorem bootFlash_selftest {s : State} {b : BootInputs} (h : imageFault b.imageA b.selftest = some 8) : s.bootFlash b = s.bootStop 8 := by
  obtain ⟨h1, h2, _, _⟩ := bootStop_spec s (c := 8) (by decide)
  unfold bootFlash
  simp only [bootImage_fault b.ms h, h1, h2]
  rfl

theorem bootFlash_imageA {s : State} {b : BootInputs} (h : (s.bootImage b.imageA b.selftest b.ms).bootStage = 5) :
    s.bootFlash b = s.bootImage b.imageA b.selftest b.ms := by
  unfold bootFlash
  exact if_pos h

/-- Main boot goes on from the Flash or from image A alone, by the strap (R508). -/
def bootFrom (s : State) (b : BootInputs) : State := if b.bootsrc = 1 then s.bootFlash b else s.bootImage b.imageA b.selftest b.ms

theorem showsStraps_bootFrom {s : State} {b : BootInputs} (h : ShowsStraps b s) : ShowsStraps b (s.bootFrom b) := by
  unfold bootFrom
  split
  · exact showsStraps_bootFlash h
  · exact h.keeps (keepsShown_bootImage _ _ _ _)

theorem bootFrom_stops {s t : State} {b : BootInputs} {c : Nat} (h : imageFault b.imageA b.selftest = some c) (hc : b.bootsrc = 0 ∨ c = 8)
    (ht : t.flag Fld.SYS_BOOT_READY = s.flag Fld.SYS_BOOT_READY) : StoppedAs s c (t.bootFrom b) := by
  have hlt := imageFault_lt h
  have e : t.bootFrom b = t.bootStop c := by
    unfold bootFrom
    split
    · obtain rfl : c = 8 := hc.resolve_left (by omega)
      exact bootFlash_selftest h
    · exact bootImage_fault _ h
  rw [e]
  exact stoppedAs_bootStop (by omega) ht

theorem bootFrom_imageB {s t : State} {b : BootInputs} {c : Nat} (h : imageFault b.imageA b.selftest = some c) (h1 : b.bootsrc = 1) (hc : c ≠ 8)
    (ht : t.flag Fld.SYS_BOOT_READY = s.flag Fld.SYS_BOOT_READY) :
    (t.bootFrom b).flag Fld.SYS_BOOT_IMAGE_B = true ∧ ∀ d, imageFault b.imageB b.selftest = some d → StoppedAs s d (t.bootFrom b) := by
  have e : t.bootFrom b = (t.setB Fld.SYS_BOOT_IMAGE_B true).bootImage b.imageB b.selftest b.ms := by
    unfold bootFrom
    rw [if_pos h1, bootFlash_imageB h hc]
  rw [e]
  refine ⟨?_, fun d hd => ?_⟩
  · rw [(keepsShown_bootImage _ _ _ _).flag (by decide), flag_setB_same _ _ _ (by decide) rfl]
  · have hlt := imageFault_lt hd
    rw [bootImage_fault b.ms hd]
    exact stoppedAs_bootStop (by omega) ((flag_setB_other _ _ _ _ (by decide) (by decide)).trans ht)

/-- Image A's sections are loaded where its checks pass, and stay where the strap allows no other image or the device came up (R508). -/
theorem bootFrom_imageA (t : State) {b : BootInputs} {x : BootImage} (hx : b.imageA = some x) (h : imageFault b.imageA b.selftest = none)
    {p : BootSections} (hp : x.parts = some p) (hs : b.bootsrc = 0 ∨ ((t.imageSeen x).loadSections p b.ms).bootStage = 5) :
    t.bootFrom b = (t.imageSeen x).loadSections p b.ms := by
  have e : t.bootImage b.imageA b.selftest b.ms = (t.imageSeen x).loadSections p b.ms := by
    rw [hx] at h ⊢
    exact bootImage_load b.ms h hp
  unfold bootFrom
  split
  · rw [bootFlash_imageA (by rw [e]; exact hs.resolve_left (by omega)), e]
  · exact e

theorem awaitImage_spec {b : BootInputs} {s : State} (h : ShowsStraps b s) : ShowsStraps b s.awaitImage ∧
    s.awaitImage.bootStage = s.bootStage ∧ s.awaitImage.boot.waiting = true ∧ s.awaitImage.boot.img = s.boot.img :=
  ⟨h.keeps (keepsShown_waiting s true), rfl, rfl, rfl⟩

theorem strapped_stage (s : State) (b : BootInputs) :
    ((s.strapped b).set Fld.SYS_BOOT_STAGE 2).bootStage = 2 ∧ ((s.strapped b).set Fld.SYS_BOOT_STAGE 2).boot.img = [] := by
  refine ⟨?_, by rw [set_boot, strapped_boot]; rfl⟩
  unfold bootStage
  rw [get_set_same _ _ _ (by decide)]
  decide

/-- What is to be shown of a device whose main boot begins (R506 to R509). -/
theorem mainBoot_starts (s : State) {b : BootInputs} (hr : b.role < 8) (hb : b.bootsrc < 4) (h0 : s.bootStage = 0) :
    ShowsStraps b (s.mainBoot b) ∧
    if b.role = 7 then StoppedAs s 1 (s.mainBoot b)
    else if b.bootsrc = 3 then StoppedAs s 2 (s.mainBoot b)
    else if b.ddr0 = false ∨ b.ddr1 = false then StoppedAs s 3 (s.mainBoot b)
    else if s.loopOpen then StoppedAs s 9 (s.mainBoot b)
    else if b.bootsrc = 2 then (s.mainBoot b).bootStage = 2 ∧ (s.mainBoot b).boot.waiting = true ∧ (s.mainBoot b).boot.img = []
    else s.mainBoot b = ((s.strapped b).set Fld.SYS_BOOT_STAGE 2).bootFrom b := by
  have hready : (s.strapped b).flag Fld.SYS_BOOT_READY = s.flag Fld.SYS_BOOT_READY := strapped_ready s b
  have stops {c : Nat} (hc : c < 64) : ShowsStraps b ((s.strapped b).bootStop c) ∧ StoppedAs s c ((s.strapped b).bootStop c) :=
    ⟨(showsStraps_strapped s hr hb).keeps (keepsShown_bootStop _ c), stoppedAs_bootStop hc hready⟩
  rw [mainBoot_eq hr hb h0]
  by_cases h1 : b.role = 7
  · simp only [if_pos h1]; exact stops (by decide)
  by_cases h2 : b.bootsrc = 3
  · simp only [if_neg h1, if_pos h2]; exact stops (by decide)
  by_cases h3 : b.ddr0 = false ∨ b.ddr1 = false
  · have h3' : (!b.ddr0 || !b.ddr1) = true := by simpa using h3
    simp only [if_neg h1, if_neg h2, if_pos h3, if_pos h3']; exact stops (by decide)
  have h3' : ¬(!b.ddr0 || !b.ddr1) = true := by simpa using h3
  by_cases h4 : s.loopOpen = true
  · simp only [if_neg h1, if_neg h2, if_neg h3, if_neg h3', if_pos h4]; exact stops (by decide)
  by_cases h5 : b.bootsrc = 2
  · simp only [if_neg h1, if_neg h2, if_neg h3, if_neg h3', if_neg h4, if_pos h5]
    obtain ⟨hstage, himg⟩ := strapped_stage s b
    obtain ⟨k1, k2, k3, k4⟩ := awaitImage_spec (showsStraps_stage s hr hb)
    exact ⟨k1, k2.trans hstage, k3, k4.trans himg⟩
  simp only [if_neg h1, if_neg h2, if_neg h3, if_neg h3', if_neg h4, if_neg h5]
  have hstraps := showsStraps_stage s hr hb
  generalize (s.strapped b).set Fld.SYS_BOOT_STAGE 2 = u at hstraps ⊢
  exact ⟨showsStraps_bootFrom hstraps, rfl⟩

end State

/-- A lock that ends a held reset is main boot (R505, R506). -/
theorem effect_lock_too {b : BootInputs} {s : State} {P : State → Prop} (h : Effect (.mainBoot b) s P) :
    Effect (.mainBoot b) s P ∧ (s.boot.held = true → Effect (.systemApllLock b) s P) := by
  refine ⟨h, fun hh => ?_⟩
  obtain ⟨u, hu, hP⟩ := h
  refine ⟨u, Eq.trans ?_ hu, hP⟩
  have e : s.systemLock b = ({ s with boot := { s.boot with held := false } } : State).mainBoot b := by
    unfold State.systemLock
    rw [if_pos hh]
  exact congrArg finish e

/-- Settles O58: main boot's looks in turn, each of which stops it or lets it go on. -/
theorem mainBoot : Obligations.MainBoot := by
  refine ⟨fun b s hr hb => effect_lock_too ⟨_, rfl, ?_⟩, fun b s h => ⟨_, rfl, ?_⟩⟩
  · show if s.bootStage ≠ 0 then _ else _
    by_cases h0 : s.bootStage = 0
    · rw [if_neg (not_not.2 h0)]
      obtain ⟨⟨hheld, hsleep, hslock, hrole, hsrc, hd0, hd1⟩, hgo⟩ :=
        State.mainBoot_starts ({ s with boot := { s.boot with held := false } } : State) hr hb h0
      refine ⟨hheld, hsleep, hslock, hrole, hsrc, hd0, hd1, ?_⟩
      by_cases h1 : b.role = 7
      · rw [if_pos h1] at hgo ⊢; exact hgo
      rw [if_neg h1] at hgo ⊢
      by_cases h2 : b.bootsrc = 3
      · rw [if_pos h2] at hgo ⊢; exact hgo
      rw [if_neg h2] at hgo ⊢
      by_cases h3 : b.ddr0 = false ∨ b.ddr1 = false
      · rw [if_pos h3] at hgo ⊢; exact hgo
      rw [if_neg h3] at hgo ⊢
      by_cases h4 : s.loopOpen = true
      · exact (if_pos h4).mpr ((if_pos h4).mp hgo)
      replace hgo := (if_neg h4).mp hgo
      refine (if_neg h4).mpr ?_
      by_cases h5 : b.bootsrc = 2
      · rw [if_pos h5] at hgo ⊢; exact hgo
      rw [if_neg h5] at hgo ⊢
      dsimp only
      rw [hgo]
      have hready : ((State.strapped { s with boot := { s.boot with held := false } } b).set Fld.SYS_BOOT_STAGE 2).flag Fld.SYS_BOOT_READY =
          s.flag Fld.SYS_BOOT_READY := by
        rw [State.flag_set_other _ _ _ _ (by decide) (by decide)]
        exact State.strapped_ready _ b
      generalize (State.strapped { s with boot := { s.boot with held := false } } b).set Fld.SYS_BOOT_STAGE 2 = t at hready ⊢
      cases hf : State.imageFault b.imageA b.selftest with
      | some c =>
        show if _ then _ else _
        by_cases hc : b.bootsrc = 0 ∨ c = 8
        · exact (if_pos hc).mpr (State.bootFrom_stops hf hc hready)
        · rw [not_or] at hc
          exact (if_neg (not_or.2 hc)).mpr (State.bootFrom_imageB hf (by omega) hc.2 hready)
      | none =>
        obtain ⟨x, p, hx, hp⟩ := State.image_of_noFault hf
        obtain ⟨hver, hself, hdrbg⟩ := State.imageSeen_spec t x
        rw [hx]
        exact ⟨t.imageSeen x, hver, hself, hdrbg, fun q hq hs => State.bootFrom_imageA t hx hf hq hs⟩
    · rw [if_pos h0]
      unfold State.mainBoot
      exact if_pos h0
  · show s.systemLock b = _
    unfold State.systemLock
    rw [if_neg (by simp [h])]

end Sys2Proof.Machine
end

section
/-! PROOF. O31: reservations, launches and frame starts (R20, R243, R247 to R256). -/

namespace Sys2Proof.Machine

/-! ### What the work beside a port leaves of its ports and of one of its words -/

/-- The ports' own state and the word at `a` are as they were. -/
structure KeepsPort (a : Nat) (s t : State) : Prop where
  ports : t.ports = s.ports
  word : t.rd a = s.rd a

/-- A port's counter or shown value: a word of its page that is neither its EVT nor carried. -/
def PortWord (a : Nat) : Prop := 0x50000 ≤ a ∧ a < 0x60000 ∧ 0x40 ≤ a % 0x1000

section
variable {a : Nat} {s t u : State}

theorem KeepsPort.refl (a : Nat) (s : State) : KeepsPort a s s := ⟨rfl, rfl⟩

theorem KeepsPort.then (h : KeepsPort a s t) (k : KeepsPort a t u) : KeepsPort a s u := ⟨k.ports.trans h.ports, k.word.trans h.word⟩

theorem KeepsPort.ite {c : Prop} [Decidable c] (h : KeepsPort a s t) (k : KeepsPort a s u) : KeepsPort a s (if c then t else u) := by
  split
  · exact h
  · exact k

theorem keepsPort_parts (h1 : t.ports = s.ports) (h2 : t.regs = s.regs) : KeepsPort a s t :=
  ⟨h1, congrArg (fun r : RegFile => r.word a) h2⟩

theorem KeepsPort.rdN (h : KeepsPort a s t) : t.rdN a = s.rdN a := State.rdN_of_rd h.word

theorem KeepsPort.port (h : KeepsPort a s t) (p : Nat) : t.port p = s.port p := congrArg (fun l : List Port => l.getD p Port.blank) h.ports

theorem Touches.keepsPort {A : Nat → Prop} (h : Touches A s t) (hA : ¬A a) (hc : carried a = false) : KeepsPort a s t := ⟨h.ports, h.2 a hA hc⟩

end

theorem keepsPort_bump (s : State) {a b : Nat} (h : a ≠ b) : KeepsPort a s (s.bump b) := ⟨rfl, State.rd_bump_other s h⟩

theorem keepsPort_bump64 (s : State) {a b : Nat} (n : Nat) (h : a ≠ b) (h4 : a ≠ b + 4) : KeepsPort a s (s.bump64 b n) :=
  ⟨rfl, State.rd_wr64_other s _ h h4⟩

theorem carried_portWord {a : Nat} (h : PortWord a) : carried a = false := by
  obtain ⟨h1, h2, _⟩ := h
  unfold carried pageOf
  simp
  omega

/-- A word that no event reaches. -/
theorem keepsPort_evt_of (s : State) {a : Nat} (f : Fld) (h : a % 0x1000 ≠ 0x10) (hc : carried a = false) : KeepsPort a s (s.evt f) :=
  (touches_evt (A := fun b => b % 0x1000 = 0x10) s f (by omega)).keepsPort h hc

theorem keepsPort_evt (s : State) {a : Nat} (f : Fld) (h : PortWord a) : KeepsPort a s (s.evt f) := by
  refine keepsPort_evt_of s f ?_ (carried_portWord h)
  obtain ⟨_, _, h3⟩ := h
  omega

theorem keepsPort_tick (a : Nat) (s : State) : KeepsPort a s s.tick := keepsPort_parts rfl rfl

theorem keepsPort_emitWith (a : Nat) (s : State) (full : Bool) (source cls : Nat) (name : String) (payload : Nat) (conseq forced : Bool) :
    KeepsPort a s (s.emitWith full source cls name payload conseq forced) := by
  unfold State.emitWith
  split
  · exact .refl a s
  · exact keepsPort_parts rfl rfl

theorem keepsPort_launchRecord (a : Nat) (s : State) (p : Nat) (name : String) : KeepsPort a s (s.launchRecord p name) :=
  keepsPort_emitWith a s _ _ _ _ _ _ _

theorem keepsPort_setSw (a : Nat) (s : State) (x : Switch) : KeepsPort a s (s.setSw x) := keepsPort_parts rfl rfl

theorem keepsPort_setNe (a : Nat) (s : State) (x : Ntp) : KeepsPort a s (s.setNe x) := keepsPort_parts rfl rfl

theorem keepsPort_pcEvent {a : Nat} (s : State) (ev inst n : Nat) (h : PortWord a) : KeepsPort a s (s.pcEvent ev inst n) := by
  have hc := counted_pcEvent s ev inst n
  refine ⟨hc.spent.ports, hc.2 a ?_⟩
  obtain ⟨_, h2, _⟩ := h
  unfold counterPage pageOf
  simp
  omega

namespace State

/-! ### Reservations (R247 to R250) -/

theorem port_modPort_same {s : State} {p : Nat} (f : Port → Port) (h : p < s.ports.length) : (s.modPort p f).port p = f (s.port p) := by
  unfold port modPort
  rw [List.getD_eq_getElem _ _ (by simpa using h), List.getElem_modify_eq, List.getD_eq_getElem _ _ h]

/-- The reservations of a port after one of them has gone, whether the port is there or not. -/
theorem res_modPort_filter (s : State) (p : Nat) (q : Reservation → Bool) (f : Port → Port) (hf : ∀ x, (f x).res = x.res.filter q) :
    ((s.modPort p f).port p).res = (s.port p).res.filter q := by
  by_cases h : p < s.ports.length
  · rw [port_modPort_same f h, hf]
  · have e (l : List Port) (hl : ¬p < l.length) : l.getD p Port.blank = Port.blank := List.getD_eq_default _ _ (by omega)
    unfold port modPort
    rw [e _ h, e _ (by simpa using h)]
    rfl

theorem portEvt_addr {p : Nat} (hp : p < 16) :
    Reg.PTp_EVT p = pageOf (Reg.PTp_EVT p) * 0x1000 + 0x10 ∧ carried (Reg.PTp_EVT p) = false := by
  unfold carried pageOf Reg.PTp_EVT
  constructor
  · omega
  · simp
    omega

/-- An event of a port that is counted and told. -/
theorem bump_evt_spec (s : State) {p a : Nat} {f : Fld} (hp : p < 16) (ha : PortWord a) (hf : f.addr = Reg.PTp_EVT p) (hb : f.lo < 32)
    (hw : f.width = 1) : ((s.bump a).evt f).ports = s.ports ∧ ((s.bump a).evt f).sw = s.sw ∧ ((s.bump a).evt f).flag f = true ∧
      ((s.bump a).evt f).rdN a = oneMore (s.rdN a) := by
  obtain ⟨h1, h2⟩ := portEvt_addr hp
  exact ⟨by rw [evt_ports, bump_ports], by rw [evt_sw, bump_sw], flag_evt_same _ _ (by rw [hf]; exact h1) (by rw [hf]; exact h2) hb hw,
    (keepsPort_evt _ f ha).rdN.trans (rdN_bump_same s a)⟩

theorem portWord_of {p n : Nat} (hp : p < 16) (h1 : 0x40 ≤ n) (h2 : n < 0x1000) : PortWord (0x50000 + n + p * 0x1000) := by
  unfold PortWord
  omega

/-- A request is refused and counted; NE hears of its own (R247, R328). -/
def refuseSlot (s : State) (p : Nat) (j : LaunchJob) : State :=
  ((if j.eng = 17 then s.bump Reg.NE_RES_REFUSED else s).bump (Reg.PTp_RES_REFUSED p)).evt (Fld.PTp_EVT_RES_REFUSED p)

/-- A request is granted the instant `t` (R247). -/
def grantSlot (s : State) (p : Nat) (j : LaunchJob) (t : Nat) : State :=
  ((s.modPort p (fun x => { x with res := x.res ++ [⟨(s.port p).nextRes, t, j, none, none, false⟩], nextRes := x.nextRes + 1 })).wrSat
    (Reg.PTp_SLOT_DLY p) (psOf (t - (s.view + j.lead) * nsU))).refreshRes p

/-- The instant that a request is granted (R247, R248): the first of the grid that lies in the window and is clear. -/
def slotPick (s : State) (p : Nat) (j : LaunchJob) (grid : List Nat) : Option Nat :=
  grid.find? (fun t => decide ((s.view + j.lead) * nsU ≤ t ∧ t ≤ (s.view + j.lead) * nsU + s.resWin p) && s.slotClear p t j.len &&
    !(match s.ls.cut with | some c => decide (c ≤ t) | none => false))

/-- A port that grants nothing: the request comes too late, no stamp can be taken, the gate is closed, or the reservations are full. -/
def slotShut (s : State) (p : Nat) (j : LaunchJob) : Bool :=
  (s.view + j.lead) * nsU < s.view * nsU + s.launchMin p + 500 * nsU || !s.stampTx p || !s.gateOpen p || 256 ≤ (s.port p).res.length

theorem slotShut_iff (s : State) (p : Nat) (j : LaunchJob) : s.slotShut p j = true ↔
    (s.view + j.lead) * nsU < s.view * nsU + s.launchMin p + 500 * nsU ∨ s.stampTx p = false ∨ s.gateOpen p = false ∨
      256 ≤ (s.port p).res.length := by
  unfold slotShut
  simp [or_assoc]

theorem slotPick_setSw (s : State) (x : Switch) (p : Nat) (j : LaunchJob) (grid : List Nat) : (s.setSw x).slotPick p j grid = s.slotPick p j grid := rfl

theorem slotShut_setSw (s : State) (x : Switch) (p : Nat) (j : LaunchJob) : (s.setSw x).slotShut p j = s.slotShut p j := rfl

theorem port_setSw (s : State) (x : Switch) (p : Nat) : (s.setSw x).port p = s.port p := rfl

theorem view_setSw (s : State) (x : Switch) : (s.setSw x).view = s.view := rfl

theorem requestRes_eq (s : State) (p : Nat) (j : LaunchJob) (grid : List Nat) : s.requestRes p j grid =
    match s.slotPick p j grid with
    | some t => if s.slotShut p j then s.refuseSlot p j else s.grantSlot p j t
    | none => s.refuseSlot p j := rfl

/-- What a refused request leaves (R247). -/
theorem refuseSlot_spec (s : State) {p : Nat} (hp : p < 16) (j : LaunchJob) :
    (s.refuseSlot p j).sw = s.sw ∧ (s.refuseSlot p j).ports = s.ports ∧ (s.refuseSlot p j).flag (Fld.PTp_EVT_RES_REFUSED p) = true ∧
      (s.refuseSlot p j).rdN (Reg.PTp_RES_REFUSED p) = oneMore (s.rdN (Reg.PTp_RES_REFUSED p)) := by
  have hw : PortWord (Reg.PTp_RES_REFUSED p) := portWord_of (n := 0x104) hp (by decide) (by decide)
  have h1 : KeepsPort (Reg.PTp_RES_REFUSED p) s (if j.eng = 17 then s.bump Reg.NE_RES_REFUSED else s) := by
    refine .ite (keepsPort_bump s ?_) (.refl _ s)
    unfold Reg.PTp_RES_REFUSED Reg.NE_RES_REFUSED
    omega
  have h2 : (if j.eng = 17 then s.bump Reg.NE_RES_REFUSED else s).sw = s.sw := by split <;> rfl
  unfold refuseSlot
  generalize (if j.eng = 17 then s.bump Reg.NE_RES_REFUSED else s) = t at h1 h2
  obtain ⟨k1, k2, k3, k4⟩ := bump_evt_spec t (f := Fld.PTp_EVT_RES_REFUSED p) hp hw rfl (by simp) rfl
  exact ⟨k2.trans h2, k1.trans h1.ports, k3, k4.trans (by rw [h1.rdN])⟩

/-- What a granted request leaves (R247). -/
theorem grantSlot_spec (s : State) (p : Nat) (j : LaunchJob) (t : Nat) :
    (s.grantSlot p j t).sw = s.sw ∧
      (s.grantSlot p j t).ports = s.ports.modify p (fun x => { x with
        res := x.res ++ [⟨(s.port p).nextRes, t, j, none, none, false⟩], nextRes := x.nextRes + 1 }) ∧
      (s.grantSlot p j t).rdN (Reg.PTp_SLOT_DLY p) = min (psOf (t - (s.view + j.lead) * nsU)) 0xFFFFFFFF := by
  unfold grantSlot refreshRes
  generalize psOf (t - (s.view + j.lead) * nsU) = n
  refine ⟨by rw [wrN_sw, wrSat_sw, modPort_sw], by rw [wrN_ports, wrSat_ports, modPort_ports], ?_⟩
  unfold wrSat
  rw [rdN_wrN_other _ _ (by unfold Reg.PTp_SLOT_DLY Reg.PTp_RES_OUT; omega), rdN_wrN_same]
  unfold satNat
  omega

theorem askSlot_none {s : State} {p : Nat} {e : Engine} (grid : List Nat) (h : s.sw.jobs.find? (fun j => j.eng == engPort e && j.port == p) = none) :
    s.askSlot p e grid = s := by
  unfold askSlot
  rw [h]

theorem askSlot_some {s : State} {p : Nat} {e : Engine} (grid : List Nat) {j : LaunchJob}
    (h : s.sw.jobs.find? (fun j => j.eng == engPort e && j.port == p) = some j) :
    s.askSlot p e grid = ((s.setSw { s.sw with jobs := s.sw.jobs.erase j }).requestRes p j grid).tick := by
  unfold askSlot
  rw [h]

/-- A request that is refused (R247). -/
theorem askSlot_refused {s : State} {p : Nat} (hp : p < 16) {e : Engine} {grid : List Nat} {j : LaunchJob}
    (hf : s.sw.jobs.find? (fun j => j.eng == engPort e && j.port == p) = some j) (h : s.slotPick p j grid = none ∨ s.slotShut p j = true) :
    (s.askSlot p e grid).sw = { s.sw with jobs := s.sw.jobs.erase j } ∧ (s.askSlot p e grid).ports = s.ports ∧
      (s.askSlot p e grid).flag (Fld.PTp_EVT_RES_REFUSED p) = true ∧
      (s.askSlot p e grid).rdN (Reg.PTp_RES_REFUSED p) = oneMore (s.rdN (Reg.PTp_RES_REFUSED p)) := by
  have hr : (s.setSw { s.sw with jobs := s.sw.jobs.erase j }).requestRes p j grid = (s.setSw { s.sw with jobs := s.sw.jobs.erase j }).refuseSlot p j := by
    rw [requestRes_eq, slotPick_setSw, slotShut_setSw]
    cases hp : s.slotPick p j grid with
    | none => rfl
    | some t => exact if_pos (h.resolve_left (by rw [hp]; simp))
  rw [askSlot_some grid hf, hr, tick_sw, tick_ports, tick_flag, tick_rdN]
  obtain ⟨h1, h2, h3, h4⟩ := refuseSlot_spec (s.setSw { s.sw with jobs := s.sw.jobs.erase j }) hp j
  rw [setSw_sw] at h1
  rw [setSw_ports] at h2
  rw [setSw_rdN] at h4
  exact ⟨h1, h2, h3, h4⟩

/-- A request that is granted the instant `t` (R247). -/
theorem askSlot_granted {s : State} {p : Nat} {e : Engine} {grid : List Nat} {j : LaunchJob}
    (hf : s.sw.jobs.find? (fun j => j.eng == engPort e && j.port == p) = some j) {t : Nat} (ht : s.slotPick p j grid = some t)
    (hc : s.slotShut p j = false) :
    (s.askSlot p e grid).sw = { s.sw with jobs := s.sw.jobs.erase j } ∧
      (s.askSlot p e grid).ports = s.ports.modify p (fun x => { x with
        res := x.res ++ [⟨(s.port p).nextRes, t, j, none, none, false⟩], nextRes := x.nextRes + 1 }) ∧
      (s.askSlot p e grid).rdN (Reg.PTp_SLOT_DLY p) = min (psOf (t - (s.view + j.lead) * nsU)) 0xFFFFFFFF := by
  have hr : (s.setSw { s.sw with jobs := s.sw.jobs.erase j }).requestRes p j grid = (s.setSw { s.sw with jobs := s.sw.jobs.erase j }).grantSlot p j t := by
    rw [requestRes_eq, slotPick_setSw, slotShut_setSw, ht, hc]
    rfl
  rw [askSlot_some grid hf, hr, tick_sw, tick_ports, tick_rdN]
  obtain ⟨h1, h2, h3⟩ := grantSlot_spec (s.setSw { s.sw with jobs := s.sw.jobs.erase j }) p j t
  rw [setSw_sw] at h1
  rw [setSw_ports, port_setSw] at h2
  rw [view_setSw] at h3
  exact ⟨h1, h2, h3⟩

/-! ### FRAME_HANDOVER (R249, R250) -/

theorem portWord_missCounter {p : Nat} (hp : p < 16) (c : MissCause) : PortWord (missCounter p c) := by
  cases c
  · exact portWord_of (n := 0xE8) hp (by decide) (by decide)
  · exact portWord_of (n := 0xEC) hp (by decide) (by decide)
  · exact portWord_of (n := 0xF0) hp (by decide) (by decide)
  · exact portWord_of (n := 0xF4) hp (by decide) (by decide)
  · exact portWord_of (n := 0xF8) hp (by decide) (by decide)
  · exact portWord_of (n := 0xFC) hp (by decide) (by decide)

theorem missCounter_ne_resOut (p : Nat) (c : MissCause) : missCounter p c ≠ Reg.PTp_RES_OUT p := by
  cases c <;> simp [missCounter]

/-- A reservation that is discarded: it has gone, its cause is counted, and the port's event tells (R250). -/
theorem missRes_spec (s : State) {p : Nat} (hp : p < 16) (r : Reservation) (c : MissCause) :
    ((s.missRes p r c).port p).res = (s.port p).res.filter (fun y => y.id != r.id) ∧
      (s.missRes p r c).rdN (missCounter p c) = oneMore (s.rdN (missCounter p c)) ∧ (s.missRes p r c).flag (Fld.PTp_EVT_LAUNCH_MISS p) = true := by
  have hw : PortWord (missCounter p c) := portWord_missCounter hp c
  have hres : ((s.modPort p (fun x => { x with res := x.res.filter (fun y => y.id != r.id) })).refreshRes p).rdN (missCounter p c) =
      s.rdN (missCounter p c) := rdN_wrN_other _ _ (missCounter_ne_resOut p c)
  have hports : (((s.modPort p (fun x => { x with res := x.res.filter (fun y => y.id != r.id) })).refreshRes p).port p).res =
      (s.port p).res.filter (fun y => y.id != r.id) := res_modPort_filter s p _ _ (fun _ => rfl)
  unfold missRes
  generalize (s.modPort p (fun x => { x with res := x.res.filter (fun y => y.id != r.id) })).refreshRes p = s1 at hres hports
  obtain ⟨h1, _, h3, h4⟩ := bump_evt_spec s1 (f := Fld.PTp_EVT_LAUNCH_MISS p) hp hw rfl (by simp) rfl
  dsimp only
  generalize (s1.bump (missCounter p c)).evt (Fld.PTp_EVT_LAUNCH_MISS p) = s2 at h1 h3 h4 ⊢
  have hk : KeepsPort (missCounter p c) s2
      (((if r.job.eng = 17 then (if c = .revoked then s2.evt (Fld.PTp_EVT_REVOKED p) else s2).bump Reg.NE_LAUNCH_LOST
        else (if c = .revoked then s2.evt (Fld.PTp_EVT_REVOKED p) else s2))).launchRecord p (missName c)) := by
    have he : KeepsPort (missCounter p c) s2 (if c = .revoked then s2.evt (Fld.PTp_EVT_REVOKED p) else s2) := .ite (keepsPort_evt s2 _ hw) (.refl _ s2)
    refine .then (.ite (he.then (keepsPort_bump _ ?_)) he) (keepsPort_launchRecord _ _ _ _)
    obtain ⟨_, h, _⟩ := hw
    unfold Reg.NE_LAUNCH_LOST
    omega
  refine ⟨?_, ?_, ?_⟩
  · rw [hk.port, ← hports]
    exact congrArg (fun l : List Port => (l.getD p Port.blank).res) h1
  · rw [hk.rdN, h4, hres]
  · have hevt {u : State} (h : u.flag (Fld.PTp_EVT_LAUNCH_MISS p) = true) :
        (if c = .revoked then u.evt (Fld.PTp_EVT_REVOKED p) else u).flag (Fld.PTp_EVT_LAUNCH_MISS p) = true := by
      split
      · exact flag_evt_mono rfl (portEvt_addr hp).2 (by simp) h
      · exact h
    have hlost {u : State} (h : u.flag (Fld.PTp_EVT_LAUNCH_MISS p) = true) :
        (if r.job.eng = 17 then u.bump Reg.NE_LAUNCH_LOST else u).flag (Fld.PTp_EVT_LAUNCH_MISS p) = true := by
      split
      · rw [flag_bump_other _ _ (by show Reg.PTp_EVT p ≠ _; unfold Reg.PTp_EVT Reg.NE_LAUNCH_LOST; omega)]
        exact h
      · exact h
    have hrec {u : State} (h : u.flag (Fld.PTp_EVT_LAUNCH_MISS p) = true) : (u.launchRecord p (missName c)).flag (Fld.PTp_EVT_LAUNCH_MISS p) = true :=
      (flag_of_rd (congrArg (fun x : RegFile => x.word _) (emitWith_regs u _ _ _ _ _ _ _))).trans h
    exact hrec (hlost (hevt h3))

theorem handOverFrame_none {s : State} {p : Nat} {e : Engine} (h : s.openRes p (engPort e) = none) : s.handOverFrame p e = s := by
  unfold handOverFrame
  rw [h]

/-- The frame that an engine seals for a reservation (R249). -/
def sealedFor (s : State) (e : Engine) (r : Reservation) : Option (List Byte × Nat × Bool) :=
  match e with | .ptp => s.peSeal r.job r.t | .ntp => s.neSeal r.job r.t

theorem handOverFrame_some {s : State} {p : Nat} {e : Engine} {r : Reservation} (h : s.openRes p (engPort e) = some r) : s.handOverFrame p e =
    match s.sealedFor e r with
    | some x => s.takeFrame p r x.1 (some x.2.1) x.2.2
    | none => if s.neKeyGone r.job then s.bump Reg.NE_KEY_DISCARD else if s.peKeyGone r.job then s.bump Reg.PE_KEY_DISCARD else s := by
  unfold handOverFrame
  rw [h]
  rfl

theorem takeFrame_spec (s : State) {p : Nat} (hp : p < 16) (r : Reservation) (bytes : List Byte) (gen : Option Nat) (auth : Bool) :
    if r.t < s.tc.now + s.launchMin p then
      (s.takeFrame p r bytes gen auth).rdN (Reg.PTp_MISS_LATE p) = oneMore (s.rdN (Reg.PTp_MISS_LATE p)) ∧
        ((s.takeFrame p r bytes gen auth).port p).res = (s.port p).res.filter (fun y => y.id != r.id)
    else if bytes.length + 4 ≠ r.job.len then
      (s.takeFrame p r bytes gen auth).rdN (Reg.PTp_MISS_LENGTH p) = oneMore (s.rdN (Reg.PTp_MISS_LENGTH p)) ∧
        ((s.takeFrame p r bytes gen auth).port p).res = (s.port p).res.filter (fun y => y.id != r.id)
    else s.takeFrame p r bytes gen auth = s.modPort p (fun y => { y with res := y.res.map (fun z =>
      if z.id = r.id then { z with frame := some bytes, gen := gen, auth := auth } else z) }) := by
  unfold takeFrame
  by_cases h1 : r.t < s.tc.now + s.launchMin p
  · obtain ⟨k1, k2, _⟩ := missRes_spec s hp r .late
    simp only [if_pos h1]
    exact ⟨k2, k1⟩
  by_cases h2 : bytes.length + 4 ≠ r.job.len
  · obtain ⟨k1, k2, _⟩ := missRes_spec s hp r .length
    simp only [if_neg h1, if_pos h2]
    exact ⟨k2, k1⟩
  · simp only [if_neg h1, if_neg h2]

/-! ### LAUNCH and LAUNCH_MISS (R249 to R251) -/

theorem launchMiss_none {s : State} {p k : Nat} (h : (s.port p).res[k]? = none) : s.launchMiss p k = s := by
  unfold launchMiss
  rw [h]

/-- The state in which a reservation is judged: one without a frame once it is too late for its handover (R250). -/
def judgedAt (s : State) (p : Nat) (r : Reservation) : State := if r.frame.isNone then s.advanceTo (r.t - s.launchMin p + 1) else s

theorem launchMiss_some {s : State} {p k : Nat} {r : Reservation} (h : (s.port p).res[k]? = some r) : s.launchMiss p k =
    match (s.judgedAt p r).missOf p r with
    | some c => (s.judgedAt p r).missRes p r c
    | none => s.judgedAt p r := by
  unfold launchMiss
  rw [h]
  rfl

/-- Time runs: the ports are as they were. -/
theorem putLag_ports (s : State) (n : Nat) (v : Int) : (s.putLag n v).ports = s.ports := by
  unfold putLag
  dsimp only
  split
  · rfl
  · split
    · rw [evt_ports, setB_ports]
    · rw [setB_ports]

theorem advance_ports (s : State) (k : Nat) : (s.advance k).ports = s.ports := by
  have lags (l : List (Nat × Int)) : ∀ t : State, (l.foldl (fun t x => t.putLag x.1 x.2) t).ports = t.ports := by
    induction l with
    | nil => intro t; rfl
    | cons x r ih => intro t; exact (ih _).trans (putLag_ports t _ _)
  have slewed (t : State) : t.slewDone.ports = t.ports := by
    unfold slewDone
    dsimp only
    rw [setB_ports, evt_ports, setB_ports]
  unfold advance
  split
  · rfl
  · dsimp only
    rw [lags]
    split
    · rfl
    · split
      · rfl
      · exact slewed _

/-- The frame of a reservation crosses, and is counted. -/
def crossed (s : State) (p : Nat) (r : Reservation) : State :=
  (((s.modPort p (fun x => { x with res := x.res.filter (fun y => y.id != r.id), busyUntil := s.occTo p r.t r.job.len })).refreshRes p).bump64
    (Reg.PTp_TX_FRAMES_L p) 1).bump (Reg.PTp_LAUNCHED p)

/-- The residual of a launch beyond its tolerance (R251). -/
def residTold (s : State) (p t st : Nat) : State :=
  if ofPs (bitsOf (s.rdN (Reg.PTp_LAUNCH_TOL p)) 0 16) < ((st : Int) - t).natAbs then
    (s.bump (Reg.PTp_RESID_CNT p)).evt (Fld.PTp_EVT_RESID p)
  else s

/-- The stamp of a launch (R243). -/
def launchStamp (s : State) (p t : Nat) (pos : WirePos) : Nat := ((s.stampAt p true pos).getD (t / 2 ^ 32)) * 2 ^ 32

theorem launch_none {s : State} {p : Nat} (pos : WirePos) (h : s.firstRes p = none) : s.launch p pos = (none, s) := by
  unfold launch
  rw [h]

theorem launch_some {s : State} {p : Nat} (pos : WirePos) {r : Reservation} (h : s.firstRes p = some r) : s.launch p pos =
    match (s.advanceTo r.t).missOf p r, r.frame with
    | some c, _ => (none, (s.advanceTo r.t).missRes p r c)
    | none, none => (none, (s.advanceTo r.t).missRes p r .late)
    | none, some _ =>
      let s3 := (s.advanceTo r.t).crossed p r
      let st := s3.launchStamp p r.t pos
      (some r.job, (((s3.residTold p r.t st).tick.startCheck (16 + p) st).launchRecord p "LAUNCHED")) := by
  unfold launch
  rw [h]
  rfl

theorem keepsPort_setSh (a : Nat) (s : State) (x : Shell) : KeepsPort a s (s.setSh x) := keepsPort_parts rfl rfl

/-- A path check that starts leaves the ports' words: the starts that it drops are counted in words of another remainder. -/
theorem keepsPort_startCheck {a : Nat} (s : State) (dir stamp : Nat) (h : a % 16 ≠ 12) : KeepsPort a s (s.startCheck dir stamp) := by
  have hdrop (t : State) (u : Nat) : KeepsPort a t (t.dropStart u) := by
    unfold dropStart
    split
    · exact .refl a t
    · refine (keepsPort_setSh a t _).then (keepsPort_bump _ ?_)
      unfold Reg.SHc_STALE_START
      omega
  have hadd (t : State) (u : Nat) (x : UnitStart) : KeepsPort a t (t.addStart u x) := by
    unfold addStart
    split
    · exact .refl a t
    · exact .then (.ite (hdrop t u) (.refl a t)) (keepsPort_setSh a _ _)
  unfold startCheck
  exact .ite (hadd s _ _) (.refl a s)

theorem keepsPort_launched {a : Nat} (s : State) (j : LaunchJob) (h : PortWord a) : KeepsPort a s (s.launched j) := by
  have hne : 0x60000 ≤ Reg.NE_TX_L ∧ 0x60000 ≤ Reg.PE_TX_L := by decide
  have h2 : a < 0x60000 := h.2.1
  have hpe : KeepsPort a s s.peSent :=
    .then (keepsPort_bump64 s 1 (by omega) (by omega)) (keepsPort_pcEvent _ _ _ _ h)
  have hn : KeepsPort a s ((s.bump64 Reg.NE_TX_L 1).setNe { s.ne with launched := s.ne.launched + 1 }) :=
    .then (keepsPort_bump64 s 1 (by omega) (by omega)) (keepsPort_setNe _ _ _)
  unfold launched
  exact .ite hpe (.ite (hn.then (keepsPort_pcEvent _ _ _ _ h)) hn)

/-- What a crossed frame leaves of its port (R249). -/
theorem crossed_spec (s : State) (p : Nat) (r : Reservation) :
    ((s.crossed p r).port p).res = (s.port p).res.filter (fun y => y.id != r.id) ∧
      (s.crossed p r).rdN (Reg.PTp_LAUNCHED p) = oneMore (s.rdN (Reg.PTp_LAUNCHED p)) := by
  have h1 : (((s.modPort p (fun x => { x with res := x.res.filter (fun y => y.id != r.id), busyUntil := s.occTo p r.t r.job.len })).refreshRes p).port p).res =
      (s.port p).res.filter (fun y => y.id != r.id) := res_modPort_filter s p _ _ (fun _ => rfl)
  have h2 : ((s.modPort p (fun x => { x with res := x.res.filter (fun y => y.id != r.id), busyUntil := s.occTo p r.t r.job.len })).refreshRes p).rdN
      (Reg.PTp_LAUNCHED p) = s.rdN (Reg.PTp_LAUNCHED p) := rdN_wrN_other _ _ (by simp)
  unfold crossed
  generalize (s.modPort p (fun x => { x with res := x.res.filter (fun y => y.id != r.id), busyUntil := s.occTo p r.t r.job.len })).refreshRes p = u at h1 h2
  have h3 : KeepsPort (Reg.PTp_LAUNCHED p) u (u.bump64 (Reg.PTp_TX_FRAMES_L p) 1) := keepsPort_bump64 u 1 (by simp) (by unfold Reg.PTp_LAUNCHED Reg.PTp_TX_FRAMES_L; omega)
  refine ⟨?_, by rw [rdN_bump_same, h3.rdN, h2]⟩
  unfold port at h1 ⊢
  rw [bump_ports, h3.ports]
  exact h1

/-- After the crossing: what the launch still does leaves the port and its counters. -/
theorem keepsPort_afterCrossing {a : Nat} (s : State) (p t st : Nat) (j : LaunchJob) (h : PortWord a) (h12 : a % 16 ≠ 12)
    (hr : a ≠ Reg.PTp_RESID_CNT p) :
    KeepsPort a s ((((s.residTold p t st).tick.startCheck (16 + p) st).launchRecord p "LAUNCHED").launched j) := by
  have h1 : KeepsPort a s (s.residTold p t st) := by
    unfold residTold
    exact .ite (.then (keepsPort_bump s hr) (keepsPort_evt _ _ h)) (.refl a s)
  exact (((h1.then (keepsPort_tick a _)).then (keepsPort_startCheck _ _ _ h12)).then (keepsPort_launchRecord a _ _ _)).then (keepsPort_launched _ j h)

/-! ### TX_FRAME_START (R249, R253 to R257) -/

theorem txStart_none {s : State} {p : Nat} (x : Nat) (h : (s.port p).next = none) : s.txStart p x = s := by
  unfold txStart
  rw [h]

/-- The frame that waits has left its place. -/
def gone (s : State) (p : Nat) : State := s.modPort p (fun y => { y with next := none })

/-- A time has passed by which the frame was to leave. -/
def tooLate (r : Replica) (x : Nat) : Bool := match r.late with | some t => decide (t < x) | none => false

theorem tooLate_iff (r : Replica) (x : Nat) : tooLate r x = true ↔ ∃ t, r.late = some t ∧ t < x := by
  unfold tooLate
  cases r.late <;> simp

/-- A frame starts: the port is occupied, and the frame is counted. -/
def started (s : State) (p x : Nat) (b : List Byte) : State :=
  ((s.gone p).modPort p (fun y => { y with busyUntil := s.occTo p x (b.length + 4) })).bump64 (Reg.PTp_TX_FRAMES_L p) 1

/-- What a frame that started leaves besides: residence times, and its entry in the stamp queue (R245, R276). -/
def startNoted (s u : State) (p x : Nat) (r : Replica) (b : List Byte) : State :=
  let c := s.corrected p x r b
  let s2 := if c.2 then u.bump (Reg.SW_TC_CORRp p)
    else if s.tcAuth r.src p b then u.bump (Reg.SW_TC_DROPp p) else u
  match r.tsReq with
  | some tag => s2.txqAdd p { tag := tag, stamp := if s.stampTx p then x / 2 ^ 32 * 2 ^ 32 else 0, ovf := false, nosend := false,
                              nostamp := !s.stampTx p }
  | none => s2

theorem txStart_some {s : State} {p : Nat} (x : Nat) {r : Replica} (h : (s.port p).next = some r) : s.txStart p x =
    if !s.txSizeOk p r (s.txForm p r) then
      (((((s.gone p).bump (Reg.PTp_TX_DROP p)).evt (Fld.PTp_EVT_TX_DROP p)).noSend p r.tsReq).emitPkt (0x20 + p) 7 "TX_DROP" p (s.txForm p r))
    else if !s.linkUp p || !s.gateOpen p then (((s.gone p).noSend p r.tsReq).noteMissed r.src p (s.txForm p r)).bump (Reg.SW_DOWN_DROPp p)
    else if !s.mayStart p x (s.txForm p r) then s
    else if tooLate r x then (((s.gone p).bump (Reg.PTp_MISS_AGE p)).evt (Fld.PTp_EVT_TX_DROP p)).launchRecord p "AGE"
    else s.startNoted (s.started p x (s.txForm p r)) p x r (s.txForm p r) := by
  unfold txStart
  rw [h]
  rfl

theorem keepsPort_txqAdd {a : Nat} (s : State) {p : Nat} (hp : p < 16) (e : TxqEntry) (h0 : 0x50000 ≤ a) (h : a % 0x1000 ≠ 0x10)
    (hc : carried a = false) : KeepsPort a s (s.txqAdd p e) := by
  have tc (t : State) (x : TimeCore) : KeepsPort a t { t with tc := x } := keepsPort_parts rfl rfl
  unfold txqAdd
  dsimp only
  split
  · split
    · exact (tc s _).then (keepsPort_evt_of _ _ h hc)
    · exact tc s _
  · refine ((tc s _).then (keepsPort_bump _ ?_)).then (keepsPort_evt_of _ _ h hc)
    unfold Reg.TC_TXQ_DROPp
    omega

theorem keepsPort_noSend {a : Nat} (s : State) {p : Nat} (hp : p < 16) (ts : Option Nat) (h0 : 0x50000 ≤ a) (h : a % 0x1000 ≠ 0x10)
    (hc : carried a = false) : KeepsPort a s (s.noSend p ts) := by
  unfold noSend
  split
  · exact keepsPort_txqAdd s hp _ h0 h hc
  · exact .refl a s

theorem keepsPort_noteMissed (a : Nat) (s : State) (src dest : Nat) (b : List Byte) : KeepsPort a s (s.noteMissed src dest b) := by
  unfold noteMissed
  split
  · exact .refl a s
  · split
    · exact .refl a s
    · exact keepsPort_setSw a s _

theorem keepsPort_emitPkt (a : Nat) (s : State) (source cls : Nat) (name : String) (p : Nat) (b : List Byte) :
    KeepsPort a s (s.emitPkt source cls name p b) := by
  unfold emitPkt
  split
  · exact .refl a s
  · exact keepsPort_parts rfl rfl

theorem keepsPort_startNoted {a : Nat} (s u : State) {p : Nat} (hp : p < 16) (x : Nat) (r : Replica) (b : List Byte) (h : PortWord a) :
    KeepsPort a u (s.startNoted u p x r b) := by
  have hc := carried_portWord h
  obtain ⟨h1, h2, h3⟩ := h
  have hn : KeepsPort a u (if (s.corrected p x r b).2 then u.bump (Reg.SW_TC_CORRp p)
      else if s.tcAuth r.src p b then u.bump (Reg.SW_TC_DROPp p) else u) :=
    .ite (keepsPort_bump u (by unfold Reg.SW_TC_CORRp; omega)) (.ite (keepsPort_bump u (by unfold Reg.SW_TC_DROPp; omega)) (.refl a u))
  unfold startNoted
  dsimp only
  split
  · exact hn.then (keepsPort_txqAdd _ hp _ h1 (by omega) hc)
  · exact hn

theorem port_lt_of_next {s : State} {p : Nat} {r : Replica} (h : (s.port p).next = some r) : p < s.ports.length := by
  by_contra hn
  unfold port at h
  rw [List.getD_eq_default _ _ (by omega)] at h
  cases h

theorem gone_next {s : State} {p : Nat} {r : Replica} (h : (s.port p).next = some r) : ((s.gone p).port p).next = none := by
  unfold gone
  rw [port_modPort_same _ (port_lt_of_next h)]

theorem gone_rdN (s : State) (p a : Nat) : (s.gone p).rdN a = s.rdN a := rfl

/-- A frame of a size that may not leave is dropped and counted (R255). -/
theorem sizeDrop_spec {s : State} {p : Nat} (hp : p < 16) {r : Replica} (hn : (s.port p).next = some r) (b : List Byte) :
    let u := ((((s.gone p).bump (Reg.PTp_TX_DROP p)).evt (Fld.PTp_EVT_TX_DROP p)).noSend p r.tsReq).emitPkt (0x20 + p) 7 "TX_DROP" p b
    (u.port p).next = none ∧ u.rdN (Reg.PTp_TX_DROP p) = oneMore (s.rdN (Reg.PTp_TX_DROP p)) := by
  have hw : PortWord (Reg.PTp_TX_DROP p) := portWord_of (n := 0xDC) hp (by decide) (by decide)
  obtain ⟨h1, _, _, h4⟩ := bump_evt_spec (s.gone p) (f := Fld.PTp_EVT_TX_DROP p) hp hw rfl (by simp) rfl
  have hg := gone_next hn
  have hk (t : State) : KeepsPort (Reg.PTp_TX_DROP p) t ((t.noSend p r.tsReq).emitPkt (0x20 + p) 7 "TX_DROP" p b) :=
    (keepsPort_noSend t hp _ (by unfold Reg.PTp_TX_DROP; omega) (by unfold Reg.PTp_TX_DROP; omega) (carried_portWord hw)).then
      (keepsPort_emitPkt _ _ _ _ _ _ _)
  dsimp only
  rw [(hk _).port, (hk _).rdN, h4, gone_rdN]
  unfold port at hg ⊢
  rw [h1]
  exact ⟨hg, rfl⟩

/-- A frame whose link or gate has closed is dropped and counted (R252). -/
theorem closedDrop_spec {s : State} {p : Nat} (hp : p < 16) {r : Replica} (hn : (s.port p).next = some r) (b : List Byte) :
    let u := (((s.gone p).noSend p r.tsReq).noteMissed r.src p b).bump (Reg.SW_DOWN_DROPp p)
    (u.port p).next = none ∧ u.rdN (Reg.SW_DOWN_DROPp p) = oneMore (s.rdN (Reg.SW_DOWN_DROPp p)) := by
  have hc : carried (Reg.SW_DOWN_DROPp p) = false := by
    unfold carried pageOf Reg.SW_DOWN_DROPp
    simp
    omega
  have hg := gone_next hn
  have hk (t : State) : KeepsPort (Reg.SW_DOWN_DROPp p) t ((t.noSend p r.tsReq).noteMissed r.src p b) :=
    (keepsPort_noSend t hp _ (by unfold Reg.SW_DOWN_DROPp; omega) (by unfold Reg.SW_DOWN_DROPp; omega) hc).then (keepsPort_noteMissed _ _ _ _ _)
  dsimp only
  rw [rdN_bump_same, (hk _).rdN, gone_rdN]
  unfold port at hg ⊢
  rw [bump_ports, (hk _).ports]
  exact ⟨hg, rfl⟩

/-- A frame whose time has passed is discarded for its age (R254). -/
theorem ageDrop_spec {s : State} {p : Nat} (hp : p < 16) {r : Replica} (hn : (s.port p).next = some r) :
    let u := (((s.gone p).bump (Reg.PTp_MISS_AGE p)).evt (Fld.PTp_EVT_TX_DROP p)).launchRecord p "AGE"
    (u.port p).next = none ∧ u.rdN (Reg.PTp_MISS_AGE p) = oneMore (s.rdN (Reg.PTp_MISS_AGE p)) := by
  have hw : PortWord (Reg.PTp_MISS_AGE p) := portWord_of (n := 0x108) hp (by decide) (by decide)
  obtain ⟨h1, _, _, h4⟩ := bump_evt_spec (s.gone p) (f := Fld.PTp_EVT_TX_DROP p) hp hw rfl (by simp) rfl
  have hg := gone_next hn
  have hk (t : State) : KeepsPort (Reg.PTp_MISS_AGE p) t (t.launchRecord p "AGE") := keepsPort_launchRecord _ t p _
  dsimp only
  rw [(hk _).port, (hk _).rdN, h4, gone_rdN]
  unfold port at hg ⊢
  rw [h1]
  exact ⟨hg, rfl⟩

/-- A frame that starts (R249). -/
theorem started_spec {s : State} {p : Nat} {r : Replica} (hn : (s.port p).next = some r) (x : Nat) (b : List Byte) :
    ((s.started p x b).port p).next = none ∧ ((s.started p x b).port p).busyUntil = s.occTo p x (b.length + 4) ∧
      (s.started p x b).rd64 (Reg.PTp_TX_FRAMES_L p) = (s.rd64 (Reg.PTp_TX_FRAMES_L p) + 1) % 2 ^ 64 := by
  have hlt : p < (s.gone p).ports.length := by
    unfold gone
    rw [modPort_ports, List.length_modify]
    exact port_lt_of_next hn
  have hport : ((s.gone p).modPort p (fun y => { y with busyUntil := s.occTo p x (b.length + 4) })).port p =
      { (s.gone p).port p with busyUntil := s.occTo p x (b.length + 4) } := port_modPort_same _ hlt
  have hrd : ((s.gone p).modPort p (fun y => { y with busyUntil := s.occTo p x (b.length + 4) })).rd64 (Reg.PTp_TX_FRAMES_L p) =
      s.rd64 (Reg.PTp_TX_FRAMES_L p) := rfl
  unfold started
  generalize (s.gone p).modPort p (fun y => { y with busyUntil := s.occTo p x (b.length + 4) }) = u at hport hrd
  have hb : (u.bump64 (Reg.PTp_TX_FRAMES_L p) 1).port p = u.port p := by
    unfold port bump64 wr64
    rw [wrN_ports, wrN_ports]
  rw [hb, hport]
  refine ⟨gone_next hn, rfl, ?_⟩
  unfold bump64
  rw [rd64_wr64_same, hrd]

theorem startNoted_spec {s u : State} {p : Nat} (hp : p < 16) (x : Nat) (r : Replica) (b : List Byte) :
    (s.startNoted u p x r b).port p = u.port p ∧
      (s.startNoted u p x r b).rd64 (Reg.PTp_TX_FRAMES_L p) = u.rd64 (Reg.PTp_TX_FRAMES_L p) := by
  have hl := keepsPort_startNoted s u hp x r b (portWord_of (n := 0xC8) hp (by decide) (by decide))
  have hh := keepsPort_startNoted s u hp x r b (portWord_of (n := 0xCC) hp (by decide) (by decide))
  refine ⟨hl.port p, ?_⟩
  have eh : Reg.PTp_TX_FRAMES_L p + 4 = 0x50000 + 0xCC + p * 0x1000 := by unfold Reg.PTp_TX_FRAMES_L; omega
  unfold rd64
  rw [eh, hh.rdN]
  exact congrArg (· + _) hl.rdN

end State

theorem frameStarts : Claims.FrameStarts := by
  intro p x s
  refine ⟨_, rfl, ?_⟩
  dsimp only
  cases hn : (s.port p.val).next with
  | none => exact State.txStart_none x hn
  | some r =>
    rw [State.txStart_some x hn]
    dsimp only
    by_cases h1 : s.txSizeOk p.val r (s.txForm p.val r) = false
    · rw [if_pos h1, if_pos (show (!s.txSizeOk p.val r (s.txForm p.val r)) = true by simp [h1])]
      exact State.sizeDrop_spec p.isLt hn _
    rw [if_neg h1, if_neg (show ¬(!s.txSizeOk p.val r (s.txForm p.val r)) = true by simpa using h1)]
    by_cases h2 : s.linkUp p.val = false ∨ s.gateOpen p.val = false
    · rw [if_pos h2, if_pos (show (!s.linkUp p.val || !s.gateOpen p.val) = true by simpa using h2)]
      exact State.closedDrop_spec p.isLt hn _
    rw [if_neg h2, if_neg (show ¬(!s.linkUp p.val || !s.gateOpen p.val) = true by simpa using h2)]
    by_cases h3 : s.mayStart p.val x (s.txForm p.val r) = false
    · rw [if_pos h3, if_pos (show (!s.mayStart p.val x (s.txForm p.val r)) = true by simp [h3])]
    rw [if_neg h3, if_neg (show ¬(!s.mayStart p.val x (s.txForm p.val r)) = true by simpa using h3)]
    by_cases h4 : State.tooLate r x = true
    · rw [if_pos h4]
      exact (if_pos ((State.tooLate_iff r x).1 h4)).mpr (State.ageDrop_spec p.isLt hn)
    rw [if_neg h4]
    refine (if_neg (fun e => h4 ((State.tooLate_iff r x).2 e))).mpr ?_
    obtain ⟨k1, k2⟩ := State.startNoted_spec (s := s) (u := s.started p.val x (s.txForm p.val r)) p.isLt x r (s.txForm p.val r)
    rw [k1, k2]
    exact State.started_spec hn x _

theorem launches : Claims.Launches := by
  intro p s
  refine ⟨fun pos => ⟨_, rfl, ?_⟩, fun k => ⟨_, rfl, ?_⟩⟩
  · dsimp only
    cases hf : s.firstRes p.val with
    | none =>
      rw [State.launch_none pos hf]
    | some r =>
      rw [State.launch_some pos hf]
      have hports : (s.advanceTo r.t).port p.val = s.port p.val :=
        congrArg (fun l : List Port => l.getD p.val Port.blank) (State.advance_ports s _)
      dsimp only
      generalize s.advanceTo r.t = t at hports ⊢
      rw [← hports]
      cases hm : t.missOf p.val r with
      | some c =>
        obtain ⟨h1, h2, h3⟩ := State.missRes_spec t p.isLt r c
        refine ⟨h1, fun e => (nomatch e), fun d hd => ?_⟩
        obtain rfl : c = d := Option.some.inj hd
        exact ⟨h2, h3⟩
      | none =>
        cases hr : r.frame with
        | none =>
          obtain ⟨h1, _, _⟩ := State.missRes_spec t p.isLt r .late
          exact ⟨h1, fun _ e => (nomatch e), fun d hd => nomatch hd⟩
        | some b =>
          have hw : PortWord (Reg.PTp_LAUNCHED p) := State.portWord_of (n := 0xE4) p.isLt (by decide) (by decide)
          have hk := State.keepsPort_afterCrossing (t.crossed p.val r) p.val r.t ((t.crossed p.val r).launchStamp p.val r.t pos) r.job hw
            (by unfold Reg.PTp_LAUNCHED; omega) (by simp)
          obtain ⟨h1, h2⟩ := State.crossed_spec t p.val r
          refine ⟨?_, fun _ _ => ?_, fun d hd => nomatch hd⟩
          · exact (congrArg Port.res (hk.port p.val)).trans h1
          · exact hk.rdN.trans h2
  · show match (s.port p.val).res[k]? with
      | none => _
      | some r => match (s.judgedAt p.val r).missOf p.val r with | none => _ | some c => _
    cases hr : (s.port p.val).res[k]? with
    | none => exact State.launchMiss_none hr
    | some r =>
      rw [State.launchMiss_some hr]
      dsimp only
      cases hc : (s.judgedAt p.val r).missOf p.val r with
      | none => rfl
      | some c =>
        obtain ⟨h1, h2, h3⟩ := State.missRes_spec (s.judgedAt p.val r) p.isLt r c
        exact ⟨h2, h3, h1⟩

theorem reservations : Claims.Reservations := by
  intro p eng s
  refine ⟨fun grid => ⟨_, rfl, ?_⟩, _, rfl, ?_⟩
  · dsimp only
    cases hf : s.sw.jobs.find? (fun j => j.eng == State.engPort eng && j.port == p.val) with
    | none =>
      show (if s.safe then s else s.askSlot p.val eng grid) = s
      rw [State.askSlot_none grid hf, ite_self]
    | some j =>
      cases hs : s.safe with
      | true => exact (if_pos rfl).mpr rfl
      | false =>
        refine (if_neg (by decide)).mpr ?_
        rw [if_neg (by decide)]
        cases hp : s.slotPick p.val j grid with
        | none =>
          obtain ⟨h1, h2, h3, h4⟩ := State.askSlot_refused p.isLt hf (.inl hp)
          refine ⟨h1, ?_⟩
          show match s.slotPick p.val j grid with | none => _ | some t => _
          rw [hp]
          exact ⟨h2, h3, h4⟩
        | some t =>
          cases hc : s.slotShut p.val j with
          | true =>
            obtain ⟨h1, h2, h3, h4⟩ := State.askSlot_refused p.isLt hf (.inr hc)
            refine ⟨h1, ?_⟩
            show match s.slotPick p.val j grid with | none => _ | some t => _
            rw [hp]
            exact (if_pos ((State.slotShut_iff s p.val j).1 hc)).mpr ⟨h2, h3, h4⟩
          | false =>
            obtain ⟨h1, h2, h3⟩ := State.askSlot_granted hf hp hc
            refine ⟨h1, ?_⟩
            show match s.slotPick p.val j grid with | none => _ | some t => _
            rw [hp]
            exact (if_neg (fun e => by rw [(State.slotShut_iff s p.val j).2 e] at hc; cases hc)).mpr ⟨h2, h3⟩
  · dsimp only
    cases ho : s.openRes p.val (State.engPort eng) with
    | none =>
      show (if s.safe then s else s.handOverFrame p.val eng) = s
      rw [State.handOverFrame_none ho, ite_self]
    | some r =>
      cases hs : s.safe with
      | true => exact (if_pos rfl).mpr rfl
      | false =>
        refine (if_neg (by decide)).mpr ?_
        rw [if_neg (by decide), State.handOverFrame_some ho]
        show match s.sealedFor eng r with | none => _ | some x => _
        cases hx : s.sealedFor eng r with
        | none =>
          dsimp only
          split
          · exact State.bump_ports s _
          · split
            · exact State.bump_ports s _
            · rfl
        | some x => exact State.takeFrame_spec s p.isLt r x.1 (some x.2.1) x.2.2

/-- Settles O31: what each step at a port leaves, and what counts it. -/
theorem framesOut : Obligations.FramesOut := ⟨reservations, launches, frameStarts⟩

end Sys2Proof.Machine
end

section
/-! SUPPORT. Fields of octet strings: what stands at an offset of a message that is written out part by part. -/

namespace Sys2Proof.Machine

@[simp] theorem length_leBytes (k v : Nat) : (leBytes k v).length = k := by
  induction k generalizing v with
  | zero => rfl
  | succ k ih => unfold leBytes; rw [List.length_cons, ih]

@[simp] theorem length_beBytes (k v : Nat) : (beBytes k v).length = k := by
  unfold beBytes
  rw [List.length_reverse, length_leBytes]

theorem fromLe_leBytes (k v : Nat) : fromLe (leBytes k v) = v % 256 ^ k := by
  induction k generalizing v with
  | zero => unfold leBytes fromLe; rw [Nat.pow_zero, Nat.mod_one]
  | succ k ih =>
    unfold leBytes fromLe
    have e : 256 ^ (k + 1) = 256 * 256 ^ k := by rw [Nat.pow_succ, Nat.mul_comm]
    rw [ih, BitVec.toNat_ofNat, e, Nat.mod_mul]

/-- A field that was written is read as it is, within its width. -/
theorem fromBe_beBytes (k v : Nat) : fromBe (beBytes k v) = v % 256 ^ k := by
  unfold fromBe beBytes
  rw [List.reverse_reverse, fromLe_leBytes]

theorem fromLe_lt (l : List Byte) : fromLe l < 256 ^ l.length := by
  induction l with
  | nil => exact Nat.one_pos
  | cons b r ih =>
    unfold fromLe
    have hb : b.toNat < 256 := b.isLt
    rw [List.length_cons, Nat.pow_succ]
    omega

theorem beAt_lt (b : List Byte) (off n : Nat) : beAt b off n < 256 ^ n := by
  unfold beAt fromBe
  refine Nat.lt_of_lt_of_le (fromLe_lt _) (Nat.pow_le_pow_right (by decide) ?_)
  unfold sliceOf
  rw [List.length_reverse, List.length_take]
  exact Nat.min_le_left _ _

/-- The field that stands behind `l` in a message. -/
theorem beAt_of_parts {b l m r : List Byte} {off n : Nat} (hb : b = l ++ (m ++ r)) (h1 : l.length = off) (h2 : m.length = n) :
    beAt b off n = fromBe m := by
  subst h1 h2 hb
  unfold beAt sliceOf
  rw [List.drop_left, List.take_left]

theorem beAt_beBytes {b l r : List Byte} {off n v : Nat} (hb : b = l ++ (beBytes n v ++ r)) (h1 : l.length = off) :
    beAt b off n = v % 256 ^ n :=
  (beAt_of_parts hb h1 (length_beBytes n v)).trans (fromBe_beBytes n v)

/-- A field that is written over the octets behind `l`. -/
theorem putBe_of_parts {l m r : List Byte} {off n v : Nat} (h1 : l.length = off) (h2 : m.length = n) :
    putBe (l ++ (m ++ r)) off n v = l ++ (beBytes n (v % 256 ^ n) ++ r) := by
  subst h1 h2
  unfold putBe putBytes
  rw [List.take_left, length_beBytes, List.append_assoc, ← List.drop_drop, List.drop_left, List.drop_left]

end Sys2Proof.Machine
end

section
/-! SUPPORT. What an engine's frame leaves as it enters the switch core: all but the switch, the journal, and the ports' counts of dropped frames. -/

namespace Sys2Proof.Machine

/-- A frame has entered the switch core. -/
def Queued (s t : State) : Prop := Touches (fun a => pageOf a = 0x61) { s with sw := t.sw } t

theorem Queued.refl (s : State) : Queued s s := Touches.refl _ s

theorem Queued.then {s t u : State} (h : Queued s t) (k : Queued t u) : Queued s u := by
  have h' : Touches (fun a => pageOf a = 0x61) { s with sw := u.sw } { t with sw := u.sw } :=
    ⟨congrArg (fun x : State => { x with sw := u.sw }) h.1, h.2⟩
  exact Touches.then h' k

theorem queued_setSw (s : State) (x : Switch) : Queued s (s.setSw x) := ⟨rfl, fun _ _ _ => rfl⟩

theorem queued_bump (s : State) {a : Nat} (h : pageOf a = 0x61) : Queued s (s.bump a) :=
  ⟨rfl, fun _ hb _ => State.rd_bump_other s (fun e => hb (e ▸ h))⟩

theorem Queued.words {s t : State} (h : Queued s t) {a : Nat} (ha : pageOf a ≠ 0x61) (hc : carried a = false) : t.rd a = s.rd a := h.2 a ha hc

theorem Queued.pe {s t : State} (h : Queued s t) : t.pe = s.pe := (Touches.pe h :)
theorem Queued.tc {s t : State} (h : Queued s t) : t.tc = s.tc := (Touches.tc h :)

theorem carried_of_page_lt {a : Nat} (h : pageOf a < 0xA0) : carried a = false := by
  unfold carried
  simp
  omega

namespace State

theorem queued_noteMissed (s : State) (src dest : Nat) (b : List Byte) : Queued s (s.noteMissed src dest b) := by
  unfold noteMissed
  split
  · exact .refl s
  · split
    · exact .refl s
    · exact queued_setSw s _

theorem queued_emitPkt (s : State) (source cls : Nat) (name : String) (p : Nat) (b : List Byte) : Queued s (s.emitPkt source cls name p b) := by
  unfold emitPkt
  split
  · exact .refl s
  · exact ⟨rfl, fun _ _ _ => rfl⟩

/-- A frame of an engine is queued at its port, or dropped there and counted. -/
theorem queued_admitReplica (s : State) {r : Replica} (c : Nat) (multi : Bool) (hd : r.dest < 16) (ht : r.tsReq = none) :
    Queued s (s.admitReplica r c multi) := by
  have quiet (t : State) : t.noSend r.dest r.tsReq = t := by rw [ht]; rfl
  have hp1 : pageOf (Reg.SW_MC_DROPp r.dest) = 0x61 := by unfold pageOf Reg.SW_MC_DROPp; omega
  have hp2 : pageOf (Reg.SW_DROPp r.dest) = 0x61 := by unfold pageOf Reg.SW_DROPp; omega
  unfold admitReplica
  split
  · exact queued_setSw s _
  · dsimp only
    rw [quiet]
    refine .then (.then ?_ (queued_noteMissed _ _ _ _)) (queued_emitPkt _ _ _ _ _ _)
    split
    · exact queued_bump s hp1
    · exact queued_bump s hp2

theorem queued_engSend (s : State) (eng : Nat) {p : Nat} (hp : p < 16) (b : List Byte) (late : Option Nat) : Queued s (s.engSend eng p b late) := by
  unfold engSend swEnter
  exact (queued_setSw s _).then (queued_admitReplica _ _ _ hp rfl)

end State

end Sys2Proof.Machine
end

section
/-! PROOF. O35: delay requests, their responses, and peer-delay requests (R18, R233, R293 to R296, R309). -/

namespace Sys2Proof.Machine

/-! ### The Delay_Resp (R293) -/

/-- The message that a header and a body make, with its length in place (R293): 34 octets of header before the body. -/
theorem putLength_ptpHead (typ domain major minor flags : Nat) (corr : Int) (src : List Byte) (seq ctl log n : Nat) (body : List Byte) :
    putBe (ptpHead typ domain major minor flags corr src seq ctl log ++ body) 2 2 n =
      [BitVec.ofNat 8 (major * 16 + typ), 0x12] ++ (beBytes 2 (n % 256 ^ 2) ++ ([BitVec.ofNat 8 domain, BitVec.ofNat 8 minor] ++ (beBytes 2 flags ++
        (beBytes 8 (wordOf 64 corr) ++ ([0, 0, 0, 0] ++ (src ++ (beBytes 2 (seq % 65536) ++ ([BitVec.ofNat 8 ctl, BitVec.ofNat 8 log] ++ body)))))))) := by
  refine Eq.trans ?_ (putBe_of_parts (l := [BitVec.ofNat 8 (major * 16 + typ), 0x12]) (m := [0, 0]) (off := 2) (n := 2) rfl rfl)
  unfold ptpHead
  simp only [List.append_assoc, List.cons_append, List.nil_append]

theorem length_ptpIdent (s : State) (p : Nat) : (s.ptpIdent p).length = 10 := by
  unfold State.ptpIdent
  simp only [List.length_append, length_beBytes]

/-- The octets of a message whose header is that of R293, with a stamp and a port identity in its body. -/
def stampedOctets (v0 d mi c0 c1 : Byte) (flags corr seq ns : Nat) (src ask : List Byte) : List Byte :=
  [v0, 0x12] ++ (beBytes 2 54 ++ ([d, mi] ++ (beBytes 2 flags ++ (beBytes 8 corr ++ ([0, 0, 0, 0] ++ (src ++ (beBytes 2 seq ++ ([c0, c1] ++
    (beBytes 6 (ns / 1000000000 % 2 ^ 48) ++ (beBytes 4 (ns % 1000000000) ++ ask))))))))))

section
variable (v0 d mi c0 c1 : Byte) (flags corr seq ns : Nat) (src ask : List Byte)

theorem length_stampedOctets (hs : src.length = 10) (ha : ask.length = 10) : (stampedOctets v0 d mi c0 c1 flags corr seq ns src ask).length = 54 := by
  unfold stampedOctets
  simp only [List.length_append, length_beBytes, List.length_cons, List.length_nil, hs, ha]

theorem stampedOctets_type : beAt (stampedOctets v0 d mi c0 c1 flags corr seq ns src ask) 0 1 = v0.toNat := by
  have h := beAt_of_parts (b := stampedOctets v0 d mi c0 c1 flags corr seq ns src ask) (l := []) (m := [v0]) (off := 0) (n := 1) rfl rfl rfl
  rw [h]
  exact Nat.add_zero _

theorem stampedOctets_length : beAt (stampedOctets v0 d mi c0 c1 flags corr seq ns src ask) 2 2 = 54 :=
  beAt_beBytes (l := [v0, 0x12]) rfl rfl

theorem stampedOctets_corr : beAt (stampedOctets v0 d mi c0 c1 flags corr seq ns src ask) 8 8 = corr % 256 ^ 8 := by
  refine beAt_beBytes (l := [v0, 0x12] ++ (beBytes 2 54 ++ ([d, mi] ++ beBytes 2 flags)))
    (r := [0, 0, 0, 0] ++ (src ++ (beBytes 2 seq ++ ([c0, c1] ++ (beBytes 6 (ns / 1000000000 % 2 ^ 48) ++ (beBytes 4 (ns % 1000000000) ++ ask)))))) ?_ rfl
  unfold stampedOctets
  simp only [List.append_assoc]

theorem stampedOctets_seq (hs : src.length = 10) : beAt (stampedOctets v0 d mi c0 c1 flags corr seq ns src ask) 30 2 = seq % 256 ^ 2 := by
  refine beAt_beBytes (l := [v0, 0x12] ++ (beBytes 2 54 ++ ([d, mi] ++ (beBytes 2 flags ++ (beBytes 8 corr ++ ([0, 0, 0, 0] ++ src))))))
    (r := [c0, c1] ++ (beBytes 6 (ns / 1000000000 % 2 ^ 48) ++ (beBytes 4 (ns % 1000000000) ++ ask))) ?_ ?_
  · unfold stampedOctets
    simp only [List.append_assoc]
  · simp only [List.length_append, length_beBytes, List.length_cons, List.length_nil, hs]

/-- What stands before the body. -/
def headOctets : List Byte :=
  [v0, 0x12] ++ (beBytes 2 54 ++ ([d, mi] ++ (beBytes 2 flags ++ (beBytes 8 corr ++ ([0, 0, 0, 0] ++ (src ++ (beBytes 2 seq ++ [c0, c1])))))))

theorem stampedOctets_head : stampedOctets v0 d mi c0 c1 flags corr seq ns src ask = headOctets v0 d mi c0 c1 flags corr seq src ++
    (beBytes 6 (ns / 1000000000 % 2 ^ 48) ++ (beBytes 4 (ns % 1000000000) ++ ask)) := by
  unfold stampedOctets headOctets
  simp only [List.append_assoc]

theorem length_headOctets (hs : src.length = 10) : (headOctets v0 d mi c0 c1 flags corr seq src).length = 34 := by
  unfold headOctets
  simp only [List.length_append, length_beBytes, List.length_cons, List.length_nil, hs]

theorem stampedOctets_seconds (hs : src.length = 10) :
    beAt (stampedOctets v0 d mi c0 c1 flags corr seq ns src ask) 34 6 = ns / 1000000000 % 2 ^ 48 % 256 ^ 6 :=
  beAt_beBytes (stampedOctets_head v0 d mi c0 c1 flags corr seq ns src ask) (length_headOctets v0 d mi c0 c1 flags corr seq src hs)

theorem stampedOctets_ns (hs : src.length = 10) :
    beAt (stampedOctets v0 d mi c0 c1 flags corr seq ns src ask) 40 4 = ns % 1000000000 % 256 ^ 4 := by
  refine beAt_beBytes (l := headOctets v0 d mi c0 c1 flags corr seq src ++ beBytes 6 (ns / 1000000000 % 2 ^ 48)) (r := ask) ?_ ?_
  · rw [stampedOctets_head, List.append_assoc]
  · rw [List.length_append, length_headOctets v0 d mi c0 c1 flags corr seq src hs, length_beBytes]

theorem stampedOctets_ask (hs : src.length = 10) : (stampedOctets v0 d mi c0 c1 flags corr seq ns src ask).drop 44 = ask := by
  have e : stampedOctets v0 d mi c0 c1 flags corr seq ns src ask =
      (headOctets v0 d mi c0 c1 flags corr seq src ++ (beBytes 6 (ns / 1000000000 % 2 ^ 48) ++ beBytes 4 (ns % 1000000000))) ++ ask := by
    rw [stampedOctets_head, List.append_assoc, List.append_assoc]
  rw [e]
  refine List.drop_left' ?_
  simp only [List.length_append, length_headOctets v0 d mi c0 c1 flags corr seq src hs, length_beBytes]

end

/-- A stamp's octets give back the time in nanoseconds (R293). -/
theorem ptpStamp_value {n : Nat} (h : n < 2 ^ 48 * 1000000000) : n / 1000000000 % 2 ^ 48 * 1000000000 + n % 1000000000 = n := by
  have h1 : n / 1000000000 < 2 ^ 48 := by omega
  rw [Nat.mod_eq_of_lt h1]
  omega

/-- The octets of a Delay_Resp, part by part. -/
def delayRespBytes (s : State) (k p t2 : Nat) (b : List Byte) (o : Nat) (mc : Bool) : List Byte :=
  let u := State.splitQ ((t2 : Int) - s.rxExt p)
  let log := if mc then wordOf 8 (s.svcLog k 2) else 0x7F
  putBe (s.svcHead k p 9 0 (!mc) (ptpCorr b o - u.2) (ptpSeq b o) 3 log ++ (ptpStamp u.1 ++ ptpSource b o)) 2 2 54

theorem delayResp_eq {s : State} {k p t2 : Nat} {b : List Byte} {o : Nat} {mc : Bool} (ha : s.svcAuth k = 0) (ht : s.flag Fld.EB_CTL_TLV_EN = false)
    (hb : (ptpSource b o).length = 10) :
    s.delayResp k p t2 b o mc =
      (s.engSend 16 p (reframe (s.answerHeader k p b mc false 320) (delayRespBytes s k p t2 b o mc)) (some s.lateAt)).peSent.bump64 Reg.PE_RX_L 1 := by
  have htlv : s.tlvFor s.lateAt p = [] := by
    unfold State.tlvFor
    split
    · rw [ht]; rfl
    · rfl
  have hseal (msg : List Byte) (spp : Nat) : s.sealMsg 0 spp msg = some (putBe msg 2 2 msg.length) := rfl
  have hlen : (s.svcHead k p 9 0 (!mc) (ptpCorr b o - (State.splitQ ((t2 : Int) - s.rxExt p)).2) (ptpSeq b o) 3 (if mc then wordOf 8 (s.svcLog k 2) else 0x7F) ++
      (ptpStamp (State.splitQ ((t2 : Int) - s.rxExt p)).1 ++ ptpSource b o)).length = 54 := by
    unfold State.svcHead ptpHead ptpStamp
    simp only [List.length_append, length_beBytes, length_ptpIdent, hb, List.length_cons, List.length_nil]
  unfold State.delayResp State.svcSend State.peSend delayRespBytes
  dsimp only
  rw [ha, htlv, hseal, List.append_nil, List.append_assoc, hlen]

/-- The octets of a Delay_Resp (R293). -/
theorem delayRespBytes_eq (s : State) (k p t2 : Nat) (b : List Byte) (o : Nat) (mc : Bool) :
    delayRespBytes s k p t2 b o mc = stampedOctets (BitVec.ofNat 8 (s.rdN (Reg.PE_SVCk_SDO k) % 16 * 16 + 9)) (BitVec.ofNat 8 (s.svcDomain k))
      (BitVec.ofNat 8 (bitsOf (s.rdN (Reg.PE_SVCk_SDO k)) 8 8)) (BitVec.ofNat 8 3) (BitVec.ofNat 8 (if mc then wordOf 8 (s.svcLog k 2) else 0x7F))
      (0 + if !mc then 1024 else 0) (wordOf 64 (ptpCorr b o - (State.splitQ ((t2 : Int) - s.rxExt p)).2)) (ptpSeq b o % 65536)
      (State.splitQ ((t2 : Int) - s.rxExt p)).1 (s.ptpIdent p) (ptpSource b o) := by
  unfold delayRespBytes State.svcHead
  dsimp only
  rw [putLength_ptpHead]
  unfold stampedOctets ptpStamp
  simp only [List.append_assoc, Nat.reducePow, Nat.reduceMod]

theorem delayResponses : Claims.DelayResponses := by
  intro s k p t2 b o mc ha ht hb x h0 hx
  refine ⟨_, _, delayResp_eq ha ht hb, ?_⟩
  rw [delayRespBytes_eq]
  have hid := length_ptpIdent s p
  have hns : ((State.splitQ x).1 : Int) = x / 65536 := Int.toNat_of_nonneg (by omega)
  have hns' : (State.splitQ x).1 < 2 ^ 48 * 1000000000 := by omega
  have hseq : ptpSeq b o < 65536 := beAt_lt b (o + 30) 2
  have hword (i : Int) : wordOf 64 i < 256 ^ 8 := by unfold wordOf; omega
  refine ⟨length_stampedOctets _ _ _ _ _ _ _ _ _ _ _ hid hb, ?_, stampedOctets_length _ _ _ _ _ _ _ _ _ _ _, ?_, ?_, ?_,
    stampedOctets_ask _ _ _ _ _ _ _ _ _ _ _ hid⟩
  · rw [stampedOctets_type, BitVec.toNat_ofNat]
    omega
  · rw [stampedOctets_seq _ _ _ _ _ _ _ _ _ _ _ hid]
    omega
  · rw [stampedOctets_corr, Nat.mod_eq_of_lt (hword _)]
    rfl
  · rw [stampedOctets_seconds _ _ _ _ _ _ _ _ _ _ _ hid, stampedOctets_ns _ _ _ _ _ _ _ _ _ _ _ hid, ← hns]
    have h6 : (State.splitQ x).1 / 1000000000 % 2 ^ 48 % 256 ^ 6 = (State.splitQ x).1 / 1000000000 % 2 ^ 48 := by omega
    have h4 : (State.splitQ x).1 % 1000000000 % 256 ^ 4 = (State.splitQ x).1 % 1000000000 := by omega
    rw [h6, h4, ptpStamp_value hns']

/-! ### What the engine's look at its table, and its class's budget, leave -/

/-- Time, the ports, the switch, the client table and the words of page 0x070 are as they were. -/
structure PeLooks (s t : State) : Prop where
  sw : t.sw = s.sw
  tc : t.tc = s.tc
  ports : t.ports = s.ports
  table : t.pe.table = s.pe.table
  words : ∀ a, pageOf a = 0x70 → t.rd a = s.rd a

theorem PeLooks.refl (s : State) : PeLooks s s := ⟨rfl, rfl, rfl, rfl, fun _ _ => rfl⟩

theorem PeLooks.then {s t u : State} (h : PeLooks s t) (k : PeLooks t u) : PeLooks s u :=
  ⟨k.sw.trans h.sw, k.tc.trans h.tc, k.ports.trans h.ports, k.table.trans h.table, fun a ha => (k.words a ha).trans (h.words a ha)⟩

theorem PeLooks.rdN {s t : State} (h : PeLooks s t) {a : Nat} (ha : pageOf a = 0x70) : t.rdN a = s.rdN a := State.rdN_of_rd (h.words a ha)

theorem Spent.peLooks {s t : State} (h : Spent s t) : PeLooks s t := by
  refine ⟨h.sw, h.tc, h.ports, by rw [h.pe], fun a ha => h.2 a ?_⟩
  have hc : counterPage a = false := by
    unfold counterPage
    rw [ha]
    decide
  simp [hc]

theorem peLooks_wrN (s : State) {a : Nat} (n : Nat) (h : pageOf a ≠ 0x70) : PeLooks s (s.wrN a n) :=
  ⟨rfl, rfl, rfl, rfl, fun _ hb => State.rd_wrN_other s n (fun e => h (e ▸ hb))⟩

theorem peLooks_tick (s : State) : PeLooks s s.tick := ⟨rfl, rfl, rfl, rfl, fun _ _ => rfl⟩

theorem peLooks_cache (s : State) (c : List (Nat × List (Nat × Bool))) : PeLooks s (s.setPe { s.pe with cache := c }) :=
  ⟨rfl, rfl, rfl, rfl, fun _ _ => rfl⟩

namespace State

/-- One access to the entry cache (R312). -/
theorem peLooks_cacheAccess (s : State) (i : Nat) (w : Bool) : PeLooks s (s.cacheAccess i w).2 := by
  have hit (t : State) : PeLooks t (t.wrapBy Reg.PE_CACHE_HIT 1) := peLooks_wrN t _ (by decide)
  have miss (t : State) : PeLooks t (t.wrapBy Reg.PE_CACHE_MISS 1) := peLooks_wrN t _ (by decide)
  unfold cacheAccess
  dsimp only
  split
  · exact (peLooks_cache s _).then (hit _)
  · split
    · exact (miss s).then (peLooks_cache _ _)
    · exact ((miss s).then (peLooks_cache _ _)).then (peLooks_tick _)

theorem peLooks_cacheAll (l : List Nat) (w : Bool) (s : State) : PeLooks s (s.cacheAll l w).2 := by
  have key : ∀ (l : List Nat) (a : Nat × State), PeLooks a.2 (l.foldl (fun a i => let r := a.2.cacheAccess i w; (a.1 + r.1, r.2)) a).2 := by
    intro l
    induction l with
    | nil => intro a; exact .refl _
    | cons i r ih => intro a; exact (peLooks_cacheAccess a.2 i w).then (ih (a.1 + (a.2.cacheAccess i w).1, (a.2.cacheAccess i w).2))
  exact key l (0, s)

theorem peLooks_noteProbe (s : State) (n : Nat) : PeLooks s (s.noteProbe n) := peLooks_wrN s _ (by decide)

/-! ### The two classes of a message (R102, R307) -/

theorem admitBoth_state {s : State} (after : State) {c : Nat} (a : Nat) (h : s.admits 4 c = false) : s.admitBoth after c a = (false, s.stall 4) := by
  unfold admitBoth
  rw [h]
  rfl

theorem admitBoth_auth {s : State} (after : State) {c a : Nat} (h : s.admits 4 c = true) (h3 : s.admits 3 a = false) :
    s.admitBoth after c a = (false, s.stall 3) := by
  unfold admitBoth
  rw [h, h3]
  rfl

/-- What a message admitted by both classes has spent. -/
def spentBoth (after : State) (c a : Nat) : State :=
  if a = 0 then (if c = 0 then after else after.admitted 4 c) else (if c = 0 then after else after.admitted 4 c).admitted 3 a

theorem admitBoth_admitted {s : State} (after : State) {c a : Nat} (h : s.admits 4 c = true) (h3 : s.admits 3 a = true) :
    s.admitBoth after c a = (true, after.spentBoth c a) := by
  unfold admitBoth
  rw [h, h3]
  rfl

theorem peLooks_spentBoth (s : State) (c a : Nat) : PeLooks s (s.spentBoth c a) := by
  have h (t : State) (i n : Nat) : PeLooks t (t.admitted i n) := (spent_admitted t i n).peLooks
  have h4 : PeLooks s (if c = 0 then s else s.admitted 4 c) := by
    split
    · exact .refl s
    · exact h s 4 c
  unfold spentBoth
  split
  · exact h4
  · exact h4.then (h _ 3 a)

theorem spentBoth_zero (s : State) : s.spentBoth 0 0 = s := rfl

end State


/-! ### DELAY_REQ (R293) -/

namespace State

/-- What the table is asked for a delay request (R291, R295): nothing for one that is served as multicast, or without the table. -/
def delayRead (s : State) (k p : Nat) (b : List Byte) (o : Nat) : Option Nat × List Nat :=
  if (isGroup b && s.flag (Fld.PE_SVCk_CFG_MC k)) || !s.flag Fld.PE_CTL_TABLE_EN then (none, []) else s.lookup (clientKey k p b o)

/-- A client's request, where the table has named its entry or none (R293, R300). -/
def delayClient (s : State) (absent : Bool) (k p t2 : Nat) (b : List Byte) (o : Nat) : Option Nat → State
  | none => s.bump Reg.PE_NO_CLIENT
  | some i =>
    let s2 := s.endIfExpired i
    let e := s2.tblEntry i
    if !entryValid e || !entryGranted e 2 then s2.bump Reg.PE_NO_CLIENT
    else if entryAuth e && absent then s2.bump Reg.PE_NOAUTH_DROP
    else s2.delayResp k p t2 b o false

/-- A request whose classes have admitted it (R293): `s` is the state that the engine looked at, `s1` what the looks have left. -/
def delayServe (s s1 : State) (k p t2 : Nat) (b : List Byte) (o : Nat) : State :=
  if (s.verifyMsg b o).1 = .bad then s1.authFail p b
  else if (s.verifyMsg b o).1 = .absent && s.svcAuth k = 2 then s1.bump Reg.PE_NOAUTH_DROP
  else if s.svcHalted k then s1
  else if isGroup b && s.flag (Fld.PE_SVCk_CFG_MC k) then (if s1.mcRate.1 then s1.mcRate.2.delayResp k p t2 b o true else s1.mcRate.2)
  else s1.delayClient ((s.verifyMsg b o).1 = .absent) k p t2 b o (s.delayRead k p b o).1

/-- A stamped request, while time may be stated (R293, R307). -/
def delayTake (s : State) (k p t2 : Nat) (stamp : Option Nat) (b : List Byte) (o : Nat) : State :=
  let read := s.delayRead k p b o
  let after := s.cacheAll read.2 false
  let a := s.admitBoth after.2 after.1 ((s.verifyMsg b o).2 + s.svcCost k (54 + s.tlvLen))
  if !a.1 then a.2.withhold (.delayReq (Fin.ofNat 16 p) stamp b)
  else s.delayServe (if read.2.isEmpty then a.2 else a.2.noteProbe read.2.length) k p t2 b o

theorem delayReq_eq {s : State} {p : Nat} {stamp : Option Nat} {b : List Byte} {o k : Nat} (ho : ptpOff b = some o) (hk : s.svcOf p b o = some k) :
    s.delayReq p stamp b =
      if s.pState k p ≠ 1 || profileP2P (s.svcProfile k) || ptpType b o ≠ 1 then s
      else match stamp with
        | none => s.bump Reg.PE_NO_STAMP
        | some t2 => if !s.timeAllowed p || !s.stampRx p then s.bump Reg.PE_NO_STAMP else s.delayTake k p t2 stamp b o := by
  unfold delayReq
  rw [ho]
  dsimp only
  rw [hk]
  rfl

/-- A message whose seal is wrong is counted and told (R296). -/
theorem authFail_spec (s : State) (p : Nat) (b : List Byte) :
    (s.authFail p b).rdN Reg.PE_AUTH_FAIL = oneMore (s.rdN Reg.PE_AUTH_FAIL) ∧ (s.authFail p b).flag Fld.PE_EVT_AUTH_FAIL = true ∧
      (s.authFail p b).sw = s.sw := by
  have h1 : ((s.bump Reg.PE_AUTH_FAIL).evt Fld.PE_EVT_AUTH_FAIL).rdN Reg.PE_AUTH_FAIL = oneMore (s.rdN Reg.PE_AUTH_FAIL) := by
    rw [rdN_of_rd (rd_evt_other _ _ (by decide) (by decide)), rdN_bump_same]
  have h2 : ((s.bump Reg.PE_AUTH_FAIL).evt Fld.PE_EVT_AUTH_FAIL).flag Fld.PE_EVT_AUTH_FAIL = true :=
    flag_evt_same _ _ rfl (by decide) (by decide) rfl
  have h3 : ((s.bump Reg.PE_AUTH_FAIL).evt Fld.PE_EVT_AUTH_FAIL).sw = s.sw := by rw [evt_sw, bump_sw]
  unfold authFail emitPkt
  generalize (s.bump Reg.PE_AUTH_FAIL).evt Fld.PE_EVT_AUTH_FAIL = u at h1 h2 h3
  split
  · exact ⟨h1, h2, h3⟩
  · exact ⟨h1, h2, h3⟩

theorem verifyMsg_absent {s : State} {b : List Byte} {o : Nat} (h : (s.verifyMsg b o).1 = .absent) : (s.verifyMsg b o).2 = 0 := by
  unfold verifyMsg at h ⊢
  split at h
  · rfl
  · have judged (c : Bool) : (if c = true then AuthSeen.good else .bad) ≠ .absent := by cases c <;> decide
    exact absurd h (judged _)

theorem svcCost_open {s : State} {k : Nat} (n : Nat) (h : s.svcAuth k = 0) : s.svcCost k n = 0 := by
  unfold svcCost sealCost
  rw [if_pos h]

theorem svcHalted_open {s : State} {k : Nat} (h : s.svcAuth k = 0) : s.svcHalted k = false := by
  unfold svcHalted
  rw [h]
  simp

/-- A bad request, and one that lacks the seal it must have (R296). -/
theorem delayServe_refused {s s1 : State} (h : PeLooks s s1) (k p t2 : Nat) (b : List Byte) (o : Nat) :
    ((s.verifyMsg b o).1 = .bad → (s.delayServe s1 k p t2 b o).rdN Reg.PE_AUTH_FAIL = oneMore (s.rdN Reg.PE_AUTH_FAIL) ∧
      (s.delayServe s1 k p t2 b o).flag Fld.PE_EVT_AUTH_FAIL = true ∧ (s.delayServe s1 k p t2 b o).sw = s.sw) ∧
    ((s.verifyMsg b o).1 = .absent → s.svcAuth k = 2 → (s.delayServe s1 k p t2 b o).rdN Reg.PE_NOAUTH_DROP = oneMore (s.rdN Reg.PE_NOAUTH_DROP) ∧
      (s.delayServe s1 k p t2 b o).sw = s.sw) := by
  refine ⟨fun hv => ?_, fun hv ha => ?_⟩
  · have e : s.delayServe s1 k p t2 b o = s1.authFail p b := by
      unfold delayServe
      rw [if_pos hv]
    obtain ⟨h1, h2, h3⟩ := authFail_spec s1 p b
    rw [e, h1, h.rdN (by decide), h3]
    exact ⟨rfl, h2, h.sw⟩
  · have e : s.delayServe s1 k p t2 b o = s1.bump Reg.PE_NOAUTH_DROP := by
      unfold delayServe
      rw [if_neg (by rw [hv]; decide), if_pos (by simp [hv, ha])]
    rw [e, rdN_bump_same, h.rdN (by decide), bump_sw]
    exact ⟨rfl, h.sw⟩

/-- An unsealed request to a service without seals goes on to be answered. -/
theorem delayServe_open {s : State} (s1 : State) {k : Nat} (p t2 : Nat) {b : List Byte} {o : Nat} (hv : (s.verifyMsg b o).1 = .absent)
    (ha : s.svcAuth k = 0) : s.delayServe s1 k p t2 b o =
      if isGroup b && s.flag (Fld.PE_SVCk_CFG_MC k) then (if s1.mcRate.1 then s1.mcRate.2.delayResp k p t2 b o true else s1.mcRate.2)
      else s1.delayClient true k p t2 b o (s.delayRead k p b o).1 := by
  unfold delayServe
  rw [if_neg (by rw [hv]; decide), if_neg (by simp [ha]), if_neg (by rw [svcHalted_open ha]; decide), hv]
  rfl

/-- A request that its classes refuse is withheld; an admitted one is served on what the looks have left (R307). -/
theorem delayTake_cases (s : State) (k : Nat) (p : Fin 16) (t2 : Nat) (stamp : Option Nat) (b : List Byte) (o : Nat) {c a : Nat}
    (hc : (s.cacheAll (s.delayRead k p b o).2 false).1 = c) (ha : (s.verifyMsg b o).2 + s.svcCost k (54 + s.tlvLen) = a) :
    (s.admits 4 c = false → s.Withheld 4 (.delayReq p stamp b) (s.delayTake k p t2 stamp b o)) ∧
    (s.admits 4 c = true → s.admits 3 a = false → s.Withheld 3 (.delayReq p stamp b) (s.delayTake k p t2 stamp b o)) ∧
    (s.admits 4 c = true → s.admits 3 a = true → ∃ s1, PeLooks s s1 ∧
      ((isGroup b && s.flag (Fld.PE_SVCk_CFG_MC k)) = true → a = 0 → s1 = s) ∧ s.delayTake k p t2 stamp b o = s.delayServe s1 k p t2 b o) := by
  have hp : Fin.ofNat 16 p.val = p := Fin.ofNat_val_eq_self p
  refine ⟨fun h4 => ?_, fun h4 h3 => ?_, fun h4 h3 => ?_⟩
  · have e : s.delayTake k p t2 stamp b o = (s.stall 4).withhold (.delayReq p stamp b) := by
      unfold delayTake
      simp only [hc, ha, admitBoth_state _ _ h4, hp]
      rfl
    rw [e]
    exact withheld_stall s _ (by decide)
  · have e : s.delayTake k p t2 stamp b o = (s.stall 3).withhold (.delayReq p stamp b) := by
      unfold delayTake
      simp only [hc, ha, admitBoth_auth _ h4 h3, hp]
      rfl
    rw [e]
    exact withheld_stall s _ (by decide)
  · refine ⟨if (s.delayRead k p b o).2.isEmpty then (s.cacheAll (s.delayRead k p b o).2 false).2.spentBoth c a
      else ((s.cacheAll (s.delayRead k p b o).2 false).2.spentBoth c a).noteProbe (s.delayRead k p b o).2.length, ?_, fun hm h0 => ?_, ?_⟩
    · have h1 := (peLooks_cacheAll (s.delayRead k p b o).2 false s).then (peLooks_spentBoth _ c a)
      split
      · exact h1
      · exact h1.then (peLooks_noteProbe _ _)
    · have hr : s.delayRead k p b o = (none, []) := by
        unfold delayRead
        rw [hm]
        rfl
      rw [hr] at hc ⊢
      rw [← hc, h0]
      rfl
    · unfold delayTake
      simp only [hc, ha, admitBoth_admitted _ h4 h3]
      rfl

/-- A multicast request is answered while the second's rate lasts (R294). -/
theorem mcRate_eq (s : State) (k p t2 : Nat) (b : List Byte) (o : Nat) :
    (if s.mcRate.1 then s.mcRate.2.delayResp k p t2 b o true else s.mcRate.2) =
      if (if s.pe.mcSec = s.viewSec then s.pe.mcCount else 0) < s.rdN Reg.PE_MC_DREQ_MAX then
        (s.setPe { s.pe with mcSec := s.viewSec, mcCount := (if s.pe.mcSec = s.viewSec then s.pe.mcCount else 0) + 1 }).delayResp k p t2 b o true
      else s.bump Reg.PE_RATE_DROP := by
  by_cases h : (if s.pe.mcSec = s.viewSec then s.pe.mcCount else 0) < s.rdN Reg.PE_MC_DREQ_MAX
  · have e : s.mcRate = (true, s.setPe { s.pe with mcSec := s.viewSec, mcCount := (if s.pe.mcSec = s.viewSec then s.pe.mcCount else 0) + 1 }) := if_pos h
    rw [if_pos h, e]
    rfl
  · have e : s.mcRate = (false, s.bump Reg.PE_RATE_DROP) := if_neg h
    rw [if_neg h, e]
    rfl

/-- A client under a running grant is answered (R293, R300). -/
theorem delayClient_granted {s s1 : State} (h : PeLooks s s1) (absent : Bool) (k p t2 : Nat) (b : List Byte) (o i : Nat)
    (hv : entryValid (s.tblEntry i) = true) (hg : entryGranted (s.tblEntry i) 2 = true)
    (hx : secOf s.tc.now % 2 ^ 32 ≤ entryExpiry (s.tblEntry i) 2) (ha : entryAuth (s.tblEntry i) = false) :
    s1.delayClient absent k p t2 b o (some i) = s1.delayResp k p t2 b o false := by
  have he : s1.tblEntry i = s.tblEntry i := by
    unfold tblEntry
    rw [h.table]
  have hend : s1.endIfExpired i = s1 := by
    unfold endIfExpired
    dsimp only
    rw [he, h.tc, if_neg (by simp; omega)]
  unfold delayClient
  dsimp only
  rw [hend, he, hv, hg, ha]
  rfl

end State

/-- What an admitted request leaves: counted and unanswered, or answered (R293 to R296). -/
theorem delayTake_served {s : State} {k : Nat} {p : Fin 16} {t2 : Nat} {stamp : Option Nat} {b : List Byte} {o : Nat}
    (h4 : s.admits 4 (s.cacheAll (s.delayRead k p b o).2 false).1 = true)
    (h3 : s.admits 3 ((s.verifyMsg b o).2 + s.svcCost k (54 + s.tlvLen)) = true) (hv : (s.verifyMsg b o).1 = .absent) (ha : s.svcAuth k = 0) :
    if isGroup b && s.flag (Fld.PE_SVCk_CFG_MC k) then
      if (if s.pe.mcSec = s.viewSec then s.pe.mcCount else 0) < s.rdN Reg.PE_MC_DREQ_MAX then
        s.delayTake k p t2 stamp b o =
          (s.setPe { s.pe with mcSec := s.viewSec, mcCount := (if s.pe.mcSec = s.viewSec then s.pe.mcCount else 0) + 1 }).delayResp k p t2 b o true
      else s.delayTake k p t2 stamp b o = s.bump Reg.PE_RATE_DROP
    else match (s.delayRead k p b o).1 with
      | none => (s.delayTake k p t2 stamp b o).rdN Reg.PE_NO_CLIENT = oneMore (s.rdN Reg.PE_NO_CLIENT) ∧ (s.delayTake k p t2 stamp b o).sw = s.sw
      | some i =>
        entryValid (s.tblEntry i) = true → entryGranted (s.tblEntry i) 2 = true → secOf s.tc.now % 2 ^ 32 ≤ entryExpiry (s.tblEntry i) 2 →
          entryAuth (s.tblEntry i) = false →
          ∃ t : State, t.sw = s.sw ∧ t.tc = s.tc ∧ t.ports = s.ports ∧ s.delayTake k p t2 stamp b o = t.delayResp k p t2 b o false := by
  have hcost : (s.verifyMsg b o).2 + s.svcCost k (54 + s.tlvLen) = 0 := by rw [State.verifyMsg_absent hv, State.svcCost_open _ ha]
  obtain ⟨_, _, served⟩ := State.delayTake_cases s k p t2 stamp b o rfl rfl
  obtain ⟨s1, hlooks, hsame, e⟩ := served h4 h3
  rw [e, State.delayServe_open s1 p t2 hv ha]
  by_cases hm : (isGroup b && s.flag (Fld.PE_SVCk_CFG_MC k)) = true
  · rw [if_pos hm, if_pos hm, hsame hm hcost, State.mcRate_eq]
    by_cases hr : (if s.pe.mcSec = s.viewSec then s.pe.mcCount else 0) < s.rdN Reg.PE_MC_DREQ_MAX
    · rw [if_pos hr, if_pos hr]
    · rw [if_neg hr, if_neg hr]
  · rw [if_neg hm, if_neg hm]
    cases hread : (s.delayRead k p b o).1 with
    | none => exact ⟨by rw [← hlooks.rdN (a := Reg.PE_NO_CLIENT) (by decide)]; exact State.rdN_bump_same s1 _, hlooks.sw⟩
    | some i =>
      intro hvalid hgrant hexp hauth
      exact ⟨s1, hlooks.sw, hlooks.tc, hlooks.ports, State.delayClient_granted hlooks true k p t2 b o i hvalid hgrant hexp hauth⟩

theorem delayRequests : Claims.DelayRequests := by
  intro p stamp b s
  refine ⟨_, engine_eq s _, ?_⟩
  have idle {x : State} (hx : x = s) : (if s.safe || s.boot.sleeping then s else x) = s := by rw [hx, ite_self]
  dsimp only
  cases ho : ptpOff b with
  | none => exact idle (by unfold State.delayReq; rw [ho])
  | some o =>
    dsimp only
    cases hk : s.svcOf p.val b o with
    | none => exact idle (by unfold State.delayReq; rw [ho]; dsimp only; rw [hk])
    | some k =>
      dsimp only
      rw [State.delayReq_eq ho hk]
      by_cases hg : s.halted = true ∨ s.pState k p.val ≠ 1 ∨ profileP2P (s.svcProfile k) = true ∨ ptpType b o ≠ 1
      · rw [if_pos hg]
        rcases hg with hh | hg
        · exact if_pos hh
        · exact idle (if_pos (by simpa [or_assoc] using hg))
      rw [if_neg hg]
      rw [not_or] at hg
      have hrun : ¬(s.safe || s.boot.sleeping) = true := hg.1
      rw [if_neg hrun, if_neg (show ¬(s.pState k p.val ≠ 1 || profileP2P (s.svcProfile k) || ptpType b o ≠ 1) = true by simpa [or_assoc] using hg.2)]
      cases stamp with
      | none => rfl
      | some t2 =>
        dsimp only
        by_cases ht : s.timeAllowed p.val = false ∨ s.stampRx p.val = false
        · rw [if_pos ht, if_pos (show (!s.timeAllowed p.val || !s.stampRx p.val) = true by simpa using ht)]
        rw [if_neg ht, if_neg (show ¬(!s.timeAllowed p.val || !s.stampRx p.val) = true by simpa using ht)]
        obtain ⟨c4, c3, served⟩ := State.delayTake_cases s k p t2 (some t2) b o rfl rfl
        show if s.admits 4 (s.cacheAll (s.delayRead k p b o).2 false).1 = false then _ else _
        by_cases h4 : s.admits 4 (s.cacheAll (s.delayRead k p b o).2 false).1 = false
        · rw [if_pos h4]
          exact c4 h4
        rw [if_neg h4]
        rw [Bool.not_eq_false] at h4
        by_cases h3 : s.admits 3 ((s.verifyMsg b o).2 + s.svcCost k (54 + s.tlvLen)) = false
        · rw [if_pos h3]
          exact c3 h4 h3
        rw [if_neg h3]
        rw [Bool.not_eq_false] at h3
        obtain ⟨s1, hlooks, _, e⟩ := served h4 h3
        obtain ⟨hbad, hdrop⟩ := State.delayServe_refused hlooks k p.val t2 b o
        refine ⟨fun hv => e ▸ hbad hv, fun hv ha => e ▸ hdrop hv ha, fun hv ha => ?_⟩
        exact delayTake_served h4 h3 hv ha

/-! ### PDELAY_REQ (R294) -/

namespace State

/-- A message that has been sent is counted. -/
theorem peSent_keeps (s : State) : s.peSent.pe = s.pe ∧ s.peSent.tc = s.tc ∧ s.peSent.rd64 Reg.PE_RX_L = s.rd64 Reg.PE_RX_L := by
  have hc := counted_pcEvent (s.bump64 Reg.PE_TX_L 1) 0x0E01 0 1
  refine ⟨hc.spent.pe, hc.spent.tc, ?_⟩
  have hw (a : Nat) (h1 : counterPage a = false) (h2 : a ≠ Reg.PE_TX_L) (h3 : a ≠ Reg.PE_TX_L + 4) : s.peSent.rdN a = s.rdN a :=
    rdN_of_rd ((hc.2 a (by simp [h1])).trans (rd_wr64_other s _ h2 h3))
  unfold rd64
  rw [hw _ (by decide) (by decide) (by decide), hw _ (by decide) (by decide) (by decide)]

/-- A message that goes out leaves time, the engine's state and its count of requests. -/
theorem svcSend_keeps (s : State) (k : Nat) {p : Nat} (hp : p < 16) (hdr msg : List Byte) (late : Option Nat) :
    (s.svcSend k p hdr msg late).pe = s.pe ∧ (s.svcSend k p hdr msg late).tc = s.tc ∧
      (s.svcSend k p hdr msg late).rd64 Reg.PE_RX_L = s.rd64 Reg.PE_RX_L := by
  unfold svcSend peSend
  split
  · rename_i m _
    have h := queued_engSend s 16 hp (reframe hdr m) late
    obtain ⟨k1, k2, k3⟩ := peSent_keeps (s.engSend 16 p (reframe hdr m) late)
    refine ⟨k1.trans h.pe, k2.trans h.tc, k3.trans ?_⟩
    unfold rd64
    rw [rdN_of_rd (h.words (a := Reg.PE_RX_L) (by decide) (by decide)), rdN_of_rd (h.words (a := Reg.PE_RX_L + 4) (by decide) (by decide))]
  · exact ⟨rfl, rfl, rfl⟩

/-- The Pdelay_Resp that leaves at once, and the Follow_Up that waits for its egress stamp (R294). -/
def pdelayTwoStep (s s1 : State) (k p t2 : Nat) (b : List Byte) (o : Nat) : State :=
  let u := splitQ ((t2 : Int) - s.rxExt p)
  let msg := s.svcHead k p 3 512 (!isGroup b) u.2 (ptpSeq b o) 5 0x7F ++ ptpStamp u.1 ++ ptpSource b o
  let s2 := s1.svcSend k p (s.answerHeader k p b (isGroup b) true 319) (msg ++ s.tlvFor s.lateAt p) (some s.lateAt)
  let fu := s.answerHeader k p b (isGroup b) true 320 ++ s.svcHead k p 10 0 (!isGroup b) 0 (ptpSeq b o) 5 0x7F ++ ptpSource b o
  s2.setPe { s2.pe with twoStep := s2.pe.twoStep.modify p (· ++ [⟨s2.nextTwoStep p, k, true, fu⟩]) }

/-- The Pdelay_Resp that asks for its reservation (R294). -/
def pdelayJob (s : State) (k p t2 : Nat) (b : List Byte) (o : Nat) : LaunchJob :=
  let hdr := s.answerHeader k p b (isGroup b) true 319
  let base := s.svcHead k p 3 0 (!isGroup b) 0 (ptpSeq b o) 5 0x7F ++ List.replicate 10 0 ++ ptpSource b o
  let len := max 64 (hdr.length + 54 + s.tlvLen + (if s.svcAuth k = 0 then 0 else 26) + 4)
  ⟨16, 1, p, len, hdr ++ base, [k, hdr.length, t2, wordOf 64 (ptpCorr b o)], 4000⟩

/-- A peer-delay request whose classes have admitted it. -/
def pdelayServe (s s1 : State) (k p t2 : Nat) (b : List Byte) (o : Nat) : State :=
  if (s.verifyMsg b o).1 = .bad then s1.authFail p b
  else if (s.verifyMsg b o).1 = .absent && s.svcAuth k = 2 then s1.bump Reg.PE_NOAUTH_DROP
  else if s.svcHalted k then s1
  else if s.flag (Fld.PE_SVCk_CFG_TWO_STEP k) then s.pdelayTwoStep (s1.bump64 Reg.PE_RX_L 1) k p t2 b o
  else (s1.bump64 Reg.PE_RX_L 1).setSw { (s1.bump64 Reg.PE_RX_L 1).sw with jobs := (s1.bump64 Reg.PE_RX_L 1).sw.jobs ++ [s.pdelayJob k p t2 b o] }

/-- A stamped peer-delay request, while time may be stated. -/
def pdelayTake (s : State) (k p t2 : Nat) (stamp : Option Nat) (b : List Byte) (o : Nat) : State :=
  let a := s.admitBoth s 0 ((s.verifyMsg b o).2 + s.svcCost k (54 + s.tlvLen))
  if !a.1 then a.2.withhold (.pdelayReq (Fin.ofNat 16 p) stamp b) else s.pdelayServe a.2 k p t2 b o

theorem pdelayReq_eq {s : State} {p : Nat} {stamp : Option Nat} {b : List Byte} {o k : Nat} (ho : ptpOff b = some o) (hk : s.svcOf p b o = some k) :
    s.pdelayReq p stamp b =
      if s.pState k p ≠ 1 || !profileP2P (s.svcProfile k) || ptpType b o ≠ 2 then s
      else match stamp with
        | none => s.bump Reg.PE_NO_STAMP
        | some t2 => if !s.timeAllowed p || !s.stampRx p then s.bump Reg.PE_NO_STAMP else s.pdelayTake k p t2 stamp b o := by
  unfold pdelayReq
  rw [ho]
  dsimp only
  rw [hk]
  rfl

theorem pdelayServe_refused {s s1 : State} (h : PeLooks s s1) (k p t2 : Nat) (b : List Byte) (o : Nat) :
    ((s.verifyMsg b o).1 = .bad → (s.pdelayServe s1 k p t2 b o).rdN Reg.PE_AUTH_FAIL = oneMore (s.rdN Reg.PE_AUTH_FAIL) ∧
      (s.pdelayServe s1 k p t2 b o).flag Fld.PE_EVT_AUTH_FAIL = true ∧ (s.pdelayServe s1 k p t2 b o).sw = s.sw) ∧
    ((s.verifyMsg b o).1 = .absent → s.svcAuth k = 2 → (s.pdelayServe s1 k p t2 b o).rdN Reg.PE_NOAUTH_DROP = oneMore (s.rdN Reg.PE_NOAUTH_DROP) ∧
      (s.pdelayServe s1 k p t2 b o).sw = s.sw) := by
  refine ⟨fun hv => ?_, fun hv ha => ?_⟩
  · have e : s.pdelayServe s1 k p t2 b o = s1.authFail p b := by
      unfold pdelayServe
      rw [if_pos hv]
    obtain ⟨h1, h2, h3⟩ := authFail_spec s1 p b
    rw [e, h1, h.rdN (by decide), h3]
    exact ⟨rfl, h2, h.sw⟩
  · have e : s.pdelayServe s1 k p t2 b o = s1.bump Reg.PE_NOAUTH_DROP := by
      unfold pdelayServe
      rw [if_neg (by rw [hv]; decide), if_pos (by simp [hv, ha])]
    rw [e, rdN_bump_same, h.rdN (by decide), bump_sw]
    exact ⟨rfl, h.sw⟩

/-- An answered peer-delay request is counted, and waits for its stamp or its reservation (R294). -/
theorem pdelayServe_open {s : State} {k : Nat} {p : Nat} (hp : p < 16) (t2 : Nat) {b : List Byte} {o : Nat} (hv : (s.verifyMsg b o).1 = .absent)
    (ha : s.svcAuth k = 0) :
    (s.pdelayServe s k p t2 b o).rd64 Reg.PE_RX_L = (s.rd64 Reg.PE_RX_L + 1) % 2 ^ 64 ∧
      if s.flag (Fld.PE_SVCk_CFG_TWO_STEP k) then
        ∃ x : TwoStep, x.svc = k ∧ x.pdelay = true ∧ (s.pdelayServe s k p t2 b o).pe = { s.pe with twoStep := s.pe.twoStep.modify p (· ++ [x]) }
      else ∃ j : LaunchJob, j.eng = 16 ∧ j.kind = 1 ∧ j.port = p ∧ j.lead = 4000 ∧
        (s.pdelayServe s k p t2 b o).sw = { s.sw with jobs := s.sw.jobs ++ [j] } := by
  have hrx : (s.bump64 Reg.PE_RX_L 1).rd64 Reg.PE_RX_L = (s.rd64 Reg.PE_RX_L + 1) % 2 ^ 64 := rd64_wr64_same s _ _
  have e : s.pdelayServe s k p t2 b o =
      if s.flag (Fld.PE_SVCk_CFG_TWO_STEP k) then s.pdelayTwoStep (s.bump64 Reg.PE_RX_L 1) k p t2 b o
      else (s.bump64 Reg.PE_RX_L 1).setSw { (s.bump64 Reg.PE_RX_L 1).sw with jobs := (s.bump64 Reg.PE_RX_L 1).sw.jobs ++ [s.pdelayJob k p t2 b o] } := by
    unfold pdelayServe
    rw [if_neg (by rw [hv]; decide), if_neg (by simp [ha]), if_neg (by rw [svcHalted_open ha]; decide)]
  have hpe : (s.bump64 Reg.PE_RX_L 1).pe = s.pe := rfl
  have hsw : (s.bump64 Reg.PE_RX_L 1).sw = s.sw := rfl
  rw [e]
  generalize s.bump64 Reg.PE_RX_L 1 = s1 at hrx hpe hsw
  by_cases ht : s.flag (Fld.PE_SVCk_CFG_TWO_STEP k) = true
  · rw [if_pos ht, if_pos ht]
    unfold pdelayTwoStep
    dsimp only
    generalize hs2 : s1.svcSend k p _ _ _ = s2
    have hk := svcSend_keeps s1 k hp (s.answerHeader k p b (isGroup b) true 319)
      (s.svcHead k p 3 512 (!isGroup b) (splitQ ((t2 : Int) - s.rxExt p)).2 (ptpSeq b o) 5 0x7F ++ ptpStamp (splitQ ((t2 : Int) - s.rxExt p)).1 ++
        ptpSource b o ++ s.tlvFor s.lateAt p) (some s.lateAt)
    rw [hs2] at hk
    obtain ⟨h1, _, h2⟩ := hk
    exact ⟨h2.trans hrx, _, rfl, rfl, by rw [setPe_pe, h1, hpe]⟩
  · rw [if_neg ht, if_neg ht]
    exact ⟨hrx, s.pdelayJob k p t2 b o, rfl, rfl, rfl, rfl, by rw [setSw_sw, hsw]⟩

end State

theorem peerDelayRequests : Claims.PeerDelayRequests := by
  intro p stamp b s
  refine ⟨_, engine_eq s _, ?_⟩
  have idle {x : State} (hx : x = s) : (if s.safe || s.boot.sleeping then s else x) = s := by rw [hx, ite_self]
  dsimp only
  cases ho : ptpOff b with
  | none => exact idle (by unfold State.pdelayReq; rw [ho])
  | some o =>
    dsimp only
    cases hk : s.svcOf p.val b o with
    | none => exact idle (by unfold State.pdelayReq; rw [ho]; dsimp only; rw [hk])
    | some k =>
      dsimp only
      rw [State.pdelayReq_eq ho hk]
      by_cases hg : s.halted = true ∨ s.pState k p.val ≠ 1 ∨ profileP2P (s.svcProfile k) = false ∨ ptpType b o ≠ 2
      · rw [if_pos hg]
        rcases hg with hh | hg
        · exact if_pos hh
        · exact idle (if_pos (by simpa [or_assoc] using hg))
      rw [if_neg hg]
      rw [not_or] at hg
      have hrun : ¬(s.safe || s.boot.sleeping) = true := hg.1
      rw [if_neg hrun, if_neg (show ¬(s.pState k p.val ≠ 1 || !profileP2P (s.svcProfile k) || ptpType b o ≠ 2) = true by simpa [or_assoc] using hg.2)]
      cases stamp with
      | none => rfl
      | some t2 =>
        dsimp only
        by_cases ht : s.timeAllowed p.val = false ∨ s.stampRx p.val = false
        · rw [if_pos ht, if_pos (show (!s.timeAllowed p.val || !s.stampRx p.val) = true by simpa using ht)]
        rw [if_neg ht, if_neg (show ¬(!s.timeAllowed p.val || !s.stampRx p.val) = true by simpa using ht)]
        have hp : Fin.ofNat 16 p.val = p := Fin.ofNat_val_eq_self p
        by_cases h4 : s.admits 4 0 = false
        · rw [if_pos h4]
          have e : s.pdelayTake k p t2 (some t2) b o = (s.stall 4).withhold (.pdelayReq p (some t2) b) := by
            unfold State.pdelayTake
            simp only [State.admitBoth_state _ _ h4, hp]
            rfl
          rw [e]
          exact withheld_stall s _ (by decide)
        rw [if_neg h4]
        rw [Bool.not_eq_false] at h4
        by_cases h3 : s.admits 3 ((s.verifyMsg b o).2 + s.svcCost k (54 + s.tlvLen)) = false
        · rw [if_pos h3]
          have e : s.pdelayTake k p t2 (some t2) b o = (s.stall 3).withhold (.pdelayReq p (some t2) b) := by
            unfold State.pdelayTake
            simp only [State.admitBoth_auth _ h4 h3, hp]
            rfl
          rw [e]
          exact withheld_stall s _ (by decide)
        rw [if_neg h3]
        rw [Bool.not_eq_false] at h3
        have e : s.pdelayTake k p t2 (some t2) b o =
            s.pdelayServe (s.spentBoth 0 ((s.verifyMsg b o).2 + s.svcCost k (54 + s.tlvLen))) k p t2 b o := by
          unfold State.pdelayTake
          simp only [State.admitBoth_admitted _ h4 h3]
          rfl
        rw [e]
        obtain ⟨hbad, hdrop⟩ := State.pdelayServe_refused (State.peLooks_spentBoth s 0 ((s.verifyMsg b o).2 + s.svcCost k (54 + s.tlvLen))) k p.val t2 b o
        refine ⟨hbad, hdrop, fun hv ha => ?_⟩
        rw [State.verifyMsg_absent hv, State.svcCost_open _ ha, State.spentBoth_zero]
        exact State.pdelayServe_open p.isLt t2 hv ha

/-- Settles O35: requests, responses and peer-delay requests, each through the classes that it is admitted by. -/
theorem ptpDelays : Obligations.PtpDelays := ⟨delayRequests, delayResponses, peerDelayRequests⟩

end Sys2Proof.Machine
end

section
/-! PROOF. O15 fails: a commit keeps the base values of the bits that overlays own (R60, R61), so the shadow is not a copy of every word. -/

namespace Sys2Proof.Machine

namespace State

/-! ### The levels that follow a command leave the configuration -/

theorem foldl_cfg {α : Type} (l : List α) (f : State → α → State) (h : ∀ (t : State) (x : α), (f t x).cfg = t.cfg) (s : State) :
    (l.foldl f s).cfg = s.cfg := by
  induction l generalizing s with
  | nil => rfl
  | cons x l ih => rw [List.foldl_cons, ih, h]

theorem ite_cfg {c : Prop} [Decidable c] {s t u : State} (ht : t.cfg = s.cfg) (hu : u.cfg = s.cfg) : (if c then t else u).cfg = s.cfg := by
  split
  · exact ht
  · exact hu

theorem emitT_cfg (s : State) (a b : Nat) (n : String) : (s.emitT a b n).cfg = s.cfg := (touches_emitT (fun _ => True) s a b n).cfg

/-! A port. -/

theorem missRes_cfg (s : State) (p : Nat) (r : Reservation) (c : MissCause) : (s.missRes p r c).cfg = s.cfg := by
  unfold missRes launchRecord refreshRes
  simp only [emitT_cfg, apply_ite cfg, bump_cfg, evt_cfg, wrN_cfg, modPort_cfg, ite_self]

theorem missAll_cfg (s : State) (p : Nat) (c : MissCause) : (s.missAll p c).cfg = s.cfg :=
  foldl_cfg _ _ (fun t r => missRes_cfg t p r c) s

theorem refreshGate_cfg (s : State) (p : Nat) : (s.refreshGate p).cfg = s.cfg := by
  unfold refreshGate
  simp only [apply_ite cfg, modPort_cfg, missAll_cfg, setB_cfg, ite_self]

theorem refreshStamps_cfg (s : State) (p : Nat) : (s.refreshStamps p).cfg = s.cfg := by
  unfold refreshStamps
  simp only [apply_ite cfg, missAll_cfg, evt_cfg, setB_cfg, ite_self]

theorem refreshPause_cfg (s : State) (p : Nat) : (s.refreshPause p).cfg = s.cfg := by
  unfold refreshPause
  rw [set_cfg, setB_cfg]

/-! An output. -/

theorem takeCfg_cfg (s : State) (n : Nat) : (s.takeCfg n).cfg = s.cfg := by
  unfold takeCfg
  simp only [apply_ite cfg, modOut_cfg, evt_cfg, setB_cfg, ite_self]

theorem putLag_cfg (s : State) (n : Nat) (v : Int) : (s.putLag n v).cfg = s.cfg := by
  unfold putLag
  simp only [apply_ite cfg, evt_cfg, setB_cfg, ite_self]

theorem seeCfg_cfg (s : State) (n : Nat) : (s.seeCfg n).cfg = s.cfg := by
  unfold seeCfg
  simp only [apply_ite cfg, takeCfg_cfg, modOut_cfg, setB_cfg, ite_self]

theorem seeComp_cfg (s : State) (n : Nat) : (s.seeComp n).cfg = s.cfg := by
  unfold seeComp
  simp only [apply_ite cfg, putLag_cfg, modOut_cfg, ite_self]

theorem takeSoft_cfg (s : State) (n : Nat) : (s.takeSoft n).cfg = s.cfg := by
  unfold takeSoft
  simp only [apply_ite cfg, modOut_cfg, evt_cfg, ite_self]

theorem squelchNow_cfg (s : State) (n : Nat) : (s.squelchNow n).cfg = s.cfg := by
  unfold squelchNow
  simp only [setSh_cfg, evt_cfg, setB_cfg, modOut_cfg, apply_ite cfg, ite_self]

theorem releaseOut_cfg (s : State) (n : Nat) : (s.releaseOut n).cfg = s.cfg := by
  unfold releaseOut
  simp only [evt_cfg, setB_cfg, modOut_cfg]

theorem refreshOut_cfg (s : State) (n : Nat) : (s.refreshOut n).cfg = s.cfg := by
  unfold refreshOut
  simp only [apply_ite cfg, releaseOut_cfg, squelchNow_cfg, modOut_cfg, setB_cfg, wrN_cfg, takeSoft_cfg, seeComp_cfg, seeCfg_cfg, ite_self]

/-! The engines, the links and the switch. -/

theorem refreshPe_cfg (s : State) : s.refreshPe.cfg = s.cfg := by
  unfold refreshPe
  simp only [apply_ite cfg, evt_cfg, setB_cfg, ite_self]

theorem refreshNe_cfg (s : State) : s.refreshNe.cfg = s.cfg := by
  unfold refreshNe
  simp only [apply_ite cfg, evt_cfg, setB_cfg, ite_self]

theorem setBucket_cfg (s : State) (g b m : Nat) : (s.setBucket g b m).cfg = s.cfg := by
  unfold setBucket
  rw [wrN_cfg]

theorem deal_cfg (s : State) (g : Nat) (bs ms : List Nat) : (s.deal g bs ms).cfg = s.cfg := by
  unfold deal
  split
  · rfl
  · refine foldl_cfg _ _ (fun t x => ?_) s
    rw [setBucket_cfg]

theorem lagSync_cfg (s : State) : s.lagSync.cfg = s.cfg := by
  unfold lagSync dealAll
  refine foldl_cfg _ _ (fun t g => ?_) s
  simp only [apply_ite cfg, deal_cfg, setSw_cfg, ite_self]

theorem dropRoutes_cfg (s : State) (k : Nat) : (s.dropRoutes k).cfg = s.cfg := by
  unfold dropRoutes
  exact foldl_cfg _ _ (fun t e => ite_cfg (setB_cfg _ _ _) rfl) s

theorem ulinkDown_cfg (s : State) (k : Nat) (b : Bool) : (s.ulinkDown k b).cfg = s.cfg := by
  unfold ulinkDown
  refine ite_cfg rfl ((emit_cfg _ _ _ _).trans ((ite_cfg (setB_cfg _ _ _) rfl).trans ?_))
  rw [modLink_cfg, dropRoutes_cfg, setB_cfg]
  refine (ite_cfg (setB_cfg _ _ _) rfl).trans ?_
  rw [evt_cfg, setB_cfg]

theorem refreshLinks_cfg (s : State) : s.refreshLinks.cfg = s.cfg :=
  foldl_cfg _ _ (fun t k => ite_cfg (ulinkDown_cfg t k true) rfl) s

theorem leaseTo_cfg (s : State) (st : Nat) : (s.leaseTo st).cfg = s.cfg := by
  unfold leaseTo
  simp only [apply_ite cfg, setLs_cfg, emit_cfg, set_cfg, ite_self]

theorem leaseFence_cfg (s : State) : s.leaseFence.cfg = s.cfg := by
  unfold leaseFence refreshHb
  simp only [apply_ite cfg, setB_cfg, setLs_cfg, evt_cfg, leaseTo_cfg, ite_self]

theorem refreshLs_cfg (s : State) : s.refreshLs.cfg = s.cfg := by
  unfold refreshLs refreshFeeds refreshHb
  simp only [apply_ite cfg, setB_cfg, leaseFence_cfg, ite_self]

/-! A Pip in the safe state. -/

theorem dropStart_cfg (s : State) (u : Nat) : (s.dropStart u).cfg = s.cfg := by
  unfold dropStart
  split
  · rfl
  · rw [bump_cfg, setSh_cfg]

theorem addStart_cfg (s : State) (u : Nat) (a : UnitStart) : (s.addStart u a).cfg = s.cfg := by
  unfold addStart
  simp only [apply_ite cfg, setSh_cfg, dropStart_cfg, ite_self]

theorem startLive_cfg (s : State) (n was nom t : Nat) : (s.startLive n was nom t).cfg = s.cfg := ite_cfg rfl (addStart_cfg s 0 _)

theorem pipEdge_cfg (s : State) (n : Nat) (l : Bool) : (s.pipEdge n l).cfg = s.cfg := by
  unfold pipEdge wrapBy
  simp only [apply_ite cfg, squelchNow_cfg, startLive_cfg, wrN_cfg, takeSoft_cfg, modOut_cfg, ite_self]

theorem releaseLines_cfg (s : State) (k : Nat) : (s.releaseLines k).cfg = s.cfg := by
  unfold releaseLines pipLevel
  simp only [apply_ite cfg, pipEdge_cfg, modPip_cfg, ite_self]

theorem setTrigger_cfg (s : State) (n : Nat) (a : Option ArmedTrigger) : (s.setTrigger n a).cfg = s.cfg := by
  unfold setTrigger
  rw [setB_cfg]

theorem disarmAll_cfg (s : State) (k : Nat) : (s.disarmAll k).cfg = s.cfg := by
  unfold disarmAll
  exact foldl_cfg _ _ (fun t n => ite_cfg (setTrigger_cfg t n none) rfl) s

theorem setInd_cfg (s : State) (x : IndUnit) : State.cfg { s with ind := x } = s.cfg := rfl

theorem indFree_cfg (s : State) (k : Nat) : (s.indFree k).cfg = s.cfg := by
  unfold indFree
  exact ite_cfg ((setInd_cfg _ _).trans (by rw [set_cfg, set_cfg])) rfl

theorem setWait_cfg (s : State) (k : Nat) (w : PipWait) : (s.setWait k w).cfg = s.cfg := by
  unfold setWait
  rw [setB_cfg, setB_cfg, modPip_cfg]

theorem pipClear_cfg (s : State) (k : Nat) : (s.pipClear k).cfg = s.cfg := by
  unfold pipClear
  rw [modPip_cfg, indFree_cfg, releaseLines_cfg, disarmAll_cfg, setB_cfg, setWait_cfg]

/-- Where every port is fenced already, the safe state stops the Pips alone. -/
theorem applySafe_cfg {s : State} (hp : ∀ p < 16, s.fenced p = true) : s.applySafe.cfg = s.cfg := by
  have none : (List.range 16).filter (fun p => !s.fenced p) = [] :=
    List.filter_eq_nil_iff.mpr fun p h => by rw [hp p (List.mem_range.mp h)]; exact Bool.false_ne_true
  unfold applySafe
  rw [none]
  exact foldl_cfg _ _ (fun t k => by rw [setB_cfg, pipClear_cfg]) s

theorem refreshPorts_cfg (s : State) :
    ((List.range 16).foldl (fun t p => ((t.refreshGate p).refreshStamps p).refreshPause p) s).cfg = s.cfg :=
  foldl_cfg _ _ (fun t p => by rw [refreshPause_cfg, refreshStamps_cfg, refreshGate_cfg]) s

theorem refreshOuts_cfg (s : State) : s.refreshOuts.cfg = s.cfg := foldl_cfg _ _ refreshOut_cfg s

/-- What `settle` does where it is no chip reset, after the safe state. -/
def levels (s : State) : State :=
  (((List.range 16).foldl (fun t p => ((t.refreshGate p).refreshStamps p).refreshPause p) s.refreshLs.refreshLinks).refreshOuts.refreshPe).refreshNe.lagSync

theorem levels_cfg (s : State) : s.levels.cfg = s.cfg := by
  unfold levels
  rw [lagSync_cfg, refreshNe_cfg, refreshPe_cfg, refreshOuts_cfg, refreshPorts_cfg, refreshLinks_cfg, refreshLs_cfg]

theorem settle_eq_levels {s : State} (h : (s.fc.chipResetDue && !s.safe) = false) : s.settle = (if s.safe then s.applySafe else s).levels :=
  if_neg (h ▸ Bool.false_ne_true)

/-- A command's levels leave the configuration, unless they are a chip reset. -/
theorem settle_cfg {s : State} (hp : ∀ p < 16, s.fenced p = true) (hr : (s.fc.chipResetDue && !s.safe) = false) : s.settle.cfg = s.cfg := by
  rw [settle_eq_levels hr, levels_cfg]
  exact ite_cfg (applySafe_cfg hp) rfl

theorem chipReset_cfg (s : State) (porst : Bool) : (s.chipReset porst).cfg = State.reset.cfg := by
  unfold chipReset refreshFc
  rw [wrN_cfg, setB_cfg, setB_cfg, setB_cfg]

end State

/-! ### The counterexample -/

/-- The host's window is open, every port is fenced, and an overlay that owns bit 0 of TC_SLOPE is in force and has set it. -/
def overlaid : State :=
  let s1 := (((State.reset.set Fld.SYS_BOOT_STAGE 5).setB Fld.SYS_BOOT_READY true).setB Fld.SYS_SECURE_EN_EN true).setB Fld.CFG_STAT_WIN_OPEN true
  let s2 := (List.range 16).foldl (fun t p => t.setB (Fld.PTp_STAT_FENCED p) true) (s1.wrN Reg.TC_SLOPE 1)
  { s2 with cfg := { s2.cfg with overlays := [[⟨Reg.TC_SLOPE, 1, 1⟩]] } }

/-- The host's COMMIT. -/
def overlaidCommit : State := overlaid.writeAt .host .bar0 Reg.CFG_CTL 2

theorem overlaid_admits : overlaid.Admits .host .bar0 Reg.CFG_CTL := by
  refine ⟨by decide +kernel, fun r hr => ?_⟩
  have h : ∀ r ∈ findRow Reg.CFG_CTL, (secureOnly Reg.CFG_CTL r = true → isSecurePath .host .bar0 = true) ∧
      overlaid.fcLocked Reg.CFG_CTL r = false := by decide +kernel
  obtain ⟨hs, hl⟩ := h r hr
  exact ⟨hs, fun _ hne => absurd rfl hne, hl⟩

theorem overlaid_keepsReserved : overlaid.KeepsReserved Reg.CFG_CTL 2 := by
  have h : ∀ r ∈ findRow Reg.CFG_CTL, (overlaid.rdN Reg.CFG_CTL ^^^ 2) &&& r.rsv = 0 := by decide +kernel
  exact h

theorem overlaid_ownsWindow : overlaid.ownsWindow .host = true := by decide +kernel

theorem overlaid_fenced : ∀ p < 16, overlaid.fenced p = true := by decide +kernel

theorem overlaidCommit_fenced : ∀ p < 16, overlaidCommit.fenced p = true := by decide +kernel

theorem overlaidCommit_stays : (overlaidCommit.fc.chipResetDue && !overlaidCommit.safe) = false := by decide +kernel

theorem overlaidCommit_overlays : State.reset.cfg.overlays ≠ overlaidCommit.cfg.overlays := by decide +kernel

/-- The overlay's bit is in force after the commit, and the shadow keeps its base value. -/
theorem overlaidCommit_shadow : overlaidCommit.cfg.shadow.word Reg.TC_SLOPE ≠ overlaid.rd Reg.TC_SLOPE := by decide +kernel

theorem exec_cfgCommit (req : Requester) (ap : Aperture) (s : State) :
    exec (.cfgCommit req ap) s = .next (s.writeAt req ap Reg.CFG_CTL 2).settle := rfl

/-- An access that may change the configuration unit leaves every port's fence. -/
theorem fenced_of_accesses {s u : State} {c : CfgUnit} (h : Accesses (· = Reg.CFG_STAT) { s with cfg := c } u) {p : Nat} (hp : p < 16) :
    u.fenced p = s.fenced p := by
  have plain : ∀ p < 16, Reg.PTp_STAT p ≠ Reg.CFG_STAT ∧ carried (Reg.PTp_STAT p) = false := by decide
  obtain ⟨h1, h2⟩ := plain p hp
  obtain ⟨_, words⟩ := h
  exact State.flag_of_rd (words (Reg.PTp_STAT p) h1 h2)

/-- A state that settles as the commit's does, with the ports fenced, has the commit's configuration: a chip reset would have ended the overlay. -/
theorem cfg_of_settle {u : State} (hp : ∀ p < 16, u.fenced p = true) (h : overlaidCommit.settle = u.settle) : u.cfg = overlaidCommit.cfg := by
  have commit : u.settle.cfg = overlaidCommit.cfg := by rw [← h, State.settle_cfg overlaidCommit_fenced overlaidCommit_stays]
  cases due : u.fc.chipResetDue && !u.safe with
  | false => rw [← State.settle_cfg hp due, commit]
  | true =>
    have ended : u.settle = u.chipReset false := if_pos due
    rw [ended, State.chipReset_cfg] at commit
    exact absurd (by rw [commit]) overlaidCommit_overlays

/-- Refutes O15: the bit of TC_SLOPE that an overlay owns is 1 in force and stays 0 in the shadow through the owner's COMMIT. -/
theorem not_configurationControl : ¬ Obligations.ConfigurationControl := by
  intro h
  obtain ⟨windows, _⟩ := h
  obtain ⟨_, commit, _, _⟩ := windows .host .bar0 overlaid overlaid_admits
  obtain ⟨u, hu, _, hshadow, access⟩ := commit overlaid_keepsReserved overlaid_ownsWindow
  have fenced (p : Nat) (hp : p < 16) : u.fenced p = true := (fenced_of_accesses access hp).trans (overlaid_fenced p hp)
  have settles : overlaidCommit.settle = u.settle := Host.Outcome.next.inj ((exec_cfgCommit .host .bar0 overlaid).symm.trans hu)
  have slope : isCfg Reg.TC_SLOPE = true := by decide +kernel
  have copied := hshadow Reg.TC_SLOPE slope
  rw [cfg_of_settle fenced settles] at copied
  exact overlaidCommit_shadow copied

end Sys2Proof.Machine
end

section
/-! PROOF. O38: NTP_REQUEST's checks, the plain answer, and the rate policy (R321 to R339). -/

namespace Sys2Proof.Machine

/-! ### The words of page 0x078 -/

/-- The words of the NTP engine's page 0x078 are as they were. -/
def KeepsNe (s t : State) : Prop := ∀ a, pageOf a = 0x78 → t.rd a = s.rd a

theorem KeepsNe.refl (s : State) : KeepsNe s s := fun _ _ => rfl

theorem KeepsNe.then {s t u : State} (h : KeepsNe s t) (k : KeepsNe t u) : KeepsNe s u := fun a ha => (k a ha).trans (h a ha)

theorem KeepsNe.rdN {s t : State} (h : KeepsNe s t) {a : Nat} (ha : pageOf a = 0x78) : t.rdN a = s.rdN a := State.rdN_of_rd (h a ha)

theorem KeepsNe.counter {s t : State} (h : KeepsNe s t) {a : Nat} (ha : pageOf a = 0x78) : (t.bump a).rdN a = oneMore (s.rdN a) := by
  rw [State.rdN_bump_same, h.rdN ha]

theorem KeepsNe.received {s t : State} (h : KeepsNe s t) : t.rd64 Reg.NE_RX_L = s.rd64 Reg.NE_RX_L := by
  unfold State.rd64
  rw [h.rdN (a := Reg.NE_RX_L) (by decide), h.rdN (a := Reg.NE_RX_L + 4) (by decide)]

theorem keepsNe_of_regs {s t : State} (h : t.regs = s.regs) : KeepsNe s t := fun a _ => congrArg (fun r : RegFile => r.word a) h

theorem keepsNe_wrN (s : State) {a : Nat} (n : Nat) (h : pageOf a ≠ 0x78) : KeepsNe s (s.wrN a n) :=
  fun _ hb => State.rd_wrN_other s n (fun e => h (e ▸ hb))

theorem counterPage_ne {a : Nat} (h : pageOf a = 0x78) : counterPage a = false := by
  unfold counterPage
  rw [h]
  decide

theorem Spent.keepsNe {s t : State} (h : Spent s t) : KeepsNe s t := fun a ha => h.2 a (by simp [counterPage_ne ha])

theorem Stalls.keepsNe {i : Nat} (hi : i < 16) {s t : State} (h : Stalls i s t) : KeepsNe s t := by
  intro a ha
  refine h.2 a ?_
  have h1 : a ≠ Reg.WHLn_STAT i := by rintro rfl; unfold pageOf Reg.WHLn_STAT at ha; omega
  have h2 : a ≠ Reg.WHLn_STALLS i := by rintro rfl; unfold pageOf Reg.WHLn_STALLS at ha; omega
  have h3 : a ≠ Reg.WHL_EVT := by rintro rfl; revert ha; decide
  unfold stallWords
  simp [h1, h2, h3, counterPage_ne ha]

namespace State

theorem rd64_bump_other (s : State) {a b : Nat} (h1 : b ≠ a) (h2 : b + 4 ≠ a) : (s.bump a).rd64 b = s.rd64 b := by
  unfold rd64
  rw [rdN_bump_other s h1, rdN_bump_other s h2]

theorem rd64_bump64_same (s : State) (a n : Nat) : (s.bump64 a n).rd64 a = (s.rd64 a + n) % 2 ^ 64 := rd64_wr64_same s a _

theorem keepsNe_engSend (s : State) (eng : Nat) {p : Nat} (hp : p < 16) (b : List Byte) (late : Option Nat) : KeepsNe s (s.engSend eng p b late) :=
  fun _ ha => (queued_engSend s eng hp b late).words (by omega) (carried_of_page_lt (by omega))

theorem keepsNe_neSend (s : State) {p : Nat} (hp : p < 16) (b pay : List Byte) : KeepsNe s (s.neSend p b pay) := keepsNe_engSend s 17 hp _ none

end State

/-! ### The rate policy (R338, R339) -/

namespace State

theorem keepsNe_countClient (s : State) (b : List Byte) : KeepsNe s (s.countClient b).2 := by
  have n (t : State) (v : Nat) : KeepsNe t (t.wrN Reg.NE_SK_N v) := keepsNe_wrN t v (by decide)
  have eps (t : State) (v : Nat) : KeepsNe t (t.wrSat Reg.NE_SK_EPS v) := keepsNe_wrN t _ (by decide)
  unfold countClient
  exact (((keepsNe_of_regs (t := s.setNe _) rfl).then (n _ _)).then (keepsNe_of_regs rfl)).then (eps _ _)

theorem rateCheck_off {s : State} (b : List Byte) (h : s.flag Fld.NE_CTL_RATE_EN = false) : s.rateCheck b = (.serve, s) := by
  unfold rateCheck
  rw [h]
  rfl

theorem rateCheck_refused {s : State} (b : List Byte) (h : s.flag Fld.NE_CTL_RATE_EN = true) (ha : s.admits 13 1 = false) :
    s.rateCheck b = (.serve, (s.stall 13).bump Reg.NE_RATE_SKIP) := by
  unfold rateCheck
  rw [h, admitFor_neg ha]
  rfl

/-- What the policy says of an estimate. -/
def rateVerdict (s : State) (c : Nat × State) : RateSays × State :=
  if c.1 ≤ s.rdN Reg.NE_RATE_LIM then (.serve, c.2)
  else if c.1 ≤ max (s.rdN Reg.NE_RATE_LIM) (s.rdN Reg.NE_RATE_DROP) then (.kiss, c.2.bump Reg.NE_KOD)
  else (.drop, c.2.bump Reg.NE_RATE_DROP_CNT)

theorem rateCheck_counted {s : State} (b : List Byte) (h : s.flag Fld.NE_CTL_RATE_EN = true) (ha : s.admits 13 1 = true) :
    s.rateCheck b = s.rateVerdict ((s.admitted 13 1).countClient b) := by
  unfold rateCheck rateVerdict
  rw [h, admitFor_pos ha]
  simp only [Bool.not_true, Bool.false_eq_true, if_false]

theorem rateVerdict_ne (s : State) (c : Nat × State) : (s.rateVerdict c).2.ne = c.2.ne := by
  unfold rateVerdict
  split
  · rfl
  · split <;> rfl

theorem rateVerdict_received (s : State) (c : Nat × State) : (s.rateVerdict c).2.rd64 Reg.NE_RX_L = c.2.rd64 Reg.NE_RX_L := by
  unfold rateVerdict
  split
  · rfl
  · split
    · exact rd64_bump_other _ (by decide) (by decide)
    · exact rd64_bump_other _ (by decide) (by decide)

theorem keepsNe_counted (s : State) (b : List Byte) : KeepsNe s ((s.admitted 13 1).countClient b).2 :=
  (spent_admitted s 13 1).keepsNe.then (keepsNe_countClient _ b)

/-- The rate check leaves the count of requests. -/
theorem rateCheck_received (s : State) (b : List Byte) : (s.rateCheck b).2.rd64 Reg.NE_RX_L = s.rd64 Reg.NE_RX_L := by
  cases h : s.flag Fld.NE_CTL_RATE_EN with
  | false => rw [rateCheck_off b h]
  | true =>
    cases ha : s.admits 13 1 with
    | false =>
      rw [rateCheck_refused b h ha]
      exact (rd64_bump_other _ (by decide) (by decide)).trans ((stalls_stall s 13).keepsNe (by decide)).received
    | true => rw [rateCheck_counted b h ha, rateVerdict_received, (keepsNe_counted s b).received]

end State

theorem ratePolicy : Claims.RatePolicy := by
  intro s b
  refine ⟨State.rateCheck_off b, fun h ha => ?_, fun h ha => ?_⟩
  · rw [State.rateCheck_refused b h ha]
    exact ⟨rfl, ((stalls_stall s 13).keepsNe (by decide)).counter (by decide), (stalls_stall s 13).ne⟩
  · rw [State.rateCheck_counted b h ha]
    have kept := State.keepsNe_counted s b
    generalize (s.admitted 13 1).countClient b = c at kept
    refine ⟨State.rateVerdict_ne s c, fun hl => ?_, fun hl hd => ?_, fun hl hd => ?_⟩
    · unfold State.rateVerdict
      rw [if_pos hl]
    · unfold State.rateVerdict
      rw [if_neg (by omega), if_pos (by omega)]
      exact ⟨rfl, kept.counter (by decide)⟩
    · unfold State.rateVerdict
      rw [if_neg (by omega), if_neg (by omega)]
      exact ⟨rfl, kept.counter (by decide)⟩

/-! ### The plain answer (R323) -/

/-- A response's header up to its origin timestamp. -/
def headStart (r : NtpReq) (h : NtpHead) : List Byte :=
  beBytes 1 (h.li * 64 + beAt r.pay 0 1 / 8 % 8 * 8 + 4) ++ ([BitVec.ofNat 8 h.stratum, BitVec.ofNat 8 h.poll, 0xE2, 0, 0, 0, 0] ++
    (beBytes 4 h.disp ++ (beBytes 4 h.refid ++ beBytes 8 h.ref)))

theorem length_headStart (r : NtpReq) (h : NtpHead) : (headStart r h).length = 24 := by
  unfold headStart
  simp only [List.length_append, length_beBytes, List.length_cons, List.length_nil]

theorem ntpHeader_eq (r : NtpReq) (h : NtpHead) : ntpHeader r h = headStart r h ++ (beBytes 8 h.org ++ (beBytes 8 h.rx ++ beBytes 8 h.tx)) := by
  unfold ntpHeader headStart
  simp only [List.append_assoc]
  rfl

theorem length_ntpHeader (r : NtpReq) (h : NtpHead) : (ntpHeader r h).length = 48 := by
  rw [ntpHeader_eq, List.length_append, length_headStart]
  simp only [List.length_append, length_beBytes]

theorem ntpHeader_first (r : NtpReq) (h : NtpHead) :
    beAt (ntpHeader r h) 0 1 = (h.li * 64 + beAt r.pay 0 1 / 8 % 8 * 8 + 4) % 256 := by
  refine beAt_beBytes (l := []) (by rw [ntpHeader_eq]; unfold headStart; rw [List.append_assoc]; rfl) rfl

theorem ntpHeader_org (r : NtpReq) (h : NtpHead) : beAt (ntpHeader r h) 24 8 = h.org % 2 ^ 64 :=
  beAt_beBytes (ntpHeader_eq r h) (length_headStart r h)

theorem ntpHeader_rx (r : NtpReq) (h : NtpHead) : beAt (ntpHeader r h) 32 8 = h.rx % 2 ^ 64 :=
  beAt_beBytes (l := headStart r h ++ beBytes 8 h.org) (by rw [ntpHeader_eq, List.append_assoc])
    (by rw [List.length_append, length_headStart, length_beBytes])

theorem ntpHeader_tx (r : NtpReq) (h : NtpHead) : beAt (ntpHeader r h) 40 8 = h.tx % 2 ^ 64 :=
  beAt_beBytes (l := headStart r h ++ (beBytes 8 h.org ++ beBytes 8 h.rx)) (r := [])
    (by rw [ntpHeader_eq, List.append_nil]; simp only [List.append_assoc])
    (by simp only [List.length_append, length_headStart, length_beBytes])

theorem ntpAnswers : Claims.NtpAnswers := by
  intro s j t x hk hx
  dsimp only
  intro hb
  generalize hr : (⟨udpPayload j.tmpl, (ntpFields 100 (udpPayload j.tmpl) 48).getD []⟩ : NtpReq) = r at hb
  have hpay : r.pay = udpPayload j.tmpl := by rw [← hr]
  have hfirst := ntpHeader_first r (s.timedHead r x (j.args.getD 0 0) t j.port)
  refine ⟨ntpHeader r (s.timedHead r x (j.args.getD 0 0) t j.port), ?_, length_ntpHeader _ _, ?_, ?_, ?_, ?_, ?_⟩
  · have hpart : s.boundPart r x t j.port = [] := by
      unfold State.boundPart
      rw [hb]
      rfl
    unfold State.neSeal
    rw [hx]
    dsimp only
    rw [hr, if_pos hk, hpart, List.append_nil]
  · rw [hfirst]
    omega
  · rw [hfirst, hpay]
    omega
  · rw [ntpHeader_org]
    show beAt r.pay 40 8 % 2 ^ 64 = _
    rw [hpay]
    exact Nat.mod_eq_of_lt (beAt_lt _ 40 8)
  · exact ntpHeader_rx r _
  · exact ntpHeader_tx r _

/-! ### Requests (R321, R328 to R333) -/

namespace State

theorem plainRequest_received (s : State) {p : Nat} (hp : p < 16) (rx : Nat) (b : List Byte) (r : NtpReq) :
    (s.plainRequest p rx b r).rd64 Reg.NE_RX_L = s.rd64 Reg.NE_RX_L := by
  have hrate := rateCheck_received s b
  unfold plainRequest
  split
  · exact rd64_bump_other s (by decide) (by decide)
  split
  · exact rd64_bump_other s (by decide) (by decide)
  dsimp only
  split
  · exact hrate
  · exact (keepsNe_neSend _ hp b _).received.trans hrate
  · split
    · exact (rd64_bump_other _ (by decide) (by decide)).trans ((keepsNe_neSend _ hp b _).received.trans hrate)
    · exact hrate

/-- A plain request that the rate policy does not look at: answered at once while no time may be stated, else launched. -/
theorem plainRequest_served {s : State} (p rx : Nat) (b : List Byte) (r : NtpReq) (h1 : s.flag Fld.NE_CTL_PLAIN_EN = true)
    (h2 : ¬(s.flag Fld.NE_STAT_TAMPERED = true ∧ s.flag Fld.NE_CTL_TAMPER_PLAIN = false)) (h3 : s.flag Fld.NE_CTL_RATE_EN = false) :
    s.plainRequest p rx b r = if s.validSnap.isNone then (s.neSend p b (ntpHeader r (s.unsyncHead r))).bump Reg.NE_UNSYNC
      else s.neJob p rx b (ntpLen b (48 + if s.wantsBound r then 20 else 0)) 0 [] := by
  unfold plainRequest
  rw [h1, if_neg (by decide), if_neg (by simpa using h2), rateCheck_off b h3]

/-- What the key generations are read from: the key store, and the words of pages 0x079 and 0x081. -/
structure SameKeys (s t : State) : Prop where
  ks : t.ks = s.ks
  words : ∀ a, pageOf a = 0x79 ∨ pageOf a = 0x81 → t.rd a = s.rd a

theorem genReg_page (j : Nat) : pageOf (genReg j) = 0x79 := by
  unfold genReg
  split
  · decide
  · split <;> decide

theorem SameKeys.gen {s t : State} (h : SameKeys s t) (j : Nat) : t.rdN (genReg j) = s.rdN (genReg j) :=
  rdN_of_rd (h.words _ (.inl (genReg_page j)))

theorem SameKeys.genHeld {s t : State} (h : SameKeys s t) (j : Nat) : t.genHeld j = s.genHeld j := by
  unfold State.genHeld
  rw [h.gen]

theorem SameKeys.genNum {s t : State} (h : SameKeys s t) (j : Nat) : t.genNum j = s.genNum j := by
  unfold State.genNum
  rw [h.gen]

theorem SameKeys.genKey {s t : State} (h : SameKeys s t) (j : Nat) : t.genKey j = s.genKey j := by
  have hslot : t.genSlotOf j = s.genSlotOf j := by
    unfold genSlotOf
    rw [h.gen]
  have hlt : s.genSlotOf j < 128 := bitsOf_lt _ 16 7
  have hattr : t.rd (Reg.KS_SLOTs_ATTR0 (s.genSlotOf j)) = s.rd (Reg.KS_SLOTs_ATTR0 (s.genSlotOf j)) :=
    h.words _ (.inr (by unfold pageOf Reg.KS_SLOTs_ATTR0; omega))
  unfold State.genKey slotValid masterOk lcOk keyOfSlot lcEff
  rw [h.genHeld, hslot, h.ks, flag_of_rd (f := Fld.KS_SLOTs_ATTR0_VALID _) hattr, get_of_rd (f := Fld.KS_SLOTs_ATTR0_MASTER _) hattr,
    get_of_rd (f := Fld.KS_SLOTs_ATTR0_LC_MASK _) hattr]

/-- A cookie of no generation held is answered with a NAK (R332). -/
theorem ntsAnswer_nak {s : State} (p rx : Nat) (b : List Byte) (r : NtpReq) (kiss : Bool) (hk : s.genKey 0 ≠ none)
    (hg : ∀ j, j < 3 → s.genHeld j = true → s.genNum j ≠ beAt r.cookie 0 2) : s.ntsAnswer p rx b r kiss = s.ntsNak p b r := by
  have none_ : [0, 1, 2].findSome? (fun j => if s.genHeld j && s.genNum j = beAt r.cookie 0 2 then s.genKey j else none) = none := by
    refine List.findSome?_eq_none_iff.mpr fun j hj => if_neg ?_
    have hj3 : j < 3 := by fin_cases hj <;> decide
    simpa using hg j hj3
  unfold ntsAnswer
  cases hc : s.genKey 0 with
  | none => exact absurd hc hk
  | some cur =>
    dsimp only
    rw [none_]

theorem ntsNak_counted (s : State) {p : Nat} (hp : p < 16) (b : List Byte) (r : NtpReq) :
    (s.ntsNak p b r).rdN Reg.NE_NAK = oneMore (s.rdN Reg.NE_NAK) := (keepsNe_neSend s hp b _).counter (by decide)

/-- A request that has been received. -/
def ntpReceived (s : State) : State := s.bump64 Reg.NE_RX_L 1

theorem ntpReceived_rd (s : State) {a : Nat} (h1 : a ≠ Reg.NE_RX_L) (h2 : a ≠ Reg.NE_RX_L + 4) : s.ntpReceived.rd a = s.rd a :=
  rd_wr64_other s _ h1 h2

theorem ntpReceived_flag (s : State) {f : Fld} (h1 : f.addr ≠ Reg.NE_RX_L) (h2 : f.addr ≠ Reg.NE_RX_L + 4) : s.ntpReceived.flag f = s.flag f :=
  flag_of_rd (s.ntpReceived_rd h1 h2)

theorem ntpReceived_counter (s : State) {a : Nat} (h1 : a ≠ Reg.NE_RX_L) (h2 : a ≠ Reg.NE_RX_L + 4) :
    (s.ntpReceived.bump a).rdN a = oneMore (s.rdN a) := by
  rw [rdN_bump_same, rdN_of_rd (s.ntpReceived_rd h1 h2)]

theorem ntpReceived_budget (s : State) : SameBudget s s.ntpReceived := by
  have low (a : Nat) (h : pageOf a ≠ 0x78) : s.ntpReceived.rd a = s.rd a :=
    s.ntpReceived_rd (by rintro rfl; revert h; decide) (by rintro rfl; revert h; decide)
  exact ⟨rfl, fun j hj => low _ (by unfold pageOf Reg.WHLn_FLOOR_IF; omega), fun j hj => low _ (by unfold pageOf Reg.WHLn_CEIL_IF; omega), low _ (by decide)⟩

theorem ntpReceived_keys (s : State) : SameKeys s s.ntpReceived :=
  ⟨rfl, fun a ha => s.ntpReceived_rd (by rintro rfl; revert ha; decide) (by rintro rfl; revert ha; decide)⟩

theorem Spent.sameKeys {s t : State} (h : Spent s t) : SameKeys s t := by
  refine ⟨h.ks, fun a ha => h.2 a ?_⟩
  have hc : counterPage a = false := by
    unfold counterPage
    rcases ha with ha | ha <;> rw [ha] <;> decide
  simp [hc]

/-- An NTS request of good form that the rate policy does not look at. -/
def ntsTake (s : State) (p : Nat) (stamp : Option Nat) (b : List Byte) (r : NtpReq) : State :=
  if (s.genKey 0).isNone then s.ntpReceived.bump Reg.NE_NTS_HALT_DROP
  else if !s.ntpReceived.admits 2 (s.ntsCost r false) then (s.stall 2).withhold (.ntpRequest (Fin.ofNat 16 p) stamp b)
  else (s.ntpReceived.admitted 2 (s.ntsCost r false)).ntsAnswer p (stamp.getD 0) b r false

/-- A request that has passed R321. -/
def ntpTake (s : State) (p : Nat) (stamp : Option Nat) (b : List Byte) (r : NtpReq) : State :=
  if !r.nts then s.ntpReceived.plainRequest p (stamp.getD 0) b r
  else if !s.flag Fld.NE_CTL_NTS_EN || !r.ntsOk then s.ntpReceived.bump Reg.NE_FMT_DROP
  else
    let c := s.ntpReceived.rateCheck b
    if c.1 = .drop then c.2
    else if (s.genKey 0).isNone then c.2.bump Reg.NE_NTS_HALT_DROP
    else
      let units := s.ntsCost r (c.1 == .kiss)
      if !c.2.admits 2 units then (s.stall 2).withhold (.ntpRequest (Fin.ofNat 16 p) stamp b)
      else (c.2.admitted 2 units).ntsAnswer p (stamp.getD 0) b r (c.1 == .kiss)

theorem ntpRequest_eq (s : State) (p : Nat) (stamp : Option Nat) (b : List Byte) :
    s.ntpRequest p stamp b = match s.ntpChecks stamp b with | .inl c => s.bump c | .inr r => s.ntpTake p stamp b r := rfl

theorem ntpTake_nts {s : State} (p : Nat) (stamp : Option Nat) (b : List Byte) {r : NtpReq} (hn : r.nts = true)
    (h1 : ¬(s.flag Fld.NE_CTL_NTS_EN = false ∨ r.ntsOk = false)) (h2 : s.flag Fld.NE_CTL_RATE_EN = false) :
    s.ntpTake p stamp b r = s.ntsTake p stamp b r := by
  have h3 : s.ntpReceived.flag Fld.NE_CTL_RATE_EN = false := (s.ntpReceived_flag (by decide) (by decide)).trans h2
  unfold ntpTake
  rw [hn, if_neg (by decide), if_neg (by simpa using h1), rateCheck_off b h3]
  rfl

end State

theorem ntsTaken {s : State} (p : Fin 16) (stamp : Option Nat) (b : List Byte) (r : NtpReq) :
    if s.genKey 0 = none then (s.ntsTake p.val stamp b r).rdN Reg.NE_NTS_HALT_DROP = oneMore (s.rdN Reg.NE_NTS_HALT_DROP) ∧ (s.ntsTake p.val stamp b r).sw = s.sw
    else if s.admits 2 (s.ntsCost r false) = false then s.Withheld 2 (.ntpRequest p stamp b) (s.ntsTake p.val stamp b r)
    else (∀ j, j < 3 → s.genHeld j = true → s.genNum j ≠ beAt r.cookie 0 2) →
      (s.ntsTake p.val stamp b r).rdN Reg.NE_NAK = oneMore (s.rdN Reg.NE_NAK) := by
  unfold State.ntsTake
  by_cases hk : s.genKey 0 = none
  · rw [if_pos hk, if_pos (by rw [hk]; rfl)]
    exact ⟨s.ntpReceived_counter (by decide) (by decide), rfl⟩
  have hk' : ¬(s.genKey 0).isNone = true := by simpa using hk
  rw [if_neg hk, if_neg hk', State.admits_congr s.ntpReceived_budget _ (by decide)]
  cases ha : s.admits 2 (s.ntsCost r false) with
  | false =>
    rw [if_pos rfl, show Fin.ofNat 16 p.val = p from Fin.ofNat_val_eq_self p]
    exact withheld_stall s _ (by decide)
  | true =>
    intro hg
    rw [if_neg (by decide)]
    have spent := spent_admitted s.ntpReceived 2 (s.ntsCost r false)
    have keys := State.Spent.sameKeys spent
    have same := s.ntpReceived_keys
    rw [State.ntsAnswer_nak _ _ _ _ _ (by rw [keys.genKey, same.genKey]; exact hk)
      (fun j hj hh => by rw [keys.genNum, same.genNum]; rw [keys.genHeld, same.genHeld] at hh; exact hg j hj hh), State.ntsNak_counted _ p.isLt,
      spent.keepsNe.rdN (by decide), State.rdN_of_rd (s.ntpReceived_rd (by decide) (by decide))]

/-- A request in plain form (R328, R329, R337). -/
theorem plainTaken {s : State} (p : Fin 16) (stamp : Option Nat) (b : List Byte) {r : NtpReq} (hn : r.nts = false) :
    (s.ntpTake p.val stamp b r).rd64 Reg.NE_RX_L = (s.rd64 Reg.NE_RX_L + 1) % 2 ^ 64 ∧
    if s.flag Fld.NE_CTL_PLAIN_EN = false then
      (s.ntpTake p.val stamp b r).rdN Reg.NE_MODE_DROP = oneMore (s.rdN Reg.NE_MODE_DROP) ∧ (s.ntpTake p.val stamp b r).sw = s.sw
    else if s.flag Fld.NE_STAT_TAMPERED = true ∧ s.flag Fld.NE_CTL_TAMPER_PLAIN = false then
      (s.ntpTake p.val stamp b r).rdN Reg.NE_TAMPER_DROP = oneMore (s.rdN Reg.NE_TAMPER_DROP) ∧ (s.ntpTake p.val stamp b r).sw = s.sw
    else s.flag Fld.NE_CTL_RATE_EN = false →
      if s.validSnap = none then (s.ntpTake p.val stamp b r).rdN Reg.NE_UNSYNC = oneMore (s.rdN Reg.NE_UNSYNC)
      else (s.ntpTake p.val stamp b r).sw = { s.sw with jobs := s.sw.jobs ++ [⟨17, 0, p.val,
        State.ntpLen b (48 + if s.wantsBound r then 20 else 0), b, [stamp.getD 0], clampNat 4000 20000 (bitsOf (s.rdN Reg.NE_LEAD) 0 16)⟩] } := by
  have e : s.ntpTake p.val stamp b r = s.ntpReceived.plainRequest p.val (stamp.getD 0) b r := if_pos (by rw [hn]; rfl)
  have flags {f : Fld} (h1 : f.addr ≠ Reg.NE_RX_L) (h2 : f.addr ≠ Reg.NE_RX_L + 4) := s.ntpReceived_flag h1 h2
  have plain := flags (f := Fld.NE_CTL_PLAIN_EN) (by decide) (by decide)
  have tampered := flags (f := Fld.NE_STAT_TAMPERED) (by decide) (by decide)
  have allowed := flags (f := Fld.NE_CTL_TAMPER_PLAIN) (by decide) (by decide)
  have rate := flags (f := Fld.NE_CTL_RATE_EN) (by decide) (by decide)
  rw [e]
  refine ⟨(State.plainRequest_received _ p.isLt _ b r).trans (s.rd64_bump64_same _ 1), ?_⟩
  by_cases h1 : s.flag Fld.NE_CTL_PLAIN_EN = false
  · have drop : s.ntpReceived.plainRequest p.val (stamp.getD 0) b r = s.ntpReceived.bump Reg.NE_MODE_DROP := if_pos (by rw [plain, h1]; rfl)
    rw [if_pos h1, drop]
    exact ⟨s.ntpReceived_counter (by decide) (by decide), rfl⟩
  rw [if_neg h1]
  rw [Bool.not_eq_false] at h1
  by_cases h2 : s.flag Fld.NE_STAT_TAMPERED = true ∧ s.flag Fld.NE_CTL_TAMPER_PLAIN = false
  · have drop : s.ntpReceived.plainRequest p.val (stamp.getD 0) b r = s.ntpReceived.bump Reg.NE_TAMPER_DROP :=
      (if_neg (by rw [plain, h1]; decide)).trans (if_pos (by rw [tampered, allowed, h2.1, h2.2]; rfl))
    rw [if_pos h2, drop]
    exact ⟨s.ntpReceived_counter (by decide) (by decide), rfl⟩
  rw [if_neg h2]
  intro h3
  have served := State.plainRequest_served p.val (stamp.getD 0) b r (plain.trans h1) (by rw [tampered, allowed]; exact h2) (rate.trans h3)
  rw [served]
  by_cases h4 : s.validSnap = none
  · have h4' : s.ntpReceived.validSnap.isNone = true := by
      show s.validSnap.isNone = true
      rw [h4]
      rfl
    rw [if_pos h4, if_pos h4', (State.keepsNe_neSend _ p.isLt b _).counter (by decide), State.rdN_of_rd (s.ntpReceived_rd (by decide) (by decide))]
  · have h4' : ¬s.ntpReceived.validSnap.isNone = true := by
      show ¬s.validSnap.isNone = true
      simpa using h4
    have wants : s.ntpReceived.wantsBound r = s.wantsBound r := by
      unfold State.wantsBound
      rw [State.rdN_of_rd (s.ntpReceived_rd (a := Reg.EB_NTP_EFTYPE) (by decide) (by decide))]
    rw [if_neg h4, if_neg h4', wants]
    unfold State.neJob
    rw [State.rdN_of_rd (s.ntpReceived_rd (a := Reg.NE_LEAD) (by decide) (by decide))]
    rfl

theorem ntpRequests : Claims.NtpRequests := by
  intro p stamp b s
  refine ⟨_, engine_eq s _, ?_⟩
  dsimp only
  by_cases hh : s.halted = true
  · rw [if_pos hh]
    exact if_pos hh
  rw [if_neg hh]
  rw [if_neg (show ¬(s.safe || s.boot.sleeping) = true from hh), State.ntpRequest_eq]
  unfold State.ntpChecks
  dsimp only
  by_cases h1 : s.flag Fld.NE_CTL_EN = false
  · rw [if_pos h1, if_pos (show (!s.flag Fld.NE_CTL_EN) = true by rw [h1]; rfl)]
  rw [if_neg h1, if_neg (show ¬(!s.flag Fld.NE_CTL_EN) = true by simpa using h1)]
  by_cases h2 : s.neAddr b = false
  · rw [if_pos h2, if_pos (show (!s.neAddr b) = true by rw [h2]; rfl)]
  rw [if_neg h2, if_neg (show ¬(!s.neAddr b) = true by simpa using h2)]
  by_cases h3 : stamp = none
  · rw [if_pos h3, if_pos (show stamp.isNone = true by rw [h3]; rfl)]
  rw [if_neg h3, if_neg (show ¬stamp.isNone = true by simpa using h3)]
  generalize udpPayload b = pay
  generalize hlim : clampNat 48 1400 (bitsOf (s.rdN Reg.NE_MAXLEN) 0 11) = lim
  by_cases h4 : pay.length < 48 ∨ lim < pay.length
  · rw [if_pos h4, if_pos (show (pay.length < 48 || lim < pay.length) = true by simpa using h4)]
  rw [if_neg h4, if_neg (show ¬(pay.length < 48 || lim < pay.length) = true by simpa using h4)]
  generalize beAt pay 0 1 / 8 % 8 = ver
  by_cases h5 : beAt pay 0 1 % 8 ≠ 3
  · rw [if_pos (.inl h5), if_pos h5]
  rw [if_neg h5]
  by_cases h6 : ver = 4 ∨ (ver = 3 ∧ pay.length = 48)
  case neg =>
    rw [if_pos (.inr h6), if_pos (show (!(ver == 4 || (ver == 3 && pay.length == 48))) = true by simpa [← not_and_or] using h6)]
  rw [if_neg (show ¬(beAt pay 0 1 % 8 ≠ 3 ∨ ¬(ver = 4 ∨ (ver = 3 ∧ pay.length = 48))) from not_or.mpr ⟨h5, not_not.mpr h6⟩),
    if_neg (show ¬(!(ver == 4 || (ver == 3 && pay.length == 48))) = true by simpa [or_iff_not_imp_left] using h6)]
  cases ntpFields 100 pay 48 with
  | none => rfl
  | some l =>
    dsimp only
    generalize (⟨pay, l⟩ : NtpReq) = r
    cases hn : r.nts with
    | false => exact plainTaken p stamp b hn
    | true =>
      rw [if_pos rfl]
      by_cases h7 : s.flag Fld.NE_CTL_NTS_EN = false ∨ r.ntsOk = false
      · have drop : s.ntpTake p.val stamp b r = s.ntpReceived.bump Reg.NE_FMT_DROP :=
          (if_neg (by rw [hn]; decide)).trans (if_pos (by simpa using h7))
        rw [if_pos h7, drop]
        exact ⟨s.ntpReceived_counter (by decide) (by decide), rfl⟩
      rw [if_neg h7]
      intro h8
      rw [State.ntpTake_nts p.val stamp b hn h7 h8]
      exact ntsTaken p stamp b r

/-- Settles O38: requests, the plain answer and the rate policy. -/
theorem ntpService : Obligations.NtpService := ⟨ntpRequests, ntpAnswers, ratePolicy⟩

end Sys2Proof.Machine
end

section
/-! SUPPORT. The client table: what a change of an entry leaves, and what is read from an entry after it (R298 to R306). -/

namespace Sys2Proof.Machine

theorem alLook_alPut_same {α : Type} (l : List (Nat × α)) (a : Nat) (v : α) : alLook (alPut l a v) a = some v := by
  induction l with
  | nil => exact if_pos rfl
  | cons x r ih =>
    obtain ⟨k, w⟩ := x
    unfold alPut
    split
    · exact if_pos rfl
    · split
      · exact if_pos rfl
      · rename_i h1 h2
        exact (if_neg h1).trans ((if_neg h2).trans ih)

/-- Only the engine's own state and the mirroring holder's queue differ. -/
def Retabled (s t : State) : Prop := { t with pe := s.pe, ls := s.ls } = s

theorem Retabled.then {s t u : State} (h : Retabled s t) (k : Retabled t u) : Retabled s u := by
  have e : { u with pe := s.pe, ls := s.ls } = { t with pe := s.pe, ls := s.ls } :=
    congrArg (fun x : State => { x with pe := s.pe, ls := s.ls }) k
  exact e.trans h

theorem Retabled.tc {s t : State} (h : Retabled s t) : t.tc = s.tc := (congrArg State.tc h :)
theorem Retabled.sw {s t : State} (h : Retabled s t) : t.sw = s.sw := (congrArg State.sw h :)
theorem Retabled.jn {s t : State} (h : Retabled s t) : t.jn = s.jn := (congrArg State.jn h :)
theorem Retabled.regs {s t : State} (h : Retabled s t) : t.regs = s.regs := (congrArg State.regs h :)

theorem retabled_setPe (s : State) (x : Ptp) : Retabled s (s.setPe x) := rfl

/-- Words that follow the client table. -/
def tableWord (a : Nat) : Prop := a = Reg.PE_TBL_USED ∨ a = Reg.PE_TBL_COMMIT ∨ a = Reg.PE_STAT ∨ ∃ k, k < 4 ∧ a = Reg.PE_SVCk_CLIENTS k

theorem not_tableWord {a : Nat} (h1 : pageOf a ≠ 0x71) (h2 : a ≠ Reg.PE_STAT) (h3 : a < 0x70100 ∨ 0x70200 ≤ a) : ¬tableWord a := by
  rintro (rfl | rfl | rfl | ⟨k, hk, rfl⟩)
  · exact h1 (by decide)
  · exact h1 (by decide)
  · exact h2 rfl
  · unfold Reg.PE_SVCk_CLIENTS at h3
    omega

namespace State

theorem mirQueue_pe (s : State) (a b : Nat) (l : List Nat) : (s.mirQueue a b l).pe = s.pe := (congrArg State.pe (mirQueue_same s a b l) :)

theorem retabled_mirQueue (s : State) (a b : Nat) (l : List Nat) : Retabled s (s.mirQueue a b l) := by
  have h := congrArg (fun x : State => { x with pe := s.pe, ls := s.ls }) (mirQueue_same s a b l)
  exact h

theorem putEntry_pe (s : State) (i : Nat) (e : List Nat) : (s.putEntry i e).pe = { s.pe with table := alPut s.pe.table i e } := by
  unfold putEntry
  dsimp only
  split
  · exact mirQueue_pe _ _ _ _
  · split
    · exact mirQueue_pe _ _ _ _
    · rfl

theorem retabled_putEntry (s : State) (i : Nat) (e : List Nat) : Retabled s (s.putEntry i e) := by
  unfold putEntry
  dsimp only
  split
  · exact (retabled_setPe s _).then (retabled_mirQueue _ _ _ _)
  · split
    · exact (retabled_setPe s _).then (retabled_mirQueue _ _ _ _)
    · exact retabled_setPe s _

theorem tblEntry_putEntry_same (s : State) (i : Nat) (e : List Nat) : (s.putEntry i e).tblEntry i = e := by
  unfold tblEntry
  rw [putEntry_pe]
  show (alLook (alPut s.pe.table i e) i).getD entryFree = e
  rw [alLook_alPut_same]
  rfl

theorem tblEntry_of_table {s t : State} (h : t.pe.table = s.pe.table) (i : Nat) : t.tblEntry i = s.tblEntry i := by
  unfold tblEntry
  rw [h]

/-- A list of the calendar takes or leaves an entry: the rest of the engine is as it was. -/
theorem unlist_parts (s : State) (i : Nat) : (s.unlist i).pe.table = s.pe.table ∧ (s.unlist i).pe.commit = s.pe.commit ∧
    (s.unlist i).pe.lastTick = s.pe.lastTick ∧ Retabled s (s.unlist i) := ⟨rfl, rfl, rfl, rfl⟩

theorem listEntry_parts (s : State) (i n : Nat) : (s.listEntry i n).pe.table = s.pe.table ∧ (s.listEntry i n).pe.commit = s.pe.commit ∧
    (s.listEntry i n).pe.lastTick = s.pe.lastTick ∧ Retabled s (s.listEntry i n) := by
  unfold listEntry
  dsimp only
  split
  · exact unlist_parts s i
  · exact ⟨rfl, rfl, rfl, rfl⟩

theorem writes_refreshTable (s : State) : Writes tableWord s s.refreshTable := by
  have clients (l : List (Nat × List Nat)) (ks : List Nat) (hks : ∀ k ∈ ks, k < 4) : ∀ t : State,
      Writes tableWord t (ks.foldl (fun t k => t.wrN (Reg.PE_SVCk_CLIENTS k) (l.filter (fun e => entrySvc e.2 == k)).length) t) := by
    induction ks with
    | nil => exact fun t => ⟨rfl, fun _ _ => rfl⟩
    | cons k ks ih =>
      exact fun t => (writes_wrN t _ (.inr (.inr (.inr ⟨k, hks k (by simp), rfl⟩)))).then (ih (fun j hj => hks j (by simp [hj])) _)
  unfold refreshTable
  refine Writes.then ?_ (clients _ _ (fun k hk => List.mem_range.mp hk) _)
  refine ((writes_wrN s _ (.inl rfl)).then (writes_wrN _ _ (.inr (.inl rfl)))).then (writes_setB _ Fld.PE_STAT_TABLE_FULL _ ?_)
  exact .inr (.inr (.inl rfl))

end State

/-- The table has changed, with the words that follow it. -/
structure Tabled (s t : State) : Prop where
  same : Writes tableWord { s with pe := t.pe, ls := t.ls } t
  tick : t.pe.lastTick = s.pe.lastTick

theorem Tabled.refl (s : State) : Tabled s s := ⟨⟨rfl, fun _ _ => rfl⟩, rfl⟩

theorem Tabled.then {s t u : State} (h : Tabled s t) (k : Tabled t u) : Tabled s u := by
  obtain ⟨⟨h1, h2⟩, h3⟩ := h
  obtain ⟨⟨k1, k2⟩, k3⟩ := k
  have e1 := congrArg (fun x : State => { x with pe := u.pe, ls := u.ls }) h1
  have e2 := congrArg (fun x : State => { x with regs := s.regs }) k1
  exact ⟨⟨e2.trans e1, fun a ha => (k2 a ha).trans (h2 a ha)⟩, k3.trans h3⟩

theorem Tabled.tc {s t : State} (h : Tabled s t) : t.tc = s.tc := (congrArg State.tc h.same.1 :)
theorem Tabled.sw {s t : State} (h : Tabled s t) : t.sw = s.sw := (congrArg State.sw h.same.1 :)
theorem Tabled.jn {s t : State} (h : Tabled s t) : t.jn = s.jn := (congrArg State.jn h.same.1 :)

theorem Tabled.rd {s t : State} (h : Tabled s t) {a : Nat} (ha : ¬tableWord a) : t.rd a = s.rd a := h.same.2 a ha

theorem Retabled.tabled {s t : State} (h : Retabled s t) (ht : t.pe.lastTick = s.pe.lastTick) : Tabled s t := by
  have e := congrArg (fun x : State => { x with pe := t.pe, ls := t.ls }) h
  exact ⟨⟨(congrArg (fun x : State => { x with regs := s.regs }) e), fun a _ => congrArg (fun r : RegFile => r.word a) h.regs⟩, ht⟩

theorem tabled_setPe (s : State) {x : Ptp} (h : x.lastTick = s.pe.lastTick) : Tabled s (s.setPe x) := (retabled_setPe s x).tabled h

theorem tabled_commit (s : State) (n : Nat) : Tabled s (s.setPe { s.pe with commit := n }) := tabled_setPe s rfl

theorem tabled_freed (s : State) (l : List Nat) : Tabled s (s.setPe { s.pe with freed := l }) := tabled_setPe s rfl

namespace State

theorem tabled_putEntry (s : State) (i : Nat) (e : List Nat) : Tabled s (s.putEntry i e) :=
  (retabled_putEntry s i e).tabled (by rw [putEntry_pe])

theorem tabled_unlist (s : State) (i : Nat) : Tabled s (s.unlist i) := Retabled.tabled (s := s) (t := s.unlist i) rfl rfl

theorem tabled_listEntry (s : State) (i n : Nat) : Tabled s (s.listEntry i n) := by
  obtain ⟨_, _, h, k⟩ := listEntry_parts s i n
  exact k.tabled h

theorem refreshTable_pe (s : State) : s.refreshTable.pe = s.pe := (writes_refreshTable s).touches.pe

theorem tabled_refreshTable (s : State) : Tabled s s.refreshTable := by
  obtain ⟨h1, h2⟩ := writes_refreshTable s
  refine ⟨⟨?_, h2⟩, by rw [refreshTable_pe]⟩
  exact h1.trans (congrArg (fun x : State => { s with pe := x.pe, ls := x.ls }) h1.symm)

/-! ### An entry is freed (R299, R306) -/

/-- The entry's predecessor in its chain points past it. -/
def unchain (s : State) (i h next : Nat) : State :=
  if !bitAt (entryWord (s.tblEntry h) 1) 31 && bitsOf (entryWord (s.tblEntry h) 1) 0 20 = i then s.putEntry h ((s.tblEntry h).set 1 next)
  else match (s.chainOf h).find? (fun j => !bitAt (entryWord (s.tblEntry j) 2) 31 && bitsOf (entryWord (s.tblEntry j) 2) 0 20 == i) with
    | some j => s.putEntry j ((s.tblEntry j).set 2 next)
    | none => s

theorem tabled_unchain (s : State) (i h next : Nat) : Tabled s (s.unchain i h next) := by
  unfold unchain
  split
  · exact tabled_putEntry s _ _
  · split
    · exact tabled_putEntry s _ _
    · exact .refl s

/-- The table without the entry's rate and the entry's place in its chain. -/
def unlinked (s : State) (i : Nat) : State :=
  (s.setPe { s.pe with commit := s.pe.commit - entryRate (s.tblEntry i) }).unchain i (entryKey (s.tblEntry i)).home (entryWord (s.tblEntry i) 2)

/-- A free entry at `i`, last in its chain as it was. -/
def cleared (s : State) (i : Nat) : State := s.putEntry i (entryFree.set 1 (entryWord (s.tblEntry i) 1))

theorem freeEntry_eq (s : State) (i : Nat) : s.freeEntry i = if !entryValid (s.tblEntry i) then s else
    ((((s.unlinked i).cleared i).setPe { ((s.unlinked i).cleared i).pe with freed := i :: ((s.unlinked i).cleared i).pe.freed }).unlist i).refreshTable := rfl

theorem entryValid_free (w : Nat) : entryValid (entryFree.set 1 w) = false := by
  show bitAt (entryFree.getD 0 0) 31 = false
  decide

theorem tabled_freeEntry (s : State) (i : Nat) : Tabled s (s.freeEntry i) := by
  rw [freeEntry_eq]
  split
  · exact .refl s
  · have h1 : Tabled s (s.unlinked i) := (tabled_commit s _).then (tabled_unchain _ _ _ _)
    exact ((((h1.then (tabled_putEntry _ _ _)).then (tabled_freed _ _)).then (tabled_unlist _ i)).then (tabled_refreshTable _))

/-- A freed entry is not valid. -/
theorem freeEntry_invalid (s : State) (i : Nat) : entryValid ((s.freeEntry i).tblEntry i) = false := by
  rw [freeEntry_eq]
  by_cases h : entryValid (s.tblEntry i) = false
  · rw [if_pos (by rw [h]; rfl), h]
  · rw [if_neg (by simpa using h)]
    have e : (((((s.unlinked i).cleared i).setPe { ((s.unlinked i).cleared i).pe with freed := i :: ((s.unlinked i).cleared i).pe.freed }).unlist
        i).refreshTable).tblEntry i = ((s.unlinked i).cleared i).tblEntry i := tblEntry_of_table (by rw [refreshTable_pe]; rfl) i
    rw [e]
    unfold cleared
    rw [tblEntry_putEntry_same]
    exact entryValid_free _

/-! ### An entry is made, and its grants (R299) -/

theorem tabled_endGrant (s : State) (i t : Nat) : Tabled s (s.endGrant i t) := by
  have put (u : State) (e : List Nat) (n : Nat) : Tabled u ((u.setPe { u.pe with commit := n }).putEntry i e) :=
    (tabled_commit u n).then (tabled_putEntry _ _ _)
  unfold endGrant
  dsimp only
  split
  · exact .refl s
  · split
    · exact (put s _ _).then (tabled_freeEntry _ i)
    · exact ((put s _ _).then (tabled_listEntry _ i _)).then (tabled_refreshTable _)

/-- Where a new entry goes: its home where that is free, else the entry freed last, else the lowest never used. -/
def freshIndex (s : State) (h : Nat) : Nat :=
  if !entryValid (s.tblEntry h) then h else match s.pe.freed with | f :: _ => f | [] => firstUnused s.pe.table 0

/-- The entry at the head of its chain. -/
def chained (s : State) (i h : Nat) (w : List Nat) : State :=
  let next := if bitAt (entryWord (s.tblEntry h) 1) 31 then 2 ^ 31 else bitsOf (entryWord (s.tblEntry h) 1) 0 20
  s.putEntry i (((w.set 1 (entryWord (s.tblEntry i) 1)).set 2 next).set 3 (2 ^ 31))

/-- The new entry, and its home's chain that begins with it. -/
def inserted (s : State) (i h : Nat) (w : List Nat) : State :=
  let s2 := (s.setPe { s.pe with freed := s.pe.freed.filter (fun x => x != i) }).chained i h w
  (s2.putEntry h ((s2.tblEntry h).set 1 i)).refreshTable

theorem insertEntry_eq (s : State) (key : ClientKey) (w : List Nat) : s.insertEntry key w =
    if 1048576 ≤ s.rdN Reg.PE_TBL_USED then none else some (s.freshIndex key.home, s.inserted (s.freshIndex key.home) key.home w) := rfl

theorem tabled_inserted (s : State) (i h : Nat) (w : List Nat) : Tabled s (s.inserted i h w) := by
  have chain (t : State) : Tabled t (t.chained i h w) := tabled_putEntry t _ _
  unfold inserted
  refine .then ?_ (tabled_refreshTable _)
  exact .then ((tabled_freed s _).then (chain _)) (tabled_putEntry _ _ _)

end State

end Sys2Proof.Machine
end

section
/-! PROOF. O36: unicast grants, negotiation, the calendar, a master's messages, and the engine's upkeep (chapter 12). -/

namespace Sys2Proof.Machine

namespace State

/-! ### Unicast grants (R299) -/

/-- The rate of a client's grant of a type, before this request. -/
def oldRate (s : State) (key : ClientKey) (t : Nat) : Nat :=
  match (s.lookup key).1 with
  | some i => if entryGranted (s.tblEntry i) t then rate16 (entryLog (s.tblEntry i) t) else 0
  | none => 0

/-- A grant that is denied. -/
def denied (s : State) : Nat × State := (0, s.bump Reg.PE_DENY)

/-- The entry with its grant. -/
def grantEntry (s : State) (i : Nat) (auth : Bool) (t : Nat) (log : Int) (g : Nat) : List Nat :=
  s.putGrant (if auth then (s.tblEntry i).set 0 (setBitAt (entryWord (s.tblEntry i) 0) 26) else s.tblEntry i) t log g

/-- The table with a grant's rate and its entry. -/
def committed (s : State) (i : Nat) (e : List Nat) (n : Nat) : State := (s.setPe { s.pe with commit := n }).putEntry i e

theorem committed_commit (s : State) (i : Nat) (e : List Nat) (n : Nat) : (s.committed i e n).pe.commit = n := by
  unfold committed
  rw [putEntry_pe, setPe_pe]

theorem tabled_committed (s : State) (i : Nat) (e : List Nat) (n : Nat) : Tabled s (s.committed i e n) :=
  (tabled_commit s n).then (tabled_putEntry _ i e)

/-- An entry joins the calendar from now on. -/
def relisted (s : State) (i : Nat) : State := (s.listEntry i (max s.pe.lastTick (tickOf s.tc.now))).refreshTable

theorem relisted_parts (s : State) (i : Nat) : (s.relisted i).pe.commit = s.pe.commit ∧ (s.relisted i).pe.table = s.pe.table := by
  unfold relisted
  rw [refreshTable_pe]
  obtain ⟨ht, hc, _, _⟩ := listEntry_parts s i (max s.pe.lastTick (tickOf s.tc.now))
  exact ⟨hc, ht⟩

theorem tabled_relisted (s : State) (i : Nat) : Tabled s (s.relisted i) := (tabled_listEntry s i _).then (tabled_refreshTable _)

/-- A grant that an entry takes. -/
def granted (s : State) (i : Nat) (auth : Bool) (t : Nat) (log : Int) (g old : Nat) : State :=
  (s.committed i (s.grantEntry i auth t log g) (s.pe.commit - old + rate16 log)).relisted i

/-- The words of a new entry. -/
def blankEntry (key : ClientKey) (vid : Nat) (auth : Bool) : List Nat :=
  [2 ^ 31 + key.svc * 2 ^ 29 + key.trans * 2 ^ 27 + (if auth then 2 ^ 26 else 0) + key.port * 2 ^ 22, 0, 0, 0] ++ key.addr ++ key.ident ++
    [key.num * 65536 + vid] ++ List.replicate 5 0

/-- A client's entry, an old one or a new. -/
def grantAt (s : State) (key : ClientKey) (vid : Nat) (auth : Bool) : Option (Nat × State) :=
  match (s.lookup key).1 with
  | some i => some (i, s)
  | none => s.insertEntry key (blankEntry key vid auth)

theorem grantOne_eq (s : State) (key : ClientKey) (vid : Nat) (auth : Bool) {m t : Nat} (log : Int) (dur : Nat) (h : grantType m = some t) :
    s.grantOne key vid auth m log dur =
      if log < (s.logRange key.svc).1 || (s.logRange key.svc).2 < log then s.denied
      else if dur < bitsOf (s.rdN Reg.PE_GRANT) 16 16 then s.denied
      else if (s.lookup key).1.isNone && 1048576 ≤ s.rdN Reg.PE_TBL_USED then (s.evt Fld.PE_EVT_TABLE_FULL).denied
      else if s.rdN Reg.PE_RATE_MAX * 2 * s.get Fld.PE_CAP_LANES < s.pe.commit - s.oldRate key t + rate16 log then s.denied
      else match s.grantAt key vid auth with
        | none => s.denied
        | some (i, s1) => (min dur (bitsOf (s.rdN Reg.PE_GRANT) 0 16),
            s1.granted i auth t log (min dur (bitsOf (s.rdN Reg.PE_GRANT) 0 16)) (s.oldRate key t)) := by
  unfold grantOne
  rw [h]
  rfl

theorem bitAt_setBitAt_same (n k : Nat) : bitAt (setBitAt n k) k = true := by
  unfold bitAt setBitAt
  rw [Nat.testBit_or, Nat.testBit_two_pow_self, Bool.or_true]

theorem entryGranted_putGrant (s : State) {e : List Nat} {t : Nat} (log : Int) (dur : Nat) (he : e.length = 16) :
    entryGranted (s.putGrant e t log dur) t = true := by
  unfold entryGranted putGrant entryWord
  rw [List.getD_eq_getElem?_getD, List.getElem?_set_ne (by omega), List.getElem?_set_self (by omega)]
  exact bitAt_setBitAt_same _ t

theorem entryExpiry_putGrant (s : State) {e : List Nat} {t : Nat} (log : Int) (dur : Nat) (he : e.length = 16) (ht : t < 3) :
    entryExpiry (s.putGrant e t log dur) t = (secOf s.tc.now + dur) % 2 ^ 32 := by
  unfold entryExpiry putGrant entryWord
  rw [List.getD_eq_getElem?_getD, List.getElem?_set_self (by rw [List.length_set]; omega)]
  rfl

theorem grantType_lt {m t : Nat} (h : grantType m = some t) : t < 3 := by
  unfold grantType at h
  split at h
  · cases h; decide
  · split at h
    · cases h; decide
    · split at h
      · cases h; decide
      · cases h

/-- What a grant leaves in the engine (R299). -/
theorem granted_spec (s : State) (i : Nat) (auth : Bool) (t : Nat) (log : Int) (g old : Nat) :
    (s.granted i auth t log g old).pe.commit = s.pe.commit - old + rate16 log ∧
      (s.granted i auth t log g old).tblEntry i = s.grantEntry i auth t log g := by
  unfold granted
  generalize s.grantEntry i auth t log g = e
  obtain ⟨hc, ht⟩ := relisted_parts (s.committed i e (s.pe.commit - old + rate16 log)) i
  exact ⟨hc.trans (committed_commit s i e _), (tblEntry_of_table ht i).trans (tblEntry_putEntry_same _ i e)⟩

theorem denied_spec {s t : State} (hp : t.pe = s.pe) (hd : t.rdN Reg.PE_DENY = s.rdN Reg.PE_DENY) :
    t.denied.1 = 0 ∧ t.denied.2.pe = s.pe ∧ t.denied.2.rdN Reg.PE_DENY = oneMore (s.rdN Reg.PE_DENY) :=
  ⟨rfl, hp, (rdN_bump_same t _).trans (by rw [hd])⟩

/-- Why a request for a grant is denied (R299). -/
def Denies (s : State) (key : ClientKey) (t : Nat) (log : Int) (dur : Nat) : Prop :=
  log < (s.logRange key.svc).1 ∨ (s.logRange key.svc).2 < log ∨ dur < bitsOf (s.rdN Reg.PE_GRANT) 16 16 ∨
    ((s.lookup key).1 = none ∧ 1048576 ≤ s.rdN Reg.PE_TBL_USED) ∨
    s.rdN Reg.PE_RATE_MAX * 2 * s.get Fld.PE_CAP_LANES < s.pe.commit - s.oldRate key t + rate16 log

theorem grantOne_denied {s : State} {key : ClientKey} (vid : Nat) (auth : Bool) {m t : Nat} {log : Int} {dur : Nat} (ht : grantType m = some t)
    (h : s.Denies key t log dur) : s.grantOne key vid auth m log dur = s.denied ∨ s.grantOne key vid auth m log dur = (s.evt Fld.PE_EVT_TABLE_FULL).denied := by
  rw [grantOne_eq s key vid auth log dur ht]
  by_cases h1 : (log < (s.logRange key.svc).1 || (s.logRange key.svc).2 < log) = true
  · exact .inl (if_pos h1)
  rw [if_neg h1]
  by_cases h2 : dur < bitsOf (s.rdN Reg.PE_GRANT) 16 16
  · exact .inl (if_pos h2)
  rw [if_neg h2]
  by_cases h3 : ((s.lookup key).1.isNone && 1048576 ≤ s.rdN Reg.PE_TBL_USED) = true
  · exact .inr (if_pos h3)
  rw [if_neg h3]
  refine .inl (if_pos ?_)
  simp only [Bool.or_eq_true, decide_eq_true_eq, not_or] at h1
  simp only [Bool.and_eq_true, Option.isNone_iff_eq_none, decide_eq_true_eq] at h3
  rcases h with h | h | h | h | h
  · exact absurd h h1.1
  · exact absurd h h1.2
  · exact absurd h h2
  · exact absurd h h3
  · exact h

theorem grantOne_found {s : State} {key : ClientKey} (vid : Nat) (auth : Bool) {m t : Nat} {log : Int} {dur i : Nat} (ht : grantType m = some t)
    (h : ¬s.Denies key t log dur) (hi : (s.lookup key).1 = some i) :
    s.grantOne key vid auth m log dur = (min dur (bitsOf (s.rdN Reg.PE_GRANT) 0 16),
      s.granted i auth t log (min dur (bitsOf (s.rdN Reg.PE_GRANT) 0 16)) (s.oldRate key t)) := by
  simp only [Denies, not_or] at h
  obtain ⟨h1, h2, h3, h4, h5⟩ := h
  rw [grantOne_eq s key vid auth log dur ht, if_neg (by simpa using And.intro (not_lt.mp h1) (not_lt.mp h2)), if_neg h3, if_neg (by rw [hi]; simp), if_neg h5]
  unfold grantAt
  rw [hi]

end State

theorem unicastGrants : Claims.UnicastGrants := by
  intro s key vid auth m t log dur ht
  refine ⟨fun h => ?_, fun h i hi he => ?_⟩
  · rcases State.grantOne_denied vid auth ht h with e | e
    · rw [e]
      exact State.denied_spec rfl rfl
    · rw [e]
      exact State.denied_spec (evt_pe _ _) (State.rdN_of_rd (rd_evt_other _ _ (by decide) (by decide)))
  · have e := State.grantOne_found vid auth ht h hi
    rw [e]
    obtain ⟨hc, hentry⟩ := s.granted_spec i auth t log (min dur (bitsOf (s.rdN Reg.PE_GRANT) 0 16)) (s.oldRate key t)
    have hlen : (if auth then (s.tblEntry i).set 0 (setBitAt (entryWord (s.tblEntry i) 0) 26) else s.tblEntry i).length = 16 := by
      split
      · rw [List.length_set, he]
      · exact he
    refine ⟨rfl, hc, ?_, ?_⟩
    · rw [hentry]
      exact s.entryGranted_putGrant log _ hlen
    · rw [hentry]
      exact s.entryExpiry_putGrant log _ hlen (State.grantType_lt ht)

/-! ### A master's messages (R291 to R295) -/

namespace State

/-- A command that needs both classes waits with the wheel, or is served (R103, R307). -/
def takeBoth (s after : State) (c a : Nat) (i : Instr) (serve : State → State) : State :=
  if !(s.admitBoth after c a).1 then (s.admitBoth after c a).2.withhold i else serve (s.admitBoth after c a).2

theorem takeBoth_state {s : State} (after : State) {c : Nat} (a : Nat) (i : Instr) (serve : State → State) (h : s.admits 4 c = false) :
    s.Withheld 4 i (s.takeBoth after c a i serve) := by
  unfold takeBoth
  rw [admitBoth_state after a h]
  exact withheld_stall s i (by decide)

theorem takeBoth_auth {s : State} (after : State) {c a : Nat} (i : Instr) (serve : State → State) (h : s.admits 4 c = true)
    (h3 : s.admits 3 a = false) : s.Withheld 3 i (s.takeBoth after c a i serve) := by
  unfold takeBoth
  rw [admitBoth_auth after h h3]
  exact withheld_stall s i (by decide)

theorem takeBoth_admitted {s : State} (after : State) {c a : Nat} (i : Instr) (serve : State → State) (h : s.admits 4 c = true)
    (h3 : s.admits 3 a = true) : s.takeBoth after c a i serve = serve (after.spentBoth c a) := by
  unfold takeBoth
  rw [admitBoth_admitted after h h3]
  rfl

/-- A Sync that sets out leaves time, the requests counted, and all of the engine but the messages that wait for an egress stamp. -/
theorem sendSync_keeps (s : State) (k : Nat) {p : Nat} (hp : p < 16) (seq : Nat) (uni : Bool) (log : Int) (hdr ghdr : List Byte) :
    (∃ w, (s.sendSync k p seq uni log hdr ghdr).pe = { s.pe with twoStep := w }) ∧ (s.sendSync k p seq uni log hdr ghdr).tc = s.tc ∧
      (s.sendSync k p seq uni log hdr ghdr).rd64 Reg.PE_RX_L = s.rd64 Reg.PE_RX_L := by
  unfold sendSync
  dsimp only
  split
  · exact ⟨⟨s.pe.twoStep, rfl⟩, rfl, rfl⟩
  split
  · generalize hu : s.svcSend k p hdr _ _ = u
    have h := s.svcSend_keeps k hp hdr (s.svcHead k p 0 512 uni 0 seq 0 (if uni then 0x7F else wordOf 8 log) ++ List.replicate 10 0) (some s.lateAt)
    rw [hu] at h
    obtain ⟨h1, h2, h3⟩ := h
    exact ⟨⟨_, by rw [setPe_pe, h1]⟩, h2, h3⟩
  · exact ⟨⟨s.pe.twoStep, rfl⟩, rfl, rfl⟩

theorem spentBoth_pe (s : State) (c a : Nat) : (s.spentBoth c a).pe = s.pe := by
  have h (t : State) (i n : Nat) : (t.admitted i n).pe = t.pe := (spent_admitted t i n).pe
  unfold spentBoth
  split
  · split
    · rfl
    · exact h s 4 c
  · split
    · exact h s 3 a
    · exact (h _ 3 a).trans (h s 4 c)

/-- What BMCA notes of an Announce at a port (R291). -/
def noted (s : State) (k p : Nat) (b : List Byte) (o : Nat) (x : PePort) : PePort :=
  { x with foreign := noteForeign x.foreign (ptpSource b o) s.tc.now (announceSet b o), passive := x.passive || (s.takeForeign k p b o).betterForeign k p }

theorem refreshPStates_writes (s : State) : Writes (fun a => a = Reg.PE_STAT ∨ ∃ j, j < 4 ∧ a = Reg.PE_SVCk_PSTATE j) s s.refreshPStates := by
  have states (ks : List Nat) (hks : ∀ k ∈ ks, k < 4) : ∀ t : State, Writes (fun a => a = Reg.PE_STAT ∨ ∃ j, j < 4 ∧ a = Reg.PE_SVCk_PSTATE j) t
      (ks.foldl (fun t k => t.wrN (Reg.PE_SVCk_PSTATE k) ((List.range 16).foldl (fun n p => n + t.pStateNow k p * 4 ^ p) 0)) t) := by
    induction ks with
    | nil => exact fun t => ⟨rfl, fun _ _ => rfl⟩
    | cons k ks ih => exact fun t => (writes_wrN t _ (.inr ⟨k, hks k (by simp), rfl⟩)).then (ih (fun j hj => hks j (by simp [hj])) _)
  unfold refreshPStates
  exact (states _ (fun k hk => List.mem_range.mp hk) s).then (writes_setB _ Fld.PE_STAT_SERVING _ (.inl rfl))

theorem modPePort_pe (s : State) (k p : Nat) (f : PePort → PePort) :
    (s.modPePort k p f).pe = { s.pe with ports := s.pe.ports.modify k (fun l => l.modify p f) } := rfl

/-- A foreign Announce joins its port's foreign masters, and makes the port PASSIVE if it is better (R291). -/
theorem svcAnnounce_pe {s : State} {k p : Nat} {b : List Byte} {o : Nat} (h : ¬(s.svcBmca k p = false ∨ (ptpSource b o).take 8 = (s.ptpIdent p).take 8)) :
    (s.svcAnnounce k p b o).pe = { s.pe with ports := s.pe.ports.modify k (fun l => l.modify p (s.noted k p b o)) } := by
  have taken : (s.takeForeign k p b o).pe = { s.pe with ports := s.pe.ports.modify k (fun l => l.modify p
      (fun x => { x with foreign := noteForeign x.foreign (ptpSource b o) s.tc.now (announceSet b o) })) } := rfl
  unfold svcAnnounce
  rw [if_neg (by simpa using h)]
  dsimp only
  cases hb : (s.takeForeign k p b o).betterForeign k p with
  | false =>
    have same : s.noted k p b o = fun x => { x with foreign := noteForeign x.foreign (ptpSource b o) s.tc.now (announceSet b o) } := by
      funext x
      unfold noted
      rw [hb, Bool.or_false]
    rw [if_neg Bool.false_ne_true, taken, same]
  | true =>
    have both : s.noted k p b o = (fun x => { x with passive := true }) ∘
        (fun x => { x with foreign := noteForeign x.foreign (ptpSource b o) s.tc.now (announceSet b o) }) := by
      funext x
      unfold noted
      rw [hb, Bool.or_true]
      rfl
    rw [if_pos rfl, (refreshPStates_writes _).touches.pe]
    show ((s.takeForeign k p b o).modPePort k p (fun x => { x with passive := true })).pe = _
    rw [modPePort_pe, taken, both]
    dsimp only
    rw [List.modify_modify_eq]
    congr 2
    funext l
    exact List.modify_modify_eq _ _ p l

/-- The clients that take an Announce. -/
def annClients (s : State) (p : Nat) (b : List Byte) (o : Nat) : List Nat := [0, 1].filter (fun i => s.clTakes i p b o)

/-- An Announce that is admitted. -/
def annServe (s s1 : State) (p : Nat) (b : List Byte) (o : Nat) : State :=
  if (s.verifyMsg b o).1 = .bad then s1.authFail p b
  else (s.annClients p b o).foldl (fun t i => t.clAnnounce i b o ((s.verifyMsg b o).1 == .good))
    (match s.svcOf p b o with | some k => s1.svcAnnounce k p b o | none => s1)

/-- An Announce that someone takes. -/
def annTake (s : State) (p : Nat) (b : List Byte) (o : Nat) : State :=
  s.takeBoth s 0 (s.verifyMsg b o).2 (.announceReceive (Fin.ofNat 16 p) b) (fun s1 => s.annServe s1 p b o)

theorem announceReceive_eq {s : State} {p : Nat} {b : List Byte} {o : Nat} (ho : ptpOff b = some o) :
    s.announceReceive p b = if ptpType b o ≠ 11 then s else if (s.svcOf p b o).isNone && (s.annClients p b o).isEmpty then s else s.annTake p b o := by
  unfold announceReceive
  rw [ho]
  rfl

theorem annClients_empty {s : State} {p : Nat} {b : List Byte} {o : Nat} (h0 : s.clTakes 0 p b o = false) (h1 : s.clTakes 1 p b o = false) :
    s.annClients p b o = [] := by
  unfold annClients
  rw [List.filter_cons_of_neg (by simp [h0]), List.filter_cons_of_neg (by simp [h1]), List.filter_nil]

theorem annClients_isEmpty (s : State) (p : Nat) (b : List Byte) (o : Nat) :
    (s.annClients p b o).isEmpty = (!s.clTakes 0 p b o && !s.clTakes 1 p b o) := by
  unfold annClients
  cases h0 : s.clTakes 0 p b o <;> cases h1 : s.clTakes 1 p b o <;> simp [h0, h1]

theorem emitPkt_pe (s : State) (source cls : Nat) (name : String) (p : Nat) (b : List Byte) : (s.emitPkt source cls name p b).pe = s.pe :=
  (queued_emitPkt s source cls name p b).pe

theorem authFail_pe (s : State) (p : Nat) (b : List Byte) : (s.authFail p b).pe = s.pe := by
  unfold authFail
  rw [emitPkt_pe, evt_pe, bump_pe]

end State

/-- ANNOUNCE_RECEIVE (R291). -/
theorem announceMessages (p : Fin 16) (b : List Byte) (s : State) : Effect (.announceReceive p b) s (fun u =>
      match ptpOff b with
      | none => u = s
      | some o =>
        let svc := s.svcOf p.val b o
        let v := s.verifyMsg b o
        if s.halted = true ∨ ptpType b o ≠ 11 ∨ (svc = none ∧ s.clTakes 0 p.val b o = false ∧ s.clTakes 1 p.val b o = false) then u = s
        else if s.admits 4 0 = false then s.Withheld 4 (.announceReceive p b) u
        else if s.admits 3 v.2 = false then s.Withheld 3 (.announceReceive p b) u
        else
          (v.1 = .bad → u.rdN Reg.PE_AUTH_FAIL = oneMore (s.rdN Reg.PE_AUTH_FAIL) ∧ u.pe = s.pe) ∧
          (∀ k, svc = some k → v.1 = .absent → s.clTakes 0 p.val b o = false → s.clTakes 1 p.val b o = false →
            if s.svcBmca k p.val = false ∨ (ptpSource b o).take 8 = (s.ptpIdent p.val).take 8 then u = s
            else u.pe = { s.pe with ports := s.pe.ports.modify k (fun l => l.modify p.val (s.noted k p.val b o)) })) := by
  refine ⟨_, engine_eq s _, ?_⟩
  have idle {x : State} (hx : x = s) : (if s.safe || s.boot.sleeping then s else x) = s := by rw [hx, ite_self]
  cases ho : ptpOff b with
  | none => exact idle (by unfold State.announceReceive; rw [ho])
  | some o =>
    dsimp only
    rw [State.announceReceive_eq ho]
    by_cases hg : s.halted = true ∨ ptpType b o ≠ 11 ∨ (s.svcOf p.val b o = none ∧ s.clTakes 0 p.val b o = false ∧ s.clTakes 1 p.val b o = false)
    · rw [if_pos hg]
      rcases hg with hh | ht | ⟨hk, h0, h1⟩
      · exact if_pos hh
      · exact idle (if_pos ht)
      · refine idle ?_
        rw [hk, State.annClients_empty h0 h1]
        exact ite_self s
    rw [if_neg hg]
    simp only [not_or] at hg
    obtain ⟨hrun, ht, hg⟩ := hg
    have taken : ¬((s.svcOf p.val b o).isNone && (s.annClients p.val b o).isEmpty) = true := by
      rw [State.annClients_isEmpty]
      simpa using hg
    rw [if_neg (show ¬(s.safe || s.boot.sleeping) = true from hrun), if_neg ht, if_neg taken]
    unfold State.annTake
    rw [show Fin.ofNat 16 p.val = p from Fin.ofNat_val_eq_self p]
    by_cases h4 : s.admits 4 0 = false
    · rw [if_pos h4]
      exact State.takeBoth_state s _ _ _ h4
    rw [if_neg h4]
    rw [Bool.not_eq_false] at h4
    by_cases h3 : s.admits 3 (s.verifyMsg b o).2 = false
    · rw [if_pos h3]
      exact State.takeBoth_auth s _ _ h4 h3
    rw [if_neg h3]
    rw [Bool.not_eq_false] at h3
    rw [State.takeBoth_admitted s _ _ h4 h3]
    refine ⟨fun hv => ?_, fun k hk hv h0 h1 => ?_⟩
    · have e : s.annServe (s.spentBoth 0 (s.verifyMsg b o).2) p.val b o = (s.spentBoth 0 (s.verifyMsg b o).2).authFail p.val b := if_pos hv
      rw [e, State.authFail_pe, State.spentBoth_pe]
      exact ⟨(State.authFail_spec _ _ _).1.trans (by rw [(State.peLooks_spentBoth s _ _).rdN (by decide)]), rfl⟩
    · have e : s.annServe s p.val b o = s.svcAnnounce k p.val b o := by
        unfold State.annServe
        rw [if_neg (by rw [hv]; decide), hk, State.annClients_empty h0 h1, List.foldl_nil]
      rw [State.verifyMsg_absent hv, State.spentBoth_zero, e]
      by_cases hb : s.svcBmca k p.val = false ∨ (ptpSource b o).take 8 = (s.ptpIdent p.val).take 8
      · rw [if_pos hb]
        exact if_pos (by simpa using hb)
      · rw [if_neg hb]
        exact State.svcAnnounce_pe hb

/-- ANNOUNCE_RECEIPT_TIMEOUT (R291). -/
theorem announceTimeouts (k : Fin 4) (p : Fin 16) (s : State) : Effect (.announceReceiptTimeout k p) s (fun u =>
      if s.halted = true ∨ (s.pePort k.val p.val).passive = false then u = s
      else u.pe = { s.pe with ports := s.pe.ports.modify k.val (fun l => l.modify p.val (fun x => { x with passive := false, foreign := [] })) } ∧
        Writes (fun a => a = Reg.PE_STAT ∨ ∃ j, j < 4 ∧ a = Reg.PE_SVCk_PSTATE j) { s with pe := u.pe } u) := by
  refine ⟨_, engine_eq s _, ?_⟩
  dsimp only
  by_cases hg : s.halted = true ∨ (s.pePort k.val p.val).passive = false
  · rw [if_pos hg]
    rcases hg with hh | hq
    · exact if_pos hh
    · have e : s.announceTimeout k.val p.val = s := if_pos (by rw [hq]; rfl)
      rw [e, ite_self]
  rw [if_neg hg]
  rw [not_or] at hg
  rw [if_neg (show ¬(s.safe || s.boot.sleeping) = true from hg.1)]
  have e : s.announceTimeout k.val p.val = (s.modPePort k.val p.val (fun x => { x with passive := false, foreign := [] })).refreshPStates :=
    if_neg (by simpa using hg.2)
  rw [e]
  have w := State.refreshPStates_writes (s.modPePort k.val p.val (fun x => { x with passive := false, foreign := [] }))
  have hpe := w.touches.pe
  refine ⟨hpe, ?_⟩
  rw [hpe]
  exact w

namespace State

/-- A multicast message that is admitted (R292, R294, R295). -/
def multicastServe (s s1 : State) (k p : Nat) (sync : Bool) : State :=
  if sync then
    (s1.sendSync k p (s.pePort k p).seqSync false (s.svcLog k 1) (s.mcHeader k p false 319) (s.mcHeader k p false 320)).modPePort k p
      (fun x => { x with seqSync := (x.seqSync + 1) % 65536 })
  else
    (s1.svcSend k p (s.mcHeader k p false 320) (s.announceMsg k p (s.pePort k p).seqAnn false (s.svcLog k 0)) none).modPePort k p
      (fun x => { x with seqAnn := (x.seqAnn + 1) % 65536 })

theorem multicastDue_eq (s : State) (k p : Nat) (sync : Bool) : s.multicastDue k p sync =
    if !s.svcOn k || s.pState k p ≠ 1 || !s.flag (Fld.PE_SVCk_CFG_MC k) || (sync && !s.timeAllowed p) || s.svcHalted k then s
    else s.takeBoth s 0 (if sync then s.syncCost k else s.svcCost k 64) (.multicastMessageDue (Fin.ofNat 4 k) (Fin.ofNat 16 p) sync)
      (fun s1 => s.multicastServe s1 k p sync) := rfl

/-- A multicast message takes the next sequenceId. -/
theorem multicastServe_ports (s s1 : State) (k : Nat) {p : Nat} (hp : p < 16) (sync : Bool) :
    (s.multicastServe s1 k p sync).pe.ports = s1.pe.ports.modify k (fun l => l.modify p (fun x =>
      if sync then { x with seqSync := (x.seqSync + 1) % 65536 } else { x with seqAnn := (x.seqAnn + 1) % 65536 })) := by
  unfold multicastServe
  cases sync with
  | true =>
    obtain ⟨⟨w, h⟩, _, _⟩ := s1.sendSync_keeps k hp (s.pePort k p).seqSync false (s.svcLog k 1) (s.mcHeader k p false 319) (s.mcHeader k p false 320)
    rw [if_pos rfl, modPePort_pe, h]
    rfl
  | false =>
    obtain ⟨h, _, _⟩ := s1.svcSend_keeps k hp (s.mcHeader k p false 320) (s.announceMsg k p (s.pePort k p).seqAnn false (s.svcLog k 0)) none
    rw [if_neg Bool.false_ne_true, modPePort_pe, h]
    rfl

/-- The message that a Follow_Up ends, and with it those before that did not leave (R295). -/
def followed (s : State) (p n : Nat) : State :=
  s.setPe { s.pe with twoStep := s.pe.twoStep.modify p (fun l => l.filter (fun y => decide (n < y.id) || s.followHeld p y.id)) }

/-- The Follow_Up of a message whose egress stamp is `t1`. -/
def followSend (s s1 : State) (x : TwoStep) (o p t1 : Nat) : State :=
  let u := splitQ ((t1 : Int) + s.txExt p)
  let msg := (putBe x.tmpl (o + 8) 8 (wordOf 64 u.2)).drop o
  let body := if x.pdelay then msg.take 34 ++ ptpStamp u.1 ++ msg.drop 34 else msg ++ ptpStamp u.1
  s1.svcSend x.svc p (x.tmpl.take o) (body ++ s.tlvFor s.lateAt p) (some s.lateAt)

/-- A message whose egress stamp is known, of the offset of its PTP header. -/
def followTake (s : State) (x : TwoStep) (p n t1 : Nat) : Option Nat → State
  | none => s.followed p n
  | some o =>
    if !s.timeAllowed p || !s.svcOn x.svc then s.followed p n
    else if s.svcCost x.svc (44 + s.tlvLen) ≠ 0 && !s.admits 3 (s.svcCost x.svc (44 + s.tlvLen)) then
      (s.stall 3).withhold (.followUp (Fin.ofNat 16 p) n t1)
    else s.followSend (if s.svcCost x.svc (44 + s.tlvLen) = 0 then s.followed p n else (s.followed p n).admitted 3 (s.svcCost x.svc (44 + s.tlvLen))) x o p t1

theorem sendFollowUp_none {s : State} {p n : Nat} (t1 : Nat) (h : (s.pe.twoStep.getD p []).find? (fun x => x.id == n) = none) :
    s.sendFollowUp p n t1 = s := by
  unfold sendFollowUp
  rw [h]

theorem sendFollowUp_some {s : State} {p n : Nat} (t1 : Nat) {x : TwoStep} (h : (s.pe.twoStep.getD p []).find? (fun x => x.id == n) = some x) :
    s.sendFollowUp p n t1 = s.followTake x p n t1 (ptpOff x.tmpl) := by
  unfold sendFollowUp followTake
  rw [h]
  dsimp only
  cases ptpOff x.tmpl <;> rfl

/-- A Follow_Up that is not withheld ends its message's wait. -/
theorem followTake_pe {s : State} {x : TwoStep} {p : Nat} (hp : p < 16) (n t1 : Nat) {o : Option Nat}
    (h : ¬(o ≠ none ∧ s.timeAllowed p = true ∧ s.svcOn x.svc = true ∧ s.svcCost x.svc (44 + s.tlvLen) ≠ 0 ∧
      s.admits 3 (s.svcCost x.svc (44 + s.tlvLen)) = false)) : (s.followTake x p n t1 o).pe = (s.followed p n).pe := by
  cases o with
  | none => rfl
  | some o =>
    by_cases hq : (!s.timeAllowed p || !s.svcOn x.svc) = true
    · exact congrArg State.pe (if_pos hq)
    have hc : ¬(s.svcCost x.svc (44 + s.tlvLen) ≠ 0 && !s.admits 3 (s.svcCost x.svc (44 + s.tlvLen))) = true := by
      intro hc
      simp only [Bool.or_eq_true, Bool.not_eq_true', not_or, Bool.not_eq_false] at hq
      simp only [Bool.and_eq_true, decide_eq_true_eq, Bool.not_eq_true'] at hc
      exact h ⟨by simp, hq.1, hq.2, hc.1, hc.2⟩
    have e : s.followTake x p n t1 (some o) = s.followSend (if s.svcCost x.svc (44 + s.tlvLen) = 0 then s.followed p n
      else (s.followed p n).admitted 3 (s.svcCost x.svc (44 + s.tlvLen))) x o p t1 := (if_neg hq).trans (if_neg hc)
    rw [e]
    refine (svcSend_keeps _ _ hp _ _ _).1.trans ?_
    split
    · rfl
    · exact (spent_admitted _ 3 _).pe

end State

/-- MULTICAST_MESSAGE_DUE (R292). -/
theorem multicastMessages (k : Fin 4) (p : Fin 16) (sync : Bool) (s : State) : Effect (.multicastMessageDue k p sync) s (fun u =>
      if s.halted = true ∨ s.svcOn k.val = false ∨ s.pState k.val p.val ≠ 1 ∨ s.flag (Fld.PE_SVCk_CFG_MC k.val) = false ∨
          (sync = true ∧ s.timeAllowed p.val = false) ∨ s.svcHalted k.val = true then u = s
      else if s.admits 4 0 = false then s.Withheld 4 (.multicastMessageDue k p sync) u
      else if s.admits 3 (if sync then s.syncCost k.val else s.svcCost k.val 64) = false then s.Withheld 3 (.multicastMessageDue k p sync) u
      else u.pe.ports = s.pe.ports.modify k.val (fun l => l.modify p.val (fun x =>
        if sync then { x with seqSync := (x.seqSync + 1) % 65536 } else { x with seqAnn := (x.seqAnn + 1) % 65536 }))) := by
  refine ⟨_, engine_eq s _, ?_⟩
  have idle {x : State} (hx : x = s) : (if s.safe || s.boot.sleeping then s else x) = s := by rw [hx, ite_self]
  dsimp only
  rw [State.multicastDue_eq, show Fin.ofNat 16 p.val = p from Fin.ofNat_val_eq_self p, show Fin.ofNat 4 k.val = k from Fin.ofNat_val_eq_self k]
  by_cases hg : s.halted = true ∨ s.svcOn k.val = false ∨ s.pState k.val p.val ≠ 1 ∨ s.flag (Fld.PE_SVCk_CFG_MC k.val) = false ∨
      (sync = true ∧ s.timeAllowed p.val = false) ∨ s.svcHalted k.val = true
  · rw [if_pos hg]
    rcases hg with hh | hg
    · exact if_pos hh
    · exact idle (if_pos (by simpa [or_assoc] using hg))
  rw [if_neg hg]
  rw [not_or] at hg
  rw [if_neg (show ¬(s.safe || s.boot.sleeping) = true from hg.1), if_neg (show ¬(!s.svcOn k.val || s.pState k.val p.val ≠ 1 ||
    !s.flag (Fld.PE_SVCk_CFG_MC k.val) || (sync && !s.timeAllowed p.val) || s.svcHalted k.val) = true by simpa [or_assoc] using hg.2)]
  by_cases h4 : s.admits 4 0 = false
  · rw [if_pos h4]
    exact State.takeBoth_state s _ _ _ h4
  rw [if_neg h4]
  rw [Bool.not_eq_false] at h4
  by_cases h3 : s.admits 3 (if sync then s.syncCost k.val else s.svcCost k.val 64) = false
  · rw [if_pos h3]
    exact State.takeBoth_auth s _ _ h4 h3
  rw [if_neg h3]
  rw [Bool.not_eq_false] at h3
  rw [State.takeBoth_admitted s _ _ h4 h3, State.multicastServe_ports s _ k.val p.isLt sync, State.spentBoth_pe]

/-- FOLLOW_UP (R295). -/
theorem followUps (p : Fin 16) (n t1 : Nat) (s : State) : Effect (.followUp p n t1) s (fun u =>
      match (s.pe.twoStep.getD p.val []).find? (fun x => x.id == n) with
      | none => u = s
      | some x =>
        let cost := s.svcCost x.svc (44 + s.tlvLen)
        if s.halted then u = s
        else if ptpOff x.tmpl ≠ none ∧ s.timeAllowed p.val = true ∧ s.svcOn x.svc = true ∧ cost ≠ 0 ∧ s.admits 3 cost = false then
          s.Withheld 3 (.followUp p n t1) u
        else u.pe = (s.followed p.val n).pe) := by
  refine ⟨_, engine_eq s _, ?_⟩
  cases hx : (s.pe.twoStep.getD p.val []).find? (fun x => x.id == n) with
  | none =>
    dsimp only
    rw [State.sendFollowUp_none t1 hx, ite_self]
  | some x =>
    dsimp only
    rw [State.sendFollowUp_some t1 hx]
    by_cases hh : s.halted = true
    · rw [if_pos hh]
      exact if_pos hh
    rw [if_neg hh, if_neg (show ¬(s.safe || s.boot.sleeping) = true from hh)]
    by_cases hw : ptpOff x.tmpl ≠ none ∧ s.timeAllowed p.val = true ∧ s.svcOn x.svc = true ∧ s.svcCost x.svc (44 + s.tlvLen) ≠ 0 ∧
        s.admits 3 (s.svcCost x.svc (44 + s.tlvLen)) = false
    · rw [if_pos hw]
      obtain ⟨ho, h1, h2, h3, h4⟩ := hw
      obtain ⟨o, ho⟩ := Option.ne_none_iff_exists'.mp ho
      have e : s.followTake x p.val n t1 (ptpOff x.tmpl) = (s.stall 3).withhold (.followUp p n t1) := by
        rw [ho]
        refine (if_neg (by rw [h1, h2]; decide)).trans ((if_pos (by simp [h3, h4])).trans ?_)
        rw [show Fin.ofNat 16 p.val = p from Fin.ofNat_val_eq_self p]
      rw [e]
      exact withheld_stall s _ (by decide)
    · rw [if_neg hw]
      exact State.followTake_pe p.isLt n t1 hw

theorem masterMessages : Claims.MasterMessages := by
  intro p s
  exact ⟨fun b => announceMessages p b s, fun k => announceTimeouts k p s, fun k sync => multicastMessages k p sync s, fun n t1 => followUps p n t1 s⟩

end Sys2Proof.Machine
end

section
/-! PROOF. O36, its last part: withheld requests that age, lanes, table queries and uncorrectable errors (R306, R307, R312, R318). -/

namespace Sys2Proof.Machine

/-! ### PE_REQ_AGED (R307) -/

theorem requestsAge (s : State) : Effect .peReqAged s (fun u =>
      match s.whl.withheld.find? State.peHeld with
      | none => u = s
      | some c => if s.halted then u = s else u.whl = { s.whl with withheld := s.whl.withheld.erase c } ∧
        u.rdN Reg.PE_REQ_AGED = oneMore (s.rdN Reg.PE_REQ_AGED) ∧ Writes (· = Reg.PE_REQ_AGED) { s with whl := u.whl } u) := by
  refine ⟨_, engine_eq s _, ?_⟩
  cases s.whl.withheld.find? State.peHeld with
  | none => exact ite_self s
  | some c =>
    dsimp only
    by_cases hh : s.halted = true
    · rw [if_pos hh]
      exact if_pos hh
    rw [if_neg hh, if_neg (show ¬(s.safe || s.boot.sleeping) = true from hh)]
    exact ⟨rfl, State.rdN_bump_same { s with whl := { s.whl with withheld := s.whl.withheld.erase c } } _, writes_bump _ rfl⟩

/-! ### PE_LANE (R312) -/

namespace State

/-- One lane fewer. -/
def oneLane (s : State) : State := if s.get Fld.PE_CAP_LANES = 0 then s else s.set Fld.PE_CAP_LANES (s.get Fld.PE_CAP_LANES - 1)

theorem oneLane_get (s : State) : s.oneLane.get Fld.PE_CAP_LANES = s.get Fld.PE_CAP_LANES - 1 := by
  have hlt : s.get Fld.PE_CAP_LANES < 2 ^ 4 := bitsOf_lt _ 0 4
  unfold oneLane
  by_cases h : s.get Fld.PE_CAP_LANES = 0
  · rw [if_pos h, h]
  · rw [if_neg h, get_set_same _ _ _ (by decide)]
    exact Nat.mod_eq_of_lt (by show _ < 2 ^ 4; omega)

theorem oneLane_lost (s : State) : s.oneLane.rdN Reg.PE_LANE_LOST = s.rdN Reg.PE_LANE_LOST := by
  unfold oneLane
  split
  · rfl
  · exact rdN_wrN_other s _ (by decide)

/-- The message that a lane held is counted. -/
def laneLost (s : State) (busy : Bool) : State := if busy then s.bump Reg.PE_LANE_LOST else s

theorem peLane_eq (s : State) (busy : Bool) : s.peLane busy = (s.oneLane.laneLost busy).evt Fld.PE_EVT_LANE_FENCE := rfl

end State

theorem lanesFence (s : State) (busy : Bool) (hq : s.consequential 19 = false ∨ s.safe = true) : Effect (.peLane busy) s (fun u =>
      if s.halted then u = s
      else u.get Fld.PE_CAP_LANES = s.get Fld.PE_CAP_LANES - 1 ∧ u.flag Fld.PE_EVT_LANE_FENCE = true ∧
        u.rdN Reg.PE_LANE_LOST = (if busy then oneMore (s.rdN Reg.PE_LANE_LOST) else s.rdN Reg.PE_LANE_LOST)) := by
  refine ⟨_, engine_eq s _, ?_⟩
  dsimp only
  by_cases hh : s.halted = true
  · rw [if_pos hh]
    exact if_pos hh
  have fences : s.fencing 19 0 (fun t => t.peLane busy) = s.peLane busy := if_neg (by rcases hq with h | h <;> simp [h])
  rw [if_neg hh, if_neg (show ¬(s.safe || s.boot.sleeping) = true from hh), fences, State.peLane_eq]
  refine ⟨?_, flag_evt_same _ _ rfl (by decide) (by decide) rfl, ?_⟩
  · rw [get_evt_other _ _ _ (by decide) (by decide), ← s.oneLane_get]
    cases busy with
    | false => rfl
    | true => exact State.get_bump_other _ _ (by decide)
  · rw [State.rdN_of_rd (rd_evt_other _ _ (by decide) (by decide)), ← s.oneLane_lost]
    cases busy with
    | false => rfl
    | true => exact State.rdN_bump_same _ _

/-! ### Table queries (R306, R318) -/

/-- A write of PE_TBL_QIDX asks for the entry (R318). -/
theorem tableQuery_write {s : State} {req : Requester} {ap : Aperture} (v : Word) (h : s.Admits req ap Reg.PE_TBL_QIDX) :
    s.writeAt req ap Reg.PE_TBL_QIDX v.toNat = ((s.result req 0 0).tableQuery v.toNat).mirrorWatch := by
  obtain ⟨r, hr, hm⟩ : ∃ r, findRow Reg.PE_TBL_QIDX = some r ∧ r.rw ||| r.rwl ||| r.w1c ||| r.wo ||| r.rsv ≠ 0 := by decide +kernel
  rw [State.writeAt_admitted _ h hr hm (by decide) (by decide), Nat.mod_eq_of_lt v.isLt]
  rfl

/-- A query is charged, and BUSY until its words are valid. -/
theorem tableQuery_spec (s : State) (v : Nat) : (s.tableQuery v).rdN Reg.PE_TBL_QIDX = v % 2 ^ 20 ∧
    (s.tableQuery v).flag Fld.PE_TBL_QSTAT_BUSY = true ∧ (s.tableQuery v).whl = { s.whl with spent := s.whl.spent.modify 4 (· + 1) } ∧
    Touches (fun a => a = Reg.PE_TBL_QIDX ∨ a = Reg.PE_TBL_QSTAT) { s with whl := (s.tableQuery v).whl } (s.tableQuery v) := by
  have busy (t : State) : (t.wrN Reg.PE_TBL_QSTAT 1).flag Fld.PE_TBL_QSTAT_BUSY = true := by
    unfold State.flag State.get
    rw [State.rdN_wrN_same]
    rfl
  refine ⟨?_, busy _, rfl, rfl, fun a ha _ => ?_⟩
  · unfold State.tableQuery
    rw [State.rdN_wrN_other _ _ (by decide)]
    show (s.wrN Reg.PE_TBL_QIDX (v % 2 ^ 20)).rdN Reg.PE_TBL_QIDX = _
    rw [State.rdN_wrN_same]
    omega
  · rw [not_or] at ha
    exact (State.rd_wrN_other _ _ ha.2).trans (State.rd_wrN_other s _ ha.1)

theorem queriesStart (s : State) (req : Requester) (ap : Aperture) (v : Word) (h : s.Admits req ap Reg.PE_TBL_QIDX) :
    Effect (.tableQuery req ap v) s (fun u =>
      u.rdN Reg.PE_TBL_QIDX = v.toNat % 2 ^ 20 ∧ u.flag Fld.PE_TBL_QSTAT_BUSY = true ∧ u.whl = { s.whl with spent := s.whl.spent.modify 4 (· + 1) } ∧
        Accesses (fun a => a = Reg.PE_TBL_QIDX ∨ a = Reg.PE_TBL_QSTAT) { s with whl := u.whl } u) := by
  refine ⟨_, rfl, ?_⟩
  rw [tableQuery_write v h]
  obtain ⟨h1, h2, h3, h4⟩ := tableQuery_spec (s.result req 0 0) v.toNat
  have hw : ((s.result req 0 0).tableQuery v.toNat).mirrorWatch.whl = ((s.result req 0 0).tableQuery v.toNat).whl :=
    (congrArg State.whl (State.mirrorWatch_same _) :)
  refine ⟨by rw [State.mirrorWatch_rdN, h1], by rw [State.mirrorWatch_flag, h2], by rw [hw, h3]; rfl, ?_⟩
  rw [hw]
  exact accesses_of_touches (req := req) (s := { s with whl := ((s.result req 0 0).tableQuery v.toNat).whl }) h4

theorem queriesEnd (s : State) (ue : Bool) : Effect (.tableQueryDone ue) s (fun u =>
      let i := bitsOf (s.rdN Reg.PE_TBL_QIDX) 0 20
      if s.halted = true ∨ s.flag Fld.PE_TBL_QSTAT_BUSY = false then u = s
      else if ue then u.rdN Reg.PE_TBL_QSTAT = 2 ∧ entryValid (u.tblEntry i) = false
      else u.rdN Reg.PE_TBL_QSTAT = 0 ∧ u.pe = s.pe ∧
        ∀ (j : Fin 16) (w : Nat), (s.entryView i).length = 16 → (s.entryView i)[j.val]? = some w → u.rdN (Reg.PE_TBL_QW j.val) = w % 2 ^ 32) := by
  refine ⟨_, engine_eq s _, ?_⟩
  dsimp only
  by_cases hg : s.halted = true ∨ s.flag Fld.PE_TBL_QSTAT_BUSY = false
  · rw [if_pos hg]
    rcases hg with hh | hb
    · exact if_pos hh
    · have e : s.tableQueryDone ue = s := if_pos (by rw [hb]; rfl)
      rw [e, ite_self]
  rw [if_neg hg]
  rw [not_or] at hg
  rw [if_neg (show ¬(s.safe || s.boot.sleeping) = true from hg.1)]
  have busy : ¬(!s.flag Fld.PE_TBL_QSTAT_BUSY) = true := by simpa using hg.2
  generalize hi : bitsOf (s.rdN Reg.PE_TBL_QIDX) 0 20 = i
  cases ue with
  | true =>
    have e : s.tableQueryDone true = (s.freeEntry i).wrN Reg.PE_TBL_QSTAT 2 := hi ▸ (if_neg busy).trans (if_pos rfl)
    rw [if_pos rfl, e]
    exact ⟨State.rdN_wrN_same _ _ _, s.freeEntry_invalid i⟩
  | false =>
    have e : s.tableQueryDone false = (s.wrWords (Reg.PE_TBL_QW 0) (s.entryView i)).wrN Reg.PE_TBL_QSTAT 0 :=
      hi ▸ (if_neg busy).trans (if_neg Bool.false_ne_true)
    have wordsPe (l : List Nat) : ∀ (t : State) (a : Nat), (t.wrWords a l).pe = t.pe := by
      induction l with
      | nil => exact fun _ _ => rfl
      | cons w r ih => exact fun t a => ih (t.wrN a w) (a + 4)
    rw [if_neg Bool.false_ne_true, e]
    refine ⟨State.rdN_wrN_same _ _ _, wordsPe _ s _, fun j w _ hw => ?_⟩
    have hj := j.isLt
    rw [State.rdN_wrN_other _ _ (by unfold Reg.PE_TBL_QW Reg.PE_TBL_QSTAT; omega), ← State.rdN_wrWords _ s (Reg.PE_TBL_QW 0) j.val w hw]
    unfold Reg.PE_TBL_QW
    rw [show 0x71080 + j.val * 0x4 = 0x71080 + 0 * 0x4 + 4 * j.val by omega]

/-! ### MEM_UE (R306) -/

theorem errorsFree (s : State) (addr : Nat) : Effect (.memUe addr) s (fun u =>
      let f := s.raiseFault 25 (addr / 4096 % 2) false
      let base := s.rd64 Reg.PE_TBL_BASE_L
      u.jn = { f.jn with ring := f.jn.ring.map (fun b => if s.inBlock addr b then { b with damaged := true } else b) } ∧
        if base ≤ addr ∧ addr < base + 67108864 then entryValid (u.tblEntry ((addr - base) / 64)) = false else u.pe = f.pe) := by
  refine ⟨_, rfl, ?_⟩
  dsimp only
  unfold State.memUe
  dsimp only
  generalize s.raiseFault 25 (addr / 4096 % 2) false = f
  generalize s.rd64 Reg.PE_TBL_BASE_L = base
  by_cases h : base ≤ addr ∧ addr < base + 67108864
  · have e : (base ≤ addr && addr < base + 67108864) = true := by simpa using h
    rw [if_pos h, if_pos e]
    refine ⟨?_, f.freeEntry_invalid ((addr - base) / 64)⟩
    rw [(f.tabled_freeEntry ((addr - base) / 64)).jn]
  · have e : ¬(base ≤ addr && addr < base + 67108864) = true := by simpa using h
    rw [if_neg h, if_neg e]
    exact ⟨rfl, rfl⟩

theorem ptpUpkeep : Claims.PtpUpkeep := by
  intro s
  exact ⟨requestsAge s, lanesFence s, queriesStart s, queriesEnd s, errorsFree s⟩

end Sys2Proof.Machine
end

section
/-! PROOF. O36, negotiation and the calendar: what the engine's services leave as they are, visit by visit (R299, R303, R304). -/

namespace Sys2Proof.Machine

/-- Time, the calendar's tick and the count of requests are as they were. -/
structure Serves (s t : State) : Prop where
  tc : t.tc = s.tc
  tick : t.pe.lastTick = s.pe.lastTick
  received : t.rd64 Reg.PE_RX_L = s.rd64 Reg.PE_RX_L

theorem Serves.refl (s : State) : Serves s s := ⟨rfl, rfl, rfl⟩

theorem Serves.then {s t u : State} (h : Serves s t) (k : Serves t u) : Serves s u :=
  ⟨k.tc.trans h.tc, k.tick.trans h.tick, k.received.trans h.received⟩

theorem serves_foldl {α : Type} (l : List α) (f : State → α → State) (h : ∀ (t : State) (x : α), Serves t (f t x)) (s : State) : Serves s (l.foldl f s) := by
  induction l generalizing s with
  | nil => exact .refl s
  | cons x r ih => exact (h s x).then (ih _)

theorem received_of_rd {s t : State} (h : t.rd Reg.PE_RX_L = s.rd Reg.PE_RX_L) (k : t.rd (Reg.PE_RX_L + 4) = s.rd (Reg.PE_RX_L + 4)) :
    t.rd64 Reg.PE_RX_L = s.rd64 Reg.PE_RX_L := by
  unfold State.rd64
  rw [State.rdN_of_rd h, State.rdN_of_rd k]

theorem Tabled.serves {s t : State} (h : Tabled s t) : Serves s t :=
  ⟨h.tc, h.tick, received_of_rd (h.rd (not_tableWord (by decide) (by decide) (by decide))) (h.rd (not_tableWord (by decide) (by decide) (by decide)))⟩

theorem Spent.serves {s t : State} (h : Spent s t) : Serves s t :=
  ⟨h.tc, by rw [h.pe], received_of_rd (h.2 _ (by decide)) (h.2 _ (by decide))⟩

theorem serves_wrN (s : State) {a : Nat} (n : Nat) (h : Reg.PE_RX_L ≠ a) (k : Reg.PE_RX_L + 4 ≠ a) : Serves s (s.wrN a n) :=
  ⟨rfl, rfl, received_of_rd (State.rd_wrN_other s n h) (State.rd_wrN_other s n k)⟩

theorem serves_evt (s : State) (f : Fld) (h : Reg.PE_RX_L ≠ pageOf f.addr * 0x1000 + 0x10) (k : Reg.PE_RX_L + 4 ≠ pageOf f.addr * 0x1000 + 0x10) :
    Serves s (s.evt f) :=
  ⟨evt_tc s f, by rw [evt_pe], received_of_rd (rd_evt_other s f h (by decide)) (rd_evt_other s f k (by decide))⟩

theorem serves_tick (s : State) : Serves s s.tick := ⟨rfl, rfl, rfl⟩

theorem serves_cache (s : State) (c : List (Nat × List (Nat × Bool))) : Serves s (s.setPe { s.pe with cache := c }) := ⟨rfl, rfl, rfl⟩

theorem serves_late (s : State) (l : List (Nat × Nat)) : Serves s (s.setPe { s.pe with late := l }) := ⟨rfl, rfl, rfl⟩

namespace State

theorem serves_stall (s : State) {i : Nat} (hi : i < 16) : Serves s (s.stall i) := by
  have h := stalls_stall s i
  have word (a : Nat) (hp : pageOf a = 0x70) : (s.stall i).rd a = s.rd a := by
    refine h.2 a ?_
    have h1 : a ≠ Reg.WHLn_STAT i := by rintro rfl; unfold pageOf Reg.WHLn_STAT at hp; omega
    have h2 : a ≠ Reg.WHLn_STALLS i := by rintro rfl; unfold pageOf Reg.WHLn_STALLS at hp; omega
    have h3 : a ≠ Reg.WHL_EVT := by rintro rfl; revert hp; decide
    have h4 : counterPage a = false := by unfold counterPage; rw [hp]; decide
    unfold stallWords
    simp [h1, h2, h3, h4]
  exact ⟨h.tc, by rw [h.pe], received_of_rd (word _ (by decide)) (word _ (by decide))⟩

theorem serves_cacheAccess (s : State) (i : Nat) (w : Bool) : Serves s (s.cacheAccess i w).2 := by
  have hit (t : State) : Serves t (t.wrapBy Reg.PE_CACHE_HIT 1) := serves_wrN t _ (by decide) (by decide)
  have miss (t : State) : Serves t (t.wrapBy Reg.PE_CACHE_MISS 1) := serves_wrN t _ (by decide) (by decide)
  unfold cacheAccess
  dsimp only
  split
  · exact (serves_cache s _).then (hit _)
  · split
    · exact (miss s).then (serves_cache _ _)
    · exact ((miss s).then (serves_cache _ _)).then (serves_tick _)

theorem serves_admitBoth {s after : State} (h : Serves s after) (c a : Nat) : Serves s (s.admitBoth after c a).2 := by
  have spent (t : State) (i n : Nat) : Serves t (t.admitted i n) := (spent_admitted t i n).serves
  unfold admitBoth
  split
  · exact serves_stall s (by decide)
  split
  · exact serves_stall s (by decide)
  dsimp only
  have h4 : Serves s (if c = 0 then after else after.admitted 4 c) := by
    split
    · exact h
    · exact h.then (spent _ _ _)
  split
  · exact h4
  · exact h4.then (spent _ _ _)

theorem serves_svcSend (s : State) (k : Nat) {p : Nat} (hp : p < 16) (hdr msg : List Byte) (late : Option Nat) : Serves s (s.svcSend k p hdr msg late) := by
  obtain ⟨h1, h2, h3⟩ := s.svcSend_keeps k hp hdr msg late
  exact ⟨h2, by rw [h1], h3⟩

theorem serves_sendSync (s : State) (k : Nat) {p : Nat} (hp : p < 16) (seq : Nat) (uni : Bool) (log : Int) (hdr ghdr : List Byte) :
    Serves s (s.sendSync k p seq uni log hdr ghdr) := by
  obtain ⟨⟨w, h1⟩, h2, h3⟩ := s.sendSync_keeps k hp seq uni log hdr ghdr
  exact ⟨h2, by rw [h1], h3⟩

/-! ### A visit (R303) -/

theorem entryPort_lt (e : List Nat) : entryPort e < 16 := bitsOf_lt _ 22 4

theorem serves_visitSend (s : State) (i t : Nat) : Serves s (s.visitSend i t) := by
  have hp := entryPort_lt (s.tblEntry i)
  unfold visitSend
  dsimp only
  split
  · exact .refl s
  split
  · exact (serves_svcSend s _ hp _ _ _).then (tabled_putEntry _ _ _).serves
  split
  · exact .refl s
  · exact (serves_sendSync s _ hp _ _ _ _ _).then (tabled_putEntry _ _ _).serves

theorem serves_visit (s : State) (i a n : Nat) : Serves s (s.visit i a n) := by
  have ends (t : State) (m : Nat) : Serves t (if entryExpiry (t.tblEntry i) m < secOf t.tc.now % 2 ^ 32 then t.endGrant i m else t) := by
    split
    · exact (tabled_endGrant t i m).serves
    · exact .refl t
  have sent (t : State) (l : List Nat) : Serves t ([0, 1, 2].foldl (fun t m => if entryExpiry (t.tblEntry i) m < secOf t.tc.now % 2 ^ 32 then t.endGrant i m
      else t) (l.foldl (fun t m => t.visitSend i m) t)) := (serves_foldl _ _ (fun u m => serves_visitSend u i m) t).then (serves_foldl _ _ ends _)
  have adm (c : Nat) : Serves s (s.admitBoth (s.cacheAccess i true).2 (s.cacheAccess i true).1 c).2 :=
    serves_admitBoth (serves_cacheAccess s i true) _ c
  unfold visit
  dsimp only
  split
  · exact (tabled_unlist s i).serves
  split
  · exact ((adm _).then (tabled_unlist _ i).serves).then (serves_late _ _)
  · split
    · exact ((adm _).then (sent _ _)).then (tabled_listEntry _ i n).serves
    · exact (adm _).then (sent _ _)

theorem serves_lateVisits (s : State) : Serves s s.lateVisits :=
  (serves_late s []).then (serves_foldl _ _ (fun t _ => serves_visit t _ _ _) _)

/-- The lists of ticks, each of its entries visited. -/
def walkLists (s : State) (hi : Nat) (l : List (Nat × List Nat)) : State := l.foldl (fun t x => x.2.foldl (fun u i => u.visit i x.1 hi) t) s

theorem serves_walkLists (s : State) (hi : Nat) (l : List (Nat × List Nat)) : Serves s (s.walkLists hi l) := by
  unfold walkLists
  refine serves_foldl _ _ (fun t x => ?_) s
  exact serves_foldl _ _ (fun u i => serves_visit u i x.1 hi) t

theorem walkTicks_eq (s : State) (lo hi : Nat) : s.walkTicks lo hi = (s.setPe { s.pe with lastTick := hi }).walkLists hi
    (((s.pe.cal.map (fun x => (lo + 1 + (x.1 + 16384 - (lo + 1) % 16384) % 16384, x.2))).filter (fun x => x.1 ≤ hi)).foldr walkTicks.insertTick []) := rfl

/-- The walk reaches its last tick. -/
theorem walkTicks_parts (s : State) (lo hi : Nat) : (s.walkTicks lo hi).pe.lastTick = hi ∧ (s.walkTicks lo hi).tc = s.tc := by
  rw [walkTicks_eq]
  generalize List.foldr walkTicks.insertTick [] _ = l
  have h := serves_walkLists (s.setPe { s.pe with lastTick := hi }) hi l
  exact ⟨h.tick, h.tc⟩

/-! ### CALENDAR_TICK (R303, R304) -/

theorem advance_lastTick (s : State) (k : Nat) : (s.advance k).pe.lastTick = s.pe.lastTick := by
  have put (t : State) (n : Nat) (v : Int) : (t.putLag n v).pe = t.pe := by
    unfold putLag
    simp only [apply_ite State.pe, evt_pe, setB_pe, ite_self]
  have lags (l : List (Nat × Int)) (t : State) : (l.foldl (fun t x => t.putLag x.1 x.2) t).pe = t.pe := by
    induction l generalizing t with
    | nil => rfl
    | cons x r ih => exact (ih _).trans (put t _ _)
  have slewed (t : State) : t.slewDone.pe = t.pe := by
    unfold slewDone
    dsimp only
    rw [setB_pe, evt_pe, setB_pe]
  unfold advance
  split
  · rfl
  dsimp only
  rw [lags]
  split
  · rfl
  split
  · rfl
  · rw [slewed]

/-- The calendar served up to tick `n`. -/
def calendarTo (s : State) (n : Nat) : State :=
  if n ≤ s.pe.lastTick then s
  else if !s.flag Fld.PE_CTL_EN || !s.flag Fld.PE_CTL_TABLE_EN then s.setPe { s.pe with lastTick := n }
  else s.walkTicks s.pe.lastTick n

theorem calendarTo_parts (s : State) (n : Nat) : (s.calendarTo n).pe.lastTick = max s.pe.lastTick n ∧ (s.calendarTo n).tc = s.tc := by
  unfold calendarTo
  split
  · exact ⟨by omega, rfl⟩
  split
  · exact ⟨by show n = _; omega, rfl⟩
  · obtain ⟨h1, h2⟩ := s.walkTicks_parts s.pe.lastTick n
    exact ⟨by omega, h2⟩

theorem calendarTick_eq (s : State) : s.calendarTick =
    (if s.pe.lastTick < tickOf s.tc.now then s else s.advanceTo ((tickOf s.tc.now + 1) * (secU / 1024))).lateVisits.calendarTo
      (if s.pe.lastTick < tickOf s.tc.now then tickOf s.tc.now else tickOf s.tc.now + 1) := rfl

end State

theorem calendarTicks (s : State) : Effect .calendarTick s (fun u =>
      if s.halted then u = s
      else
        let cur := State.tickOf s.tc.now
        if s.pe.lastTick < cur then u.pe.lastTick = cur ∧ u.tc.now = s.tc.now
        else u.pe.lastTick = max s.pe.lastTick (cur + 1) ∧ u.tc.now = (s.advanceTo ((cur + 1) * (secU / 1024))).tc.now) := by
  refine ⟨_, engine_eq s _, ?_⟩
  dsimp only
  by_cases hh : s.halted = true
  · rw [if_pos hh]
    exact if_pos hh
  rw [if_neg hh, if_neg (show ¬(s.safe || s.boot.sleeping) = true from hh), State.calendarTick_eq]
  by_cases hc : s.pe.lastTick < State.tickOf s.tc.now
  · simp only [if_pos hc]
    have late := s.serves_lateVisits
    obtain ⟨h1, h2⟩ := s.lateVisits.calendarTo_parts (State.tickOf s.tc.now)
    rw [late.tick] at h1
    exact ⟨h1.trans (by omega), by rw [h2, late.tc]⟩
  · simp only [if_neg hc]
    have ticks : (s.advanceTo ((State.tickOf s.tc.now + 1) * (secU / 1024))).pe.lastTick = s.pe.lastTick := State.advance_lastTick s _
    generalize s.advanceTo ((State.tickOf s.tc.now + 1) * (secU / 1024)) = a at ticks
    have late := a.serves_lateVisits
    obtain ⟨h1, h2⟩ := a.lateVisits.calendarTo_parts (State.tickOf s.tc.now + 1)
    rw [late.tick, ticks] at h1
    exact ⟨h1, by rw [h2, late.tc]⟩

/-! ### SIGNALING (R299, R307, R309) -/

theorem PeLooks.received {s t : State} (h : PeLooks s t) : t.rd64 Reg.PE_RX_L = s.rd64 Reg.PE_RX_L :=
  received_of_rd (h.words _ (by decide)) (h.words _ (by decide))

namespace State

theorem serves_denied {s t : State} (h : Serves s t) : Serves s t.denied.2 := h.then (serves_wrN t _ (by decide) (by decide))

theorem tabled_grantAt {s : State} {key : ClientKey} {vid : Nat} {auth : Bool} {i : Nat} {t : State} (h : s.grantAt key vid auth = some (i, t)) :
    Tabled s t := by
  unfold grantAt at h
  split at h
  · obtain ⟨_, rfl⟩ := Prod.mk.inj (Option.some.inj h)
    exact .refl s
  · rw [insertEntry_eq] at h
    split at h
    · cases h
    · obtain ⟨_, rfl⟩ := Prod.mk.inj (Option.some.inj h)
      exact tabled_inserted s _ _ _

theorem serves_grantOne (s : State) (key : ClientKey) (vid : Nat) (auth : Bool) (m : Nat) (log : Int) (dur : Nat) :
    Serves s (s.grantOne key vid auth m log dur).2 := by
  cases ht : grantType m with
  | none =>
    unfold grantOne
    rw [ht]
    exact .refl s
  | some t =>
    rw [grantOne_eq s key vid auth log dur ht]
    split
    · exact serves_denied (.refl s)
    split
    · exact serves_denied (.refl s)
    split
    · exact serves_denied (serves_evt s _ (by decide) (by decide))
    split
    · exact serves_denied (.refl s)
    cases hi : s.grantAt key vid auth with
    | none => exact serves_denied (.refl s)
    | some r => exact (((tabled_grantAt hi).then (tabled_committed _ _ _ _)).then (tabled_relisted _ _)).serves

/-- One TLV of a Signaling message answered (R299). -/
def answerTlv (key : ClientKey) (vid : Nat) (auth : Bool) (b : List Byte) (a : List Byte × State) (x : Nat × Nat × Nat) : List Byte × State :=
  let m := beAt b (x.2.1 + 4) 1 / 16
  if x.1 = 4 && 6 ≤ x.2.2 then
    let lg := beAt b (x.2.1 + 5) 1
    let g := a.2.grantOne key vid auth m (signedOf 8 lg) (beAt b (x.2.1 + 6) 4)
    (a.1 ++ beBytes 2 5 ++ beBytes 2 8 ++ [BitVec.ofNat 8 (m * 16), BitVec.ofNat 8 lg] ++ beBytes 4 g.1 ++ [0, if g.1 = 0 then 0 else 1], g.2)
  else if x.1 = 6 && 2 ≤ x.2.2 then
    (a.1 ++ beBytes 2 7 ++ beBytes 2 2 ++ [BitVec.ofNat 8 (m * 16), 0],
      match grantType m, (a.2.lookup key).1 with | some t, some i => a.2.endGrant i t | _, _ => a.2)
  else a

theorem answerTlvs_eq (s : State) (key : ClientKey) (vid : Nat) (auth : Bool) (b : List Byte) (l : List (Nat × Nat × Nat)) :
    s.answerTlvs key vid auth b l = l.foldl (answerTlv key vid auth b) ([], s) := rfl

theorem serves_answerTlv (key : ClientKey) (vid : Nat) (auth : Bool) (b : List Byte) (a : List Byte × State) (x : Nat × Nat × Nat) :
    Serves a.2 (answerTlv key vid auth b a x).2 := by
  unfold answerTlv
  dsimp only
  split
  · exact serves_grantOne a.2 _ _ _ _ _ _
  split
  · dsimp only
    split
    · exact (tabled_endGrant a.2 _ _).serves
    · exact .refl _
  · exact .refl _

theorem serves_answerTlvs (s : State) (key : ClientKey) (vid : Nat) (auth : Bool) (b : List Byte) (l : List (Nat × Nat × Nat)) :
    Serves s (s.answerTlvs key vid auth b l).2 := by
  have fold : ∀ a : List Byte × State, Serves a.2 (l.foldl (answerTlv key vid auth b) a).2 := by
    induction l with
    | nil => exact fun a => .refl _
    | cons x r ih => exact fun a => (serves_answerTlv key vid auth b a x).then (ih _)
  rw [answerTlvs_eq]
  exact fold ([], s)

/-- The requests and cancellations of a Signaling message. -/
def sigTlvs (b : List Byte) (o : Nat) : List (Nat × Nat × Nat) := (ptpTlvs b o).filter (fun x => x.1 == 4 || x.1 == 6)

/-- Its answers, and the state after. -/
def sigAnswers (s s1 : State) (k p : Nat) (b : List Byte) (o : Nat) : List Byte × State :=
  s1.answerTlvs (clientKey k p b o) (match outerTag b (s.tpid p) with | some tci => tci % 4096 | none => 0) ((s.verifyMsg b o).1 == .good) b (sigTlvs b o)

/-- The message with the answers goes out. -/
def sigReply (s : State) (r : List Byte × State) (k p : Nat) (b : List Byte) (o : Nat) : State :=
  (r.2.bump64 Reg.PE_RX_L 1).svcSend k p (s.answerHeader k p b false false 320)
    (s.svcHead k p 12 0 true 0 (ptpSeq b o) 5 0x7F ++ ptpSource b o ++ r.1) none

theorem sigReply_received (s : State) (r : List Byte × State) (k : Nat) {p : Nat} (hp : p < 16) (b : List Byte) (o : Nat) :
    (s.sigReply r k p b o).rd64 Reg.PE_RX_L = (r.2.rd64 Reg.PE_RX_L + 1) % 2 ^ 64 :=
  (serves_svcSend _ k hp _ _ none).received.trans (rd64_bump64_same r.2 _ 1)

/-- A Signaling message that is admitted. -/
def sigServe (s s1 : State) (k p : Nat) (b : List Byte) (o : Nat) : State :=
  if (s.verifyMsg b o).1 = .bad then s1.authFail p b
  else if (s.verifyMsg b o).1 = .absent && s.svcAuth k = 2 then s1.bump Reg.PE_NOAUTH_DROP
  else if s.svcHalted k || (sigTlvs b o).isEmpty then s1
  else s.sigReply (s.sigAnswers s1 k p b o) k p b o

/-- The chain that a Signaling message's client is looked for in. -/
def sigRead (s : State) (k p : Nat) (b : List Byte) (o : Nat) : List Nat := (s.lookup (clientKey k p b o)).2

theorem signaling_eq {s : State} {p : Nat} {b : List Byte} {o k : Nat} (ho : ptpOff b = some o) (hk : s.svcOf p b o = some k) :
    s.signaling p b = if !s.flag (Fld.PE_SVCk_CFG_UNICAST k) || !s.flag Fld.PE_CTL_TABLE_EN || ptpType b o ≠ 12 then s
      else s.takeBoth (s.cacheAll (s.sigRead k p b o) true).2 (s.cacheAll (s.sigRead k p b o) true).1
        ((s.verifyMsg b o).2 + s.svcCost k (44 + (sigTlvs b o).foldl (fun n x => n + if x.1 = 4 then 12 else 6) 0)) (.signaling (Fin.ofNat 16 p) b)
        (fun a => s.sigServe (a.noteProbe (s.sigRead k p b o).length) k p b o) := by
  unfold signaling
  rw [ho]
  dsimp only
  rw [hk]
  rfl

/-- A bad Signaling message, and one that lacks the seal it must have (R309). -/
theorem sigServe_refused {s s1 : State} (h : PeLooks s s1) (k p : Nat) (b : List Byte) (o : Nat) :
    ((s.verifyMsg b o).1 = .bad → (s.sigServe s1 k p b o).rdN Reg.PE_AUTH_FAIL = oneMore (s.rdN Reg.PE_AUTH_FAIL) ∧
      (s.sigServe s1 k p b o).sw = s.sw ∧ (s.sigServe s1 k p b o).pe.table = s.pe.table) ∧
    ((s.verifyMsg b o).1 = .absent → s.svcAuth k = 2 → (s.sigServe s1 k p b o).rdN Reg.PE_NOAUTH_DROP = oneMore (s.rdN Reg.PE_NOAUTH_DROP) ∧
      (s.sigServe s1 k p b o).sw = s.sw ∧ (s.sigServe s1 k p b o).pe.table = s.pe.table) := by
  refine ⟨fun hv => ?_, fun hv ha => ?_⟩
  · have e : s.sigServe s1 k p b o = s1.authFail p b := if_pos hv
    obtain ⟨h1, _, h3⟩ := authFail_spec s1 p b
    rw [e, h1, h.rdN (by decide), h3, authFail_pe]
    exact ⟨rfl, h.sw, h.table⟩
  · have e : s.sigServe s1 k p b o = s1.bump Reg.PE_NOAUTH_DROP := (if_neg (by rw [hv]; decide)).trans (if_pos (by simp [hv, ha]))
    rw [e, rdN_bump_same, h.rdN (by decide)]
    exact ⟨rfl, h.sw, h.table⟩

/-- A Signaling message of a service without authentication is answered, if it asks for something. -/
theorem sigServe_open {s s1 : State} (h : PeLooks s s1) {k p : Nat} (hp : p < 16) {b : List Byte} {o : Nat} (hv : (s.verifyMsg b o).1 = .absent)
    (ha : s.svcAuth k = 0) :
    if sigTlvs b o = [] then (s.sigServe s1 k p b o).sw = s.sw ∧ (s.sigServe s1 k p b o).pe.table = s.pe.table
    else (s.sigServe s1 k p b o).rd64 Reg.PE_RX_L = (s.rd64 Reg.PE_RX_L + 1) % 2 ^ 64 := by
  have e : s.sigServe s1 k p b o = if s.svcHalted k || (sigTlvs b o).isEmpty then s1 else s.sigReply (s.sigAnswers s1 k p b o) k p b o :=
    (if_neg (by rw [hv]; decide)).trans (if_neg (by simp [ha]))
  rw [e, svcHalted_open ha, Bool.false_or]
  by_cases hl : sigTlvs b o = []
  · rw [if_pos hl, if_pos (by rw [hl]; rfl)]
    exact ⟨h.sw, h.table⟩
  · rw [if_neg hl, if_neg (by simpa using hl)]
    have answered : Serves s1 (s.sigAnswers s1 k p b o).2 := serves_answerTlvs s1 _ _ _ b _
    rw [sigReply_received s _ k hp, answered.received, h.received]

end State

theorem signalingMessages (p : Fin 16) (b : List Byte) (s : State) : Effect (.signaling p b) s (fun u =>
      match ptpOff b with
      | none => u = s
      | some o =>
        match s.svcOf p.val b o with
        | none => u = s
        | some k =>
          let l := (ptpTlvs b o).filter (fun x => x.1 == 4 || x.1 == 6)
          let n := l.foldl (fun n x => n + if x.1 = 4 then 12 else 6) 0
          let v := s.verifyMsg b o
          if s.halted = true ∨ s.flag (Fld.PE_SVCk_CFG_UNICAST k) = false ∨ s.flag Fld.PE_CTL_TABLE_EN = false ∨ ptpType b o ≠ 12 then u = s
          else if s.admits 4 (s.cacheAll (s.lookup (State.clientKey k p.val b o)).2 true).1 = false then s.Withheld 4 (.signaling p b) u
          else if s.admits 3 (v.2 + s.svcCost k (44 + n)) = false then s.Withheld 3 (.signaling p b) u
          else
            (v.1 = .bad → u.rdN Reg.PE_AUTH_FAIL = oneMore (s.rdN Reg.PE_AUTH_FAIL) ∧ u.sw = s.sw ∧ u.pe.table = s.pe.table) ∧
            (v.1 = .absent → s.svcAuth k = 2 → u.rdN Reg.PE_NOAUTH_DROP = oneMore (s.rdN Reg.PE_NOAUTH_DROP) ∧ u.sw = s.sw ∧ u.pe.table = s.pe.table) ∧
            (v.1 = .absent → s.svcAuth k = 0 →
              if l = [] then u.sw = s.sw ∧ u.pe.table = s.pe.table else u.rd64 Reg.PE_RX_L = (s.rd64 Reg.PE_RX_L + 1) % 2 ^ 64)) := by
  refine ⟨_, engine_eq s _, ?_⟩
  have idle {x : State} (hx : x = s) : (if s.safe || s.boot.sleeping then s else x) = s := by rw [hx, ite_self]
  dsimp only
  cases ho : ptpOff b with
  | none => exact idle (by unfold State.signaling; rw [ho])
  | some o =>
    dsimp only
    cases hk : s.svcOf p.val b o with
    | none => exact idle (by unfold State.signaling; rw [ho]; dsimp only; rw [hk])
    | some k =>
      dsimp only
      rw [State.signaling_eq ho hk, show Fin.ofNat 16 p.val = p from Fin.ofNat_val_eq_self p]
      by_cases hg : s.halted = true ∨ s.flag (Fld.PE_SVCk_CFG_UNICAST k) = false ∨ s.flag Fld.PE_CTL_TABLE_EN = false ∨ ptpType b o ≠ 12
      · rw [if_pos hg]
        rcases hg with hh | hg
        · exact if_pos hh
        · exact idle (if_pos (by simpa [or_assoc] using hg))
      rw [if_neg hg]
      rw [not_or] at hg
      rw [if_neg (show ¬(s.safe || s.boot.sleeping) = true from hg.1), if_neg (show ¬(!s.flag (Fld.PE_SVCk_CFG_UNICAST k) ||
        !s.flag Fld.PE_CTL_TABLE_EN || ptpType b o ≠ 12) = true by simpa [or_assoc] using hg.2)]
      change if s.admits 4 (s.cacheAll (s.sigRead k p.val b o) true).1 = false then _ else _
      by_cases h4 : s.admits 4 (s.cacheAll (s.sigRead k p.val b o) true).1 = false
      · rw [if_pos h4]
        exact State.takeBoth_state _ _ _ _ h4
      rw [if_neg h4]
      rw [Bool.not_eq_false] at h4
      change if s.admits 3 ((s.verifyMsg b o).2 + s.svcCost k (44 + (State.sigTlvs b o).foldl (fun n x => n + if x.1 = 4 then 12 else 6) 0)) = false
        then _ else _
      generalize hc : (s.verifyMsg b o).2 + s.svcCost k (44 + (State.sigTlvs b o).foldl (fun n x => n + if x.1 = 4 then 12 else 6) 0) = cost
      by_cases h3 : s.admits 3 cost = false
      · rw [if_pos h3]
        exact State.takeBoth_auth _ _ _ h4 h3
      rw [if_neg h3]
      rw [Bool.not_eq_false] at h3
      rw [State.takeBoth_admitted _ _ _ h4 h3]
      have looks : PeLooks s (((s.cacheAll (s.sigRead k p.val b o) true).2.spentBoth (s.cacheAll (s.sigRead k p.val b o) true).1 cost).noteProbe
          (s.sigRead k p.val b o).length) :=
        ((State.peLooks_cacheAll _ true s).then (State.peLooks_spentBoth _ _ _)).then (State.peLooks_noteProbe _ _)
      obtain ⟨hbad, hdrop⟩ := State.sigServe_refused looks k p.val b o
      exact ⟨hbad, hdrop, fun hv ha => State.sigServe_open looks p.isLt hv ha⟩

theorem negotiationAndCalendar : Claims.NegotiationAndCalendar := by
  intro s
  exact ⟨fun p b => signalingMessages p b s, calendarTicks s⟩

/-- Settles O36: grants, negotiation and the calendar, a master's messages, and upkeep. -/
theorem ptpMasters : Obligations.PtpMasters := ⟨unicastGrants, negotiationAndCalendar, masterMessages, ptpUpkeep⟩

end Sys2Proof.Machine
end

section
/-! SUPPORT. An access of the register fabric that passes its checks, one that is refused, and what a plain word keeps (R33 to R45). -/

namespace Sys2Proof.Machine

/-! ### The register map -/

theorem pageRows_absent {p : Nat} (h : 0x200 ≤ p) : pageRows p = [] := by
  have eq_false (k : Nat) (hk : k < 0x200) : (p == k) = false := beq_false_of_ne (by omega)
  have le_false (k : Nat) (hk : k < 0x200) : decide (p ≤ k) = false := decide_eq_false (by omega)
  unfold pageRows
  simp only [eq_false, le_false, Nat.reduceLT, Bool.and_false, Bool.or_false, if_false, Bool.false_eq_true]

theorem mem_pageRows_of_findRow {a : Nat} {r : RegRow} (h : findRow a = some r) : r ∈ pageRows (pageOf a) := List.mem_of_find?_eq_some h

/-- No bit is both reserved and W1C (R38, R39). -/
theorem rsv_and_w1c {a : Nat} {r : RegRow} (h : findRow a = some r) : r.rsv &&& r.w1c = 0 := by
  have listed : ∀ p < 0x200, ∀ r ∈ pageRows p, r.rsv &&& r.w1c = 0 := by decide +kernel
  have hm := mem_pageRows_of_findRow h
  by_cases hp : pageOf a < 0x200
  · exact listed _ hp r hm
  · rw [pageRows_absent (by omega)] at hm
    exact absurd hm List.not_mem_nil

theorem pageOf_addrOf {x : Access} (h : x.offset < 0x1000) : pageOf (addrOf x) = x.page := by
  unfold pageOf addrOf
  omega

theorem addrOf_mod {x : Access} (h : x.offset < 0x1000) : addrOf x % 0x1000 = x.offset := by
  unfold addrOf
  omega

theorem reqClass_lt (req : Requester) : reqClass req < 4 := by
  unfold reqClass
  split <;> decide

/-! ### A word written as its fields' access types say (R38) -/

/-- The word that a write of `v` leaves of `old`: RW bits take the value, ones clear W1C bits, the rest stays. -/
def RegRow.written (r : RegRow) (old v : Nat) : Nat := ((old &&& (0xFFFFFFFF ^^^ r.rw)) ||| (v &&& r.rw)) &&& (0xFFFFFFFF ^^^ (v &&& r.w1c))

theorem testBit_word (i : Nat) : (0xFFFFFFFF : Nat).testBit i = decide (i < 32) := Nat.testBit_two_pow_sub_one 32 i

theorem RegRow.written_lt (r : RegRow) (old : Nat) {v : Nat} (hv : v < 2 ^ 32) : r.written old v < 2 ^ 32 := by
  have hw : v &&& r.w1c < 2 ^ 32 := Nat.lt_of_le_of_lt Nat.and_le_left hv
  exact Nat.lt_of_le_of_lt Nat.and_le_right (Nat.xor_lt_two_pow (by decide) hw)

/-- With the reserved bits as they are read, the model's word is `written`. -/
theorem RegRow.written_eq (r : RegRow) {old v : Nat} (hk : (old ^^^ v) &&& r.rsv = 0) (ho : old < 2 ^ 32) :
    (old &&& (0xFFFFFFFF ^^^ (r.rw ||| r.rsv)) ||| v &&& (r.rw ||| r.rsv)) &&& (0xFFFFFFFF ^^^ (v &&& r.w1c)) = r.written old v := by
  refine Nat.eq_of_testBit_eq fun i => ?_
  have kept := congrArg (fun n => n.testBit i) hk
  have top : old.testBit i = true → i < 32 := fun h => Nat.lt_of_not_le fun hi =>
    absurd h (by rw [Nat.testBit_lt_two_pow (Nat.lt_of_lt_of_le ho (Nat.pow_le_pow_right (by decide) hi))]; decide)
  simp only [written, Nat.testBit_and, Nat.testBit_or, Nat.testBit_xor, testBit_word, Nat.zero_testBit] at kept ⊢
  generalize old.testBit i = o at *
  generalize v.testBit i = w at *
  generalize r.rsv.testBit i = z at *
  cases o <;> cases w <;> cases z <;> simp_all

theorem RegRow.written_rsv (r : RegRow) {old v : Nat} (hr : r.rsv &&& r.w1c = 0) (hk : (old ^^^ v) &&& r.rsv = 0) (ho : old < 2 ^ 32) :
    (r.written old v ^^^ old) &&& r.rsv = 0 := by
  refine Nat.eq_of_testBit_eq fun i => ?_
  have kept := congrArg (fun n => n.testBit i) hk
  have apart := congrArg (fun n => n.testBit i) hr
  have top : old.testBit i = true → i < 32 := fun h => Nat.lt_of_not_le fun hi =>
    absurd h (by rw [Nat.testBit_lt_two_pow (Nat.lt_of_lt_of_le ho (Nat.pow_le_pow_right (by decide) hi))]; decide)
  simp only [written, Nat.testBit_and, Nat.testBit_or, Nat.testBit_xor, testBit_word, Nat.zero_testBit] at kept apart ⊢
  generalize old.testBit i = o at *
  generalize v.testBit i = w at *
  generalize r.rsv.testBit i = z at *
  cases o <;> cases w <;> cases z <;> simp_all

namespace State

/-- A write that leaves the reserved bits, of a word without RWL bits and without bits of an overlay, is an update of its word alone. -/
theorem wrWord_plain {s : State} {req : Requester} {a v : Nat} {r : RegRow} (hr : findRow a = some r) (hl : r.rwl = 0) (ho : s.ownedMask a = 0)
    (hk : (s.rdN a ^^^ v) &&& r.rsv = 0) : s.wrWord req a r v = s.wrN a (r.written (s.rdN a) v) := by
  unfold wrWord
  simp only [hl, ho, ite_self, Nat.and_zero, Nat.xor_zero, Nat.or_zero, bne_self_eq_false, Bool.false_and, Bool.false_eq_true, if_false,
    ne_eq, not_true_eq_false]
  rw [r.written_eq hk (s.rdN_lt a), r.written_rsv (rsv_and_w1c hr) hk (s.rdN_lt a)]
  rfl

/-! ### An access that is let through -/

theorem busWrite_admitted {s : State} {x : Access} {r : RegRow} (v : Word) (hx : wholeWord x) (h : s.Admits x.req x.ap (addrOf x))
    (hr : findRow (addrOf x) = some r) (hm : r.rw ||| r.rwl ||| r.w1c ||| r.wo ||| r.rsv ≠ 0) :
    s.busWrite x v = ((s.result x.req 0 0).wrKnown x.req (addrOf x) r v.toNat).mirrorWatch := by
  obtain ⟨hbe, hal, hoff, hind⟩ := hx
  have through := busWriteWith_admitted (fun t => t.wrKnown x.req (addrOf x) r v.toNat) h hr hm
  have reached : ¬(s.result x.req 0 0).reach x.req x.ap x.page < 2 := by
    rw [result_reach, ← pageOf_addrOf hoff, h.1]
    decide
  unfold busWriteWith at through
  unfold busWrite
  rw [pageOf_addrOf hoff, if_neg reached] at through
  simp only [hr] at through ⊢
  rw [if_neg reached, if_neg (by simp [hal, hbe]; omega), if_neg (by simpa [and_assoc] using hind), through]

/-! ### An access that is counted (R33, R34) -/

@[simp] theorem lastRead_result (s : State) (req : Requester) (w : Word) (n : Nat) : (s.result req w n).lastRead req = (w, n) := by
  unfold lastRead result
  simp

end State

/-- An access that changed nothing has been counted in SYS_BADACC, and its requester told. -/
def CountedBad (req : Requester) (s u : State) : Prop :=
  u.rdN Reg.SYS_BADACC = min (s.rdN Reg.SYS_BADACC + 1) 0xFFFFFFFF ∧ (u.lastRead req).2 = 3 ∧
    Writes (· = Reg.SYS_BADACC) { s with readData := u.readData } u

/-- What a requester is told changes no word, and nothing else of the state. -/
theorem Writes.told {A : Nat → Prop} {s t : State} (h : Writes A s t) (req : Requester) (w : Word) (n : Nat) :
    Writes A { s with readData := (t.result req w n).readData } (t.result req w n) := by
  obtain ⟨parts, words⟩ := h
  exact ⟨congrArg (fun x : State => { x with readData := (t.result req w n).readData }) parts, words⟩

theorem Touches.told {A : Nat → Prop} {s t : State} (h : Touches A s t) (req : Requester) (w : Word) (n : Nat) :
    Touches A { s with readData := (t.result req w n).readData } (t.result req w n) := by
  obtain ⟨parts, words⟩ := h
  exact ⟨congrArg (fun x : State => { x with readData := (t.result req w n).readData }) parts, words⟩

theorem countedBad_badAccess (s : State) (req : Requester) : CountedBad req s (s.badAccess req) := by
  unfold State.badAccess
  refine ⟨?_, ?_, ?_⟩
  · rw [State.result_rdN, State.rdN_bump_same, oneMore]
  · rw [State.lastRead_result]
  · exact Writes.told (A := (· = Reg.SYS_BADACC)) (writes_bump s rfl) req 0 3

/-- What the requester was told before does not matter. -/
theorem CountedBad.of_result {s u : State} {req r0 : Requester} {w : Word} {n : Nat} (h : CountedBad req (s.result r0 w n) u) : CountedBad req s u := h

/-! ### An access with what it returns and the mirroring -/

theorem accesses_mirrored {A : Nat → Prop} {s u : State} (h : Touches A { s with readData := u.readData } u) : Accesses A s u.mirrorWatch := by
  obtain ⟨parts, words⟩ := h
  have same := State.mirrorWatch_same u
  refine ⟨?_, fun a ha hc => (State.mirrorWatch_rd u a).trans (words a ha hc)⟩
  generalize u.mirrorWatch = v at same
  have moved := congrArg (fun x : State => { x with
    regs := s.regs, freeCtr := s.freeCtr, fc := s.fc, jn := s.jn, msix := s.msix, pips := s.pips, ls := v.ls, readData := v.readData }) same
  have kept := congrArg (fun x : State => { x with ls := v.ls, readData := v.readData }) parts
  exact moved.trans kept

theorem Accesses.then {A : Nat → Prop} {s t u : State} (h : Accesses A s t) (k : Touches A t u) : Accesses A s u := by
  have answers : ({ s with readData := u.readData, ls := u.ls } : State) = { s with readData := t.readData, ls := t.ls } := by rw [k.readData, k.ls]
  unfold Accesses at h ⊢
  rw [answers]
  exact Touches.then h k

/-! ### A locked write (R45) -/

/-- What SYS_LOCKLOG says of a locked write: its cause, and its requester's class, page and offset. -/
def lockEntry (req : Requester) (a cause : Nat) : Nat := cause * 2 ^ 30 + reqClass req * 2 ^ 28 + pageOf a % 512 * 2 ^ 16 + a % 0x1000

theorem lockEntry_lt (req : Requester) (a : Nat) {cause : Nat} (hc : cause < 4) : lockEntry req a cause < 2 ^ 32 := by
  have hr := reqClass_lt req
  unfold lockEntry
  omega

/-- A locked write before its requester is told. -/
def State.lockCounted (s : State) (req : Requester) (a cause : Nat) : State :=
  ((s.wrN Reg.SYS_LOCKLOG (lockEntry req a cause)).bump Reg.SYS_LOCKCNT).raiseFault 1 0 false

theorem lockedWrite_eq (s : State) (req : Requester) (a cause : Nat) : s.lockedWrite req a cause =
    (s.lockCounted req a cause).result req 0 (if (s.lockCounted req a cause).flag Fld.SYS_CTL_LOCK_ERR then 2 else 0) := rfl

theorem lockCounted_rdN (s : State) (req : Requester) (a cause : Nat) {b : Nat} (hb : carried b = false) :
    (s.lockCounted req a cause).rdN b = ((s.wrN Reg.SYS_LOCKLOG (lockEntry req a cause)).bump Reg.SYS_LOCKCNT).rdN b :=
  (touches_raiseFault (fun _ => False) _ 0 false (by decide)).rdN id hb

theorem touches_lockCounted (s : State) (req : Requester) (a cause : Nat) :
    Touches (fun b => b = Reg.SYS_LOCKCNT ∨ b = Reg.SYS_LOCKLOG) s (s.lockCounted req a cause) :=
  ((writes_wrN s _ (.inr rfl)).then (writes_bump _ (.inl rfl))).touches.then (touches_raiseFault _ _ 0 false (by decide))

theorem lockedWrite_spec (s : State) (req : Requester) (a : Nat) {cause : Nat} (hc : cause < 4) :
    (s.lockedWrite req a cause).rdN Reg.SYS_LOCKCNT = oneMore (s.rdN Reg.SYS_LOCKCNT) ∧
      (s.lockedWrite req a cause).rdN Reg.SYS_LOCKLOG = lockEntry req a cause ∧
      Touches (fun b => b = Reg.SYS_LOCKCNT ∨ b = Reg.SYS_LOCKLOG) { s with readData := (s.lockedWrite req a cause).readData } (s.lockedWrite req a cause) := by
  rw [lockedWrite_eq]
  refine ⟨?_, ?_, (touches_lockCounted s req a cause).told req 0 _⟩
  · rw [State.result_rdN, lockCounted_rdN s req a cause (by decide), State.rdN_bump_same, State.rdN_wrN_other _ _ (by decide)]
  · rw [State.result_rdN, lockCounted_rdN s req a cause (by decide), State.rdN_bump_other _ (by decide), State.rdN_wrN_same]
    exact Nat.mod_eq_of_lt (lockEntry_lt req a hc)

end Sys2Proof.Machine
end

section
/-! PROOF. O11: plain writes, bad accesses and locked writes (R33 to R39, R45, R55, R401). -/

namespace Sys2Proof.Machine

/-- A word's plain update with the requester's answer and the mirroring. -/
theorem accesses_wrN (s : State) (req : Requester) (a n : Nat) : Accesses (· = a) s ((s.result req 0 0).wrN a n).mirrorWatch :=
  accesses_of_touches (writes_wrN (A := (· = a)) (s.result req 0 0) n rfl).touches

theorem plainWrites : Claims.PlainWrites := by
  intro x v r s hx hadm hr hm hl hk ho hplain P
  have write : P (s.busWrite x v) := by
    have stores : (s.result x.req 0 0).wrWord x.req (addrOf x) r v.toNat =
        (s.result x.req 0 0).wrN (addrOf x) (r.written (s.rdN (addrOf x)) v.toNat) := State.wrWord_plain hr hl ho (hk r hr)
    rw [State.busWrite_admitted v hx hadm hr (by simpa [hl] using hm), hplain, stores]
    refine ⟨?_, accesses_wrN s x.req _ _⟩
    rw [State.mirrorWatch_rdN, State.rdN_wrN_same]
    exact Nat.mod_eq_of_lt (r.written_lt _ v.isLt)
  exact ⟨⟨_, rfl, write⟩, ⟨_, rfl, write⟩⟩

theorem badWritesCount : Claims.BadWritesCount := by
  intro x v s hbe hreach hbad
  refine ⟨_, rfl, ?_⟩
  have counted : s.busWrite x v = (s.result x.req 0 0).badAccess x.req := by
    unfold State.busWrite
    rw [if_neg (by rw [State.result_reach, hreach]; decide), if_pos (by simp; omega)]
  rw [counted]
  exact (countedBad_badAccess (s.result x.req 0 0) x.req).of_result

theorem lockedWritesStay : Claims.LockedWritesStay := by
  intro x v r s hx hp hreach hr hcfg hm hctl hsec hopen hown
  obtain ⟨hbe, hal, hoff, hind⟩ := hx
  refine ⟨_, rfl, ?_⟩
  have locked : s.busWrite x v = ((s.result x.req 0 0).lockedWrite x.req (addrOf x) 3).mirrorWatch := by
    have secure : (secureOnly (addrOf x) r && !isSecurePath x.req x.ap) = false := by
      cases h : secureOnly (addrOf x) r with
      | false => rfl
      | true => rw [hsec h]; rfl
    have window : (r.cfg && addrOf x ≠ Reg.CFG_CTL && (s.result x.req 0 0).flag Fld.CFG_STAT_WIN_OPEN && !(s.result x.req 0 0).ownsWindow x.req) = true := by
      have owner : (s.result x.req 0 0).ownsWindow x.req = s.ownsWindow x.req := rfl
      rw [owner, hown, State.result_flag, hopen, hcfg, decide_eq_true hctl]
      rfl
    unfold State.busWrite State.guarded
    simp only [hr]
    rw [if_neg (by rw [State.result_reach, hreach]; decide), if_neg (by simp [hal, hbe]; omega), if_neg (by simpa [and_assoc] using hind),
      if_neg hm, if_neg (by rw [secure]; decide), if_pos window]
  obtain ⟨hcount, hlog, htouch⟩ := lockedWrite_spec (s.result x.req 0 0) x.req (addrOf x) (cause := 3) (by decide)
  rw [locked]
  beta_reduce
  rw [State.mirrorWatch_rdN, State.mirrorWatch_rdN, hcount, hlog, lockEntry, pageOf_addrOf hoff, addrOf_mod hoff, Nat.mod_eq_of_lt hp]
  exact ⟨rfl, rfl, accesses_mirrored htouch⟩

/-- Settles O11: plain writes, bad accesses and locked writes. -/
theorem registerWrites : Obligations.RegisterWrites := ⟨plainWrites, badWritesCount, lockedWritesStay⟩

end Sys2Proof.Machine
end

section
/-! SUPPORT. Indirect access (R46 to R50): what an access to a requester's own set does, and what the steps behind it leave. -/

namespace Sys2Proof.Machine

namespace State

/-! ### The sets and the domains -/

theorem indSet_of_sets {s t : State} (h : t.ind.sets = s.ind.sets) (i : Nat) : t.indSet i = s.indSet i :=
  congrArg (fun l : List IndSet => l.getD i ⟨0, none, false⟩) h

theorem indSet_modInd_same {s : State} {i : Nat} (f : IndSet → IndSet) (h : i < s.ind.sets.length) : (s.modInd i f).indSet i = f (s.indSet i) := by
  unfold indSet modInd
  simp [List.getD_eq_getElem?_getD, h]

/-- A set in which an access is in progress is one of the page's. -/
theorem lt_of_pending {s : State} {i : Nat} {p : IndOp} (h : (s.indSet i).pending = some p) : i < s.ind.sets.length := by
  by_contra hn
  rw [indSet, List.getD_eq_default _ _ (by omega)] at h
  exact nomatch h

theorem shellWord_congr {s t : State} (h : t.sh = s.sh) (o : Nat) : t.shellWord o = s.shellWord o := by
  unfold shellWord binTable tdc
  rw [h]

/-- The words of the domains are the Shell's, the tamper log's and those stored. -/
theorem indRead_congr {s t : State} (hsh : t.sh = s.sh) (hks : t.ks = s.ks) (hram : t.ind.ram = s.ind.ram) (d o : Nat) : t.indRead d o = s.indRead d o := by
  unfold indRead
  rw [shellWord_congr hsh, hks, hram]

theorem indAllowed_congr {s t : State} {i : Nat} (h : t.rd (Reg.IND_ADDR i) = s.rd (Reg.IND_ADDR i)) (hf : t.fc = s.fc) (ap : Aperture) (w : Bool) :
    t.indAllowed i ap w = s.indAllowed i ap w := by
  have domain : t.get (Fld.IND_ADDR_DOMAIN i) = s.get (Fld.IND_ADDR_DOMAIN i) := get_of_rd h
  have offset : t.get (Fld.IND_ADDR_OFFSET i) = s.get (Fld.IND_ADDR_OFFSET i) := get_of_rd h
  unfold indAllowed indInReset
  rw [domain, offset, hf]

/-- A word stored in a domain that is plain storage is read back (R46, R48). -/
theorem indRead_indStore (s : State) {d : Nat} (o v : Nat) (h3 : d ≠ 3) (h6 : d ≠ 6) : (s.indStore d o v).indRead d o = v := by
  unfold indStore
  rw [if_neg (by simp [h6])]
  unfold indRead
  rw [if_neg h3, if_neg (by simp [h6])]
  simp

/-! ### The steps of an access -/

end State

/-- Nothing but a set of the IND page and its status has moved. -/
def IndMoves (i : Nat) (s t : State) : Prop := Writes (· = Reg.IND_STAT i) { s with ind := t.ind } t

theorem IndMoves.words {i : Nat} {s t : State} (h : IndMoves i s t) {a : Nat} (ha : a ≠ Reg.IND_STAT i) : t.rd a = s.rd a := h.2 a ha
theorem IndMoves.fc {i : Nat} {s t : State} (h : IndMoves i s t) : t.fc = s.fc := (congrArg State.fc h.1 :)
theorem IndMoves.sh {i : Nat} {s t : State} (h : IndMoves i s t) : t.sh = s.sh := (congrArg State.sh h.1 :)
theorem IndMoves.ks {i : Nat} {s t : State} (h : IndMoves i s t) : t.ks = s.ks := (congrArg State.ks h.1 :)

theorem IndMoves.refl (i : Nat) (s : State) : IndMoves i s s := ⟨rfl, fun _ _ => rfl⟩

theorem IndMoves.addr {i : Nat} {s t : State} (h : IndMoves i s t) : t.rd (Reg.IND_ADDR i) = s.rd (Reg.IND_ADDR i) := h.words (by unfold Reg.IND_ADDR Reg.IND_STAT; omega)
theorem IndMoves.ctl {i : Nat} {s t : State} (h : IndMoves i s t) : t.rd (Reg.IND_CTL i) = s.rd (Reg.IND_CTL i) := h.words (by unfold Reg.IND_CTL Reg.IND_STAT; omega)

theorem IndMoves.allowed {i : Nat} {s t : State} (h : IndMoves i s t) (ap : Aperture) (w : Bool) : t.indAllowed i ap w = s.indAllowed i ap w :=
  State.indAllowed_congr h.addr h.fc ap w

theorem IndMoves.reads {i : Nat} {s t : State} (h : IndMoves i s t) (hram : t.ind.ram = s.ind.ram) (d o : Nat) : t.indRead d o = s.indRead d o :=
  State.indRead_congr h.sh h.ks hram d o

theorem indMoves_setB (i : Nat) (s : State) (x : IndUnit) {f : Fld} (b : Bool) (hf : f.addr = Reg.IND_STAT i) :
    IndMoves i s (State.setB { s with ind := x } f b) := ⟨rfl, (writes_setB (A := (· = Reg.IND_STAT i)) { s with ind := x } f b hf).2⟩

namespace State

theorem indComplete_none {s : State} {i : Nat} (h : (s.indSet i).pending = none) : s.indComplete i = s := by
  unfold indComplete
  dsimp only
  rw [h]

theorem indComplete_read {s : State} {i d o : Nat} (h : (s.indSet i).pending = some (.read d o)) :
    s.indComplete i = (s.modInd i (fun y => { y with word := if (s.indSet i).drop then (s.indSet i).word else s.indRead d o, pending := none, drop := false })).setB
      (Fld.IND_STAT_BUSY i) false := by
  unfold indComplete
  dsimp only
  rw [h]

theorem indComplete_store {s : State} {i d o v : Nat} (h : (s.indSet i).pending = some (.store d o v)) :
    s.indComplete i = ((s.indStore d o v).modInd i (fun y => { y with pending := none, drop := false })).setB (Fld.IND_STAT_BUSY i) false := by
  unfold indComplete
  dsimp only
  rw [h]

theorem indStore_eq (s : State) (d o v : Nat) : s.indStore d o v = { s with ind := (s.indStore d o v).ind } := by
  unfold indStore
  split <;> rfl

theorem indStore_sets (s : State) (d o v : Nat) : (s.indStore d o v).ind.sets = s.ind.sets := by
  unfold indStore
  split <;> rfl

theorem err_of_busy (s : State) (i : Nat) (b : Bool) : (s.setB (Fld.IND_STAT_BUSY i) b).flag (Fld.IND_STAT_ERR i) = s.flag (Fld.IND_STAT_ERR i) :=
  flag_setB_other _ _ _ _ (by simp) (.inr (.inr (by simp)))

theorem busy_set (s : State) (i : Nat) (b : Bool) : (s.setB (Fld.IND_STAT_BUSY i) b).flag (Fld.IND_STAT_BUSY i) = b := flag_setB_same _ _ _ (by simp) rfl

theorem err_set (s : State) (i : Nat) (b : Bool) : (s.setB (Fld.IND_STAT_ERR i) b).flag (Fld.IND_STAT_ERR i) = b := flag_setB_same _ _ _ (by simp) rfl

theorem indComplete_spec (s : State) (i : Nat) :
    IndMoves i s (s.indComplete i) ∧ (s.indComplete i).flag (Fld.IND_STAT_ERR i) = s.flag (Fld.IND_STAT_ERR i) := by
  cases h : (s.indSet i).pending with
  | none => rw [indComplete_none h]; exact ⟨.refl i s, rfl⟩
  | some p =>
    cases p with
    | read d o => rw [indComplete_read h]; exact ⟨indMoves_setB i s _ false rfl, err_of_busy _ _ _⟩
    | store d o v =>
      rw [indComplete_store h, indStore_eq]
      exact ⟨indMoves_setB i s _ false rfl, err_of_busy _ _ _⟩

theorem indStart_spec (s : State) (i : Nat) (ap : Aperture) (op : Option Nat) :
    IndMoves i s (s.indStart i ap op) ∧ (s.indStart i ap op).ind.ram = s.ind.ram ∧
      (if s.indAllowed i ap op.isSome then (s.indStart i ap op).flag (Fld.IND_STAT_BUSY i) = true
        else (s.indStart i ap op).flag (Fld.IND_STAT_ERR i) = true) := by
  unfold indStart
  cases h : s.indAllowed i ap op.isSome with
  | false => exact ⟨indMoves_setB i s s.ind true rfl, rfl, err_set s i true⟩
  | true => exact ⟨indMoves_setB i s _ true rfl, rfl, busy_set _ i true⟩

/-- How far IND_CTL.STEP moves the offset. -/
def indStep (s : State) (i : Nat) : Nat := if s.get (Fld.IND_CTL_STEP i) = 1 then 1 else if s.get (Fld.IND_CTL_STEP i) = 2 then 4 else 0

theorem indAdvance_eq (s : State) (i : Nat) : s.indAdvance i = s.set (Fld.IND_ADDR_OFFSET i) (s.get (Fld.IND_ADDR_OFFSET i) + s.indStep i) := by
  unfold indAdvance indStep
  generalize s.get (Fld.IND_CTL_STEP i) = n
  match n with
  | 0 => rfl
  | 1 => rfl
  | 2 => rfl
  | _ + 3 => rfl

theorem indAdvance_offset (s : State) (i : Nat) :
    (s.indAdvance i).get (Fld.IND_ADDR_OFFSET i) = (s.get (Fld.IND_ADDR_OFFSET i) + s.indStep i) % 2 ^ 24 := by
  rw [indAdvance_eq]
  exact get_set_same s _ _ (by simp)

theorem indAdvance_flag (s : State) {i : Nat} {f : Fld} (h : f.addr = Reg.IND_STAT i) : (s.indAdvance i).flag f = s.flag f := by
  rw [indAdvance_eq]
  exact flag_of_rd (rd_set_other s _ _ (by rw [h]; simp))

theorem indStep_congr {s t : State} {i : Nat} (h : t.rd (Reg.IND_CTL i) = s.rd (Reg.IND_CTL i)) : t.indStep i = s.indStep i := by
  have step : t.get (Fld.IND_CTL_STEP i) = s.get (Fld.IND_CTL_STEP i) := get_of_rd h
  unfold indStep
  rw [step]

/-! ### An access to a set of the page (R46, R47) -/

theorem indSet_result (s : State) (req : Requester) (w : Word) (n i : Nat) : (s.result req w n).indSet i = s.indSet i := rfl

theorem indComplete_result (s : State) (req : Requester) (w : Word) (n i : Nat) :
    (s.result req w n).indComplete i = (s.indComplete i).result req w n := by
  have set := indSet_result s req w n i
  cases h : (s.indSet i).pending with
  | none => rw [indComplete_none h, indComplete_none (by rw [set, h])]
  | some p =>
    cases p with
    | read d o => rw [indComplete_read h, indComplete_read (by rw [set, h])]; rfl
    | store d o v =>
      rw [indComplete_store h, indComplete_store (by rw [set, h])]
      unfold indStore
      split <;> rfl

/-- The register of a set that an access names. -/
def indReg (req : Requester) (ap : Aperture) (k : Nat) : Access := ⟨req, ap, 2, 0x40 + 16 * reqClass req + 4 * k, 15⟩

theorem busWrite_ind {s : State} {req : Requester} {ap : Aperture} {k : Nat} (v : Word) (hr : s.reach req ap 2 = 2) (hk : k < 4) :
    s.busWrite (indReg req ap k) v =
      if ((s.result req 0 0).indAccess (reqClass req) req ap k (some v.toNat)).2.2 then (s.result req 0 0).badAccess req
      else ((s.result req 0 0).indAccess (reqClass req) req ap k (some v.toNat)).2.1 := by
  have hc := reqClass_lt req
  have set : (0x40 + 16 * reqClass req + 4 * k - 0x40) / 16 = reqClass req := by omega
  have reg : (0x40 + 16 * reqClass req + 4 * k) % 16 / 4 = k := by omega
  unfold busWrite indReg
  dsimp only
  rw [if_neg (by rw [result_reach, hr]; decide), if_neg (by simp; omega), if_pos (by simp; omega), set, reg]

theorem busRead_ind {s : State} {req : Requester} {ap : Aperture} {k : Nat} (hr : s.reach req ap 2 = 2) (hk : k < 4) :
    s.busRead (indReg req ap k) =
      if (s.indAccess (reqClass req) req ap k none).2.2 then s.badAccess req
      else (s.indAccess (reqClass req) req ap k none).2.1.result req (BitVec.ofNat 32 (s.indAccess (reqClass req) req ap k none).1) 0 := by
  have hc := reqClass_lt req
  have set : (0x40 + 16 * reqClass req + 4 * k - 0x40) / 16 = reqClass req := by omega
  have reg : (0x40 + 16 * reqClass req + 4 * k) % 16 / 4 = k := by omega
  unfold busRead indReg
  dsimp only
  rw [if_neg (by rw [hr]; decide), if_neg (by simp; omega), if_pos (by simp; omega), set, reg]

/-- A set is its requester's, and set 2 is not held by another Pip (R50). -/
def OwnSet (s : State) (req : Requester) : Prop := reqClass req = 2 → s.heldByOther (reqPip req) = false

theorem OwnSet.free {s : State} {req : Requester} (h : s.OwnSet req) : (decide (reqClass req = 2) && s.heldByOther (reqPip req)) = false := by
  by_cases hc : reqClass req = 2
  · rw [h hc, Bool.and_false]
  · rw [decide_eq_false hc, Bool.false_and]

theorem indAccess_own {s : State} {req : Requester} (h : s.OwnSet req) (ap : Aperture) (v : Nat) :
    s.indAccess (reqClass req) req ap 0 (some v) = (0, s.wrIndAddr (reqClass req) ap v, false) ∧
      s.indAccess (reqClass req) req ap 1 none = ((s.rdIndData (reqClass req) ap).1, (s.rdIndData (reqClass req) ap).2, false) ∧
      s.indAccess (reqClass req) req ap 1 (some v) = (0, s.wrIndData (reqClass req) ap v, false) ∧
      s.indAccess (reqClass req) req ap 2 (some v) = (0, s.wrIndCtl (reqClass req) (reqPip req) v, false) := by
  have own (k : Nat) : (decide (reqClass req = 2) && decide (¬k = 3) && s.heldByOther (reqPip req)) = false := by
    rw [Bool.and_right_comm, h.free, Bool.false_and]
  unfold indAccess
  simp only [ne_eq, not_true_eq_false, if_false, own, Bool.false_eq_true, and_self]

/-- IND_STAT is not held back: a write of 1 to ERR clears it (R49). -/
theorem indAccess_stat (s : State) (req : Requester) (ap : Aperture) (v : Nat) :
    s.indAccess (reqClass req) req ap 3 (some v) = (0, if bitAt v 1 then s.setB (Fld.IND_STAT_ERR (reqClass req)) false else s, false) := by
  unfold indAccess
  simp

end State

theorem indAddrWrite_eq {s : State} {req : Requester} {ap : Aperture} (v : Word) (hr : s.reach req ap 2 = 2) (ho : s.OwnSet req) :
    s.busWrite (State.indReg req ap 0) v = (s.result req 0 0).wrIndAddr (reqClass req) ap v.toNat := by
  have ho' : (s.result req 0 0).OwnSet req := ho
  have own := (State.indAccess_own ho' ap v.toNat).1
  rw [State.busWrite_ind v hr (by decide), own]
  rfl

theorem indDataRead_eq {s : State} {req : Requester} {ap : Aperture} (hr : s.reach req ap 2 = 2) (ho : s.OwnSet req) :
    s.busRead (State.indReg req ap 1) =
      (s.rdIndData (reqClass req) ap).2.result req (BitVec.ofNat 32 (s.rdIndData (reqClass req) ap).1) 0 := by
  have own := (State.indAccess_own ho ap 0).2.1
  rw [State.busRead_ind hr (by decide), own]
  rfl

theorem indDataWrite_eq {s : State} {req : Requester} {ap : Aperture} (v : Word) (hr : s.reach req ap 2 = 2) (ho : s.OwnSet req) :
    s.busWrite (State.indReg req ap 1) v = (s.result req 0 0).wrIndData (reqClass req) ap v.toNat := by
  have ho' : (s.result req 0 0).OwnSet req := ho
  have own := (State.indAccess_own ho' ap v.toNat).2.2.1
  rw [State.busWrite_ind v hr (by decide), own]
  rfl

namespace State

/-! ### The words of the domains through an access (R49) -/

theorem indRead_result (s : State) (req : Requester) (w : Word) (n d o : Nat) : (s.result req w n).indRead d o = s.indRead d o := indRead_congr rfl rfl rfl d o

theorem wrIndAddr_reads (s : State) (i : Nat) (ap : Aperture) (v d o : Nat) : (s.wrIndAddr i ap v).indRead d o = (s.indComplete i).indRead d o := by
  obtain ⟨moves, ram, _⟩ := ((s.indComplete i).wrN (Reg.IND_ADDR i) v).indStart_spec i ap none
  exact (moves.reads ram d o).trans (indRead_congr rfl rfl rfl d o)

theorem rdIndData_err {s : State} {i : Nat} (ap : Aperture) (h : s.flag (Fld.IND_STAT_ERR i) = true) : s.rdIndData i ap = (0xFFFFFFFF, s) := if_pos h

theorem rdIndData_word {s : State} {i : Nat} (ap : Aperture) (h : s.flag (Fld.IND_STAT_ERR i) = false) :
    s.rdIndData i ap = (((s.indComplete i).indSet i).word, ((s.indComplete i).indAdvance i).indStart i ap none) := if_neg (by rw [h]; decide)

theorem wrIndData_err {s : State} {i : Nat} (ap : Aperture) (v : Nat) (h : s.flag (Fld.IND_STAT_ERR i) = true) : s.wrIndData i ap v = s := if_pos h

theorem wrIndData_word {s : State} {i : Nat} (ap : Aperture) (v : Nat) (h : s.flag (Fld.IND_STAT_ERR i) = false) :
    s.wrIndData i ap v = if (s.indComplete i).indAllowed i ap true then ((s.indComplete i).indStart i ap (some v)).indAdvance i
      else (s.indComplete i).indStart i ap (some v) := if_neg (by rw [h]; decide)

theorem indAdvance_reads (s : State) (i d o : Nat) : (s.indAdvance i).indRead d o = s.indRead d o := by
  rw [indAdvance_eq]
  exact indRead_congr rfl rfl rfl d o

theorem rdIndData_reads {s : State} {i : Nat} (ap : Aperture) (h : s.flag (Fld.IND_STAT_ERR i) = false) (d o : Nat) :
    (s.rdIndData i ap).2.indRead d o = (s.indComplete i).indRead d o := by
  obtain ⟨moves, ram, _⟩ := ((s.indComplete i).indAdvance i).indStart_spec i ap none
  rw [rdIndData_word ap h]
  exact (moves.reads ram d o).trans (indAdvance_reads _ _ _ _)

theorem wrIndData_reads {s : State} {i : Nat} (ap : Aperture) (v : Nat) (h : s.flag (Fld.IND_STAT_ERR i) = false) (d o : Nat) :
    (s.wrIndData i ap v).indRead d o = (s.indComplete i).indRead d o := by
  obtain ⟨moves, ram, _⟩ := (s.indComplete i).indStart_spec i ap (some v)
  rw [wrIndData_word ap v h]
  split
  · exact (indAdvance_reads _ _ _ _).trans (moves.reads ram d o)
  · exact moves.reads ram d o

end State

end Sys2Proof.Machine
end

section
/-! PROOF. O13: an access that sets ERR, and ERR until it is cleared (R49). -/

namespace Sys2Proof.Machine

/-- While ERR is 1, IND_DATA reads all ones and its writes are ignored. -/
theorem errHolds {s : State} {req : Requester} {ap : Aperture} (v : Word) (hr : s.reach req ap 2 = 2) (ho : s.OwnSet req)
    (herr : s.flag (Fld.IND_STAT_ERR (reqClass req)) = true) :
    ((s.busRead (State.indReg req ap 1)).lastRead req = (0xFFFFFFFF, 0) ∧
      s.busRead (State.indReg req ap 1) = { s with readData := (s.busRead (State.indReg req ap 1)).readData }) ∧
    s.busWrite (State.indReg req ap 1) v = { s with readData := (s.busWrite (State.indReg req ap 1) v).readData } := by
  have told : (s.result req 0 0).flag (Fld.IND_STAT_ERR (reqClass req)) = true := herr
  rw [indDataRead_eq hr ho, State.rdIndData_err ap herr, indDataWrite_eq v hr ho, State.wrIndData_err ap _ told]
  exact ⟨⟨State.lastRead_result _ _ _ _, rfl⟩, rfl⟩

/-- A write of 1 to ERR clears it, and a write of 0 leaves it; nothing else of the page moves. -/
theorem errClears {s : State} {req : Requester} {ap : Aperture} (v : Word) (hr : s.reach req ap 2 = 2) :
    (s.busWrite (State.indReg req ap 3) v).flag (Fld.IND_STAT_ERR (reqClass req)) =
        (s.flag (Fld.IND_STAT_ERR (reqClass req)) && !v.getLsbD 1) ∧
      Writes (· = Reg.IND_STAT (reqClass req)) { s with readData := (s.busWrite (State.indReg req ap 3) v).readData } (s.busWrite (State.indReg req ap 3) v) := by
  have access := State.indAccess_stat (s.result req 0 0) req ap v.toNat
  rw [State.busWrite_ind v hr (by decide), access]
  have bit : bitAt v.toNat 1 = v.getLsbD 1 := rfl
  dsimp only
  rw [if_neg Bool.false_ne_true, bit]
  cases v.getLsbD 1 with
  | false => exact ⟨(Bool.and_true _).symm, .refl _ _⟩
  | true =>
    refine ⟨?_, (writes_setB (A := (· = Reg.IND_STAT (reqClass req))) (s.result req 0 0) _ false rfl)⟩
    rw [if_pos rfl, State.err_set]
    exact (Bool.and_false _).symm

/-- Settles O13: an access that sets ERR leaves the domains, and ERR holds until it is cleared. -/
theorem indirectErrors : Obligations.IndirectErrors := by
  intro req ap v s hr i ho reg
  have ended (d o : Nat) : ((s.result req 0 0).indComplete i).indRead d o = (s.indComplete i).indRead d o := by
    rw [State.indComplete_result, State.indRead_result]
  refine ⟨fun c hc => ?_, fun herr => ?_, ⟨_, rfl, errClears v hr⟩⟩
  · rcases hc with rfl | rfl | rfl
    · refine ⟨_, rfl, fun _ _ d o => ?_⟩
      show (s.busWrite (State.indReg req ap 0) v).indRead d o = _
      rw [indAddrWrite_eq v hr ho, State.wrIndAddr_reads, ended]
    · refine ⟨_, rfl, fun herr _ d o => ?_⟩
      show (s.busRead (State.indReg req ap 1)).indRead d o = _
      rw [indDataRead_eq hr ho, State.indRead_result, State.rdIndData_reads ap herr]
    · refine ⟨_, rfl, fun herr _ d o => ?_⟩
      show (s.busWrite (State.indReg req ap 1) v).indRead d o = _
      rw [indDataWrite_eq v hr ho, State.wrIndData_reads ap v.toNat (s := s.result req 0 0) herr, ended]
  · obtain ⟨read, write⟩ := errHolds v hr ho herr
    exact ⟨⟨_, rfl, read⟩, ⟨_, rfl, write⟩⟩

end Sys2Proof.Machine
end

section
/-! PROOF. O14: indirect accesses, their completion, and the hold of set 2 (R46 to R50). -/

namespace Sys2Proof.Machine

/-! ### IND_ADDR_WRITE, IND_DATA_READ and IND_DATA_WRITE (R46, R48, R49) -/

theorem wrIndAddr_spec (s : State) (i : Nat) (ap : Aperture) (v : Word) :
    (s.wrIndAddr i ap v.toNat).rd (Reg.IND_ADDR i) = v ∧
      (if (s.wrIndAddr i ap v.toNat).indAllowed i ap false then (s.wrIndAddr i ap v.toNat).flag (Fld.IND_STAT_BUSY i) = true
        else (s.wrIndAddr i ap v.toNat).flag (Fld.IND_STAT_ERR i) = true) := by
  obtain ⟨moves, _, started⟩ := ((s.indComplete i).wrN (Reg.IND_ADDR i) v.toNat).indStart_spec i ap none
  have allowed : (s.wrIndAddr i ap v.toNat).indAllowed i ap false = _ := moves.allowed ap false
  rw [allowed]
  refine ⟨moves.addr.trans ?_, started⟩
  rw [State.rd_wrN_same]
  exact BitVec.ofNat_toNat 32 v

theorem rdIndData_offset {s : State} {i : Nat} (ap : Aperture) (h : s.flag (Fld.IND_STAT_ERR i) = false) :
    (s.rdIndData i ap).2.get (Fld.IND_ADDR_OFFSET i) = ((s.indComplete i).indAdvance i).get (Fld.IND_ADDR_OFFSET i) := by
  obtain ⟨moves, _, _⟩ := ((s.indComplete i).indAdvance i).indStart_spec i ap none
  rw [State.rdIndData_word ap h]
  exact State.get_of_rd moves.addr

theorem wrIndData_spec {s : State} {i : Nat} (ap : Aperture) (v : Nat) (h : s.flag (Fld.IND_STAT_ERR i) = false) :
    if (s.indComplete i).indAllowed i ap true then
      (s.wrIndData i ap v).flag (Fld.IND_STAT_BUSY i) = true ∧
        (s.wrIndData i ap v).get (Fld.IND_ADDR_OFFSET i) = (s.get (Fld.IND_ADDR_OFFSET i) + s.indStep i) % 2 ^ 24
    else (s.wrIndData i ap v).flag (Fld.IND_STAT_ERR i) = true := by
  obtain ⟨ended, _⟩ := s.indComplete_spec i
  obtain ⟨moves, _, started⟩ := (s.indComplete i).indStart_spec i ap (some v)
  rw [State.wrIndData_word ap v h]
  cases allowed : (s.indComplete i).indAllowed i ap true with
  | false =>
    rw [Option.isSome_some, allowed] at started
    exact started
  | true =>
    rw [Option.isSome_some, allowed] at started
    rw [if_pos rfl, if_pos rfl, State.indAdvance_flag _ rfl, State.indAdvance_offset, State.indStep_congr (moves.ctl.trans ended.ctl),
      State.get_of_rd (f := Fld.IND_ADDR_OFFSET i) (moves.addr.trans ended.addr)]
    exact ⟨started, rfl⟩

theorem indirectAccesses : Claims.IndirectAccesses := by
  intro req ap v s hr i ho
  have data : (⟨req, ap, 2, 0x44 + 16 * i, 15⟩ : Access) = State.indReg req ap 1 := by
    unfold State.indReg
    rw [show 0x44 + 16 * i = 0x40 + 16 * reqClass req + 4 * 1 by omega]
  rw [data]
  refine ⟨⟨_, rfl, ?_⟩, ⟨_, rfl, ?_⟩, ⟨_, rfl, ?_⟩⟩
  · have taken : s.busWrite ⟨req, ap, 2, 0x40 + 16 * i, 15⟩ v = (s.result req 0 0).wrIndAddr i ap v.toNat := indAddrWrite_eq v hr ho
    rw [taken]
    exact wrIndAddr_spec (s.result req 0 0) i ap v
  · cases herr : s.flag (Fld.IND_STAT_ERR i) with
    | true => exact (errHolds v hr ho herr).1
    | false =>
      rw [indDataRead_eq hr ho, State.rdIndData_word ap herr]
      refine ⟨State.lastRead_result _ _ _ _, ?_⟩
      have offset := rdIndData_offset ap herr
      rw [State.rdIndData_word ap herr] at offset
      exact offset
  · cases herr : s.flag (Fld.IND_STAT_ERR i) with
    | true => exact (errHolds v hr ho herr).2
    | false =>
      have written := wrIndData_spec (s := s.result req 0 0) ap v.toNat herr
      rw [State.indComplete_result] at written
      rw [indDataWrite_eq v hr ho]
      exact written

/-! ### IND_WORD_COMPLETE (R48, R50) -/

theorem indSet_setB (s : State) (f : Fld) (b : Bool) (i : Nat) : (s.setB f b).indSet i = s.indSet i := rfl

theorem indirectCompletes : Claims.IndirectCompletes := by
  intro i s
  refine ⟨_, rfl, ?_⟩
  cases h : (s.indSet i.val).pending with
  | none => exact State.indComplete_none h
  | some p =>
    have hi := State.lt_of_pending h
    cases p with
    | read d o =>
      dsimp only
      rw [State.indComplete_read h, indSet_setB, State.indSet_modInd_same _ hi]
      exact ⟨rfl, State.busy_set _ _ _⟩
    | store d o v =>
      have stored := State.indStore_sets s d o v
      dsimp only
      rw [State.indComplete_store h, indSet_setB, State.indSet_modInd_same _ (by rw [stored]; exact hi), State.indSet_of_sets stored]
      refine ⟨rfl, State.busy_set _ _ _, fun h3 h6 => ?_⟩
      exact (State.indRead_congr rfl rfl rfl d o).trans (State.indRead_indStore s o v h3 h6)

/-! ### IND_HOLD_CLAIM and IND_HOLD_RELEASE (R50) -/

/-- A Pip's write of IND_CTL of set 2. -/
theorem indCtl_access (k : PipNo) : wordAccess (.pip k) .other (Reg.IND_CTL 2) = State.indReg (.pip k) .other 2 := by
  simp [wordAccess, State.indReg, reqClass, Reg.IND_CTL]

theorem indCtl_write {s : State} {k : PipNo} (v : Nat) (hv : v < 2 ^ 32) (hr : s.reach (.pip k) .other 2 = 2) (ho : s.heldByOther k.val = false) :
    s.writeAt (.pip k) .other (Reg.IND_CTL 2) v = (s.result (.pip k) 0 0).wrIndCtl 2 k.val v := by
  have own : (s.result (.pip k) 0 0).OwnSet (.pip k) := fun _ => ho
  have access := (State.indAccess_own own .other (BitVec.ofNat 32 v).toNat).2.2.2
  unfold State.writeAt
  rw [indCtl_access, State.busWrite_ind _ hr (by decide), access, BitVec.toNat_ofNat, Nat.mod_eq_of_lt hv]
  rfl

theorem indCtl_held {s : State} {k : PipNo} (v : Nat) (hr : s.reach (.pip k) .other 2 = 2) (ho : s.heldByOther k.val = true) :
    s.writeAt (.pip k) .other (Reg.IND_CTL 2) v = (s.result (.pip k) 0 0).badAccess (.pip k) := by
  have held : (s.result (.pip k) 0 0).indAccess (reqClass (.pip k)) (.pip k) .other 2 (some (BitVec.ofNat 32 v).toNat) =
      (0, s.result (.pip k) 0 0, true) := by
    have other : (s.result (.pip k) 0 0).heldByOther (reqPip (.pip k)) = true := ho
    unfold State.indAccess
    rw [if_neg (not_not_intro rfl), other]
    rfl
  unfold State.writeAt
  rw [indCtl_access, State.busWrite_ind _ hr (by decide), held]
  rfl

theorem heldByOther_iff (s : State) (k : Nat) :
    s.heldByOther k = true ↔ s.get (Fld.IND_STAT_OWNER 2) ≠ 0xFF ∧ s.get (Fld.IND_STAT_OWNER 2) ≠ k := by
  unfold State.heldByOther
  rw [Bool.and_eq_true, bne_iff_ne, bne_iff_ne]

theorem claim_spec (s : State) (k : PipNo) (step : BitVec 2) :
    let u := s.wrIndCtl 2 k.val (0x100 + step.toNat)
    u.get (Fld.IND_STAT_OWNER 2) = k.val ∧ u.flag (Fld.IND_CTL_HOLD 2) = true ∧ u.readData = s.readData ∧
      u.get (Fld.IND_CTL_STEP 2) = (if step = 3 then 0 else step.toNat) := by
  have hold : bitAt (0x100 + step.toNat) 8 = true := by revert step; decide
  have value : (if (0x100 + step.toNat) % 4 = 3 then 0 else (0x100 + step.toNat) % 4) = (if step = 3 then 0 else step.toNat) := by revert step; decide
  have fits : (if step = 3 then 0 else step.toNat) % 2 ^ 2 = (if step = 3 then 0 else step.toNat) := by revert step; decide
  have hk := k.isLt
  dsimp only
  unfold State.wrIndCtl
  rw [value]
  dsimp only
  rw [if_neg (by decide), if_pos hold]
  refine ⟨?_, State.flag_setB_same _ _ _ (by decide) rfl, rfl, ?_⟩
  · rw [State.get_setB_other _ _ _ _ (by decide) (.inl (by decide)), State.get_set_same _ _ _ (by decide)]
    exact Nat.mod_eq_of_lt (Nat.lt_trans hk (by decide))
  · rw [State.get_setB_other _ _ _ _ (by decide) (.inr (.inl (by decide))), State.get_set_other _ _ _ _ (by decide) (.inl (by decide)),
      State.get_set_same _ _ _ (by decide)]
    exact fits

theorem indFree_owner {s : State} {k : Nat} (h : s.get (Fld.IND_STAT_OWNER 2) = k) :
    (s.indFree k).get (Fld.IND_STAT_OWNER 2) = 0xFF ∧ (s.indFree k).flag (Fld.IND_CTL_HOLD 2) = false := by
  let s1 := (s.set (Fld.IND_STAT_OWNER 2) 0xFF).set (Fld.IND_CTL_HOLD 2) 0
  have regs : (s.indFree k).regs = s1.regs := by
    unfold State.indFree
    rw [if_pos h]
  have words (a : Nat) : (s.indFree k).rd a = s1.rd a := congrArg (fun r : RegFile => r.word a) regs
  refine ⟨(State.get_of_rd (words _)).trans ?_, (State.flag_of_rd (words _)).trans ?_⟩
  · rw [State.get_set_other _ _ _ _ (by decide) (.inl (by decide)), State.get_set_same _ _ _ (by decide)]
    rfl
  · exact State.flag_setB_same (s.set (Fld.IND_STAT_OWNER 2) 0xFF) (Fld.IND_CTL_HOLD 2) false (by decide) rfl

theorem release_eq (s : State) (k : PipNo) (step : BitVec 2) :
    s.wrIndCtl 2 k.val step.toNat = (s.set (Fld.IND_CTL_STEP 2) (if step.toNat % 4 = 3 then 0 else step.toNat % 4)).indFree k.val := by
  have hold : ¬bitAt step.toNat 8 = true := by revert step; decide
  unfold State.wrIndCtl
  dsimp only
  rw [if_neg (by decide), if_neg hold]

theorem indirectHolds : Claims.IndirectHolds := by
  intro k step s hr free mine
  have small : 0x100 + step.toNat < 2 ^ 32 ∧ step.toNat < 2 ^ 32 := by revert step; decide
  refine ⟨fun h => ⟨_, rfl, ?_⟩, fun h => ⟨_, rfl, ?_⟩, fun hf hm c hc => ?_⟩
  · have own : s.heldByOther k.val = false := by
      rw [Bool.eq_false_iff, ne_eq, heldByOther_iff]
      exact fun hn => h.elim hn.1 hn.2
    obtain ⟨owner, hold, answer, steps⟩ := claim_spec (s.result (.pip k) 0 0) k step
    rw [indCtl_write _ small.1 hr own]
    refine ⟨owner, hold, ?_, steps⟩
    unfold State.lastRead
    rw [answer]
    exact congrArg Prod.snd (State.lastRead_result s (.pip k) 0 0)
  · have own : s.heldByOther k.val = false := by
      rw [Bool.eq_false_iff, ne_eq, heldByOther_iff]
      exact fun hn => hn.2 h
    rw [indCtl_write _ small.2 hr own, release_eq]
    refine indFree_owner ?_
    rw [State.get_set_other _ _ _ _ (by decide) (.inl (by decide))]
    exact h
  · have other : s.heldByOther k.val = true := (heldByOther_iff s k.val).2 ⟨hf, hm⟩
    have counted (v : Nat) : CountedBad (.pip k) s (s.writeAt (.pip k) .other (Reg.IND_CTL 2) v) := by
      rw [indCtl_held v hr other]
      exact (countedBad_badAccess (s.result (.pip k) 0 0) (.pip k)).of_result
    rcases hc with rfl | rfl
    · exact ⟨_, rfl, counted _⟩
    · exact ⟨_, rfl, counted _⟩

/-- Settles O14: indirect accesses, their completion, and the hold of set 2. -/
theorem indirectWindow : Obligations.IndirectWindow := ⟨indirectAccesses, indirectCompletes, indirectHolds⟩

end Sys2Proof.Machine
end

section
/-! PROOF. O12: sticky bits and RECUR, EVT_FORCE, 64-bit pairs, and the management ports (R41 to R43, R525). -/

namespace Sys2Proof.Machine

/-! ### A page's EVT and RECUR (R43) -/

theorem Accesses.mono {A B : Nat → Prop} {s u : State} (h : Accesses A s u) (hab : ∀ a, A a → B a) : Accesses B s u := Touches.mono h hab

theorem getLsbD_rd (s : State) (a b : Nat) : (s.rd a).getLsbD b = (s.rdN a).testBit b := rfl

theorem testBit_setBitAt (n k i : Nat) : (setBitAt n k).testBit i = (n.testBit i || decide (k = i)) := by
  unfold setBitAt
  rw [Nat.testBit_or, Nat.testBit_two_pow]

theorem carried_of_pageOf {a b : Nat} (h : pageOf b = pageOf a) : carried b = carried a := by
  unfold carried
  rw [h]

/-- The EVT of a page, and its RECUR, are words of one page. -/
theorem carried_header {page n : Nat} (hn : n < 0x1000) (h : carried (page * 0x1000 + 0x10) = false) : carried (page * 0x1000 + n) = false :=
  (carried_of_pageOf (by unfold pageOf; omega)).trans h

theorem filter_range_eq (b : Fin 32) : (List.range 32).filter (fun k => k == b.val) = [b.val] := by
  revert b
  decide

/-- Of the bits that hardware sets, the one that the page has. -/
theorem collided_bits {w1c : Nat} (b : Fin 32) (h : w1c.testBit b.val = true) :
    (List.range 32).filter (fun k => bitAt (2 ^ b.val &&& w1c) k) = [b.val] := by
  rw [← filter_range_eq b]
  refine List.filter_congr fun k _ => ?_
  unfold bitAt
  rw [Nat.testBit_and, Nat.testBit_two_pow]
  by_cases hk : b.val = k
  · rw [← hk, h, decide_eq_true rfl, beq_self_eq_true]
    rfl
  · rw [decide_eq_false hk, Bool.false_and, beq_false_of_ne (Ne.symm hk)]

/-- A collision is counted in COUNT, saturating, and LAST names the bit; no other word moves. -/
theorem collide_spec (s : State) (page : Nat) (b : Fin 32) :
    (s.collide page b.val).rdN (page * 0x1000 + 0x20) % 2 ^ 16 = min (s.rdN (page * 0x1000 + 0x20) % 2 ^ 16 + 1) 0xFFFF ∧
      (s.collide page b.val).rdN (page * 0x1000 + 0x20) / 2 ^ 16 % 32 = b.val ∧
      Writes (· = page * 0x1000 + 0x20) s (s.collide page b.val) := by
  let count : Fld := ⟨page * 0x1000 + 0x20, 0, 16⟩
  let last : Fld := ⟨page * 0x1000 + 0x20, 16, 5⟩
  have asCount (t : State) : t.rdN (page * 0x1000 + 0x20) % 2 ^ 16 = t.get count := by
    show _ = bitsOf (t.rdN (page * 0x1000 + 0x20)) 0 16
    rw [bitsOf, Nat.pow_zero, Nat.div_one]
  have counted : (s.bumpF count).get count = min (s.get count + 1) 0xFFFF := by
    unfold State.bumpF
    rw [State.get_set_same _ _ _ (by simp [count])]
    show min (s.get count + 1) (2 ^ 16 - 1) % 2 ^ 16 = _
    omega
  refine ⟨?_, ?_, Writes.then (A := (· = page * 0x1000 + 0x20)) (writes_bumpF s count rfl) (writes_set _ last _ rfl)⟩
  · rw [asCount, asCount, ← counted]
    exact State.get_set_other _ last count _ (by simp [last]) (.inr (.inl (by simp [last, count])))
  · have named : (s.collide page b.val).get last = b.val % 2 ^ 5 := State.get_set_same _ last _ (by simp [last])
    exact named.trans (Nat.mod_eq_of_lt b.isLt)

theorem collisionsCount : Claims.CollisionsCount := by
  intro req ap page v b r s a hadm hr hbit hv hc hl hk ho hplain
  obtain ⟨hreach, hchecks⟩ := hadm
  obtain ⟨hsec, _, _⟩ := hchecks r hr
  have hrec : carried (page.val * 0x1000 + 0x20) = false := carried_header (by decide) hc
  have words : a ≠ page.val * 0x1000 + 0x20 := by omega
  have head : pageOf a = page.val := by unfold pageOf; omega
  let cleared := ((s.result req 0 0).wrN a (r.written (s.rdN a) v.toNat)).mirrorWatch
  have write : s.busWrite ⟨req, ap, page.val, 0x10, 15⟩ (BitVec.ofNat 32 v.toNat) = cleared := by
    have whole : wholeWord ⟨req, ap, page.val, 0x10, 15⟩ := by
      unfold wholeWord
      simp
    have mask : r.rw ||| r.rwl ||| r.w1c ||| r.wo ||| r.rsv ≠ 0 := fun h => by
      have none := congrArg (fun n => n.testBit b.val) h
      simp [hbit] at none
    have stores : (s.result req 0 0).wrWord req a r v.toNat = (s.result req 0 0).wrN a (r.written (s.rdN a) v.toNat) :=
      State.wrWord_plain hr hl ho (hk r hr)
    rw [BitVec.ofNat_toNat, BitVec.setWidth_eq, State.busWrite_admitted v whole ⟨hreach, hchecks⟩ hr mask]
    exact congrArg State.mirrorWatch ((hplain _).trans stores)
  have taken : (s.reach req ap page.val == 2 && !(secureOnly a r && !isSecurePath req ap)) = true := by
    rw [head] at hreach
    rw [hreach]
    cases h : secureOnly a r with
    | false => rfl
    | true => rw [hsec h]; rfl
  have effect : s.clearEvt req ap page.val v.toNat (2 ^ b.val) = (cleared.raiseEvt page.val b.val false).collide page.val b.val := by
    have bit : bitAt v.toNat b.val = true := hv
    unfold State.clearEvt
    simp only [show findRow (page.val * 0x1000 + 0x10) = some r from hr, write, collided_bits b hbit, List.foldl_cons, List.foldl_nil]
    rw [if_pos (by rw [bit, Bool.and_true]; exact taken)]
  have raised : Touches (· = a) cleared (cleared.raiseEvt page.val b.val false) := touches_raiseEvt cleared b.val false rfl
  obtain ⟨count, last, only⟩ := collide_spec (cleared.raiseEvt page.val b.val false) page.val b
  have before : (cleared.raiseEvt page.val b.val false).rdN (page.val * 0x1000 + 0x20) = s.rdN (page.val * 0x1000 + 0x20) := by
    rw [raised.rdN (Ne.symm words) hrec, State.mirrorWatch_rdN, State.rdN_wrN_other _ _ (Ne.symm words)]
    rfl
  refine ⟨_, rfl, ?_⟩
  rw [effect]
  refine ⟨?_, by rw [count, before], last, ?_⟩
  · have kept : ((cleared.raiseEvt page.val b.val false).collide page.val b.val).rdN a = setBitAt (cleared.rdN a) b.val :=
      (State.rdN_of_rd (only.2 a words)).trans (rdN_raiseEvt cleared page.val b.val false hc b.isLt)
    rw [getLsbD_rd, kept, testBit_setBitAt, decide_eq_true rfl, Bool.or_true]
  · have first : Accesses (fun w => w = a ∨ w = page.val * 0x1000 + 0x20) s cleared := (accesses_wrN s req a _).mono fun _ h => .inl h
    exact (first.then (raised.mono fun _ h => .inl h)).then (only.touches.mono fun _ h => .inr h)

/-! ### The header's words that act (R43) -/

/-- No word of a page's header is half of a pair (R36, R41). -/
theorem pairLow_header {a : Nat} (h : a % 0x1000 < 0x40) : pairLow a = false := by
  have table : ∀ e ∈ pairTable, ∀ o ∈ e.2.2, 0x40 ≤ o := by decide
  have outside : pairTable.any (fun e => e.1 ≤ pageOf a && pageOf a ≤ e.2.1 && e.2.2.contains (a % 0x1000)) = false := by
    refine List.any_eq_false.2 fun e he hn => ?_
    simp only [Bool.and_eq_true, List.contains_iff_mem] at hn
    have := table e he _ hn.2
    omega
  unfold pairLow
  dsimp only
  rw [outside]
  simp
  omega

theorem header_mod (page : Nat) {n : Nat} (h : n < 0x1000) : (page * 0x1000 + n) % 0x1000 = n := by omega

theorem header_page (page : Nat) {n : Nat} (h : n < 0x1000) : pageOf (page * 0x1000 + n) = page := by
  unfold pageOf
  omega

theorem wrKnown_header (s : State) (req : Requester) (page : Nat) {n : Nat} (r : RegRow) (v : Nat) (h4 : 4 ≤ n) (h : n < 0x40) (h8 : n ≠ 8) :
    s.wrKnown req (page * 0x1000 + n) r v = s.wrEffect req (page * 0x1000 + n) r v := by
  have here : pairLow (page * 0x1000 + n) = false := pairLow_header (by omega)
  have below : pairLow (page * 0x1000 + n - 4) = false := pairLow_header (by omega)
  have other : page * 0x1000 + n ≠ Reg.CFG_CTL := by
    unfold Reg.CFG_CTL
    omega
  unfold State.wrKnown
  rw [if_neg other, here, below]
  simp

/-- A header's word that is written by a requester takes its own effect. -/
theorem writeAt_header {s : State} {req : Requester} {ap : Aperture} {page n : Nat} {r : RegRow} {v : Nat} (h : s.Admits req ap (page * 0x1000 + n))
    (hr : findRow (page * 0x1000 + n) = some r) (hm : r.wo ≠ 0) (hv : v < 2 ^ 32) (hn : n % 4 = 0 ∧ 4 ≤ n ∧ n < 0x40 ∧ n ≠ 8) :
    s.writeAt req ap (page * 0x1000 + n) v = ((s.result req 0 0).wrEffect req (page * 0x1000 + n) r v).mirrorWatch := by
  obtain ⟨h4, hlo, hhi, h8⟩ := hn
  have access : wordAccess req ap (page * 0x1000 + n) = ⟨req, ap, page, n, 15⟩ := by
    unfold wordAccess
    rw [header_mod page (by omega), show (page * 0x1000 + n) / 0x1000 = page from header_page page (by omega)]
  have whole : wholeWord ⟨req, ap, page, n, 15⟩ := ⟨rfl, h4, Nat.lt_trans hhi (by decide), fun hn => absurd hn.2.1 (Nat.not_le_of_lt hhi)⟩
  have mask : r.rw ||| r.rwl ||| r.w1c ||| r.wo ||| r.rsv ≠ 0 := by simp [Nat.or_eq_zero_iff, hm]
  unfold State.writeAt
  rw [access, State.busWrite_admitted (BitVec.ofNat 32 v) whole h hr mask, BitVec.toNat_ofNat, Nat.mod_eq_of_lt hv]
  exact congrArg State.mirrorWatch (wrKnown_header _ req page r _ hlo hhi h8)

/-- Events that are forced, one after another. -/
def forceAll (req : Requester) (page : Nat) (l : List Nat) (s : State) : State :=
  l.foldl (fun t b => (t.emitWith false (State.reqSource req) 12 "EVT_FORCE" (page * 32 + b) false true).raiseEvt page b true) s

theorem forceAll_spec (req : Requester) {page : Nat} (hc : carried (page * 0x1000 + 0x10) = false) (l : List Nat) (hl : ∀ b ∈ l, b < 32) (s : State) :
    (∀ i, ((forceAll req page l s).rdN (page * 0x1000 + 0x10)).testBit i = ((s.rdN (page * 0x1000 + 0x10)).testBit i || decide (i ∈ l))) ∧
      Touches (· = page * 0x1000 + 0x10) s (forceAll req page l s) := by
  induction l generalizing s with
  | nil => exact ⟨fun i => by simp [forceAll], .refl _ s⟩
  | cons b l ih =>
    let told := s.emitWith false (State.reqSource req) 12 "EVT_FORCE" (page * 32 + b) false true
    have emitted : Touches (· = page * 0x1000 + 0x10) s told := touches_emitWith _ s _ _ _ _ _ _ _
    have word : told.rdN (page * 0x1000 + 0x10) = s.rdN (page * 0x1000 + 0x10) :=
      State.rdN_of_rd (congrArg (fun r : RegFile => r.word (page * 0x1000 + 0x10)) (emitWith_regs s _ _ _ _ _ _ _))
    obtain ⟨bits, rest⟩ := ih (fun k hk => hl k (List.mem_cons_of_mem b hk)) (told.raiseEvt page b true)
    refine ⟨fun i => ?_, (emitted.then (touches_raiseEvt told b true rfl)).then rest⟩
    refine (bits i).trans ?_
    rw [rdN_raiseEvt told page b true hc (hl b List.mem_cons_self), word, testBit_setBitAt]
    simp only [List.mem_cons, Bool.decide_or, Bool.or_assoc, eq_comm]

theorem recurAndForce : Claims.RecurAndForce := by
  intro req ap page r s
  refine ⟨fun hadm hr hwo => ⟨_, rfl, ?_⟩, fun v hadm hr hwo hc => ⟨_, rfl, ?_⟩⟩
  · have write : s.writeAt req ap (page.val * 0x1000 + 0x20) (2 ^ 31) = ((s.result req 0 0).wrN (page.val * 0x1000 + 0x20) 0).mirrorWatch := by
      rw [writeAt_header hadm hr hwo (by decide) (by decide)]
      unfold State.wrEffect
      rw [header_mod page.val (by decide)]
      rfl
    rw [write]
    exact ⟨(State.mirrorWatch_rd _ _).trans (State.rd_wrN_same _ _ _), accesses_wrN s req _ 0⟩
  · have write : s.writeAt req ap (page.val * 0x1000 + 0x18) v.toNat =
        (forceAll req page.val ((List.range 32).filter (fun b => bitAt (v.toNat &&& r.wo) b)) (s.result req 0 0)).mirrorWatch := by
      rw [writeAt_header hadm hr hwo v.isLt (by decide)]
      unfold State.wrEffect
      rw [header_mod page.val (by decide), header_page page.val (by decide)]
      rfl
    have small : ∀ b ∈ (List.range 32).filter (fun b => bitAt (v.toNat &&& r.wo) b), b < 32 := fun b hb =>
      List.mem_range.1 (List.mem_filter.1 hb).1
    obtain ⟨bits, touched⟩ := forceAll_spec req hc _ small (s.result req 0 0)
    rw [write]
    refine ⟨fun b hb => ?_, accesses_of_touches touched⟩
    rw [State.mirrorWatch_rd, getLsbD_rd, bits b]
    have forced : decide (b ∈ (List.range 32).filter (fun b => bitAt (v.toNat &&& r.wo) b)) = (v.getLsbD b && r.wo.testBit b) := by
      rw [Bool.eq_iff_iff, decide_eq_true_eq, List.mem_filter, List.mem_range, bitAt, Nat.testBit_and]
      exact and_iff_right hb
    rw [forced]
    rfl

end Sys2Proof.Machine
end

section
/-! PROOF. O12: 64-bit pairs (R41, R42), the management ports (R525), and the obligation. -/

namespace Sys2Proof.Machine

/-! ### Where the pairs lie (R41, R42) -/

/-- No lower word lies on the pages whose reads act, nor among the words that TC_NOW_FRAC latches. -/
theorem pairLow_apart {a : Nat} (h : pairLow a = true) : pageOf a ≠ 6 ∧ pageOf a ≠ 7 ∧ (pageOf a = 4 → 0x50 ≤ a % 0x1000) := by
  have table : ∀ e ∈ pairTable, (8 ≤ e.1 ∨ e.2.1 ≤ 4) ∧ (e.1 ≤ 4 → ∀ o ∈ e.2.2, 0x50 ≤ o) := by decide
  unfold pairLow at h
  simp only [Bool.or_eq_true, List.any_eq_true, Bool.and_eq_true, decide_eq_true_eq, List.contains_iff_mem, beq_iff_eq] at h
  obtain (⟨e, he, ⟨hlo, hhi⟩, ho⟩ | ⟨⟨⟨hg, _⟩, _⟩, _⟩) | ⟨⟨⟨⟨hg, _⟩, _⟩, _⟩, _⟩ := h
  · obtain ⟨apart, low⟩ := table e he
    exact ⟨by omega, by omega, fun h4 => low (by omega) _ ho⟩
  · exact ⟨by omega, by omega, fun h4 => by omega⟩
  · exact ⟨by omega, by omega, fun h4 => by omega⟩

theorem pairLow_ne_of_false {a b : Nat} (ha : pairLow a = true) (hb : pairLow b = false) : a ≠ b := by
  rintro rfl
  exact absurd ha (by rw [hb]; decide)

theorem pairLow_ne_now {a : Nat} (h : pairLow a = true) : a ≠ Reg.TC_NOW_FRAC := pairLow_ne_of_false h (by decide)

theorem pairLow_boundWords {a : Nat} (h : pairLow a = true) : boundWords.contains a = false := by
  have lone : ∀ w ∈ boundWords, pairLow w = false := by decide
  rw [← Bool.not_eq_true, List.contains_iff_mem]
  exact fun hm => pairLow_ne_of_false h (lone a hm) rfl

/-! ### Latches (R41) -/

namespace State

theorem latch_setLatch_same (s : State) (req : Requester) (a v : Nat) : (s.setLatch req a v).latch req a = v % 2 ^ 32 := by
  unfold latch setLatch
  simp

theorem latch_setLatch_other (s : State) (req : Requester) {a b : Nat} (v : Nat) (h : b ≠ a) : (s.setLatch req b v).latch req a = s.latch req a := by
  have found : (s.setLatch req b v).latches.find? (fun e => e.1 == req && e.2.1 == a) = s.latches.find? (fun e => e.1 == req && e.2.1 == a) := by
    unfold setLatch
    rw [List.find?_cons_of_neg (by simp [h]), List.find?_filter]
    congr 1
    funext e
    by_cases ha : e.2.1 = a
    · rw [beq_false_of_ne (show e.2.1 ≠ b from fun hb => h (hb.symm.trans ha)), Bool.and_false]
      simp only [Bool.not_false, true_and, Bool.decide_eq_true]
    · simp [ha]
  unfold latch
  rw [found]

theorem setLatches_eq (s : State) (req : Requester) (l : List (Nat × Nat)) : s.setLatches req l = { s with latches := (s.setLatches req l).latches } := by
  induction l generalizing s with
  | nil => rfl
  | cons e l ih => exact ih (s.setLatch req e.1 e.2)

theorem latch_setLatches_other (s : State) (req : Requester) {a : Nat} {l : List (Nat × Nat)} (h : ∀ e ∈ l, e.1 ≠ a) :
    (s.setLatches req l).latch req a = s.latch req a := by
  induction l generalizing s with
  | nil => rfl
  | cons e l ih =>
    have rest := ih (s.setLatch req e.1 e.2) fun e' he => h e' (List.mem_cons_of_mem e he)
    exact rest.trans (latch_setLatch_other s req e.2 (h e List.mem_cons_self))

/-- EB_BOUND_L latches its own upper word among the rest of the bound. -/
theorem latch_bound (s : State) (req : Requester) :
    (s.setLatches req (boundWords.map (fun w => (w, s.live w)))).latch req (Reg.EB_BOUND_L + 4) = s.live (Reg.EB_BOUND_L + 4) % 2 ^ 32 := by
  have others : ∀ e ∈ boundWords.tail.map (fun w => (w, s.live w)), e.1 ≠ Reg.EB_BOUND_L + 4 := by
    have apart : ∀ w ∈ boundWords.tail, w ≠ Reg.EB_BOUND_L + 4 := by decide
    intro e he
    obtain ⟨w, hw, rfl⟩ := List.mem_map.1 he
    exact apart w hw
  exact (latch_setLatches_other (s.setLatch req (Reg.EB_BOUND_L + 4) (s.live (Reg.EB_BOUND_L + 4))) req others).trans
    (latch_setLatch_same s req _ _)

/-- A lower word is read as it is, and the upper word of the same cycle is latched for the requester. -/
theorem readWord_pairLow {s : State} (req : Requester) {a : Nat} (h : pairLow a = true) (hpc : ¬(0xE0 ≤ pageOf a ∧ pageOf a ≤ 0xE3)) :
    ∃ l, s.readWord req a = (s.live a, { s with latches := l }) ∧ ({ s with latches := l } : State).latch req (a + 4) = s.live (a + 4) % 2 ^ 32 := by
  obtain ⟨h6, h7, h4⟩ := pairLow_apart h
  have started : (if 0xE0 ≤ pageOf a && pageOf a ≤ 0xE3 then s.pcSync else s) = s := if_neg (by simpa using hpc)
  unfold readWord
  dsimp only
  rw [started, if_neg (pairLow_ne_now h), if_neg (by simp; omega), if_neg (by simp [h6]), if_neg (by simp [h6]), if_neg (by simp [h7])]
  by_cases hb : a = Reg.EB_BOUND_L
  · rw [if_pos hb, hb]
    have moved := setLatches_eq s req (boundWords.map (fun w => (w, s.live w)))
    exact ⟨_, congrArg (Prod.mk _) moved, moved ▸ latch_bound s req⟩
  · rw [if_neg hb, pairLow_boundWords h, h]
    exact ⟨_, rfl, latch_setLatch_same s req _ _⟩

/-! ### The staging words (R42) -/

theorem staged_stage (s : State) (req : Requester) (a : Nat) (v : Word) : (s.stage req a v.toNat).staged req a = some v.toNat := by
  unfold staged stage
  simp

theorem staged_unstage (s : State) (req : Requester) (a : Nat) : (s.unstage req a).staged req a = none := by
  unfold staged unstage
  simp [List.find?_filter]
  exact fun _ _ _ _ apart here => apart.resolve_left fun h => h here

theorem staged_lt {s : State} {req : Requester} {a lo : Nat} (h : s.staged req a = some lo) : lo < 2 ^ 32 := by
  obtain ⟨e, _, rfl⟩ := Option.map_eq_some_iff.1 h
  exact e.2.2.isLt

theorem staged_of_staging {s t : State} (h : t.staging = s.staging) (req : Requester) (a : Nat) : t.staged req a = s.staged req a := by
  unfold staged
  rw [h]

theorem mirrorWatch_staging (s : State) : s.mirrorWatch.staging = s.staging := (congrArg State.staging (mirrorWatch_same s) :)

theorem wrKnown_lower (s : State) (req : Requester) {a : Nat} (r : RegRow) (v : Nat) (h : pairLow a = true) : s.wrKnown req a r v = s.stage req a v := by
  unfold wrKnown
  rw [if_neg (pairLow_ne_of_false h (by decide)), if_pos h]

/-- An upper word completes the pair that its lower word's staging began, and does nothing where none did. -/
theorem wrKnown_upper (s : State) (req : Requester) {a : Nat} (r : RegRow) (v : Nat) (h4 : 4 ≤ a) (hlow : pairLow (a - 4) = true)
    (h : pairLow a = false) :
    (s.staged req (a - 4) = none → s.wrKnown req a r v = s) ∧
      ∀ lo, s.staged req (a - 4) = some lo → s.wrKnown req a r v = (s.unstage req (a - 4)).wrPair req a r lo v := by
  have other : a ≠ Reg.CFG_CTL := by
    rintro rfl
    exact absurd hlow (by decide)
  unfold wrKnown
  rw [if_neg other, if_neg (by rw [h]; decide), if_pos (by simp [h4, hlow])]
  exact ⟨fun none => by rw [none], fun lo some => by rw [some]⟩

end State

/-! ### The accesses of a pair -/

theorem mask_of_rw {r : RegRow} (h : r.rw ≠ 0) : r.rw ||| r.rwl ||| r.w1c ||| r.wo ||| r.rsv ≠ 0 := by simp [Nat.or_eq_zero_iff, h]

theorem lowerRead (x : Access) (s : State) (hx : wholeWord x) (hlow : pairLow (addrOf x) = true) (hrow : (findRow (addrOf x)).isSome = true)
    (hreach : s.reach x.req x.ap x.page ≠ 0) (hpc : ¬(0xE0 ≤ x.page ∧ x.page ≤ 0xE3)) :
    Effect (.lowerWordRead x) s (fun u =>
      u.lastRead x.req = (BitVec.ofNat 32 (s.live (addrOf x)), 0) ∧ u.latch x.req (addrOf x + 4) = s.live (addrOf x + 4) % 2 ^ 32 ∧
        u = { s with readData := u.readData, latches := u.latches }) := by
  obtain ⟨_, hal, hoff, hind⟩ := hx
  obtain ⟨l, hread, hlatch⟩ := State.readWord_pairLow (s := s) x.req hlow (by rwa [pageOf_addrOf hoff])
  have read : s.busRead x = ({ s with latches := l } : State).result x.req (BitVec.ofNat 32 (s.live (addrOf x))) 0 := by
    unfold State.busRead
    rw [if_neg hreach, if_neg (by simp [hal]; omega), if_neg (by simpa [and_assoc] using hind), if_pos (by rw [hrow, Bool.or_true]), hread]
  refine ⟨_, rfl, ?_⟩
  show (s.busRead x).lastRead x.req = _ ∧ (s.busRead x).latch x.req _ = _ ∧ s.busRead x = _
  rw [read]
  exact ⟨State.lastRead_result _ _ _ _, hlatch, rfl⟩

theorem lowerWrite (x : Access) (v : Word) (s : State) (hx : wholeWord x) (hlow : pairLow (addrOf x) = true)
    (hrow : ∃ r, findRow (addrOf x) = some r ∧ r.rw ≠ 0) (hadm : s.Admits x.req x.ap (addrOf x)) :
    Effect (.lowerWordWrite x v) s (fun u =>
      u.staged x.req (addrOf x) = some v.toNat ∧ Accesses (fun _ => False) { s with staging := u.staging } u) := by
  obtain ⟨r, hr, hrw⟩ := hrow
  refine ⟨_, rfl, ?_⟩
  show (s.busWrite x v).staged x.req _ = _ ∧ Accesses (fun _ => False) { s with staging := (s.busWrite x v).staging } (s.busWrite x v)
  rw [State.busWrite_admitted v hx hadm hr (mask_of_rw hrw), State.wrKnown_lower _ _ r _ hlow, State.mirrorWatch_staging]
  refine ⟨?_, accesses_mirrored (Touches.refl _ _)⟩
  rw [State.staged_of_staging (State.mirrorWatch_staging _)]
  exact State.staged_stage _ _ _ v

theorem upperAlone (x : Access) (v : Word) (s : State) (hx : wholeWord x) (h4 : 4 ≤ addrOf x) (hlow : pairLow (addrOf x - 4) = true)
    (hup : pairLow (addrOf x) = false) (hrow : ∃ r, findRow (addrOf x) = some r ∧ r.rw ≠ 0) (hadm : s.Admits x.req x.ap (addrOf x))
    (hstaged : s.staged x.req (addrOf x - 4) = none) : Effect (.upperWordWrite x v) s (fun u => Accesses (fun _ => False) s u) := by
  obtain ⟨r, hr, hrw⟩ := hrow
  have ignored : (s.result x.req 0 0).wrKnown x.req (addrOf x) r v.toNat = s.result x.req 0 0 :=
    (State.wrKnown_upper _ _ r _ h4 hlow hup).1 hstaged
  refine ⟨_, rfl, ?_⟩
  show Accesses _ s (s.busWrite x v)
  rw [State.busWrite_admitted v hx hadm hr (mask_of_rw hrw), ignored]
  exact accesses_mirrored (Touches.refl _ _)

/-- A register of 32 RW bits and nothing else takes the whole word. -/
theorem RegRow.written_full {r : RegRow} (hrw : r.rw = 0xFFFFFFFF) (hw : r.w1c = 0) (old : Nat) {v : Nat} (hv : v < 2 ^ 32) : r.written old v = v := by
  have whole : v &&& 0xFFFFFFFF = v := Nat.and_two_pow_sub_one_of_lt_two_pow hv
  unfold RegRow.written
  rw [hrw, hw, Nat.xor_self, Nat.and_zero, Nat.zero_or, Nat.and_zero, Nat.xor_zero, whole, whole]

theorem wrWord_full {s : State} {req : Requester} {a v : Nat} {r : RegRow} (hr : findRow a = some r) (hrw : r.rw = 0xFFFFFFFF) (hrwl : r.rwl = 0)
    (hw : r.w1c = 0) (hrsv : r.rsv = 0) (ho : s.ownedMask a = 0) (hv : v < 2 ^ 32) : s.wrWord req a r v = s.wrN a v := by
  rw [State.wrWord_plain hr hrwl ho (by rw [hrsv, Nat.and_zero]), RegRow.written_full hrw hw _ hv]

theorem upperPair (x : Access) (v : Word) (s : State) (hx : wholeWord x) (h4 : 4 ≤ addrOf x) (hlow : pairLow (addrOf x - 4) = true)
    (hup : pairLow (addrOf x) = false) (hadm : s.Admits x.req x.ap (addrOf x)) {lo : Nat} {l r : RegRow}
    (hstaged : s.staged x.req (addrOf x - 4) = some lo) (hl : findRow (addrOf x - 4) = some l) (hr : findRow (addrOf x) = some r)
    (hlrw : l.rw = 0xFFFFFFFF) (hrrw : r.rw = 0xFFFFFFFF) (hz : l.rwl ||| l.w1c ||| l.rsv ||| r.rwl ||| r.w1c ||| r.rsv = 0)
    (hol : s.ownedMask (addrOf x - 4) = 0) (hor : s.ownedMask (addrOf x) = 0)
    (hplain : ∀ t : State, t.wrPair x.req (addrOf x) r lo v.toNat = (t.wrWord x.req (addrOf x - 4) l lo).wrWord x.req (addrOf x) r v.toNat) :
    Effect (.upperWordWrite x v) s (fun u =>
      u.rd64 (addrOf x - 4) = v.toNat * 2 ^ 32 + lo ∧ u.staged x.req (addrOf x - 4) = none) := by
  simp only [Nat.or_eq_zero_iff] at hz
  obtain ⟨⟨⟨⟨⟨hlrwl, hlw⟩, hlrsv⟩, hrrwl⟩, hrw⟩, hrrsv⟩ := hz
  have small := State.staged_lt hstaged
  let fresh := (s.result x.req 0 0).unstage x.req (addrOf x - 4)
  have write : s.busWrite x v = ((fresh.wrN (addrOf x - 4) lo).wrN (addrOf x) v.toNat).mirrorWatch := by
    have first : fresh.wrWord x.req (addrOf x - 4) l lo = fresh.wrN (addrOf x - 4) lo := wrWord_full hl hlrw hlrwl hlw hlrsv hol small
    have second : (fresh.wrN (addrOf x - 4) lo).wrWord x.req (addrOf x) r v.toNat = (fresh.wrN (addrOf x - 4) lo).wrN (addrOf x) v.toNat :=
      wrWord_full hr hrrw hrrwl hrw hrrsv hor v.isLt
    rw [State.busWrite_admitted v hx hadm hr (mask_of_rw (by rw [hrrw]; decide)), (State.wrKnown_upper (s.result x.req 0 0) _ r _ h4 hlow hup).2 lo hstaged]
    exact congrArg State.mirrorWatch ((hplain fresh).trans (by rw [first, second]))
  refine ⟨_, rfl, ?_⟩
  show (s.busWrite x v).rd64 _ = _ ∧ (s.busWrite x v).staged _ _ = _
  rw [write, State.staged_of_staging (State.mirrorWatch_staging _)]
  refine ⟨?_, State.staged_unstage _ _ _⟩
  unfold State.rd64
  rw [State.mirrorWatch_rdN, State.mirrorWatch_rdN, Nat.sub_add_cancel h4, State.rdN_wrN_same, State.rdN_wrN_other _ _ (by omega), State.rdN_wrN_same,
    Nat.mod_eq_of_lt small, Nat.mod_eq_of_lt v.isLt]
  omega

theorem pairAccesses : Claims.PairAccesses := fun x v s hx =>
  ⟨lowerRead x s hx, lowerWrite x v s hx, fun h4 hlow hup hrow hadm =>
    ⟨upperAlone x v s hx h4 hlow hup hrow hadm, fun _ _ _ hs hl hr hlrw hrrw hz hol hor hplain =>
      upperPair x v s hx h4 hlow hup hadm hs hl hr hlrw hrrw hz hol hor hplain⟩⟩

/-! ### The management ports (R525) -/

theorem counted_mgmt (s : State) : (s.badAccess .mgmt).rdN Reg.SYS_BADACC = min (s.rdN Reg.SYS_BADACC + 1) 0xFFFFFFFF ∧
    Writes (· = Reg.SYS_BADACC) { s with readData := (s.badAccess .mgmt).readData } (s.badAccess .mgmt) := by
  obtain ⟨count, _, only⟩ := countedBad_badAccess s .mgmt
  exact ⟨count, only⟩

theorem managementPorts : Claims.ManagementPorts := by
  intro b s
  refine ⟨⟨_, rfl, ?_⟩, ⟨_, rfl, ?_⟩⟩
  · beta_reduce
    unfold State.mspi
    simp only [Bool.and_eq_true, decide_eq_true_eq]
    split_ifs
    · rfl
    · rfl
    · rfl
    · exact counted_mgmt s
  · beta_reduce
    unfold State.mi2c
    split_ifs
    · rfl
    · rfl
    · rfl
    · exact counted_mgmt s

/-- Settles O12: collisions, forced events, 64-bit pairs and the management ports, each by its own lemma. -/
theorem eventBitsAndPairs : Obligations.EventBitsAndPairs := ⟨collisionsCount, recurAndForce, pairAccesses, managementPorts⟩

end Sys2Proof.Machine
end

section
/-! SUPPORT. What the machine does beside a Pip's own words: the words of the Pips' pages that events, the switch and the reference selection leave. -/

namespace Sys2Proof.Machine

/-! ### The words -/

/-- TC_SLOPE, and the words of the Pips' pages but for EVT and INBOX_OVF, which a message to a Pip may change (R379). -/
def Quiet (a : Nat) : Prop := a = Reg.TC_SLOPE ∨ 0xA0000 ≤ a ∧ a < 0xBC000 ∧ a % 0x1000 ≠ 0x10 ∧ a % 0x1000 ≠ 0x98

/-- An address that is no quiet word's, nor that of a Pip's EVT. -/
abbrev Away (b : Nat) : Prop := b ≠ Reg.TC_SLOPE ∧ (b < 0xA0000 ∨ 0xBC000 ≤ b ∨ b % 0x1000 = 0x98)

theorem Away.ne {a b : Nat} (h : Away b) (ha : Quiet a) : a ≠ b := by
  unfold Quiet at ha
  unfold Away Reg.TC_SLOPE at h
  unfold Reg.TC_SLOPE at ha
  omega

theorem away_below {b x : Nat} (h : 0x5000 ≤ b) (hx : b + x < 0xA0000) : Away (b + x) := by
  unfold Away Reg.TC_SLOPE
  omega

theorem away_above {b : Nat} (x : Nat) (h : 0xBC000 ≤ b) : Away (b + x) := by
  unfold Away Reg.TC_SLOPE
  omega

theorem away_inboxOvf (k : Nat) : Away (Reg.PPk_INBOX_OVF k) := by
  unfold Away Reg.PPk_INBOX_OVF Reg.TC_SLOPE
  omega

theorem Away.ne_evt {b k : Nat} (h : Away b) (hk : k < 28) : Reg.PPk_EVT k ≠ b := by
  unfold Away at h
  unfold Reg.PPk_EVT
  omega

/-- An event of a page that is no Pip's is in a word that is away. -/
theorem quiet_ne_evt {a : Nat} (page : Nat) (h : Quiet a) : a ≠ page * 0x1000 + 0x10 := by
  unfold Quiet Reg.TC_SLOPE at h
  omega

theorem quiet_pip {k n : Nat} (hk : k < 28) (hn : n < 0x1000) (h1 : n ≠ 0x10) (h2 : n ≠ 0x98) : Quiet (0xA0000 + n + k * 0x1000) := by
  unfold Quiet
  omega

/-! ### The relation -/

/-- Nothing has happened to the Pips but messages and events: their words stand, a recorded failure stays, and so do their programs' entries. -/
structure Beside (s t : State) : Prop where
  words : ∀ a, Quiet a → t.rd a = s.rd a
  fails : ∀ k, k < 28 → s.flag (Fld.PPk_EVT_FAIL k) = true → t.flag (Fld.PPk_EVT_FAIL k) = true
  programs : ∀ k, (t.pip k).entries = (s.pip k).entries ∧ (t.pip k).entry = (s.pip k).entry

section
variable {s t u : State}

theorem Beside.refl (s : State) : Beside s s := ⟨fun _ _ => rfl, fun _ _ h => h, fun _ => ⟨rfl, rfl⟩⟩

theorem Beside.then (h : Beside s t) (k : Beside t u) : Beside s u where
  words a ha := (k.words a ha).trans (h.words a ha)
  fails j hj hs := k.fails j hj (h.fails j hj hs)
  programs j := ⟨(k.programs j).1.trans (h.programs j).1, (k.programs j).2.trans (h.programs j).2⟩

theorem Beside.ite {c : Prop} [Decidable c] (h : Beside s t) (k : Beside s u) : Beside s (if c then t else u) := by
  split
  · exact h
  · exact k

theorem Beside.ite_left {c : Prop} [Decidable c] (h : Beside s t) : Beside s (if c then t else s) := h.ite (.refl s)

theorem Beside.foldl {α : Type} (l : List α) (f : State → α → State) (h : ∀ (t : State) (x : α), x ∈ l → Beside t (f t x)) (s : State) :
    Beside s (l.foldl f s) := by
  induction l generalizing s with
  | nil => exact .refl s
  | cons x l ih => exact (h s x List.mem_cons_self).then (ih (fun t y hy => h t y (List.mem_cons_of_mem x hy)) (f s x))

theorem Beside.of_regs (h : t.regs = s.regs) (hp : t.pips = s.pips) : Beside s t where
  words a _ := congrArg (fun r : RegFile => r.word a) h
  fails k _ hs := (State.flag_of_rd (f := Fld.PPk_EVT_FAIL k) (congrArg (fun r : RegFile => r.word (Reg.PPk_EVT k)) h)).trans hs
  programs k := by
    unfold State.pip
    rw [hp]
    exact ⟨rfl, rfl⟩

theorem Beside.flag (h : Beside s t) {f : Fld} (hf : Quiet f.addr) : t.flag f = s.flag f := State.flag_of_rd (h.words _ hf)
theorem Beside.get (h : Beside s t) {f : Fld} (hf : Quiet f.addr) : t.get f = s.get f := State.get_of_rd (h.words _ hf)
theorem Beside.rdN (h : Beside s t) {a : Nat} (ha : Quiet a) : t.rdN a = s.rdN a := State.rdN_of_rd (h.words _ ha)

end

/-! ### Register words -/

section
variable (s : State) {a : Nat} {f : Fld}

theorem beside_wrN (n : Nat) (h : Away a) : Beside s (s.wrN a n) where
  words _ hb := State.rd_wrN_other s n (h.ne hb)
  fails _ hk hs := (State.flag_of_rd (State.rd_wrN_other s n (h.ne_evt hk))).trans hs
  programs _ := ⟨rfl, rfl⟩

theorem beside_set (v : Nat) (h : Away f.addr) : Beside s (s.set f v) := beside_wrN s _ h
theorem beside_setB (b : Bool) (h : Away f.addr) : Beside s (s.setB f b) := beside_wrN s _ h
theorem beside_bump (h : Away a) : Beside s (s.bump a) := beside_wrN s _ h
theorem beside_bumpF (h : Away f.addr) : Beside s (s.bumpF f) := beside_wrN s _ h

end

theorem pip_modPip (s : State) (k j : Nat) (f : Pip → Pip) : (s.modPip k f).pip j = s.pip j ∨ (s.modPip k f).pip j = f (s.pip j) := by
  unfold State.pip State.modPip
  by_cases hj : j < s.pips.length
  · by_cases hk : k = j
    · exact .inr (by simp [List.getD_eq_getElem?_getD, hk, hj])
    · exact .inl (by simp [List.getD_eq_getElem?_getD, hk])
  · exact .inl (by simp [List.getD_eq_getElem?_getD, hj])

theorem beside_modPip (s : State) (k : Nat) {f : Pip → Pip} (h : ∀ p, (f p).entries = p.entries ∧ (f p).entry = p.entry) : Beside s (s.modPip k f) where
  words _ _ := rfl
  fails _ _ hs := hs
  programs j := by
    rcases pip_modPip s k j f with hj | hj
    · rw [hj]
      exact ⟨rfl, rfl⟩
    · rw [hj]
      exact h _

/-! ### Events and what they carry to the Pips (R379, R474) -/

theorem beside_signal (s : State) (page bit : Nat) : Beside s (s.signal page bit) := by
  unfold State.signal
  exact .ite_left (.of_regs rfl rfl)

theorem beside_emitWith (s : State) (full : Bool) (source cls : Nat) (name : String) (payload : Nat) (conseq forced : Bool) :
    Beside s (s.emitWith full source cls name payload conseq forced) := by
  unfold State.emitWith
  exact .ite (.refl s) (.of_regs rfl rfl)

theorem beside_emit (s : State) (source cls : Nat) (name : String) : Beside s (s.emit source cls name) := beside_emitWith s _ _ _ _ _ _ _

theorem beside_emitT (s : State) (source cls : Nat) (name : String) : Beside s (s.emitT source cls name) := beside_emitWith s _ _ _ _ _ _ _

theorem beside_inboxOvf (s : State) (k : Nat) : Beside s (s.set (Fld.PPk_EVT_INBOX_OVF k) 1) where
  words a ha := by
    refine State.rd_set_other s _ _ ?_
    have apart := quiet_ne_evt (0xA0 + k) ha
    show a ≠ Reg.PPk_EVT k
    unfold Reg.PPk_EVT
    omega
  fails j _ hs := (State.flag_set_other s _ _ _ (by simp) (.inr (.inl (by simp)))).trans hs
  programs _ := ⟨rfl, rfl⟩

theorem beside_tell (s : State) (k : Nat) (m : PipMsg) : Beside s (s.tell k m) := by
  unfold State.tell
  refine .ite (.ite (beside_modPip s k fun _ => ⟨rfl, rfl⟩) ?_) (.ite_left (beside_bump s (away_inboxOvf 24)))
  exact ((beside_bump s (away_inboxOvf k)).then (beside_inboxOvf _ k)).then (beside_signal _ _ _)

theorem beside_refreshFc (s : State) : Beside s s.refreshFc :=
  (((beside_setB s _ (by decide)).then (beside_setB _ _ (by decide))).then (beside_setB _ _ (by decide))).then (beside_wrN _ _ (by decide))

theorem beside_beginBlockReset (s : State) (t inst : Nat) : Beside s (s.beginBlockReset t inst) := by
  have h (u : State) (hr : u.regs = s.regs) (hp : u.pips = s.pips) : Beside s (u.emit 0x3C 2 "BLOCK_RESET").refreshFc :=
    ((Beside.of_regs hr hp).then (beside_emit u _ _ _)).then (beside_refreshFc _)
  unfold State.beginBlockReset
  exact h _ rfl rfl

theorem beside_fcReact (s : State) (src inst level : Nat) (severe esc : Bool) : Beside s (s.fcReact src inst level severe esc) := by
  have reset (u : State) (t : Option Nat) : Beside u (match t with
      | some t => u.beginBlockReset t inst
      | none => u) := by
    cases t with
    | some t => exact beside_beginBlockReset u t inst
    | none => exact .refl u
  unfold State.fcReact
  refine .ite (.refl s) ?_
  have last (u : State) (n : Nat) (c : Collector) (h : Beside s u) :
      Beside s (if level = 4 then { (u.wrN Reg.FC_RST_CAUSE n) with fc := c } else u) :=
    .ite (h.then ((beside_wrN u n (by decide)).then (.of_regs rfl rfl))) h
  refine last _ _ _ ?_
  refine .then ?_ (.ite_left (reset _ _))
  refine .then ?_ (.ite_left ((beside_set _ (f := Fld.FC_EVT_ESCALATE) _ (by decide)).then (beside_signal _ _ _)))
  refine .then ?_ (beside_signal _ _ _)
  refine .then ?_ (beside_set _ (f := Fld.FC_EVT_FAULT) _ (by decide))
  refine .then ?_ (beside_set _ _ (away_above _ (by decide)))
  exact (beside_wrN s _ (by decide)).then (.of_regs rfl rfl)

theorem beside_fcWindow (s : State) (src : Nat) : Beside s (s.fcWindow src).2 := by
  unfold State.fcWindow
  split
  · exact .of_regs rfl rfl
  · exact .of_regs rfl rfl

theorem beside_faultNotice (s : State) (src cls level : Nat) (a b c d e : Bool) : Beside s (s.faultNotice src cls level a b c d e) := beside_tell s 25 _

theorem beside_raiseFault (s : State) (src inst : Nat) (forced : Bool) : Beside s (s.raiseFault src inst forced) := by
  have counts : Away (Reg.FC_SRCs_CNT src) := away_above _ (by decide)
  have conseqs : Away (Reg.FC_SRCs_CONSEQ src) := away_above _ (by decide)
  unfold State.raiseFault
  refine .ite (beside_bump s counts) (.ite ?_ (.ite ?_ ?_))
  · exact ((beside_bump s (by decide)).then (beside_emitWith _ _ _ _ _ _ _ _)).then ((beside_setB _ _ (by decide)).then (beside_refreshFc _))
  · exact ((beside_bump s conseqs).then (beside_emitWith _ _ _ _ _ _ _ _)).then (.ite_left (beside_faultNotice _ _ _ _ _ _ _ _ _))
  · refine .then ?_ (beside_refreshFc _)
    refine .then ?_ (.ite_left (beside_faultNotice _ _ _ _ _ _ _ _ _))
    refine .then ?_ (beside_fcReact _ _ _ _ _ _)
    refine .then ?_ (beside_emitWith _ _ _ _ _ _ _ _)
    refine ((beside_bump s counts).then (beside_fcWindow _ _)).then (.ite_left ?_)
    exact ((beside_wrN _ _ (by decide)).then (beside_set _ (f := Fld.FC_EVT_SEVERE) _ (by decide))).then (beside_signal _ _ _)

theorem flag_testBit (s : State) {f : Fld} (hw : f.width = 1) : s.flag f = (s.rdN f.addr).testBit f.lo := by
  unfold State.flag State.get
  rw [hw, bitsOf, Nat.testBit_eq_decide_div_mod_eq, Nat.pow_one]
  rcases Nat.mod_two_eq_zero_or_one (s.rdN f.addr / 2 ^ f.lo) with h | h <;> rw [h] <;> rfl

/-- The bit of an event joins those of its page. -/
theorem beside_setEvtBit (s : State) (page bit : Nat) :
    Beside s (s.wrN (page * 0x1000 + 0x10) (setBitAt (s.rdN (page * 0x1000 + 0x10)) bit)) where
  words _ ha := State.rd_wrN_other s _ (quiet_ne_evt page ha)
  fails k _ hs := by
    by_cases here : Reg.PPk_EVT k = page * 0x1000 + 0x10
    · rw [flag_testBit _ rfl] at hs ⊢
      rw [← here, State.rdN_wrN_same, Nat.testBit_mod_two_pow, setBitAt, Nat.testBit_or]
      have bit : (s.rdN (Reg.PPk_EVT k)).testBit 0 = true := hs
      rw [bit]
      rfl
    · exact (State.flag_of_rd (State.rd_wrN_other s _ here)).trans hs
  programs _ := ⟨rfl, rfl⟩

theorem beside_evt (s : State) (f : Fld) : Beside s (s.evt f) := by
  have marked := (beside_setEvtBit s (pageOf f.addr) f.lo).then (beside_signal _ (pageOf f.addr) f.lo)
  unfold State.evt State.raiseEvt
  dsimp only
  split
  · exact marked.then (beside_raiseFault _ _ _ _)
  · exact marked

end Sys2Proof.Machine
end

section
/-! SUPPORT. What a Pip that stops leaves of the Pips' words: its triggers, lines and hold, its queued frames, and the loss of its signal. -/

namespace Sys2Proof.Machine

theorem beside_tc (s : State) (x : TimeCore) : Beside s { s with tc := x } := .of_regs rfl rfl
theorem beside_setSh (s : State) (x : Shell) : Beside s (s.setSh x) := .of_regs rfl rfl
theorem beside_setHo (s : State) (x : Holdover) : Beside s (s.setHo x) := .of_regs rfl rfl
theorem beside_modOut (s : State) (n : Nat) (f : Output → Output) : Beside s (s.modOut n f) := .of_regs rfl rfl
theorem beside_modSlot (s : State) (n : Nat) (f : Slot → Slot) : Beside s (s.modSlot n f) := .of_regs rfl rfl

theorem mem_setBits_lt {n m k : Nat} (h : k ∈ setBits n m) : k < n := List.mem_range.1 (List.mem_filter.1 h).1

/-! ### Triggers, lines and the held set of the IND page (R50, R385) -/

theorem beside_setTrigger (s : State) {n : Nat} (hn : n < 32) (a : Option ArmedTrigger) : Beside s (s.setTrigger n a) := by
  have armed : Away (Reg.TRGn_STAT n) := away_below (by decide) (by omega)
  exact (beside_tc s _).then (beside_setB _ _ armed)

theorem beside_disarmAll (s : State) (k : Nat) : Beside s (s.disarmAll k) := by
  refine Beside.foldl _ _ (fun t n hn => .ite_left ?_) s
  exact beside_setTrigger t (List.mem_range.1 (List.mem_filter.1 hn).1) none

theorem beside_indFree (s : State) (k : Nat) : Beside s (s.indFree k) := by
  have h (u : State) (x : IndUnit) (hu : Beside s u) : Beside s { u with ind := x } := hu.then (.of_regs rfl rfl)
  unfold State.indFree
  exact .ite_left (h _ _ ((beside_set s _ (by decide)).then (beside_set _ _ (by decide))))

theorem beside_squelchNow (s : State) {n : Nat} (hn : n < 16) : Beside s (s.squelchNow n) := by
  have status : Away (Reg.OUn_STAT n) := away_below (by decide) (by omega)
  unfold State.squelchNow
  refine .then ?_ (beside_setSh _ _)
  refine .then ?_ (beside_evt _ _)
  refine .then ?_ (beside_setB _ _ status)
  refine .then ?_ (beside_setB _ _ status)
  exact (Beside.ite_left (beside_evt s _)).then (beside_modOut _ _ _)

/-- A line that is let go raises no edge; at most its output is squelched. -/
theorem beside_pipEdge_low (s : State) {n : Nat} (hn : n < 16) : Beside s (s.pipEdge n false) := by
  have low (u : State) : Beside s u → Beside s (if (s.out n).level && !false && (s.out n).sqWait then u.squelchNow n else u) := fun hu =>
    .ite (hu.then (beside_squelchNow u hn)) hu
  unfold State.pipEdge
  refine .ite (.refl s) ?_
  exact low _ (.of_regs rfl rfl)

theorem beside_pipLevel_low (s : State) (k : Nat) : Beside s (s.pipLevel k false) := by
  unfold State.pipLevel
  by_cases hk : State.isOutPip k = true
  · have hn : k - 8 < 16 := by
      unfold State.isOutPip at hk
      simp at hk
      omega
    rw [if_pos hk]
    exact (beside_modPip s k (f := fun x => { x with level := false }) fun _ => ⟨rfl, rfl⟩).then (beside_pipEdge_low _ hn)
  · rw [if_neg hk]
    exact .refl s

theorem beside_releaseLines (s : State) (k : Nat) : Beside s (s.releaseLines k) := by
  have level : Beside s (s.modPip k (fun x => { x with nextLevel := none })) := beside_modPip s k fun _ => ⟨rfl, rfl⟩
  unfold State.releaseLines
  exact .ite (level.then (beside_pipLevel_low _ k)) level

/-- The Pip's own words, as a Pip that is cleared leaves them. -/
def stilled (s : State) (k : Nat) : State := (s.setWait k .none).setB (Fld.PPk_STAT_STALLED k) false

theorem beside_stilled (s : State) (k : Nat) : Beside (stilled s k) (s.pipClear k) :=
  (((beside_disarmAll _ k).then (beside_releaseLines _ k)).then (beside_indFree _ k)).then (beside_modPip _ k fun _ => ⟨rfl, rfl⟩)

/-! ### Time captures and stamps (R90, R92) -/

theorem beside_capStamp (s : State) (n stamp : Nat) : Beside s (s.capStamp n stamp) := by
  unfold State.capStamp
  dsimp only
  refine .ite ?_ ?_
  · split
    · exact .of_regs rfl rfl
    · exact .of_regs rfl rfl
  · exact (beside_tc s _).then (beside_evt _ _)

theorem beside_capture (s : State) (src : Nat) (sel : Option Nat) (stamp : Nat) : Beside s (s.capture src sel stamp) :=
  Beside.foldl _ _ (fun t n _ => .ite_left (beside_capStamp t n stamp)) s

theorem beside_txqAdd (s : State) {p : Nat} (hp : p < 20) (e : TxqEntry) : Beside s (s.txqAdd p e) := by
  have drops : Away (Reg.TC_TXQ_DROPp p) := away_below (by decide) (by omega)
  unfold State.txqAdd
  dsimp only
  refine .ite (.ite ?_ (beside_tc s _)) ?_
  · exact (beside_tc s _).then (beside_evt _ _)
  · exact ((beside_tc s _).then (beside_bump _ drops)).then (beside_evt _ _)

theorem beside_noSend (s : State) {p : Nat} (hp : p < 20) (ts : Option Nat) : Beside s (s.noSend p ts) := by
  cases ts with
  | none => exact .refl s
  | some tag => exact beside_txqAdd s hp _

/-! ### A Pip's frames in the switch (R266, R273, R385) -/

theorem beside_noteMissed (s : State) (src dest : Nat) (b : List Byte) : Beside s (s.noteMissed src dest b) := by
  unfold State.noteMissed
  refine .ite (.refl s) ?_
  split
  · exact .refl s
  · exact .of_regs rfl rfl

theorem beside_emitPkt (s : State) (source cls : Nat) (name : String) (p : Nat) (b : List Byte) : Beside s (s.emitPkt source cls name p b) := by
  unfold State.emitPkt
  exact .ite (.refl s) (.of_regs rfl rfl)

theorem beside_admitReplica (s : State) {r : Replica} (c : Nat) (multi : Bool) (hd : r.dest < 20) : Beside s (s.admitReplica r c multi) := by
  have drops : Away (if multi then Reg.SW_MC_DROPp r.dest else Reg.SW_DROPp r.dest) := by
    cases multi with
    | true => exact away_below (b := 0x61048) (by decide) (by omega)
    | false => exact away_below (b := 0x61040) (by decide) (by omega)
  unfold State.admitReplica
  refine .ite (.of_regs rfl rfl) ?_
  exact (((beside_bump s drops).then (beside_noteMissed _ _ _ _)).then (beside_noSend _ hd _)).then (beside_emitPkt _ _ _ _ _ _)

theorem beside_swEnter (s : State) (r : Replica) {dests : List Nat} (c : Nat) (hd : ∀ d ∈ dests, d < 20) : Beside s (s.swEnter r dests c) := by
  have entered : Beside s (s.setSw { s.sw with nextId := s.sw.nextId + 1 }) := .of_regs rfl rfl
  exact entered.then (Beside.foldl _ _ (fun t d h => beside_admitReplica t c _ (hd d h)) _)

/-- The destinations that a mask resolves to, and those of groups that are down, are ports of the switch. -/
def SwitchPorts (a : List Nat × List Nat) : Prop := (∀ d ∈ a.1, d < 20) ∧ ∀ d ∈ a.2, d < 20

/-- A mask names ports, and so does an aggregation group's member in place of one (R269). -/
theorem switchPorts_resolveLag (s : State) (mask : Nat) (b : List Byte) : SwitchPorts (s.resolveLag mask b) := by
  have named : SwitchPorts (setBits 20 mask, []) := ⟨fun _ hd => mem_setBits_lt hd, fun _ hd => absurd hd List.not_mem_nil⟩
  unfold State.resolveLag
  refine List.foldlRecOn (motive := SwitchPorts) _ _ named fun a ha g _ => ?_
  obtain ⟨kept, down⟩ := ha
  have rest (d : Nat) (hd : d ∈ a.1.filter (fun d => !(s.lagMembers g).contains d)) : d < 20 := kept d (List.mem_of_mem_filter hd)
  have member : s.bucket g (flowBucket b) < 20 := by
    unfold State.bucket bitsOf
    omega
  have members (d : Nat) (hd : d ∈ s.lagMembers g) : d < 20 := Nat.lt_of_lt_of_le (mem_setBits_lt hd) (by decide)
  dsimp only
  split
  · split
    · exact ⟨List.forall_mem_append.2 ⟨rest, by simpa using member⟩, down⟩
    · exact ⟨rest, List.forall_mem_append.2 ⟨down, members⟩⟩
  · exact ⟨kept, down⟩

theorem beside_swReceive (s : State) (r : Replica) (mask c : Nat) : Beside s (s.swReceive r mask c) := by
  obtain ⟨dests, downs⟩ := switchPorts_resolveLag s mask r.bytes
  unfold State.swReceive
  refine .ite (beside_bump s (by decide)) ?_
  refine .then (Beside.foldl _ _ (fun t m hm => beside_bump t ?_) s) (beside_swEnter _ _ _ dests)
  have small := downs m hm
  exact away_below (by decide) (by omega)

theorem beside_fallback (s : State) (k : Nat) (f : RunFrame) : Beside s (s.fallback k f) := by
  unfold State.fallback
  exact .ite (beside_swReceive s _ _ _) (beside_swReceive s _ _ _)

/-! ### The loss of a source (R115, R125) -/

theorem beside_slotTo (s : State) {n : Nat} (hn : n < 12) (st cause : Nat) : Beside s (s.slotTo n st cause) := by
  have state : Away (Reg.RSn_STATE n) := away_below (by decide) (by omega)
  have due (u : State) (h : Beside s u) : Beside s { u with snapDue := true } := h.then (.of_regs rfl rfl)
  unfold State.slotTo
  refine .ite (.refl s) (due _ ?_)
  refine .then ?_ (beside_emitT _ _ _ _)
  refine .then ?_ (beside_modSlot _ _ _)
  have named (u : State) (h : Beside s u) : Beside s (if st = 3 then u.evt (Fld.RSn_EVT_WAS_SELECTED n)
      else if st = 4 then u.evt (Fld.RSn_EVT_WAS_DEGRADED n) else if st = 5 then u.evt (Fld.RSn_EVT_WAS_DISQUALIFIED n) else u) :=
    .ite (h.then (beside_evt u _)) (.ite (h.then (beside_evt u _)) (.ite (h.then (beside_evt u _)) h))
  refine named _ (.then ?_ (beside_evt _ _))
  exact (((beside_set s _ state).then (beside_set _ _ state)).then (beside_bumpF _ state)).then (beside_set _ _ state)

theorem beside_ebLost (s : State) : Beside s s.ebLost := by
  unfold State.ebLost
  exact .ite (.of_regs rfl rfl) (.of_regs rfl rfl)

theorem beside_retarget (s : State) (ofs : Int) : Beside s (s.retarget ofs) := by
  exact ((beside_tc s _).then (beside_setB _ _ (by decide))).then (beside_setB _ _ (by decide))

theorem beside_stepCancel (s : State) : Beside s s.stepCancel := by
  exact (beside_tc s _).then (beside_setB _ _ (by decide))

theorem beside_toState (s : State) (n : Nat) : Beside s (s.toState n) := by
  have due (u : State) (h : Beside s u) : Beside s { u with snapDue := true } := h.then (.of_regs rfl rfl)
  unfold State.toState
  refine .ite (.refl s) (due _ ?_)
  refine .then ?_ (beside_capture _ _ _ _)
  refine .then ?_ (beside_emitT _ _ _ _)
  refine .then ?_ (beside_evt _ _)
  exact (((beside_set s (f := Fld.TC_STAT_STATE) _ (by decide)).then (beside_set _ (f := Fld.TC_STATE_STATE) _ (by decide))).then
    (beside_set _ (f := Fld.TC_STATE_PREV) _ (by decide))).then (beside_bumpF _ (by decide))

theorem beside_tcUpdate (s : State) (boundary : Bool) : Beside s (s.tcUpdate boundary) := by
  unfold State.tcUpdate
  refine .ite (.refl s) (.ite (.ite_left (beside_toState s _)) (.ite (beside_toState s _) (.ite (beside_toState s _) ?_)))
  exact .ite (beside_toState s _) (beside_toState s _)

theorem beside_selectionGone (s : State) : Beside s s.selectionGone := by
  have cancelled (u : State) (x : Holdover) : Beside u ((u.stepCancel.setHo x).evt Fld.HO_EVT_ASTEP_CANCEL) :=
    ((beside_stepCancel u).then (beside_setHo _ _)).then (beside_evt _ _)
  have retargeted (u : State) : Beside u (if u.loopClosed && !u.bridging then u.retarget 0 else u) := .ite_left (beside_retarget u 0)
  unfold State.selectionGone
  refine .then ?_ (beside_tcUpdate _ _)
  refine .then (((beside_ebLost s).then (retargeted _)).then (beside_evt _ Fld.RS_EVT_NO_SEL)) ?_
  generalize State.evt _ Fld.RS_EVT_NO_SEL = u
  split
  · exact .ite_left (cancelled _ _)
  · exact .refl _

theorem beside_signalLoss (s : State) {n : Nat} (hn : n < 12) : Beside s (s.signalLoss n) := by
  have absent : Beside s (s.modSlot n (fun x => { x with present := false, sample := none })) := .of_regs rfl rfl
  unfold State.signalLoss
  refine .ite (.of_regs rfl rfl) (.ite ?_ absent)
  have lost (f : Slot → Slot) : Beside s ((((s.modSlot n (fun x => { x with present := false, sample := none })).evt (Fld.RSn_EVT_LOST_SIGNAL n)).slotTo
      n 6 0).modSlot n f) := ((absent.then (beside_evt _ _)).then (beside_slotTo _ hn 6 0)).then (.of_regs rfl rfl)
  exact .ite ((lost _).then (beside_selectionGone _)) (lost _)

end Sys2Proof.Machine
end

section
/-! PROOF. O45: failures and restarts of a Pip, and a service Pip without cycles (R50, R372, R373, R383 to R387). -/

namespace Sys2Proof.Machine

/-! ### A Pip's own words -/

theorem quiet_stat {k : Nat} (hk : k < 28) : Quiet (Reg.PPk_STAT k) := quiet_pip (n := 0xC) hk (by decide) (by decide) (by decide)
theorem quiet_pc {k : Nat} (hk : k < 28) : Quiet (Reg.PPk_PC k) := quiet_pip (n := 0x84) hk (by decide) (by decide) (by decide)
theorem quiet_fails {k : Nat} (hk : k < 28) : Quiet (Reg.PPk_FAILS k) := quiet_pip (n := 0x90) hk (by decide) (by decide) (by decide)
theorem quiet_lastfail {k : Nat} (hk : k < 28) : Quiet (Reg.PPk_LASTFAIL k) := quiet_pip (n := 0x94) hk (by decide) (by decide) (by decide)

/-- The words in which a Pip that stops or starts is seen. -/
def pipSeen (k a : Nat) : Prop := a = Reg.PPk_STAT k ∨ a = Reg.PPk_PC k ∨ a = Reg.PPk_CAP k

theorem fails_unseen (k : Nat) : ¬pipSeen k (Reg.PPk_FAILS k) := by
  unfold pipSeen Reg.PPk_FAILS Reg.PPk_STAT Reg.PPk_PC Reg.PPk_CAP
  omega

theorem lastfail_unseen (k : Nat) : ¬pipSeen k (Reg.PPk_LASTFAIL k) := by
  unfold pipSeen Reg.PPk_LASTFAIL Reg.PPk_STAT Reg.PPk_PC Reg.PPk_CAP
  omega

theorem evt_unseen (k : Nat) : ¬pipSeen k (Reg.PPk_EVT k) := by
  unfold pipSeen Reg.PPk_EVT Reg.PPk_STAT Reg.PPk_PC Reg.PPk_CAP
  omega

/-- A Pip's status, its counter and its CAP have moved, and nothing of its record. -/
structure Turns (k : Nat) (s t : State) : Prop where
  words : ∀ a, Quiet a → ¬pipSeen k a → t.rd a = s.rd a
  fail : s.flag (Fld.PPk_EVT_FAIL k) = true → t.flag (Fld.PPk_EVT_FAIL k) = true
  programs : ∀ j, (t.pip j).entries = (s.pip j).entries ∧ (t.pip j).entry = (s.pip j).entry

theorem Turns.then {k : Nat} {s t u : State} (h : Turns k s t) (g : Turns k t u) : Turns k s u where
  words a ha hs := (g.words a ha hs).trans (h.words a ha hs)
  fail hf := g.fail (h.fail hf)
  programs j := ⟨(g.programs j).1.trans (h.programs j).1, (g.programs j).2.trans (h.programs j).2⟩

theorem Beside.turns {k : Nat} {s t : State} (h : Beside s t) (hk : k < 28) : Turns k s t := ⟨fun a ha _ => h.words a ha, h.fails k hk, h.programs⟩

theorem turns_wrN {k : Nat} (s : State) {a : Nat} (n : Nat) (h : pipSeen k a) : Turns k s (s.wrN a n) where
  words b _ hb := State.rd_wrN_other s n (fun e => hb (by rw [e]; exact h))
  fail hf := (State.flag_of_rd (f := Fld.PPk_EVT_FAIL k) (State.rd_wrN_other s n (fun e : Reg.PPk_EVT k = a => evt_unseen k (e ▸ h)))).trans hf
  programs _ := ⟨rfl, rfl⟩

theorem turns_setB {k : Nat} (s : State) {f : Fld} (b : Bool) (h : pipSeen k f.addr) : Turns k s (s.setB f b) := turns_wrN s _ h

/-- Such a Pip neither stalls nor waits any more. -/
structure Halts (k : Nat) (s t : State) : Prop where
  turns : Turns k s t
  stalled : t.flag (Fld.PPk_STAT_STALLED k) = false
  waiting : t.flag (Fld.PPk_STAT_WAITING k) = false

section
variable {k : Nat} {s t u : State}

theorem Halts.beside (hk : k < 28) (h : Halts k s t) (b : Beside t u) : Halts k s u :=
  ⟨h.turns.then (b.turns hk), (b.flag (quiet_stat hk)).trans h.stalled, (b.flag (quiet_stat hk)).trans h.waiting⟩

theorem Halts.wrN (h : Halts k s t) {a : Nat} (n : Nat) (ha : pipSeen k a) (hs : Reg.PPk_STAT k ≠ a) : Halts k s (t.wrN a n) :=
  ⟨h.turns.then (turns_wrN t n ha), (State.flag_wrN_other t (Fld.PPk_STAT_STALLED k) n hs).trans h.stalled,
    (State.flag_wrN_other t (Fld.PPk_STAT_WAITING k) n hs).trans h.waiting⟩

/-- RUNNING and FENCED are below the bits for stalling and waiting. -/
theorem Halts.setStat (h : Halts k s t) {f : Fld} (b : Bool) (ha : f.addr = Reg.PPk_STAT k) (hf : f.lo + f.width ≤ 2) : Halts k s (t.setB f b) := by
  have small : f.lo + f.width ≤ 32 := Nat.le_trans hf (by decide)
  exact ⟨h.turns.then (turns_setB t b (.inl ha)),
    (State.flag_setB_other t f (Fld.PPk_STAT_STALLED k) b small (.inr (.inr (Nat.le_trans hf (by simp))))).trans h.stalled,
    (State.flag_setB_other t f (Fld.PPk_STAT_WAITING k) b small (.inr (.inr (Nat.le_trans hf (by simp))))).trans h.waiting⟩

end

theorem stat_ne_pc (k : Nat) : Reg.PPk_STAT k ≠ Reg.PPk_PC k := by
  unfold Reg.PPk_STAT Reg.PPk_PC
  omega

theorem stat_ne_cap (k : Nat) : Reg.PPk_STAT k ≠ Reg.PPk_CAP k := by
  unfold Reg.PPk_STAT Reg.PPk_CAP
  omega

theorem setWait_none (s : State) (k : Nat) :
    s.setWait k .none = ((s.modPip k (fun x => { x with wait := .none })).setB (Fld.PPk_STAT_WAITING k) false).setB (Fld.PPk_PC_WAITING k) false := rfl

theorem halts_stilled (s : State) {k : Nat} (hk : k < 28) : Halts k s (stilled s k) := by
  have idle : Beside s (s.modPip k (fun x => { x with wait := .none })) := beside_modPip s k fun _ => ⟨rfl, rfl⟩
  unfold stilled
  rw [setWait_none]
  refine ⟨?_, State.flag_setB_same _ _ _ (by simp) rfl, ?_⟩
  · exact (((idle.turns hk).then (turns_setB _ _ (.inl rfl))).then (turns_setB _ _ (.inr (.inl rfl)))).then (turns_setB _ _ (.inl rfl))
  · rw [State.flag_setB_other _ _ _ _ (by simp) (.inr (.inl (by simp))), State.flag_setB_other _ _ _ _ (by simp) (.inl (stat_ne_pc k)),
      State.flag_setB_same _ _ _ (by simp) rfl]

theorem halts_pipClear (s : State) {k : Nat} (hk : k < 28) : Halts k s (s.pipClear k) := (halts_stilled s hk).beside hk (beside_stilled s k)

/-! ### A restart and a fence (R385, R386) -/

/-- Where a Pip's program begins. -/
def entryPc (s : State) (k : Nat) : Nat := (s.pip k).entries.getD (s.pip k).entry 0 % 1024

theorem pipRestart_spec (s : State) {k : Nat} (hk : k < 28) : Halts k s (s.pipRestart k) ∧
    (s.pipRestart k).flag (Fld.PPk_STAT_RUNNING k) = true ∧ (s.pipRestart k).pcOf k = entryPc s k := by
  let fresh := (s.pipClear k).modPip k (fun x => { x with regs := List.replicate 16 0, dmem := x.init, queue := [] })
  have emptied : Beside (s.pipClear k) fresh := beside_modPip _ k fun _ => ⟨rfl, rfl⟩
  have cleared : Halts k s fresh := (halts_pipClear s hk).beside hk emptied
  obtain ⟨entries, entry⟩ := cleared.turns.programs k
  have placed : Halts k s (fresh.setPc k ((fresh.pip k).entries.getD (fresh.pip k).entry 0)) := cleared.wrN _ (.inr (.inl rfl)) (stat_ne_pc k)
  have counter : (s.pipRestart k).pcOf k = (fresh.setPc k ((fresh.pip k).entries.getD (fresh.pip k).entry 0)).get (Fld.PPk_PC_PC k) :=
    State.get_set_other _ (Fld.PPk_STAT_RUNNING k) (Fld.PPk_PC_PC k) _ (by simp) (.inl (Ne.symm (stat_ne_pc k)))
  refine ⟨placed.setStat true rfl (by simp), State.flag_setB_same _ _ _ (by simp) rfl, ?_⟩
  rw [counter, State.setPc, State.get_set_same _ _ _ (by simp), entries, entry]
  rfl

theorem pipGone_spec (s : State) {k : Nat} (hk : k < 28) : Halts k s (s.pipGone k) ∧ (s.pipGone k).flag (Fld.PPk_STAT_RUNNING k) = false := by
  let emptied := (s.pipClear k).modPip k (fun x => { x with queue := [] })
  have dropped : Beside (s.pipClear k) emptied := beside_modPip _ k fun _ => ⟨rfl, rfl⟩
  let ended := emptied.setB (Fld.PPk_STAT_RUNNING k) false
  have halted : Halts k s ended := ((halts_pipClear s hk).beside hk dropped).setStat false rfl (by simp)
  have stopped : ended.flag (Fld.PPk_STAT_RUNNING k) = false := State.flag_setB_same _ _ _ (by simp) rfl
  have released : Beside ended (s.pipGone k) := by
    have queue : Beside ended ((s.pip k).queue.foldl (fun t f => t.fallback k f) ended) := Beside.foldl _ _ (fun t f _ => beside_fallback t k f) ended
    unfold State.pipGone
    refine queue.then ?_
    dsimp only
    split
    · rename_i signal
      simp only [Bool.and_eq_true, decide_eq_true_eq] at signal
      exact beside_signalLoss _ (by omega)
    · exact .refl _
  exact ⟨halted.beside hk released, (released.flag (quiet_stat hk)).trans stopped⟩

theorem pipFence_spec (s : State) {k : Nat} (hk : k < 28) : Halts k s (s.pipFence k) ∧
    (s.pipFence k).flag (Fld.PPk_STAT_FENCED k) = true ∧ (s.pipFence k).flag (Fld.PPk_STAT_RUNNING k) = false := by
  obtain ⟨gone, stopped⟩ := pipGone_spec s hk
  let fenced := (s.pipGone k).setB (Fld.PPk_STAT_FENCED k) true
  let out := fenced.wrN (Reg.PPk_CAP k) (putBitAt (s.rdN (Reg.PPk_CAP k)) 0 false)
  have halted : Halts k s out := (gone.setStat true rfl (by simp)).wrN _ (.inr (.inr rfl)) (stat_ne_cap k)
  have isFenced : out.flag (Fld.PPk_STAT_FENCED k) = true :=
    (State.flag_wrN_other fenced _ _ (stat_ne_cap k)).trans (State.flag_setB_same _ _ _ (by simp) rfl)
  have isStopped : out.flag (Fld.PPk_STAT_RUNNING k) = false :=
    ((State.flag_wrN_other fenced _ _ (stat_ne_cap k)).trans (State.flag_setB_other _ _ _ _ (by simp) (.inr (.inl (by simp))))).trans stopped
  have told : Beside out (s.pipFence k) := by
    unfold State.pipFence
    exact .ite ((beside_evt out _).then (.of_regs rfl rfl)) (beside_evt out _)
  exact ⟨halted.beside hk told, (told.flag (quiet_stat hk)).trans isFenced, (told.flag (quiet_stat hk)).trans isStopped⟩

/-! ### A failure (R385) -/

/-- A Pip failed less than a second ago. -/
def failedLately (s : State) (k : Nat) : Bool :=
  match (s.pip k).failedAt with
  | some t => decide (s.tc.now ≤ t + secU)
  | none => false

/-- The failure's record, before the Pip restarts or is fenced. -/
def failRecorded (s : State) (k cause index : Nat) : State :=
  ((((s.set (Fld.PPk_LASTFAIL_CAUSE k) cause).set (Fld.PPk_LASTFAIL_INDEX k) index).bump (Reg.PPk_FAILS k)).emit (0x40 + k) 3 "PIP_FAIL").evt
    (Fld.PPk_EVT_FAIL k)

theorem pipFail_dead {s : State} {k : Nat} (cause index : Nat) (h : s.pipAlive k = false) : s.pipFail k cause index = s := by
  unfold State.pipFail
  rw [h]
  rfl

theorem pipFail_alive {s : State} {k : Nat} (cause index : Nat) (h : s.pipAlive k = true) : s.pipFail k cause index =
    if failedLately s k && !s.consequential 24 then (failRecorded s k cause index).pipFence k
    else ((failRecorded s k cause index).pipRestart k).modPip k (fun x => { x with failedAt := some s.tc.now }) := by
  unfold State.pipFail failedLately failRecorded
  exact if_neg (by rw [h]; decide)

/-- What LASTFAIL, FAILS and EVT say of a failure. -/
def Recorded (s : State) (k cause index : Nat) (u : State) : Prop :=
  u.get (Fld.PPk_LASTFAIL_CAUSE k) = cause ∧ u.get (Fld.PPk_LASTFAIL_INDEX k) = index % 1024 ∧
    u.rdN (Reg.PPk_FAILS k) = oneMore (s.rdN (Reg.PPk_FAILS k)) ∧ u.flag (Fld.PPk_EVT_FAIL k) = true

theorem Recorded.turns {s t u : State} {k cause index : Nat} (hk : k < 28) (h : Recorded s k cause index t) (g : Turns k t u) :
    Recorded s k cause index u := by
  obtain ⟨hcause, hindex, hcount, hfail⟩ := h
  have last := g.words _ (quiet_lastfail hk) (lastfail_unseen k)
  exact ⟨(State.get_of_rd (f := Fld.PPk_LASTFAIL_CAUSE k) last).trans hcause, (State.get_of_rd (f := Fld.PPk_LASTFAIL_INDEX k) last).trans hindex,
    (State.rdN_of_rd (g.words _ (quiet_fails hk) (fails_unseen k))).trans hcount, g.fail hfail⟩

theorem lastfail_ne_fails (k : Nat) : Reg.PPk_LASTFAIL k ≠ Reg.PPk_FAILS k := by
  unfold Reg.PPk_LASTFAIL Reg.PPk_FAILS
  omega

/-- A Pip's failure event sets its bit, whatever the fault that it is brings with it. -/
theorem flag_evt_fail (s : State) {k : Nat} (hk : k < 28) : (s.evt (Fld.PPk_EVT_FAIL k)).flag (Fld.PPk_EVT_FAIL k) = true := by
  have page : pageOf (Reg.PPk_EVT k) * 0x1000 + 0x10 = Reg.PPk_EVT k := by
    unfold pageOf Reg.PPk_EVT
    omega
  have marked : (s.wrN (Reg.PPk_EVT k) (setBitAt (s.rdN (Reg.PPk_EVT k)) 0)).flag (Fld.PPk_EVT_FAIL k) = true := by
    rw [flag_testBit _ rfl, State.rdN_wrN_same, Nat.testBit_mod_two_pow, testBit_setBitAt]
    simp
  have carries : Beside (s.wrN (Reg.PPk_EVT k) (setBitAt (s.rdN (Reg.PPk_EVT k)) 0)) (s.evt (Fld.PPk_EVT_FAIL k)) := by
    unfold State.evt State.raiseEvt
    dsimp only
    rw [page]
    split
    · exact (beside_signal _ _ _).then (beside_raiseFault _ _ _ _)
    · exact beside_signal _ _ _
  exact carries.fails k hk marked

theorem failRecorded_spec (s : State) {k cause : Nat} (index : Nat) (hk : k < 28) (hc : cause < 16) :
    Recorded s k cause index (failRecorded s k cause index) ∧ ∀ j, ((failRecorded s k cause index).pip j).entries = (s.pip j).entries ∧
      ((failRecorded s k cause index).pip j).entry = (s.pip j).entry := by
  let written := (s.set (Fld.PPk_LASTFAIL_CAUSE k) cause).set (Fld.PPk_LASTFAIL_INDEX k) index
  let counted := written.bump (Reg.PPk_FAILS k)
  have told : Beside counted (failRecorded s k cause index) := (beside_emit counted _ _ _).then (beside_evt _ _)
  refine ⟨⟨?_, ?_, ?_, flag_evt_fail _ hk⟩, told.programs⟩
  · rw [told.get (quiet_lastfail hk), State.get_bump_other _ _ (lastfail_ne_fails k),
      State.get_set_other _ _ _ _ (by simp) (.inr (.inl (by simp))), State.get_set_same _ _ _ (by simp)]
    exact Nat.mod_eq_of_lt hc
  · rw [told.get (quiet_lastfail hk), State.get_bump_other _ _ (lastfail_ne_fails k), State.get_set_same _ _ _ (by simp)]
    rfl
  · rw [told.rdN (quiet_fails hk), State.rdN_bump_same, State.rdN_of_rd (State.rd_set_other _ _ _ (Ne.symm (lastfail_ne_fails k))),
      State.rdN_of_rd (State.rd_set_other _ _ _ (Ne.symm (lastfail_ne_fails k)))]

/-- What the statement says of a failure. -/
def Failed (s : State) (k cause index : Nat) (u : State) : Prop :=
  if s.pipAlive k = false then u = s
  else u.get (Fld.PPk_LASTFAIL_CAUSE k) = cause ∧ u.get (Fld.PPk_LASTFAIL_INDEX k) = index % 1024 ∧
    u.rdN (Reg.PPk_FAILS k) = oneMore (s.rdN (Reg.PPk_FAILS k)) ∧ u.flag (Fld.PPk_EVT_FAIL k) = true ∧
    u.flag (Fld.PPk_STAT_STALLED k) = false ∧ u.flag (Fld.PPk_STAT_WAITING k) = false ∧
    (failedLately s k = true → s.consequential 24 = false → u.flag (Fld.PPk_STAT_FENCED k) = true ∧ u.flag (Fld.PPk_STAT_RUNNING k) = false) ∧
    (failedLately s k = false ∨ s.consequential 24 = true → u.flag (Fld.PPk_STAT_RUNNING k) = true ∧ u.pcOf k = entryPc s k)

theorem failed_pipFail (s : State) {k cause : Nat} (index : Nat) (hk : k < 28) (hc : cause < 16) :
    Failed s k cause index (s.pipFail k cause index) := by
  unfold Failed
  split
  · rename_i dead
    exact pipFail_dead cause index dead
  · rename_i alive
    obtain ⟨recorded, programs⟩ := failRecorded_spec s index hk hc
    obtain ⟨entries, entry⟩ := programs k
    rw [pipFail_alive cause index (by simpa using alive)]
    split
    · rename_i fenced
      obtain ⟨lately, alone⟩ : failedLately s k = true ∧ s.consequential 24 = false := by simpa using fenced
      obtain ⟨halts, isFenced, isStopped⟩ := pipFence_spec (failRecorded s k cause index) hk
      obtain ⟨hcause, hindex, hcount, hfail⟩ := recorded.turns hk halts.turns
      refine ⟨hcause, hindex, hcount, hfail, halts.stalled, halts.waiting, fun _ _ => ⟨isFenced, isStopped⟩, fun h => ?_⟩
      simp [lately, alone] at h
    · rename_i restarted
      obtain ⟨restart, running, counter⟩ := pipRestart_spec (failRecorded s k cause index) hk
      have noted : Beside ((failRecorded s k cause index).pipRestart k)
          (((failRecorded s k cause index).pipRestart k).modPip k (fun x => { x with failedAt := some s.tc.now })) :=
        beside_modPip _ k fun _ => ⟨rfl, rfl⟩
      have halts := restart.beside hk noted
      obtain ⟨hcause, hindex, hcount, hfail⟩ := recorded.turns hk halts.turns
      refine ⟨hcause, hindex, hcount, hfail, halts.stalled, halts.waiting, fun lately alone => ?_, fun _ => ⟨?_, ?_⟩⟩
      · simp [lately, alone] at restarted
      · exact (noted.flag (quiet_stat hk)).trans running
      · refine (noted.get (f := Fld.PPk_PC_PC k) (quiet_pc hk)).trans (counter.trans ?_)
        unfold entryPc
        rw [entries, entry]

end Sys2Proof.Machine
end

section
/-! PROOF. O45: the commands that find a failure, PIP_RESTART, and a service Pip's budget (R372, R373, R383 to R387). -/

namespace Sys2Proof.Machine

/-! ### Failures that are found (R385) -/

theorem Failed.index {s u : State} {k cause i j : Nat} (h : Failed s k cause i u) (hij : i % 1024 = j % 1024) : Failed s k cause j u := by
  unfold Failed at h ⊢
  rw [← hij]
  exact h

theorem pipWatchdog_fails (k : PipNo) (s : State) : Effect (.pipWatchdog k) s (fun u =>
    if s.safe = false ∧ bitsOf (s.rdN (Reg.PPk_WDOG k.val)) 0 16 < (s.pip k.val).wdog then Failed s k.val 1 (s.pcOf k.val + 1023) u else u = s) := by
  refine ⟨_, rfl, ?_⟩
  simp only [Bool.and_eq_true, Bool.not_eq_true', decide_eq_true_eq]
  split
  · exact (failed_pipFail s _ k.isLt (by decide)).index (Nat.mod_mod _ _)
  · rfl

/-- The causes that an occurrence of PIP_FAIL names. -/
def failFound (k : Nat) (s : State) : PipCause → Bool
  | .wdog => decide (bitsOf (s.rdN (Reg.PPk_WDOG k)) 0 16 < (s.pip k).wdog)
  | .illegal => match s.pipWord k with
    | some w => !legalWord w
    | none => true
  | .dataRange => (s.pipWord k).isNone
  | .parity => true

theorem pipFail_fails (k : PipNo) (c : PipCause) (s : State) {Q : Prop} [Decidable Q] (hq : Q ↔ s.safe = true ∨ failFound k.val s c = false) :
    Effect (.pipFail k c) s (fun u => if Q then u = s else Failed s k.val (State.causeCode c) (s.pcOf k.val) u) := by
  have code : State.causeCode c < 16 := by cases c <;> decide
  have found : exec (.pipFail k c) s =
      .next (if failFound k.val s c && !s.safe then s.pipFail k.val (State.causeCode c) (s.pcOf k.val) else s).settle := by
    cases c <;> rfl
  refine ⟨_, found, ?_⟩
  beta_reduce
  by_cases none : Q
  · rw [if_pos none, if_neg (by rcases hq.mp none with h | h <;> simp [h])]
  · rw [if_neg none, if_pos (by simpa [and_comm] using mt hq.mpr none)]
    exact failed_pipFail s _ k.isLt code

/-! ### PIP_RESTART (R385) -/

theorem pipCmd_row (k : PipNo) : ∃ r, findRow (Reg.PPk_CMD k.val) = some r ∧ r.rw ||| r.rwl ||| r.w1c ||| r.wo ||| r.rsv ≠ 0 := by
  have listed : ∀ k : Fin 28, ((findRow (Reg.PPk_CMD k.val)).map (fun r => decide (r.rw ||| r.rwl ||| r.w1c ||| r.wo ||| r.rsv ≠ 0))) = some true := by
    decide +kernel
  obtain ⟨r, hr, hm⟩ := Option.map_eq_some_iff.1 (listed k)
  exact ⟨r, hr, of_decide_eq_true hm⟩

theorem pairLow_pip {k n : Nat} (hk : k < 28) (hn : n < 0x1000) : pairLow (0xA0000 + n + k * 0x1000) = false := by
  have table : ∀ e ∈ pairTable, e.2.1 < 0xA0 ∨ 0xBB < e.1 := by decide
  have page : pageOf (0xA0000 + n + k * 0x1000) = 0xA0 + k := by
    unfold pageOf
    omega
  have outside : pairTable.any (fun e => e.1 ≤ 0xA0 + k && 0xA0 + k ≤ e.2.1 && e.2.2.contains ((0xA0000 + n + k * 0x1000) % 0x1000)) = false := by
    refine List.any_eq_false.2 fun e he h => ?_
    simp only [Bool.and_eq_true, decide_eq_true_eq] at h
    have := table e he
    omega
  unfold pairLow
  dsimp only
  rw [page, outside]
  simp
  omega

theorem restart_write {s : State} {req : Requester} {ap : Aperture} (k : PipNo) (h : s.Admits req ap (Reg.PPk_CMD k.val)) :
    s.writeAt req ap (Reg.PPk_CMD k.val) 1 = ((s.result req 0 0).wrPipCmd k.val 1).mirrorWatch := by
  obtain ⟨r, hr, hm⟩ := pipCmd_row k
  have hk := k.isLt
  have page : pageOf (Reg.PPk_CMD k.val) = 0xA0 + k.val := by
    unfold pageOf Reg.PPk_CMD
    omega
  have offset : Reg.PPk_CMD k.val % 0x1000 = 0x80 := by
    unfold Reg.PPk_CMD
    omega
  have other : Reg.PPk_CMD k.val ≠ Reg.CFG_CTL := by
    unfold Reg.PPk_CMD Reg.CFG_CTL
    omega
  have low : pairLow (Reg.PPk_CMD k.val) = false := pairLow_pip (n := 0x80) hk (by decide)
  have below : pairLow (Reg.PPk_CMD k.val - 4) = false := by
    rw [show Reg.PPk_CMD k.val - 4 = 0xA0000 + 0x7C + k.val * 0x1000 by unfold Reg.PPk_CMD; omega]
    exact pairLow_pip hk (by decide)
  have effect (t : State) : t.wrKnown req (Reg.PPk_CMD k.val) r 1 = t.wrPipCmd k.val 1 := by
    unfold State.wrKnown State.wrEffect State.wrHighPage
    dsimp only
    rw [if_neg other, low, below, page, offset]
    simp only [Bool.and_false, Bool.false_eq_true, if_false]
    rw [if_neg (by decide), if_neg (by decide), if_neg (by decide), if_neg (by omega), if_neg (by omega), if_pos (by simp; omega), Nat.add_sub_cancel_left]
  rw [State.writeAt_admitted 1 h hr hm (by unfold Reg.PPk_CMD; omega) (by omega)]
  exact congrArg State.mirrorWatch (effect _)

theorem mirrorWatch_pips (s : State) : s.mirrorWatch.pips = s.pips := (congrArg State.pips (State.mirrorWatch_same s) :)

theorem pipRestart_command (k : PipNo) (s : State) (req : Requester) (ap : Aperture) (h : s.Admits req ap (Reg.PPk_CMD k.val)) :
    Effect (.pipRestart req ap k) s (fun u =>
      if s.pipAlive k.val then u.flag (Fld.PPk_STAT_RUNNING k.val) = true ∧ u.pcOf k.val = entryPc s k.val ∧
        u.rd (Reg.PPk_FAILS k.val) = s.rd (Reg.PPk_FAILS k.val)
      else u.pips = s.pips) := by
  refine ⟨_, rfl, ?_⟩
  rw [restart_write k h]
  have alive : (s.result req 0 0).pipAlive k.val = s.pipAlive k.val := rfl
  unfold State.wrPipCmd
  rw [alive]
  beta_reduce
  cases s.pipAlive k.val with
  | true =>
    obtain ⟨halts, running, counter⟩ := pipRestart_spec (s.result req 0 0) k.isLt
    have mirrored (f : Fld) := State.mirrorWatch_rd ((s.result req 0 0).pipRestart k.val) f.addr
    refine ⟨(State.flag_of_rd (mirrored (Fld.PPk_STAT_RUNNING k.val))).trans running, (State.get_of_rd (mirrored (Fld.PPk_PC_PC k.val))).trans counter, ?_⟩
    exact (State.mirrorWatch_rd _ _).trans (halts.turns.words _ (quiet_fails k.isLt) (fails_unseen k.val))
  | false => exact mirrorWatch_pips _

/-! ### A service Pip without cycles (R373, R383) -/

/-- A Pip that is held: it stalls, and the stall is counted. -/
def heldUp (s : State) (k : Nat) : State := (s.setB (Fld.PPk_STAT_STALLED k) true).bump (Reg.PPk_STALLS k)

theorem stat_ne_stalls (k : Nat) : Reg.PPk_STAT k ≠ Reg.PPk_STALLS k := by
  unfold Reg.PPk_STAT Reg.PPk_STALLS
  omega

theorem heldUp_spec (s : State) (k : Nat) : (heldUp s k).flag (Fld.PPk_STAT_STALLED k) = true ∧ (heldUp s k).pcOf k = s.pcOf k ∧
    (heldUp s k).rdN (Reg.PPk_STALLS k) = oneMore (s.rdN (Reg.PPk_STALLS k)) := by
  have pc : Reg.PPk_PC k ≠ Reg.PPk_STALLS k := by
    unfold Reg.PPk_PC Reg.PPk_STALLS
    omega
  refine ⟨?_, ?_, ?_⟩
  · exact (State.flag_bump_other _ _ (stat_ne_stalls k)).trans (State.flag_setB_same _ _ _ (by simp) rfl)
  · exact (State.get_bump_other _ (Fld.PPk_PC_PC k) pc).trans (State.get_set_other _ _ _ _ (by simp) (.inl (Ne.symm (stat_ne_pc k))))
  · exact (State.rdN_bump_same _ _).trans (congrArg oneMore (State.rdN_of_rd (State.rd_set_other _ _ _ (Ne.symm (stat_ne_stalls k)))))

/-- A refused block is counted on the wheel's pages, and on none of a Pip's. -/
theorem stall_pip (s : State) {k n : Nat} (hk : k < 28) (hn : n < 0x1000) : (s.stall 6).rd (0xA0000 + n + k * 0x1000) = s.rd (0xA0000 + n + k * 0x1000) := by
  refine (stalls_stall s 6).2 _ ?_
  have page : pageOf (0xA0000 + n + k * 0x1000) = 0xA0 + k := by
    unfold pageOf
    omega
  unfold stallWords counterPage Reg.WHLn_STAT Reg.WHLn_STALLS Reg.WHL_EVT
  rw [page]
  simp
  omega

/-- A service Pip at its ceiling, or without a block from the wheel, is held. -/
theorem pipBlock_held {s : State} {k : Nat} (hk : k < 28)
    (h : bitsOf (s.rdN (Reg.PPk_CEIL k)) 0 20 ≤ (s.pip k).cycles ∨ s.admits 6 64 = false) :
    (s.pipBlock k).flag (Fld.PPk_STAT_STALLED k) = true ∧ (s.pipBlock k).pcOf k = s.pcOf k ∧
      (s.pipBlock k).rdN (Reg.PPk_STALLS k) = oneMore (s.rdN (Reg.PPk_STALLS k)) := by
  by_cases ceiling : bitsOf (s.rdN (Reg.PPk_CEIL k)) 0 20 ≤ (s.pip k).cycles
  · have held : s.pipBlock k = heldUp s k := by
      unfold State.pipBlock
      rw [if_pos ceiling]
      rfl
    rw [held]
    exact heldUp_spec s k
  · have held : s.pipBlock k = heldUp (s.stall 6) k := by
      unfold State.pipBlock
      rw [if_neg ceiling, State.admitFor_neg (h.resolve_left ceiling)]
      rfl
    obtain ⟨stalled, counter, count⟩ := heldUp_spec (s.stall 6) k
    rw [held]
    exact ⟨stalled, counter.trans (State.get_of_rd (f := Fld.PPk_PC_PC k) (stall_pip s (n := 0x84) hk (by decide))),
      count.trans (congrArg oneMore (State.rdN_of_rd (stall_pip s (n := 0x8C) hk (by decide))))⟩

theorem service_held {s : State} {k w cost : Nat} (f : State → State) (hk : k < 28) (hs : 24 ≤ k) (ready : s.pipReady k w = true)
    (short : (s.pip k).block < cost) (h : bitsOf (s.rdN (Reg.PPk_CEIL k)) 0 20 ≤ (s.pip k).cycles ∨ s.admits 6 64 = false) :
    (s.pipStep k w cost f).flag (Fld.PPk_STAT_STALLED k) = true ∧ (s.pipStep k w cost f).pcOf k = s.pcOf k ∧
      (s.pipStep k w cost f).rdN (Reg.PPk_STALLS k) = oneMore (s.rdN (Reg.PPk_STALLS k)) := by
  have held := pipBlock_held hk h
  have service : (State.isService k && decide ((s.pip k).block < cost)) = true := by
    unfold State.isService
    simp [hs, short]
  have step : s.pipStep k w cost f = s.pipBlock k := by
    unfold State.pipStep
    rw [if_neg (by rw [ready]; decide), if_pos service, if_pos held.1]
  rw [step]
  exact held

/-- Settles O45: every failure goes through `pipFail`, whose record a fence or a restart leaves; a Pip without cycles is held by `pipBlock`. -/
theorem pipFailures : Obligations.PipFailures := by
  intro k s
  refine ⟨pipWatchdog_fails k s, pipFail_fails k .parity s ?_, pipFail_fails k .illegal s ?_, pipFail_fails k .dataRange s ?_,
    pipFail_fails k .wdog s ?_, pipRestart_command k s, fun hs w cost f ready short h => service_held f k.isLt hs ready short h⟩
  · simp [failFound]
  · unfold failFound
    cases s.pipWord k.val with
    | none => simp
    | some w => simp
  · unfold failFound
    cases s.pipWord k.val with
    | none => simp
    | some w => simp
  · simp [failFound]

end Sys2Proof.Machine
end

section
/-! SUPPORT. The levels that follow a command leave TC_SLOPE as it is: nothing that they move lies on its page. -/

namespace Sys2Proof.Machine

/-- TC_SLOPE is as it was. -/
def KeepsSlope (s t : State) : Prop := t.rd Reg.TC_SLOPE = s.rd Reg.TC_SLOPE

section
variable {s t u : State}

theorem KeepsSlope.refl (s : State) : KeepsSlope s s := rfl

theorem KeepsSlope.then (h : KeepsSlope s t) (k : KeepsSlope t u) : KeepsSlope s u := Eq.trans k h

theorem KeepsSlope.ite {c : Prop} [Decidable c] (h : KeepsSlope s t) (k : KeepsSlope s u) : KeepsSlope s (if c then t else u) := by
  split
  · exact h
  · exact k

theorem KeepsSlope.ite_left {c : Prop} [Decidable c] (h : KeepsSlope s t) : KeepsSlope s (if c then t else s) := h.ite (.refl s)

theorem KeepsSlope.foldl {α : Type} (l : List α) (f : State → α → State) (h : ∀ (t : State) (x : α), x ∈ l → KeepsSlope t (f t x)) (s : State) :
    KeepsSlope s (l.foldl f s) := by
  induction l generalizing s with
  | nil => exact .refl s
  | cons x l ih => exact (h s x List.mem_cons_self).then (ih (fun t y hy => h t y (List.mem_cons_of_mem x hy)) (f s x))

theorem Beside.slope (h : Beside s t) : KeepsSlope s t := h.words _ (.inl rfl)

end

/-! ### Words above the page of TC_SLOPE -/

theorem above {b : Nat} (x : Nat) (h : 0x5000 ≤ b) : 0x5000 ≤ b + x := Nat.le_add_right_of_le h

section
variable (s : State) {a : Nat} {f : Fld}

theorem keepsSlope_wrN (n : Nat) (h : 0x5000 ≤ a) : KeepsSlope s (s.wrN a n) := by
  refine State.rd_wrN_other s n ?_
  unfold Reg.TC_SLOPE
  omega

theorem keepsSlope_set (v : Nat) (h : 0x5000 ≤ f.addr) : KeepsSlope s (s.set f v) := keepsSlope_wrN s _ h
theorem keepsSlope_setB (b : Bool) (h : 0x5000 ≤ f.addr) : KeepsSlope s (s.setB f b) := keepsSlope_wrN s _ h
theorem keepsSlope_bump (h : 0x5000 ≤ a) : KeepsSlope s (s.bump a) := keepsSlope_wrN s _ h

end

theorem keepsSlope_evt (s : State) (f : Fld) : KeepsSlope s (s.evt f) := (beside_evt s f).slope
theorem keepsSlope_emit (s : State) (source cls : Nat) (name : String) : KeepsSlope s (s.emit source cls name) := (beside_emit s source cls name).slope
theorem keepsSlope_emitT (s : State) (source cls : Nat) (name : String) : KeepsSlope s (s.emitT source cls name) := (beside_emitT s source cls name).slope
theorem keepsSlope_modPort (s : State) (p : Nat) (f : Port → Port) : KeepsSlope s (s.modPort p f) := rfl
theorem keepsSlope_modOut (s : State) (n : Nat) (f : Output → Output) : KeepsSlope s (s.modOut n f) := rfl
theorem keepsSlope_modLink (s : State) (k : Nat) (f : ULink → ULink) : KeepsSlope s (s.modLink k f) := rfl
theorem keepsSlope_setSw (s : State) (x : Switch) : KeepsSlope s (s.setSw x) := rfl
theorem keepsSlope_setSh (s : State) (x : Shell) : KeepsSlope s (s.setSh x) := rfl
theorem keepsSlope_setLs (s : State) (x : Lease) : KeepsSlope s (s.setLs x) := rfl

/-! ### A port (R245, R248, R256) -/

theorem missCounter_above (p : Nat) (c : MissCause) : 0x5000 ≤ State.missCounter p c := by
  cases c <;> exact above _ (by decide)

theorem keepsSlope_missRes (s : State) (p : Nat) (r : Reservation) (c : MissCause) : KeepsSlope s (s.missRes p r c) := by
  unfold State.missRes State.launchRecord State.refreshRes
  refine .then ?_ (keepsSlope_emitT _ _ _ _)
  have lost (u : State) (h : KeepsSlope s u) : KeepsSlope s (if r.job.eng = 17 then u.bump Reg.NE_LAUNCH_LOST else u) :=
    .ite (h.then (keepsSlope_bump u (by decide))) h
  have revoked (u : State) (h : KeepsSlope s u) : KeepsSlope s (if c = .revoked then u.evt (Fld.PTp_EVT_REVOKED p) else u) :=
    .ite (h.then (keepsSlope_evt u _)) h
  refine lost _ (revoked _ ?_)
  refine .then ?_ (keepsSlope_evt _ _)
  refine .then ?_ (keepsSlope_bump _ (missCounter_above p c))
  exact (keepsSlope_modPort s p _).then (keepsSlope_wrN _ _ (above _ (by decide)))

theorem keepsSlope_missAll (s : State) (p : Nat) (c : MissCause) : KeepsSlope s (s.missAll p c) :=
  KeepsSlope.foldl _ _ (fun t r _ => keepsSlope_missRes t p r c) s

theorem keepsSlope_refreshGate (s : State) (p : Nat) : KeepsSlope s (s.refreshGate p) := by
  have gate (b : Bool) : KeepsSlope s (s.setB (Fld.PTp_STAT_TX_GATE p) b) := keepsSlope_setB s b (above _ (by decide))
  unfold State.refreshGate
  exact .ite (.refl s) (.ite (gate _) (((gate _).then (keepsSlope_missAll _ _ _)).then (keepsSlope_modPort _ _ _)))

theorem keepsSlope_refreshStamps (s : State) (p : Nat) : KeepsSlope s (s.refreshStamps p) := by
  have status {f : Fld} (u : State) (b : Bool) (h : f.addr = Reg.PTp_STAT p) : KeepsSlope u (u.setB f b) :=
    keepsSlope_setB u b (h ▸ above _ (by decide))
  have missed (c : Bool) (u : State) (h : KeepsSlope s u) : KeepsSlope s (if c then u.missAll p .gate else u) :=
    .ite (h.then (keepsSlope_missAll u _ _)) h
  have lost (c : Bool) (u : State) (h : KeepsSlope s u) : KeepsSlope s (if c then u.evt (Fld.PTp_EVT_STAMP_LOST p) else u) :=
    .ite (h.then (keepsSlope_evt u _)) h
  unfold State.refreshStamps
  exact missed _ _ (lost _ _ (((status s _ rfl).then (status _ _ rfl)).then (status _ _ rfl)))

theorem keepsSlope_refreshPause (s : State) (p : Nat) : KeepsSlope s (s.refreshPause p) :=
  (keepsSlope_setB s _ (above _ (by decide))).then (keepsSlope_set _ _ (above _ (by decide)))

/-! ### An output (R394 to R401) -/

theorem keepsSlope_takeCfg (s : State) (n : Nat) : KeepsSlope s (s.takeCfg n) := by
  have taken (f : Output → Output) (b : Bool) : KeepsSlope s ((s.modOut n f).setB (Fld.OUn_STAT_CFG_PENDING n) b) :=
    (keepsSlope_modOut s n f).then (keepsSlope_setB _ b (above _ (by decide)))
  unfold State.takeCfg
  exact .ite ((taken _ _).then (keepsSlope_modOut _ _ _)) ((taken _ _).then (keepsSlope_evt _ _))

theorem keepsSlope_outs (s : State) (x : List Output) : KeepsSlope s { s with outs := x } := rfl

theorem keepsSlope_putLag (s : State) (n : Nat) (v : Int) : KeepsSlope s (s.putLag n v) := by
  have slewing (x : List Output) (b : Bool) : KeepsSlope s (State.setB { s with outs := x } (Fld.OUn_STAT_SLEWING n) b) :=
    (keepsSlope_outs s x).then (keepsSlope_setB _ b (above _ (by decide)))
  unfold State.putLag
  exact .ite (.refl s) (.ite ((slewing _ _).then (keepsSlope_evt _ _)) (slewing _ _))

theorem keepsSlope_seeCfg (s : State) (n : Nat) : KeepsSlope s (s.seeCfg n) := by
  unfold State.seeCfg
  exact .ite (.refl s) (.ite ((keepsSlope_modOut s n _).then (keepsSlope_setB _ _ (above _ (by decide)))) (.ite_left (keepsSlope_takeCfg s n)))

theorem keepsSlope_seeComp (s : State) (n : Nat) : KeepsSlope s (s.seeComp n) := by
  unfold State.seeComp
  exact .ite (.refl s) (.ite ((keepsSlope_modOut s n _).then (keepsSlope_putLag _ _ _)) (keepsSlope_modOut s n _))

theorem keepsSlope_takeSoft (s : State) (n : Nat) : KeepsSlope s (s.takeSoft n) := by
  have seen (f : Output → Output) : KeepsSlope s (s.modOut n f) := keepsSlope_modOut s n f
  have slew (c d : Prop) [Decidable c] [Decidable d] (f : Output → Output) (u : State) (h : KeepsSlope s u) :
      KeepsSlope s (if c then u else if d then u.modOut n f else u.evt (Fld.OUn_EVT_CFG_REFUSED n)) :=
    .ite h (.ite (h.then (keepsSlope_modOut u n f)) (h.then (keepsSlope_evt u _)))
  unfold State.takeSoft
  exact slew _ _ _ _ (.ite (seen _) (.ite ((seen _).then (keepsSlope_modOut _ _ _)) ((seen _).then (keepsSlope_evt _ _))))

theorem keepsSlope_squelchNow (s : State) (n : Nat) : KeepsSlope s (s.squelchNow n) := by
  unfold State.squelchNow
  refine .then ?_ (keepsSlope_setSh _ _)
  refine .then ?_ (keepsSlope_evt _ _)
  refine .then ?_ (keepsSlope_setB _ _ (above _ (by decide)))
  refine .then ?_ (keepsSlope_setB _ _ (above _ (by decide)))
  exact (KeepsSlope.ite_left (keepsSlope_evt s _)).then (keepsSlope_modOut _ _ _)

theorem keepsSlope_releaseOut (s : State) (n : Nat) : KeepsSlope s (s.releaseOut n) :=
  ((keepsSlope_modOut s n _).then (keepsSlope_setB _ _ (above _ (by decide)))).then (keepsSlope_evt _ _)

/-- What a refresh does once the causes of a squelch are known. -/
theorem keepsSlope_squelched {s u : State} (n : Nat) (c0 c1 c2 c3 : Prop) [Decidable c0] [Decidable c1] [Decidable c2] [Decidable c3]
    (f g : Output → Output) (h : KeepsSlope s u) : KeepsSlope s (if c0 then (if c1 then u else if c2 then u.squelchNow n else u.modOut n f)
      else if c3 then u.modOut n g else u.releaseOut n) :=
  .ite (.ite h (.ite (h.then (keepsSlope_squelchNow u n)) (h.then (keepsSlope_modOut u n f))))
    (.ite (h.then (keepsSlope_modOut u n g)) (h.then (keepsSlope_releaseOut u n)))

theorem keepsSlope_refreshOut (s : State) (n : Nat) : KeepsSlope s (s.refreshOut n) := by
  have soft (u : State) : KeepsSlope u (if u.outLive n then u else u.takeSoft n) := .ite (.refl u) (keepsSlope_takeSoft u n)
  have bound (c : Prop) [Decidable c] (f : Output → Output) (u : State) (h : KeepsSlope s u) : KeepsSlope s (if c then u.modOut n f else u) :=
    .ite (h.then (keepsSlope_modOut u n f)) h
  unfold State.refreshOut
  refine keepsSlope_squelched n _ _ _ _ _ _ ?_
  refine .then ?_ (keepsSlope_setB _ _ (above _ (by decide)))
  refine .then ?_ (keepsSlope_wrN _ _ (above _ (by decide)))
  exact bound _ _ _ (((keepsSlope_seeCfg s n).then (keepsSlope_seeComp _ n)).then (soft _))

/-! ### The engines, the switch, the links and the lease -/

theorem keepsSlope_refreshPe (s : State) : KeepsSlope s s.refreshPe := by
  have halt (b : Bool) : KeepsSlope s (s.setB Fld.PE_STAT_AUTH_HALT b) := keepsSlope_setB s b (by decide)
  unfold State.refreshPe
  exact .ite ((halt _).then (keepsSlope_evt _ _)) (halt _)

theorem keepsSlope_refreshNe (s : State) : KeepsSlope s s.refreshNe := by
  have halt (b : Bool) : KeepsSlope s (s.setB Fld.NE_STAT_NTS_HALT b) := keepsSlope_setB s b (by decide)
  have tampered (c d : Prop) [Decidable c] [Decidable d] (u : State) (h : KeepsSlope s u) :
      KeepsSlope s (if c then u.setB Fld.NE_STAT_TAMPERED true else if d then u.setB Fld.NE_STAT_TAMPERED false else u) :=
    .ite (h.then (keepsSlope_setB u _ (by decide))) (.ite (h.then (keepsSlope_setB u _ (by decide))) h)
  unfold State.refreshNe
  refine .then ?_ (keepsSlope_setB _ _ (by decide))
  exact tampered _ _ _ (.ite ((halt _).then (keepsSlope_evt _ _)) (halt _))

theorem keepsSlope_deal (s : State) (g : Nat) (bs ms : List Nat) : KeepsSlope s (s.deal g bs ms) := by
  unfold State.deal
  exact .ite (.refl s) (KeepsSlope.foldl _ _ (fun t x _ => keepsSlope_wrN t _ (above _ (by decide))) s)

theorem keepsSlope_lagSync (s : State) : KeepsSlope s s.lagSync := by
  unfold State.lagSync
  refine KeepsSlope.foldl _ _ (fun t g _ => ?_) s
  exact .ite (.refl t) (.ite ((keepsSlope_setSw t _).then (keepsSlope_deal _ _ _ _)) (keepsSlope_setSw t _))

theorem keepsSlope_dropRoutes (s : State) (k : Nat) : KeepsSlope s (s.dropRoutes k) :=
  KeepsSlope.foldl _ _ (fun t _ _ => .ite_left (keepsSlope_setB t _ (above _ (by decide)))) s

theorem keepsSlope_ulinkDown (s : State) (k : Nat) (b : Bool) : KeepsSlope s (s.ulinkDown k b) := by
  have peer (u : State) (h : KeepsSlope s u) : KeepsSlope s (if k = 0 then u.setB Fld.LS_STAT_PEER_LINK false else u) :=
    .ite (h.then (keepsSlope_setB u _ (by decide))) h
  have lock (u : State) (h : KeepsSlope s u) : KeepsSlope s (if b then u.setB (Fld.ULk_STAT_LOCK k) false else u) :=
    .ite (h.then (keepsSlope_setB u _ (above _ (by decide)))) h
  unfold State.ulinkDown
  refine .ite (.refl s) (.then (peer _ ?_) (keepsSlope_emit _ _ _ _))
  refine .then ?_ (keepsSlope_modLink _ _ _)
  refine .then ?_ (keepsSlope_dropRoutes _ _)
  refine .then (lock _ ?_) (keepsSlope_setB _ _ (above _ (by decide)))
  exact (keepsSlope_setB s _ (above _ (by decide))).then (keepsSlope_evt _ _)

theorem keepsSlope_refreshLinks (s : State) : KeepsSlope s s.refreshLinks :=
  KeepsSlope.foldl _ _ (fun t k _ => .ite_left (keepsSlope_ulinkDown t k true)) s

theorem keepsSlope_leaseTo (s : State) (st : Nat) : KeepsSlope s (s.leaseTo st) := by
  have named : KeepsSlope s ((s.set Fld.LS_STAT_LEASE st).emit 0x3E 0 "LEASE") := (keepsSlope_set s st (by decide)).then (keepsSlope_emit _ _ _ _)
  have released (u : State) (x : Lease) (h : KeepsSlope s u) : KeepsSlope s (if st = 2 then u else u.setLs x) := .ite h (h.then (keepsSlope_setLs u x))
  unfold State.leaseTo
  exact released _ _ (.ite (named.then (keepsSlope_setLs _ _)) (named.then (keepsSlope_setLs _ _)))

theorem keepsSlope_refreshHb (s : State) : KeepsSlope s s.refreshHb := keepsSlope_setB s _ (by decide)

theorem keepsSlope_leaseFence (s : State) : KeepsSlope s s.leaseFence := by
  unfold State.leaseFence
  exact .ite (.refl s) ((((keepsSlope_leaseTo s 4).then (keepsSlope_evt _ _)).then (keepsSlope_setLs _ _)).then (keepsSlope_refreshHb _))

theorem keepsSlope_refreshFeeds (s : State) : KeepsSlope s s.refreshFeeds := by
  have a : KeepsSlope s (if s.feedEn false then s else s.setB Fld.PF_STAT_A_OK false) := .ite (.refl s) (keepsSlope_setB s _ (by decide))
  have b (u : State) : KeepsSlope u (if u.feedEn true then u else u.setB Fld.PF_STAT_B_OK false) := .ite (.refl u) (keepsSlope_setB u _ (by decide))
  unfold State.refreshFeeds
  exact a.then (b _)

theorem keepsSlope_refreshLs (s : State) : KeepsSlope s s.refreshLs := by
  unfold State.refreshLs
  refine .then ?_ (keepsSlope_setB _ _ (by decide))
  exact ((KeepsSlope.ite_left (keepsSlope_leaseFence s)).then (keepsSlope_refreshHb _)).then (keepsSlope_refreshFeeds _)

theorem keepsSlope_levels (s : State) : KeepsSlope s s.levels := by
  have port (t : State) (p : Nat) : KeepsSlope t (((t.refreshGate p).refreshStamps p).refreshPause p) :=
    ((keepsSlope_refreshGate t p).then (keepsSlope_refreshStamps _ p)).then (keepsSlope_refreshPause _ p)
  have outs (t : State) : KeepsSlope t t.refreshOuts := KeepsSlope.foldl _ _ (fun u n _ => keepsSlope_refreshOut u n) t
  unfold State.levels
  refine .then ?_ (keepsSlope_lagSync _)
  refine .then ?_ (keepsSlope_refreshNe _)
  refine .then ?_ (keepsSlope_refreshPe _)
  refine .then ?_ (outs _)
  exact ((keepsSlope_refreshLs s).then (keepsSlope_refreshLinks _)).then (KeepsSlope.foldl _ _ (fun t p _ => port t p) _)

/-! ### The safe state (R259, R484) -/

theorem keepsSlope_dropNext (s : State) {p : Nat} (hp : p < 20) : KeepsSlope s (s.dropNext p) := by
  unfold State.dropNext
  split
  · exact .refl s
  · dsimp only
    split
    · exact (keepsSlope_modPort s p _).then (beside_txqAdd _ hp _).slope
    · exact keepsSlope_modPort s p _

theorem keepsSlope_lagDown (s : State) (p : Nat) : KeepsSlope s (s.lagDown p) :=
  KeepsSlope.foldl _ _ (fun t _ _ => .ite_left (keepsSlope_deal t _ _ _)) s

theorem keepsSlope_portStops (s : State) {p : Nat} (hp : p < 20) (c : MissCause) : KeepsSlope s (s.portStops p c) := by
  have missed : KeepsSlope s ((s.port p).res.foldl (fun t r => t.missRes p r c) s) := KeepsSlope.foldl _ _ (fun t r _ => keepsSlope_missRes t p r c) s
  have synce (t : State) : KeepsSlope t (t.syncELost p) := .ite_left (beside_signalLoss t (by decide)).slope
  unfold State.portStops
  refine .then ?_ (synce _)
  refine .then ?_ (keepsSlope_lagDown _ p)
  refine .then ?_ (keepsSlope_refreshStamps _ p)
  exact ((missed.then (keepsSlope_dropNext _ hp)).then (keepsSlope_setB _ _ (above _ (by decide)))).then (keepsSlope_modPort _ _ _)

theorem keepsSlope_portHw (s : State) {p : Nat} (hp : p < 20) : KeepsSlope s (s.portHw p) := by
  have status {f : Fld} (u : State) (b : Bool) (h : f.addr = Reg.PTp_STAT p) : KeepsSlope u (u.setB f b) :=
    keepsSlope_setB u b (h ▸ above _ (by decide))
  have service (u : State) : KeepsSlope u (u.setInService p false) := keepsSlope_wrN u _ (above _ (by decide))
  unfold State.portHw
  refine .then ?_ (keepsSlope_evt _ _)
  refine .then ?_ (keepsSlope_emit _ _ _ _)
  refine .then ?_ (keepsSlope_modPort _ _ _)
  refine .then ?_ (service _)
  exact (((keepsSlope_portStops s hp .gate).then (status _ _ rfl)).then (status _ _ rfl)).then ((status _ _ rfl).then (status _ _ rfl))

theorem keepsSlope_pipClear (s : State) (k : Nat) : KeepsSlope s (s.pipClear k) := by
  refine .then ?_ (beside_stilled s k).slope
  unfold stilled
  rw [setWait_none]
  exact ((keepsSlope_setB (s.modPip k _) _ (above _ (by decide))).then (keepsSlope_setB _ _ (above _ (by decide)))).then
    (keepsSlope_setB _ _ (above _ (by decide)))

theorem keepsSlope_applySafe (s : State) : KeepsSlope s s.applySafe := by
  unfold State.applySafe
  refine .then (KeepsSlope.foldl _ _ (fun t p hp => keepsSlope_portHw t ?_) s)
    (KeepsSlope.foldl _ _ (fun t k _ => (keepsSlope_pipClear t k).then (keepsSlope_setB _ _ (above _ (by decide)))) _)
  exact Nat.lt_trans (List.mem_range.1 (List.mem_filter.1 hp).1) (by decide)

/-- Where a command's levels are no chip reset, they leave TC_SLOPE. -/
theorem keepsSlope_settle {s : State} (h : (s.fc.chipResetDue && !s.safe) = false) : KeepsSlope s s.settle := by
  rw [State.settle_eq_levels h]
  exact (KeepsSlope.ite_left (keepsSlope_applySafe s)).then (keepsSlope_levels _)

end Sys2Proof.Machine
end

section
/-! PROOF. O55 fails: a block reset leaves the bits that an overlay owns as the overlay has set them (R60, R480), so the configuration is not that of the
shadow. -/

namespace Sys2Proof.Machine

/-! ### The counterexample -/

/-- The host's window is open, every port is fenced, an overlay has set the bit of TC_SLOPE that it owns, and a block reset of target 0 is under way. -/
def overlaidReset : State := { overlaid with fc := { overlaid.fc with shadows := [⟨0, 0, 1, false⟩] } }

/-- That reset's completion. -/
def overlaidDone : State := overlaidReset.blockResetDone 0

theorem overlaidReset_found : overlaidReset.fc.shadows.find? (fun x => x.target == 0 && !x.done) = some ⟨0, 0, 1, false⟩ := by decide +kernel

theorem overlaidDone_slope : overlaidDone.rdN Reg.TC_SLOPE = 100001 := by decide +kernel

theorem overlaidReset_shadow : (overlaidReset.cfg.shadow.word Reg.TC_SLOPE).toNat &&& cfgMask Reg.TC_SLOPE = 100000 := by decide +kernel

theorem slope_masked : (100001 : Nat) &&& cfgMask Reg.TC_SLOPE = 100001 := by decide +kernel

theorem overlaidDone_fenced : ∀ p < 16, overlaidDone.fenced p = true := by decide +kernel

theorem overlaidDone_stays : (overlaidDone.fc.chipResetDue && !overlaidDone.safe) = false := by decide +kernel

theorem overlaidDone_overlays : State.reset.cfg.overlays ≠ overlaidDone.cfg.overlays := by decide +kernel

/-- A state that settles as the reset's completion does has its TC_SLOPE: a chip reset would have ended the overlay. -/
theorem slope_of_settle {u : State} (h : overlaidDone.settle = u.settle) : u.rd Reg.TC_SLOPE = overlaidDone.rd Reg.TC_SLOPE := by
  cases due : u.fc.chipResetDue && !u.safe with
  | false =>
    have left : overlaidDone.settle.rd Reg.TC_SLOPE = overlaidDone.rd Reg.TC_SLOPE := keepsSlope_settle overlaidDone_stays
    have right : u.settle.rd Reg.TC_SLOPE = u.rd Reg.TC_SLOPE := keepsSlope_settle due
    rw [← right, ← h, left]
  | true =>
    have ended : u.settle.cfg = State.reset.cfg := by
      rw [show u.settle = u.chipReset false from if_pos due, State.chipReset_cfg]
    rw [← h, State.settle_cfg overlaidDone_fenced overlaidDone_stays] at ended
    exact absurd (by rw [ended]) overlaidDone_overlays

theorem exec_blockResetComplete (t : Fin 15) (s : State) : exec (.blockResetComplete t) s = .next (s.blockResetDone t.val).settle := rfl

/-- Refutes O55: a block reset of target 0 leaves TC_SLOPE at 100001, its bit 0 being an overlay's, where the shadow has 100000. -/
theorem not_resetsAndWindows : ¬ Obligations.ResetsAndWindows := by
  intro h
  obtain ⟨resets, _⟩ := h overlaidReset
  obtain ⟨⟨u, hu, claims⟩, _⟩ := resets 0
  have settles : overlaidDone.settle = u.settle := Host.Outcome.next.inj ((exec_blockResetComplete 0 overlaidReset).symm.trans hu)
  have found : overlaidReset.fc.shadows.find? (fun x => x.target == (0 : Fin 15).val && !x.done) = some ⟨0, 0, 1, false⟩ := overlaidReset_found
  rw [found] at claims
  obtain ⟨_, reloaded, _⟩ := claims
  have config : isCfg Reg.TC_SLOPE = true := by decide +kernel
  have slope := reloaded Reg.TC_SLOPE (by decide) config rfl
  rw [State.rdN_of_rd (slope_of_settle settles), overlaidDone_slope, slope_masked, overlaidReset_shadow] at slope
  exact absurd slope (by decide)

end Sys2Proof.Machine
end

section
/-! SUPPORT. Commands that reach a register of the time core or of a port: a write that acts, a pair that is completed, and a read that is let
through (R34, R38, R41, R42). -/

namespace Sys2Proof.Machine

/-- A register that acts as it is written: no half of a pair, not in the indirect window, with bits that can be written. -/
def actsAt (a : Nat) : Bool :=
  a % 4 == 0 && pageOf a != 2 && a != Reg.CFG_CTL && !pairLow a && !pairLow (a - 4) &&
    (findRow a).any (fun r => r.rw ||| r.rwl ||| r.w1c ||| r.wo ||| r.rsv != 0)

namespace State

@[simp] theorem mirrorWatch_tc (s : State) : s.mirrorWatch.tc = s.tc := (congrArg State.tc (mirrorWatch_same s) :)
@[simp] theorem mirrorWatch_boot (s : State) : s.mirrorWatch.boot = s.boot := (congrArg State.boot (mirrorWatch_same s) :)
@[simp] theorem mirrorWatch_ports (s : State) : s.mirrorWatch.ports = s.ports := (congrArg State.ports (mirrorWatch_same s) :)

/-- An admitted write of a register that acts is the register's effect. -/
theorem writeAt_acts {s : State} {req : Requester} {ap : Aperture} {a v : Nat} (h : s.Admits req ap a) (ha : actsAt a = true) (hv : v < 2 ^ 32) :
    ∃ r, findRow a = some r ∧ s.writeAt req ap a v = ((s.result req 0 0).wrEffect req a r v).mirrorWatch := by
  unfold actsAt at ha
  simp only [Bool.and_eq_true, beq_iff_eq, bne_iff_ne, Bool.not_eq_true', Option.any_eq_true] at ha
  obtain ⟨⟨⟨⟨⟨aligned, direct⟩, other⟩, low⟩, up⟩, r, hr, hm⟩ := ha
  have acts (t : State) : t.wrKnown req a r v = t.wrEffect req a r v := by
    unfold wrKnown
    rw [if_neg other, low, up]
    simp
  refine ⟨r, hr, ?_⟩
  rw [writeAt_admitted v h hr hm aligned direct, Nat.mod_eq_of_lt hv, acts]

/-- What the fabric's checks look at: the registers and the boot unit. -/
theorem admits_of_regs {s t : State} (hr : t.regs = s.regs) (hb : t.boot = s.boot) {req : Requester} {ap : Aperture} {a : Nat} (h : s.Admits req ap a) :
    t.Admits req ap a := by
  have get (f : Fld) : t.get f = s.get f := congrArg (fun x : RegFile => bitsOf (x.word f.addr).toNat f.lo f.width) hr
  have flag (f : Fld) : t.flag f = s.flag f := congrArg (· != 0) (get f)
  have lock (r : RegRow) : t.fcLocked a r = s.fcLocked a r := by
    unfold fcLocked
    rw [rdN_of_rd (congrArg (fun x : RegFile => x.word Reg.FC_LOCK) hr)]
  have owner : t.ownsWindow req = s.ownsWindow req := by
    unfold ownsWindow
    simp only [flag, get]
  have reach : t.reach req ap (pageOf a) = s.reach req ap (pageOf a) := by
    unfold State.reach bootStage safe
    simp only [hb, flag, get]
  obtain ⟨reached, checks⟩ := h
  refine ⟨reach.trans reached, fun r found => ?_⟩
  rw [flag, owner, lock]
  exact checks r found

/-- Both words of a pair, the lower first: the upper word's write completes the pair (R42). -/
theorem writeAt_pair {s : State} {req : Requester} {ap : Aperture} {a : Nat} {l r : RegRow} (lo hi : Word) (hlow : pairLow a = true)
    (hup : pairLow (a + 4) = false) (h4 : a % 4 = 0) (hp : pageOf a ≠ 2) (hp4 : pageOf (a + 4) ≠ 2) (hl : findRow a = some l) (hr : findRow (a + 4) = some r)
    (hlrw : l.rw ≠ 0) (hrrw : r.rw ≠ 0) (h : s.Admits req ap a) (k : s.Admits req ap (a + 4)) :
    ∃ t : State, (s.writeAt req ap a lo.toNat).writeAt req ap (a + 4) hi.toNat = (t.wrPair req (a + 4) r lo.toNat hi.toNat).mirrorWatch ∧
      t.regs = s.regs ∧ t.tc = s.tc := by
  have first : s.writeAt req ap a lo.toNat = ((s.result req 0 0).stage req a lo.toNat).mirrorWatch := by
    rw [writeAt_admitted _ h hl (mask_of_rw hlrw) h4 hp, Nat.mod_eq_of_lt lo.isLt, wrKnown_lower _ _ _ _ hlow]
  have regs : ((s.result req 0 0).stage req a lo.toNat).mirrorWatch.regs = s.regs := mirrorWatch_regs _
  have tc : ((s.result req 0 0).stage req a lo.toNat).mirrorWatch.tc = s.tc := mirrorWatch_tc _
  have boot : ((s.result req 0 0).stage req a lo.toNat).mirrorWatch.boot = s.boot := mirrorWatch_boot _
  have waits : ((s.result req 0 0).stage req a lo.toNat).mirrorWatch.staged req a = some lo.toNat :=
    (staged_of_staging (mirrorWatch_staging _) req a).trans (staged_stage _ req a lo)
  rw [first]
  generalize ((s.result req 0 0).stage req a lo.toNat).mirrorWatch = t at regs tc boot waits
  refine ⟨(t.result req 0 0).unstage req a, ?_, regs, tc⟩
  have completes := (wrKnown_upper (t.result req 0 0) req r hi.toNat (a := a + 4) (Nat.le_add_left 4 a) hlow hup).2 lo.toNat waits
  rw [writeAt_admitted _ (admits_of_regs regs boot k) hr (mask_of_rw hrrw) (by omega) hp4, Nat.mod_eq_of_lt hi.isLt, completes]
  rfl

/-- A read of a known register on a page that answers. -/
theorem readAt_known {s : State} {req : Requester} {ap : Aperture} {a : Nat} (h : s.reach req ap (pageOf a) ≠ 0) (hr : (findRow a).isSome = true)
    (h4 : a % 4 = 0) (hp : pageOf a ≠ 2) :
    s.readAt req ap a = (s.readWord req a).2.result req (BitVec.ofNat 32 (s.readWord req a).1) 0 := by
  have address : addrOf ⟨req, ap, a / 0x1000, a % 0x1000, 15⟩ = a := by
    exact Nat.div_add_mod' a 0x1000
  have page : a / 0x1000 ≠ 2 := hp
  unfold readAt wordAccess busRead
  dsimp only
  rw [if_neg (show ¬s.reach req ap (a / 0x1000) = 0 from h), if_neg (by simp; omega), if_neg (by simp [page]), address, if_pos (by rw [hr, Bool.or_true])]

/-- A word of no configuration class, without RWL bits, whose reserved bits are kept, takes what its access types say. -/
theorem wrWord_status {s : State} {req : Requester} {a v : Nat} {r : RegRow} (hr : findRow a = some r) (hl : r.rwl = 0) (hc : r.cfg = false)
    (hk : (s.rdN a ^^^ v) &&& r.rsv = 0) : s.wrWord req a r v = s.wrN a (r.written (s.rdN a) v) := by
  unfold wrWord
  simp only [hl, hc, Bool.false_eq_true, if_false, ite_self, Nat.and_zero, Nat.xor_zero, Nat.or_zero, bne_self_eq_false, Bool.false_and, ne_eq,
    not_true_eq_false]
  rw [r.written_eq hk (s.rdN_lt a), r.written_rsv (rsv_and_w1c hr) hk (s.rdN_lt a)]
  rfl

end State

/-- An event of the time core's page is seen in TC_EVT. -/
theorem flag_tcEvt (s : State) {f : Fld} (hf : f.addr = Reg.TC_EVT) (hb : f.lo < 32) (hw : f.width = 1) : (s.evt f).flag f = true :=
  flag_evt_same s f (by rw [hf]; decide) (by rw [hf]; decide) hb hw

/-- An event of the time core's page is an access of TC_EVT alone. -/
theorem touches_tcEvt {A : Nat → Prop} (s : State) {f : Fld} (hf : f.addr = Reg.TC_EVT) (hA : A Reg.TC_EVT) : Touches A s (s.evt f) := by
  refine touches_evt s f ?_
  rw [hf]
  exact hA

end Sys2Proof.Machine
end

section
/-! SUPPORT. Time runs (R63, R67, R397): the count and the slew move, the outputs' lags follow, and nothing else happens. -/

namespace Sys2Proof.Machine

/-- `t` is `s` but for the outputs: their lags, and words of their pages. -/
def Lagged (s t : State) : Prop := Touches (fun a => 0x90000 ≤ a ∧ a < 0xA0000) { s with outs := t.outs } t

section
variable {s t u : State}

theorem Lagged.refl (s : State) : Lagged s s := Touches.refl _ s

theorem Lagged.then (h : Lagged s t) (k : Lagged t u) : Lagged s u := by
  have moved : Touches (fun a => 0x90000 ≤ a ∧ a < 0xA0000) { s with outs := u.outs } { t with outs := u.outs } :=
    ⟨congrArg (fun x : State => { x with outs := u.outs }) h.1, h.2⟩
  exact Touches.then moved k

theorem Lagged.tc (h : Lagged s t) : t.tc = s.tc := (Touches.tc h :)

theorem Lagged.words (h : Lagged s t) {a : Nat} (ha : a < 0x90000) : t.rd a = s.rd a := by
  refine h.2 a (by omega) ?_
  unfold carried pageOf
  simp
  omega

end

theorem lagged_putLag (s : State) {n : Nat} (hn : n < 16) (v : Int) : Lagged s (s.putLag n v) := by
  have put (l : List Output) (b : Bool) : Lagged s (State.setB { s with outs := l } (Fld.OUn_STAT_SLEWING n) b) := by
    refine (writes_setB _ _ _ ?_).touches
    show 0x90000 ≤ Reg.OUn_STAT n ∧ Reg.OUn_STAT n < 0xA0000
    unfold Reg.OUn_STAT
    omega
  have done (t : State) (h : Lagged s t) : Lagged s (t.evt (Fld.OUn_EVT_SLEW_DONE n)) := by
    have told : Touches (fun a => 0x90000 ≤ a ∧ a < 0xA0000) t (t.evt (Fld.OUn_EVT_SLEW_DONE n)) := by
      refine touches_evt t _ ?_
      show 0x90000 ≤ pageOf (Reg.OUn_EVT n) * 0x1000 + 0x10 ∧ pageOf (Reg.OUn_EVT n) * 0x1000 + 0x10 < 0xA0000
      unfold pageOf Reg.OUn_EVT
      omega
    unfold Lagged
    rw [evt_outs]
    exact Touches.then h told
  unfold State.putLag
  dsimp only
  split
  · exact .refl s
  · split
    · exact done _ (put _ _)
    · exact put _ _

theorem lagged_lags (s : State) (k : Nat) (t : State) : Lagged t ((s.lagsAfter k).foldl (fun t x => t.putLag x.1 x.2) t) := by
  have outputs : ∀ x ∈ s.lagsAfter k, x.1 < 16 := by
    intro x hx
    obtain ⟨n, hn, rfl⟩ := List.mem_map.1 hx
    exact List.mem_range.1 hn
  generalize s.lagsAfter k = l at outputs
  induction l generalizing t with
  | nil => exact .refl t
  | cons x l ih =>
    exact (lagged_putLag t (outputs x List.mem_cons_self) x.2).then (ih _ fun y hy => outputs y (List.mem_cons_of_mem x hy))

/-! ### The count and the slew -/

/-- The words of the time core and of the selector in which a slew shows. -/
def slewWord (a : Nat) : Prop := a = Reg.TC_STAT ∨ a = Reg.TC_EVT ∨ a = Reg.RS_STAT

/-- The remaining slew has reached zero: SLEW_DONE, and neither SLEW_ACTIVE nor PULL. -/
theorem slewDone_spec (s : State) : Touches slewWord s s.slewDone ∧ s.slewDone.flag Fld.TC_EVT_SLEW_DONE = true ∧
    s.slewDone.flag Fld.TC_STAT_SLEW_ACTIVE = false := by
  have inactive := State.flag_setB_same s Fld.TC_STAT_SLEW_ACTIVE false (by decide) rfl
  have shown : Touches slewWord s (s.setB Fld.TC_STAT_SLEW_ACTIVE false) := (writes_setB s _ _ (.inl rfl)).touches
  unfold State.slewDone
  dsimp only
  generalize s.setB Fld.TC_STAT_SLEW_ACTIVE false = t at *
  refine ⟨?_, ?_, ?_⟩
  · exact (shown.then (touches_tcEvt t (f := Fld.TC_EVT_SLEW_DONE) rfl (.inr (.inl rfl)))).then (writes_setB _ _ _ (.inr (.inr rfl))).touches
  · rw [State.flag_setB_other _ _ _ _ (by decide) (by decide)]
    exact flag_tcEvt t rfl (by decide) rfl
  · rw [State.flag_setB_other _ _ _ _ (by decide) (by decide), flag_evt_other _ _ _ (by decide) (by decide), inactive]

namespace State

/-- `k` cycles of the count before the outputs' lags follow. -/
def ranFor (s : State) (k : Nat) : State :=
  if s.tc.slew = 0 then { s with tc := { s.tc with now := s.tc.now + k * s.cycleLen, cycle := s.tc.cycle + k } }
  else if k < s.slewCycles then
    { s with tc := { s.tc with now := ((s.tc.now + k * s.cycleLen : Nat) + s.tc.slew.sign * (k * s.slewUnit : Nat)).toNat, cycle := s.tc.cycle + k,
                               slew := s.tc.slew - s.tc.slew.sign * (k * s.slewUnit : Nat) } }
  else
    ({ s with tc := { s.tc with now := ((s.tc.now + k * s.cycleLen : Nat) + s.tc.slew).toNat, cycle := s.tc.cycle + k, slew := 0 } }).slewDone

theorem advance_still {s : State} {k : Nat} (h : s.counting = false ∨ k = 0) : s.advance k = s := by
  unfold advance
  rw [if_pos (by rcases h with h | h <;> simp [h])]

theorem advance_counting {s : State} {k : Nat} (h : s.counting = true) (hk : k ≠ 0) :
    s.advance k = (s.lagsAfter k).foldl (fun t x => t.putLag x.1 x.2) (s.ranFor k) := by
  unfold advance
  rw [if_neg (by simp [h, hk])]
  rfl

theorem lagged_advance {s : State} {k : Nat} (h : s.counting = true) (hk : k ≠ 0) : Lagged (s.ranFor k) (s.advance k) := by
  rw [advance_counting h hk]
  exact lagged_lags s k _

end State

/-- `t` is `s` with time run on: but for the count and the slew, what shows a slew's end, and the outputs, it is as it was. -/
structure RunsOn (s t : State) : Prop where
  core : t.tc = { s.tc with now := t.tc.now, cycle := t.tc.cycle, slew := t.tc.slew }
  rest : Touches (fun a => slewWord a ∨ 0x90000 ≤ a ∧ a < 0xA0000) { s with tc := t.tc, outs := t.outs } t

theorem RunsOn.refl (s : State) : RunsOn s s := ⟨rfl, Touches.refl _ s⟩

theorem RunsOn.lagged {s t u : State} (h : RunsOn s t) (k : Lagged t u) : RunsOn s u := by
  have core : u.tc = t.tc := k.tc
  refine ⟨by rw [core]; exact h.core, ?_⟩
  have moved : Touches (fun a => slewWord a ∨ 0x90000 ≤ a ∧ a < 0xA0000) { s with tc := u.tc, outs := u.outs } { t with outs := u.outs } := by
    rw [core]
    exact ⟨congrArg (fun x : State => { x with outs := u.outs }) h.rest.1, h.rest.2⟩
  exact moved.then (Touches.mono k fun _ => .inr)

theorem runsOn_ranFor (s : State) (k : Nat) : RunsOn s (s.ranFor k) := by
  unfold State.ranFor
  split
  · exact ⟨rfl, Touches.refl _ _⟩
  · split
    · exact ⟨rfl, Touches.refl _ _⟩
    · obtain ⟨touched, -⟩ := slewDone_spec { s with tc := { s.tc with
        now := ((s.tc.now + k * s.cycleLen : Nat) + s.tc.slew).toNat, cycle := s.tc.cycle + k, slew := 0 } }
      refine ⟨by rw [touched.tc], ?_⟩
      rw [touched.tc, touched.outs]
      exact touched.mono fun _ => .inl

theorem runsOn_advance (s : State) (k : Nat) : RunsOn s (s.advance k) := by
  by_cases still : s.counting = false ∨ k = 0
  · rw [State.advance_still still]
    exact .refl s
  · rw [not_or, Bool.not_eq_false] at still
    obtain ⟨counting, some⟩ := still
    exact (runsOn_ranFor s k).lagged (State.lagged_advance counting some)

theorem runsOn_advanceTo (s : State) (target : Nat) : RunsOn s (s.advanceTo target) := runsOn_advance s _

/-- Time that runs on leaves every other word. -/
theorem RunsOn.words {s t : State} (h : RunsOn s t) {a : Nat} (h1 : ¬slewWord a) (h2 : a < 0x90000 ∨ 0xA0000 ≤ a) (hc : carried a = false) :
    t.rd a = s.rd a :=
  h.rest.2 a (by rw [not_or]; exact ⟨h1, by omega⟩) hc

end Sys2Proof.Machine
end

section
/-! PROOF. O8: time is read and steered: TC_NOW, the increment, the slew and its slope, steps (R64 to R72). -/

namespace Sys2Proof.Machine

/-! ### TIME_SAMPLE_READ (R64) -/

/-- The words that a read of TC_NOW_FRAC latches. -/
theorem readWord_now (s : State) (req : Requester) : s.readWord req Reg.TC_NOW_FRAC = (frac32Of s.tc.now, s.setLatches req
    [(Reg.TC_NOW_NS, nsOf s.tc.now), (Reg.TC_NOW_SECL, secOf s.tc.now % 2 ^ 32), (Reg.TC_NOW_SECH, secOf s.tc.now / 2 ^ 32 % 65536)]) := rfl

theorem nsOf_lt (t : Nat) : nsOf t < 1000000000 := by
  unfold nsOf
  exact Nat.div_lt_of_lt_mul (Nat.lt_of_lt_of_eq (Nat.mod_lt t (by decide)) (Nat.mul_comm _ _))

theorem secOf_lt {t : Nat} (h : t ≤ timeMax) : secOf t < 2 ^ 48 := by
  unfold secOf
  refine (Nat.div_lt_iff_lt_mul (by decide)).2 (Nat.lt_of_le_of_lt h ?_)
  decide

theorem timeSample : Claims.TimeSample := by
  intro req ap s hreach hmax
  refine ⟨_, rfl, ?_⟩
  have seconds := secOf_lt hmax
  have ns := nsOf_lt s.tc.now
  rw [State.readAt_known hreach (by decide +kernel) (by decide) (by decide), readWord_now]
  dsimp only
  refine ⟨State.lastRead_result _ _ _ _, ?_, ?_, ?_⟩
  · show (((s.setLatch req Reg.TC_NOW_NS _).setLatch req Reg.TC_NOW_SECL _).setLatch req Reg.TC_NOW_SECH _).latch req Reg.TC_NOW_NS = _
    rw [State.latch_setLatch_other _ _ _ (by decide), State.latch_setLatch_other _ _ _ (by decide), State.latch_setLatch_same]
    omega
  · show (((s.setLatch req Reg.TC_NOW_NS _).setLatch req Reg.TC_NOW_SECL _).setLatch req Reg.TC_NOW_SECH _).latch req Reg.TC_NOW_SECL +
      2 ^ 32 * (((s.setLatch req Reg.TC_NOW_NS _).setLatch req Reg.TC_NOW_SECL _).setLatch req Reg.TC_NOW_SECH _).latch req Reg.TC_NOW_SECH = _
    rw [State.latch_setLatch_other _ _ _ (by decide), State.latch_setLatch_same, State.latch_setLatch_same]
    omega
  · rw [State.setLatches_eq]
    rfl

/-! ### INCR_SW_WRITE (R66) -/

theorem incr_write {s : State} {req : Requester} {ap : Aperture} (lo hi : Word) (h : s.Admits req ap Reg.TC_INCR_SW_L)
    (k : s.Admits req ap Reg.TC_INCR_SW_H) : ∃ t : State, (s.writeAt req ap Reg.TC_INCR_SW_L lo.toNat).writeAt req ap Reg.TC_INCR_SW_H hi.toNat =
      (t.wrIncrSw (hi.toNat * 2 ^ 32 + lo.toNat)).mirrorWatch ∧ t.regs = s.regs ∧ t.tc = s.tc := by
  obtain ⟨l, hl, hlrw⟩ : ∃ r, findRow Reg.TC_INCR_SW_L = some r ∧ r.rw ≠ 0 := by decide +kernel
  obtain ⟨r, hr, hrrw⟩ : ∃ r, findRow Reg.TC_INCR_SW_H = some r ∧ r.rw ≠ 0 := by decide +kernel
  obtain ⟨t, write, regs, tc⟩ := State.writeAt_pair lo hi (by decide) (by decide) (by decide) (by decide) (by decide) hl hr hlrw hrrw h k
  have completes : t.wrPair req Reg.TC_INCR_SW_H r lo.toNat hi.toNat = t.wrIncrSw (hi.toNat * 2 ^ 32 + lo.toNat) := by
    unfold State.wrPair
    dsimp only
    rw [if_pos rfl]
  exact ⟨t, write.trans (congrArg State.mirrorWatch completes), regs, tc⟩

/-- What a completed write of the increment does: an event in TC_EVT, or the staged increment. -/
theorem wrIncrSw_spec (s : State) (v : Nat) :
    if s.loopClosed then (s.wrIncrSw v).tc = s.tc ∧ (s.wrIncrSw v).flag Fld.TC_EVT_INCR_IGNORED = true
    else if incrMin ≤ v % 2 ^ 50 ∧ v % 2 ^ 50 ≤ incrMax then
      (s.wrIncrSw v).tc = { s.tc with swIncr := some (v % 2 ^ 50) } ∧ (s.wrIncrSw v).rd64 Reg.TC_INCR_SW_L = v % 2 ^ 50 ∧ (s.wrIncrSw v).incr = s.incr
    else (s.wrIncrSw v).tc = s.tc ∧ (s.wrIncrSw v).flag Fld.TC_EVT_INCR_RANGE = true := by
  unfold State.wrIncrSw
  dsimp only
  split
  · exact ⟨evt_tc _ _, flag_tcEvt s rfl (by decide) rfl⟩
  · by_cases range : incrMin ≤ v % 2 ^ 50 ∧ v % 2 ^ 50 ≤ incrMax
    · rw [if_pos range, if_pos (by simpa using range)]
      refine ⟨rfl, (State.rd64_wr64_same s _ _).trans (Nat.mod_eq_of_lt (by omega)), ?_⟩
      have low : (s.wr64 Reg.TC_INCR_SW_L (v % 2 ^ 50)).rdN Reg.TC_INCR_L = s.rdN Reg.TC_INCR_L :=
        State.rdN_of_rd (State.rd_wr64_other s _ (by decide) (by decide))
      have high : (s.wr64 Reg.TC_INCR_SW_L (v % 2 ^ 50)).rdN Reg.TC_INCR_H = s.rdN Reg.TC_INCR_H :=
        State.rdN_of_rd (State.rd_wr64_other s _ (by decide) (by decide))
      show bitsOf ((s.wr64 Reg.TC_INCR_SW_L (v % 2 ^ 50)).rdN Reg.TC_INCR_H) 0 18 * 2 ^ 32 + (s.wr64 Reg.TC_INCR_SW_L (v % 2 ^ 50)).rdN Reg.TC_INCR_L = _
      rw [low, high]
      rfl
    · rw [if_neg range, if_neg (by simpa using range)]
      exact ⟨evt_tc _ _, flag_tcEvt s rfl (by decide) rfl⟩

theorem incrementWrite : Claims.IncrementWrite := by
  intro req ap lo hi s hlo hhi
  obtain ⟨t, write, regs, tc⟩ := incr_write lo hi hlo hhi
  have closed : t.loopClosed = s.loopClosed := State.flag_of_rd (congrArg (fun x : RegFile => x.word _) regs)
  have incr : t.incr = s.incr := congrArg (fun x : RegFile => bitsOf (x.word Reg.TC_INCR_H).toNat 0 18 * 2 ^ 32 + (x.word Reg.TC_INCR_L).toNat) regs
  have spec := wrIncrSw_spec t (hi.toNat * 2 ^ 32 + lo.toNat)
  rw [closed, tc, incr] at spec
  refine ⟨_, rfl, ?_⟩
  rw [write]
  unfold State.rd64 State.incr at spec ⊢
  simp only [State.mirrorWatch_tc, State.mirrorWatch_flag, State.mirrorWatch_rdN]
  exact spec

/-! ### SLEW_OFS_WRITE (R69, R70) -/

theorem slewOfs_write {s : State} {req : Requester} {ap : Aperture} (lo hi : Word) (h : s.Admits req ap Reg.TC_SLEW_OFS_L)
    (k : s.Admits req ap Reg.TC_SLEW_OFS_H) : ∃ t : State, (s.writeAt req ap Reg.TC_SLEW_OFS_L lo.toNat).writeAt req ap Reg.TC_SLEW_OFS_H hi.toNat =
      (t.wrSlewOfs (hi.toNat * 2 ^ 32 + lo.toNat)).mirrorWatch ∧ t.regs = s.regs ∧ t.tc = s.tc := by
  obtain ⟨l, hl, hlrw⟩ : ∃ r, findRow Reg.TC_SLEW_OFS_L = some r ∧ r.rw ≠ 0 := by decide +kernel
  obtain ⟨r, hr, hrrw⟩ : ∃ r, findRow Reg.TC_SLEW_OFS_H = some r ∧ r.rw ≠ 0 := by decide +kernel
  obtain ⟨t, write, regs, tc⟩ := State.writeAt_pair lo hi (by decide) (by decide) (by decide) (by decide) (by decide) hl hr hlrw hrrw h k
  have completes : t.wrPair req Reg.TC_SLEW_OFS_H r lo.toNat hi.toNat = t.wrSlewOfs (hi.toNat * 2 ^ 32 + lo.toNat) := by
    unfold State.wrPair
    dsimp only
    rw [if_neg (by decide), if_pos rfl]
  exact ⟨t, write.trans (congrArg State.mirrorWatch completes), regs, tc⟩

theorem retarget_spec (s : State) (ofs : Int) : (s.retarget ofs).tc = { s.tc with slew := ofs } ∧
    (s.retarget ofs).flag Fld.TC_STAT_SLEW_ACTIVE = decide (ofs ≠ 0) := by
  refine ⟨rfl, ?_⟩
  unfold State.retarget
  dsimp only
  rw [State.flag_setB_other _ _ _ _ (by decide) (by decide), State.flag_setB_same _ _ _ (by decide) rfl]
  rw [Bool.eq_iff_iff]
  simp

theorem wrSlewOfs_spec (s : State) (v : Nat) :
    if s.loopClosed then (s.wrSlewOfs v).tc = s.tc ∧ (s.wrSlewOfs v).flag Fld.TC_EVT_SLEW_IGNORED = true
    else (s.wrSlewOfs v).tc = { s.tc with slew := signedOf 64 v * 2 ^ 32 } ∧
      (s.wrSlewOfs v).flag Fld.TC_STAT_SLEW_ACTIVE = decide ((s.wrSlewOfs v).tc.slew ≠ 0) := by
  unfold State.wrSlewOfs
  split
  · exact ⟨evt_tc _ _, flag_tcEvt s rfl (by decide) rfl⟩
  · exact retarget_spec s _

theorem slewOfsWrite {s : State} {req : Requester} {ap : Aperture} (lo hi : Word) (h : s.Admits req ap Reg.TC_SLEW_OFS_L)
    (k : s.Admits req ap Reg.TC_SLEW_OFS_H) : Effect (.slewOfsWrite req ap lo hi) s (fun u =>
      if s.loopClosed then u.tc = s.tc ∧ u.flag Fld.TC_EVT_SLEW_IGNORED = true
      else u.tc = { s.tc with slew := signedOf 64 (hi.toNat * 2 ^ 32 + lo.toNat) * 2 ^ 32 } ∧
        u.flag Fld.TC_STAT_SLEW_ACTIVE = decide (u.tc.slew ≠ 0)) := by
  obtain ⟨t, write, regs, tc⟩ := slewOfs_write lo hi h k
  have closed : t.loopClosed = s.loopClosed := State.flag_of_rd (congrArg (fun x : RegFile => x.word _) regs)
  have spec := wrSlewOfs_spec t (hi.toNat * 2 ^ 32 + lo.toNat)
  rw [closed, tc] at spec
  refine ⟨_, rfl, ?_⟩
  rw [write]
  simp only [State.mirrorWatch_tc, State.mirrorWatch_flag]
  exact spec

/-! ### SLOPE_WRITE (R68) -/

theorem slope_write {s : State} {req : Requester} {ap : Aperture} (v : Word) (h : s.Admits req ap Reg.TC_SLOPE) (ho : s.ownedMask Reg.TC_SLOPE = 0) :
    s.writeAt req ap Reg.TC_SLOPE v.toNat = ((s.result req 0 0).wrSlope (v.toNat % 2 ^ 27)).mirrorWatch := by
  obtain ⟨r, -, write⟩ := State.writeAt_acts h (by decide +kernel) v.isLt
  have effect (t : State) : t.wrEffect req Reg.TC_SLOPE r v.toNat =
      if (t.ownedMask Reg.TC_SLOPE &&& (t.rdN Reg.TC_SLOPE ^^^ v.toNat)) ≠ 0 then t.wrWord req Reg.TC_SLOPE r v.toNat else t.wrSlope (v.toNat % 2 ^ 27) := rfl
  have free : (s.result req 0 0).ownedMask Reg.TC_SLOPE = 0 := ho
  rw [write, effect, free, Nat.zero_and, if_neg (by decide)]

theorem slopeWrite {s : State} {req : Requester} {ap : Aperture} (v : Word) (h : s.Admits req ap Reg.TC_SLOPE) (ho : s.ownedMask Reg.TC_SLOPE = 0) :
    Effect (.slopeWrite req ap v) s (fun u =>
      let x := v.toNat % 2 ^ 27
      if 1000 ≤ x ∧ x ≤ 100000000 then u.rdN Reg.TC_SLOPE = x ∧ Accesses (· = Reg.TC_SLOPE) s u
      else u.flag Fld.TC_EVT_INCR_RANGE = true ∧ u.rd Reg.TC_SLOPE = s.rd Reg.TC_SLOPE ∧ Accesses (· = Reg.TC_EVT) s u) := by
  refine ⟨_, rfl, ?_⟩
  rw [slope_write v h ho]
  unfold State.wrSlope
  dsimp only
  by_cases range : 1000 ≤ v.toNat % 2 ^ 27 ∧ v.toNat % 2 ^ 27 ≤ 100000000
  · rw [if_pos range, if_pos (by simpa using range), State.mirrorWatch_rdN, State.rdN_wrN_same]
    exact ⟨Nat.mod_eq_of_lt (by omega), accesses_wrN s req _ _⟩
  · rw [if_neg range, if_neg (by simpa using range), State.mirrorWatch_flag, State.mirrorWatch_rd]
    refine ⟨flag_tcEvt _ rfl (by decide) rfl, rd_evt_other _ _ (by decide) (by decide), ?_⟩
    exact accesses_of_touches (touches_tcEvt (f := Fld.TC_EVT_INCR_RANGE) _ rfl rfl)

theorem slewAndSlopeWrites : Claims.SlewAndSlopeWrites := fun _ _ _ => ⟨slewOfsWrite, slopeWrite⟩

/-! ### STEP_REQUEST and STEP_CANCEL (R71) -/

/-- TC_STEP_CTL keeps MODE, and a CANCEL or a REQ acts. -/
theorem step_write {s : State} {req : Requester} {ap : Aperture} {v : Nat} (hv : v < 2 ^ 32) (h : s.Admits req ap Reg.TC_STEP_CTL)
    (hk : s.KeepsReserved Reg.TC_STEP_CTL v) : ∃ n, s.writeAt req ap Reg.TC_STEP_CTL v =
      ((((s.result req 0 0).wrN Reg.TC_STEP_CTL n).wrStepCtl v)).mirrorWatch := by
  obtain ⟨r, hr, write⟩ := State.writeAt_acts h (by decide +kernel) hv
  have effect (t : State) : t.wrEffect req Reg.TC_STEP_CTL r v = (t.wrWord req Reg.TC_STEP_CTL r v).wrStepCtl v := rfl
  obtain ⟨hl, hc⟩ : r.rwl = 0 ∧ r.cfg = false := by
    have row : ∀ r ∈ findRow Reg.TC_STEP_CTL, r.rwl = 0 ∧ r.cfg = false := by decide +kernel
    exact row r hr
  have word := State.wrWord_status (s := s.result req 0 0) (req := req) hr hl hc (hk r hr)
  rw [write, effect, word]
  exact ⟨_, rfl⟩

theorem stepReq_spec (s : State) (absolute : Bool) :
    let neg := (s.rd Reg.TC_STEP_SECH).getLsbD 31
    if absolute && neg then (s.stepReq absolute).tc = s.tc ∧ (s.stepReq absolute).flag Fld.TC_EVT_STEP_REFUSED = true
    else (s.stepReq absolute).tc = { s.tc with step := some ⟨absolute, if neg then -(s.stepMagnitude : Int) else s.stepMagnitude, false, false⟩ } ∧
      (s.stepReq absolute).flag Fld.TC_STAT_STEP_PENDING = true := by
  have sign : bitAt (s.rdN Reg.TC_STEP_SECH) 31 = (s.rd Reg.TC_STEP_SECH).getLsbD 31 := rfl
  unfold State.stepReq
  dsimp only
  rw [sign]
  split
  · exact ⟨evt_tc _ _, flag_tcEvt s rfl (by decide) rfl⟩
  · exact ⟨rfl, State.flag_setB_same _ _ _ (by decide) rfl⟩

/-- A step's registers are read beside TC_STEP_CTL. -/
theorem stepMagnitude_of_writes {s t : State} (h : Writes (· = Reg.TC_STEP_CTL) s t) : t.stepMagnitude = s.stepMagnitude := by
  have word {a : Nat} (ha : a ≠ Reg.TC_STEP_CTL) : t.rdN a = s.rdN a := State.rdN_of_rd (h.2 a ha)
  unfold State.stepMagnitude
  rw [word (a := Reg.TC_STEP_SECL) (by decide), word (a := Reg.TC_STEP_SECH) (by decide), word (a := Reg.TC_STEP_NS) (by decide),
    word (a := Reg.TC_STEP_FRAC) (by decide)]

/-- TC_STEP_CTL once its word and its MODE are in place. -/
def modeStored (s : State) (req : Requester) (n : Nat) (absolute : Bool) : State :=
  ((s.result req 0 0).wrN Reg.TC_STEP_CTL n).setB Fld.TC_STEP_CTL_MODE absolute

theorem writes_modeStored (s : State) (req : Requester) (n : Nat) (absolute : Bool) :
    Writes (· = Reg.TC_STEP_CTL) (s.result req 0 0) (modeStored s req n absolute) :=
  (writes_wrN (A := (· = Reg.TC_STEP_CTL)) _ n rfl).then (writes_setB _ Fld.TC_STEP_CTL_MODE absolute rfl)

theorem stepRequest {s : State} {req : Requester} {ap : Aperture} (h : s.Admits req ap Reg.TC_STEP_CTL) (absolute : Bool)
    (hk : s.KeepsReserved Reg.TC_STEP_CTL (if absolute then 5 else 1)) : Effect (.stepRequest req ap absolute) s (fun u =>
      let neg := (s.rd Reg.TC_STEP_SECH).getLsbD 31
      if absolute && neg then u.tc = s.tc ∧ u.flag Fld.TC_EVT_STEP_REFUSED = true
      else u.tc = { s.tc with step := some ⟨absolute, if neg then -(s.stepMagnitude : Int) else s.stepMagnitude, false, false⟩ } ∧
        u.flag Fld.TC_STAT_STEP_PENDING = true) := by
  obtain ⟨n, write⟩ := step_write (by split <;> decide) h hk
  have requests (t : State) : t.wrStepCtl (if absolute then 5 else 1) = (t.setB Fld.TC_STEP_CTL_MODE absolute).stepReq absolute := by
    cases absolute <;> rfl
  have stored := writes_modeStored s req n absolute
  have spec := stepReq_spec (modeStored s req n absolute) absolute
  rw [stepMagnitude_of_writes stored, stored.2 _ (by decide), stored.touches.tc] at spec
  refine ⟨_, rfl, ?_⟩
  rw [write, requests]
  simp only [State.mirrorWatch_tc, State.mirrorWatch_flag]
  exact spec

theorem stepCancel {s : State} {req : Requester} {ap : Aperture} (h : s.Admits req ap Reg.TC_STEP_CTL) (hk : s.KeepsReserved Reg.TC_STEP_CTL 2) :
    Effect (.stepCancel req ap) s (fun u => u.tc = { s.tc with step := none } ∧ u.flag Fld.TC_STAT_STEP_PENDING = false ∧
      Accesses (fun a => a = Reg.TC_STEP_CTL ∨ a = Reg.TC_STAT) { s with tc := u.tc } u) := by
  obtain ⟨n, write⟩ := step_write (by decide) h hk
  have cancels (t : State) : t.wrStepCtl 2 = (t.setB Fld.TC_STEP_CTL_MODE false).stepCancel := rfl
  refine ⟨_, rfl, ?_⟩
  beta_reduce
  rw [write, cancels, State.mirrorWatch_tc, State.mirrorWatch_flag]
  refine ⟨rfl, State.flag_setB_same _ _ _ (by decide) rfl, ?_⟩
  have stored : Writes (fun a => a = Reg.TC_STEP_CTL ∨ a = Reg.TC_STAT) (({ s with tc := { s.tc with step := none } } : State).result req 0 0)
      { (modeStored s req n false) with tc := { s.tc with step := none } } := ⟨rfl, fun a ha => (writes_modeStored s req n false).2 a fun e => ha (.inl e)⟩
  exact accesses_of_touches (stored.then (writes_setB _ Fld.TC_STAT_STEP_PENDING false (.inr rfl))).touches

theorem stepRequests : Claims.StepRequests := fun _ _ _ h => ⟨stepRequest h, stepCancel h⟩

/-! ### SLEW_COMPLETE (R67) -/

theorem slewCycles_zero (s : State) : s.slewCycles = 0 ↔ s.tc.slew = 0 ∨ s.slewUnit = 0 := by
  unfold State.slewCycles ceilDiv
  split
  · simp [*]
  · rename_i unit
    have pos := Nat.pos_of_ne_zero unit
    rw [Nat.div_eq_zero_iff_lt pos]
    omega

theorem execSlewComplete_eq (s : State) : execSlewComplete s = .next (s.advance s.slewCycles).settle := by
  unfold execSlewComplete
  split
  · rename_i none
    rw [State.advance_still (.inr ((slewCycles_zero s).2 (.inl none)))]
    rfl
  · rfl

theorem slewCompletes : Claims.SlewCompletes := by
  intro s
  refine ⟨_, execSlewComplete_eq s, ?_⟩
  beta_reduce
  by_cases still : s.tc.slew = 0 ∨ s.counting = false ∨ s.slewUnit = 0
  · rw [if_pos still]
    refine State.advance_still ?_
    rw [slewCycles_zero]
    tauto
  · rw [if_neg still]
    simp only [not_or, Bool.not_eq_false] at still
    obtain ⟨slewing, counting, unit⟩ := still
    have cycles : s.slewCycles ≠ 0 := by rw [Ne, slewCycles_zero, not_or]; exact ⟨slewing, unit⟩
    have lags := State.lagged_advance counting cycles
    let t : State := { s with tc := { s.tc with
      now := ((s.tc.now + s.slewCycles * s.cycleLen : Nat) + s.tc.slew).toNat, cycle := s.tc.cycle + s.slewCycles, slew := 0 } }
    have ran : s.ranFor s.slewCycles = t.slewDone := by
      unfold State.ranFor
      rw [if_neg slewing, if_neg (Nat.lt_irrefl _)]
    obtain ⟨touched, done, inactive⟩ := slewDone_spec t
    rw [ran] at lags
    have core : (s.advance s.slewCycles).tc = t.tc := lags.tc.trans touched.tc
    refine ⟨?_, ?_, ?_, ?_, ?_⟩
    · rw [core]
    · rw [core]
    · rw [core]
      exact (Int.ofNat_toNat _).trans (max_comm _ _)
    · exact (State.flag_of_rd (lags.words (by decide))).trans done
    · exact (State.flag_of_rd (lags.words (by decide))).trans inactive

/-- Settles O8: each write reaches its own operation of the time core, and the count stops with the slew. -/
theorem timeIsReadAndSteered : Obligations.TimeIsReadAndSteered := ⟨timeSample, incrementWrite, slewAndSlopeWrites, stepRequests, slewCompletes⟩

end Sys2Proof.Machine
end

section
/-! PROOF. O9: a change of the UTC offset is armed, disarmed and applied (R80 to R82). -/

namespace Sys2Proof.Machine

/-- A write of TC_UTC_CTL is its two commands. -/
theorem utcCtl_write {s : State} {req : Requester} {ap : Aperture} {v : Nat} (hv : v < 2 ^ 32) (h : s.Admits req ap Reg.TC_UTC_CTL) :
    s.writeAt req ap Reg.TC_UTC_CTL v = ((s.result req 0 0).wrUtcCtl v).mirrorWatch := by
  obtain ⟨r, -, write⟩ := State.writeAt_acts h (by decide +kernel) hv
  have effect (t : State) : t.wrEffect req Reg.TC_UTC_CTL r v = t.wrUtcCtl v := rfl
  rw [write, effect]

/-- Where ARMED and its copy stand. -/
abbrev armedWord (a : Nat) : Prop := a = Reg.TC_UTC_STAT ∨ a = Reg.TC_STAT

theorem setArmed_spec (s : State) (b : Bool) :
    (s.setArmed b).utcArmed = b ∧ (s.setArmed b).flag Fld.TC_STAT_UTC_ARMED = b ∧ Writes armedWord s (s.setArmed b) := by
  unfold State.setArmed
  refine ⟨?_, State.flag_setB_same _ _ _ (by decide) rfl, ?_⟩
  · exact (State.flag_setB_other _ _ _ _ (by decide) (by decide)).trans (State.flag_setB_same _ _ _ (by decide) rfl)
  · exact (writes_setB s Fld.TC_UTC_STAT_ARMED b (.inl rfl)).then (writes_setB _ Fld.TC_STAT_UTC_ARMED b (.inr rfl))

theorem utcRefuse_spec (s : State) :
    s.utcRefuse.utcArmed = s.utcArmed ∧ s.utcRefuse.flag Fld.TC_EVT_UTC_REFUSED = true ∧ Touches (· = Reg.TC_EVT) s s.utcRefuse :=
  ⟨flag_evt_other _ _ _ (by decide) (by decide), flag_tcEvt s rfl (by decide) rfl, touches_tcEvt s (f := Fld.TC_EVT_UTC_REFUSED) rfl rfl⟩

/-- ARM takes the change where none is armed and the checks pass, and is refused otherwise (R81). -/
theorem utcArm_cases (s : State) :
    s.utcArm = if !s.utcArmed && s.utcChecks (signedOf 16 (s.rdN Reg.TC_UTC_CUR)) (signedOf 16 (s.rdN Reg.TC_UTC_PEND)) s.utcE then s.setArmed true
      else s.utcRefuse := by
  unfold State.utcArm
  cases s.utcArmed with
  | true => rfl
  | false => rfl

/-- Disarmed, ARMED reads 0; where none was armed nothing has changed. -/
theorem utcDisarm_spec (s : State) : s.utcDisarm.utcArmed = false ∧ (s.utcArmed = true → s.utcDisarm.flag Fld.TC_STAT_UTC_ARMED = false) ∧
    Writes armedWord s s.utcDisarm := by
  obtain ⟨armed, copy, only⟩ := setArmed_spec s false
  unfold State.utcDisarm
  cases was : s.utcArmed with
  | true => exact ⟨armed, fun _ => copy, only⟩
  | false => exact ⟨was, fun h => absurd h (by decide), .refl _ s⟩

theorem utcArming : Claims.UtcArming := by
  intro req ap s h
  refine ⟨⟨_, rfl, ?_⟩, ⟨_, rfl, ?_⟩⟩
  · have arms : s.writeAt req ap Reg.TC_UTC_CTL 1 = (s.result req 0 0).utcArm.mirrorWatch := utcCtl_write (by decide) h
    beta_reduce
    rw [arms, utcArm_cases]
    unfold State.utcArmed
    simp only [State.mirrorWatch_flag]
    split
    · obtain ⟨armed, copy, only⟩ := setArmed_spec (s.result req 0 0) true
      rw [if_pos ‹_›]
      exact ⟨armed, copy, accesses_of_touches only.touches⟩
    · obtain ⟨armed, refused, only⟩ := utcRefuse_spec (s.result req 0 0)
      rw [if_neg ‹_›]
      exact ⟨armed, refused, accesses_of_touches only⟩
  · have disarms : s.writeAt req ap Reg.TC_UTC_CTL 2 = (s.result req 0 0).utcDisarm.mirrorWatch := utcCtl_write (by decide) h
    obtain ⟨armed, copy, only⟩ := utcDisarm_spec (s.result req 0 0)
    beta_reduce
    rw [disarms]
    unfold State.utcArmed at armed copy ⊢
    simp only [State.mirrorWatch_flag]
    exact ⟨armed, copy, accesses_of_touches only.touches⟩

/-! ### UTC_APPLY (R82) -/

/-- The pending offset is made the current one. -/
def utcApplied (t : State) : State :=
  ((t.wrN Reg.TC_UTC_CUR (bitsOf (t.rdN Reg.TC_UTC_PEND) 0 16)).setArmed false).evt Fld.TC_EVT_UTC_APPLIED

theorem utcApplied_spec (t : State) : (utcApplied t).rdN Reg.TC_UTC_CUR = bitsOf (t.rdN Reg.TC_UTC_PEND) 0 16 ∧ (utcApplied t).utcArmed = false ∧
    (utcApplied t).flag Fld.TC_STAT_UTC_ARMED = false ∧ (utcApplied t).flag Fld.TC_EVT_UTC_APPLIED = true ∧
    Touches (fun a => a = Reg.TC_UTC_CUR ∨ a = Reg.TC_UTC_STAT ∨ a = Reg.TC_STAT ∨ a = Reg.TC_EVT) t (utcApplied t) := by
  have taken : (t.wrN Reg.TC_UTC_CUR (bitsOf (t.rdN Reg.TC_UTC_PEND) 0 16)).rdN Reg.TC_UTC_CUR = bitsOf (t.rdN Reg.TC_UTC_PEND) 0 16 := by
    rw [State.rdN_wrN_same]
    exact Nat.mod_eq_of_lt (Nat.lt_of_lt_of_le (bitsOf_lt _ 0 16) (by decide))
  have current : Writes (· = Reg.TC_UTC_CUR) t (t.wrN Reg.TC_UTC_CUR (bitsOf (t.rdN Reg.TC_UTC_PEND) 0 16)) := writes_wrN t _ rfl
  unfold utcApplied
  generalize t.wrN Reg.TC_UTC_CUR (bitsOf (t.rdN Reg.TC_UTC_PEND) 0 16) = u at taken current
  obtain ⟨armed, copy, only⟩ := setArmed_spec u false
  generalize u.setArmed false = v at armed copy only
  refine ⟨?_, ?_, ?_, flag_tcEvt v rfl (by decide) rfl, ?_⟩
  · rw [← taken]
    exact State.rdN_of_rd ((rd_evt_other _ _ (by decide) (by decide)).trans (only.2 _ (by decide)))
  · exact (flag_evt_other _ _ _ (by decide) (by decide)).trans armed
  · exact (flag_evt_other _ _ _ (by decide) (by decide)).trans copy
  · refine ((current.mono fun _ h => .inl h).touches.then (only.mono fun _ h => .inr ?_).touches).then
      (touches_tcEvt v (f := Fld.TC_EVT_UTC_APPLIED) rfl (.inr (.inr (.inr rfl))))
    exact h.imp_right .inl

theorem execUtcApply_eq (s : State) : execUtcApply s =
    .next (if s.utcArmed && s.counting then utcApplied (s.advanceTo ((s.utcE + 86400) * secU)) else s).settle := by
  have idle : (!s.utcArmed || !s.counting) = !(s.utcArmed && s.counting) := (Bool.not_and _ _).symm
  unfold execUtcApply finish
  rw [idle]
  cases s.utcArmed && s.counting with
  | true => rw [if_neg (by decide), if_pos rfl, utcApplied]
  | false => rw [if_pos (by decide), if_neg (by decide)]

theorem utcApplies : Claims.UtcApplies := by
  intro s
  refine ⟨_, execUtcApply_eq s, ?_⟩
  beta_reduce
  split
  · exact utcApplied_spec _
  · rfl

/-- Settles O9: ARMED and its copy are written together, by `setArmed`. -/
theorem utcChanges : Obligations.UtcChanges := ⟨utcArming, utcApplies⟩

end Sys2Proof.Machine
end

section
/-! SUPPORT. Work that moves register words only here and there: time stands, and the triggers, the switch and the ports elsewhere stay. -/

namespace Sys2Proof.Machine

/-- `t` is `s` but for words of `A` and for what an event carries; time, the triggers and the switch stay, and so does each port whose PTp_RES_OUT
does. -/
structure Moves (A : Nat → Prop) (s t : State) : Prop where
  words : ∀ a, ¬A a → carried a = false → t.rd a = s.rd a
  now : t.tc.now = s.tc.now
  triggers : t.tc.triggers = s.tc.triggers
  sw : t.sw = s.sw
  length : t.ports.length = s.ports.length
  port : ∀ q, ¬A (Reg.PTp_RES_OUT q) → t.port q = s.port q

section
variable {A B : Nat → Prop} {s t u : State}

theorem Moves.of_regs (hr : t.regs = s.regs) (hnow : t.tc.now = s.tc.now) (htr : t.tc.triggers = s.tc.triggers) (hsw : t.sw = s.sw)
    (hp : t.ports = s.ports) : Moves A s t where
  words a _ _ := congrArg (fun x : RegFile => x.word a) hr
  now := hnow
  triggers := htr
  sw := hsw
  length := congrArg List.length hp
  port q _ := congrArg (fun x : List Port => x.getD q Port.blank) hp

theorem Moves.refl (s : State) : Moves A s s := .of_regs rfl rfl rfl rfl rfl

theorem Moves.then (h : Moves A s t) (k : Moves A t u) : Moves A s u where
  words a ha hc := (k.words a ha hc).trans (h.words a ha hc)
  now := k.now.trans h.now
  triggers := k.triggers.trans h.triggers
  sw := k.sw.trans h.sw
  length := k.length.trans h.length
  port q hq := (k.port q hq).trans (h.port q hq)

theorem Moves.mono (h : Moves A s t) (hab : ∀ a, A a → B a) : Moves B s t :=
  { h with words := fun a ha => h.words a (mt (hab a) ha), port := fun q hq => h.port q (mt (hab _) hq) }

theorem Touches.moves (h : Touches A s t) : Moves A s t where
  words := h.2
  now := congrArg TimeCore.now h.tc
  triggers := congrArg TimeCore.triggers h.tc
  sw := h.sw
  length := congrArg List.length h.ports
  port q _ := congrArg (fun x : List Port => x.getD q Port.blank) h.ports

theorem Moves.ite {c : Prop} [Decidable c] (h : Moves A s t) (k : Moves A s u) : Moves A s (if c then t else u) := by
  split
  · exact h
  · exact k

theorem Moves.ite_left {c : Prop} [Decidable c] (h : Moves A s t) : Moves A s (if c then t else s) := h.ite (.refl s)

theorem Moves.foldl {α : Type} (l : List α) (f : State → α → State) (h : ∀ (t : State) (x : α), x ∈ l → Moves A t (f t x)) (s : State) :
    Moves A s (l.foldl f s) := by
  induction l generalizing s with
  | nil => exact .refl s
  | cons x l ih => exact (h s x List.mem_cons_self).then (ih (fun t y hy => h t y (List.mem_cons_of_mem x hy)) (f s x))

theorem Moves.flag (h : Moves A s t) {f : Fld} (ha : ¬A f.addr) (hc : carried f.addr = false) : t.flag f = s.flag f :=
  State.flag_of_rd (h.words _ ha hc)

theorem Moves.get (h : Moves A s t) {f : Fld} (ha : ¬A f.addr) (hc : carried f.addr = false) : t.get f = s.get f :=
  State.get_of_rd (h.words _ ha hc)

end

section
variable {A : Nat → Prop} (s : State)

theorem moves_wrN {a : Nat} (n : Nat) (h : A a) : Moves A s (s.wrN a n) := (writes_wrN s n h).touches.moves
theorem moves_bump {a : Nat} (h : A a) : Moves A s (s.bump a) := (writes_bump s h).touches.moves
theorem moves_set {f : Fld} (v : Nat) (h : A f.addr) : Moves A s (s.set f v) := (writes_set s f v h).touches.moves
theorem moves_setB {f : Fld} (b : Bool) (h : A f.addr) : Moves A s (s.setB f b) := (writes_setB s f b h).touches.moves
theorem moves_bumpF (f : Fld) (h : A f.addr) : Moves A s (s.bumpF f) := (writes_bumpF s f h).touches.moves
theorem moves_evt {f : Fld} (h : A (pageOf f.addr * 0x1000 + 0x10)) : Moves A s (s.evt f) := (touches_evt s f h).moves
theorem moves_emit (source cls : Nat) (name : String) : Moves A s (s.emit source cls name) := (touches_emit A s source cls name).moves
theorem moves_emitT (source cls : Nat) (name : String) : Moves A s (s.emitT source cls name) := (touches_emitT A s source cls name).moves
theorem moves_setSh (x : Shell) : Moves A s (s.setSh x) := .of_regs rfl rfl rfl rfl rfl
theorem moves_setHo (x : Holdover) : Moves A s (s.setHo x) := .of_regs rfl rfl rfl rfl rfl
theorem moves_modOut (n : Nat) (f : Output → Output) : Moves A s (s.modOut n f) := .of_regs rfl rfl rfl rfl rfl
theorem moves_modSlot (n : Nat) (f : Slot → Slot) : Moves A s (s.modSlot n f) := .of_regs rfl rfl rfl rfl rfl

/-! ### Captures (R88) -/

theorem moves_capStamp (h : A Reg.TC_EVT) (n stamp : Nat) : Moves A s (s.capStamp n stamp) := by
  have full (x : List CapChannel) : Moves A s { s with tc := { s.tc with caps := x } } := .of_regs rfl rfl rfl rfl rfl
  unfold State.capStamp
  dsimp only
  refine .ite ?_ ((full _).then (moves_evt _ (f := Fld.TC_EVT_CAP_OVF) h))
  split
  · exact .of_regs rfl rfl rfl rfl rfl
  · exact .of_regs rfl rfl rfl rfl rfl

theorem moves_capture (h : A Reg.TC_EVT) (src : Nat) (sel : Option Nat) (stamp : Nat) : Moves A s (s.capture src sel stamp) :=
  Moves.foldl _ _ (fun t n _ => .ite_left (moves_capStamp t h n stamp)) s

end

end Sys2Proof.Machine
end

section
/-! PROOF. O10: triggers are armed, disarmed and fire; captures and their FIFOs (R84 to R92). -/

namespace Sys2Proof.Machine

/-! ### TRG_ARM, TRG_DISARM (R84, R85, R527) -/

/-- The command registers of a trigger and of a capture channel act on the one that their offset names. -/
theorem wrEffect_channel (t : State) (req : Requester) {a n : Nat} (r : RegRow) (v : Nat) (page : pageOf a = 5 ∨ pageOf a = 6)
    (offset : a % 0x1000 = 0x44 + n * 0x20) : t.wrEffect req a r v =
      if pageOf a = 5 then t.wrTrgCmd req n v
      else if bitAt v 0 && t.get (Fld.TC_CAPn_CFG_SRC n) = 0 then t.capStamp n t.tc.now else t := by
  have other {b : Nat} (h : pageOf b ≠ 5 ∧ pageOf b ≠ 6) : a ≠ b := by
    rintro rfl
    exact page.elim h.1 h.2
  have utc : ¬(decide (a = Reg.TC_UTC_CUR) || decide (a = Reg.TC_UTC_PEND)) = true := by
    simp only [other (b := Reg.TC_UTC_CUR) (by decide), other (b := Reg.TC_UTC_PEND) (by decide)]
    decide
  have channel : (0x44 + n * 0x20 - 0x40) / 0x20 = n := by omega
  unfold State.wrEffect State.wrLowPage
  dsimp only
  rw [offset, if_neg (by omega), if_neg (by omega), if_neg (by omega), if_pos (show pageOf a < 0x40 by omega), if_neg (other (by decide)),
    if_neg (other (by decide)), if_neg (other (by decide)), if_neg (other (by decide)), if_neg utc, if_neg (other (by decide)), channel]
  rcases page with five | six
  · rw [five, if_pos (by simp), if_pos rfl]
  · rw [six, if_neg (by simp), if_pos (by simp), if_neg (show ¬6 = 5 by decide)]

/-- A write of TRGn_CMD is the trigger's command. -/
theorem trgCmd_write {s : State} {req : Requester} {ap : Aperture} (n : Fin 32) {v : Nat} (hv : v < 2 ^ 32)
    (h : s.Admits req ap (Reg.TRGn_CMD n.val)) :
    s.writeAt req ap (Reg.TRGn_CMD n.val) v = ((s.result req 0 0).wrTrgCmd req n.val v).mirrorWatch := by
  have acts : ∀ n : Fin 32, actsAt (Reg.TRGn_CMD n.val) = true := by decide +kernel
  obtain ⟨r, -, write⟩ := State.writeAt_acts h (acts n) hv
  have page : pageOf (Reg.TRGn_CMD n.val) = 5 := by
    unfold pageOf Reg.TRGn_CMD
    omega
  have offset : Reg.TRGn_CMD n.val % 0x1000 = 0x44 + n.val * 0x20 := by
    unfold Reg.TRGn_CMD
    omega
  rw [write, wrEffect_channel _ req r v (.inl page) offset, if_pos page]

/-- The requesters and triggers to which TRGn_CMD is denied (R84). -/
def TrgDenied (s : State) (req : Requester) (n : Nat) : Prop := (∃ k, req = .pip k) ∨ s.trgOwner n ≠ 0

theorem wrTrgCmd_denied {s : State} {req : Requester} {n v : Nat} (hv : v % 4 ≠ 0) (h : TrgDenied s req n) :
    s.wrTrgCmd req n v = s.evt Fld.TC_EVT_TRG_DENIED := by
  unfold State.wrTrgCmd
  rw [if_neg hv]
  refine if_pos ?_
  rcases h with ⟨k, rfl⟩ | owned
  · rfl
  · simp [owned]

theorem wrTrgCmd_allowed {s : State} {req : Requester} {n v : Nat} (hv : v % 4 ≠ 0) (h : ¬TrgDenied s req n) :
    s.wrTrgCmd req n v = if bitAt v 0 then
        (if bitAt v 1 then s.setTrigger n none else s).trgArmAt n ((if bitAt v 1 then s.setTrigger n none else s).trgTarget n)
      else if bitAt v 1 then s.setTrigger n none else s := by
  obtain ⟨noPip, owner⟩ := not_or.1 h
  unfold State.wrTrgCmd
  rw [if_neg hv]
  refine if_neg ?_
  rw [not_ne_iff.1 owner]
  cases req with
  | pip k => exact absurd ⟨k, rfl⟩ noPip
  | host => decide
  | mgmt => decide
  | jtag => decide

theorem wrTrgCmd_arm {s : State} {req : Requester} {n : Nat} (h : ¬TrgDenied s req n) : s.wrTrgCmd req n 1 = s.trgArmAt n (s.trgTarget n) := by
  rw [wrTrgCmd_allowed (by decide) h, if_pos (show bitAt 1 0 = true by decide), if_neg (show ¬bitAt 1 1 = true by decide)]

theorem wrTrgCmd_disarm {s : State} {req : Requester} {n : Nat} (h : ¬TrgDenied s req n) : s.wrTrgCmd req n 2 = s.setTrigger n none := by
  rw [wrTrgCmd_allowed (by decide) h, if_neg (show ¬bitAt 2 0 = true by decide), if_pos (show bitAt 2 1 = true by decide)]

theorem setTrigger_spec (s : State) (n : Nat) (a : Option ArmedTrigger) :
    (s.setTrigger n a).tc = { s.tc with triggers := s.tc.triggers.set n a } ∧ (s.setTrigger n a).flag (Fld.TRGn_STAT_ARMED n) = a.isSome :=
  ⟨rfl, State.flag_setB_same _ _ _ (by simp) rfl⟩

/-- The word of news is told to a Pip, if to any; the rest stays. -/
theorem touches_trgTell (A : Nat → Prop) (s : State) (n : Nat) (missed skipped bridge : Bool) (residue target : Nat) :
    Touches A s (s.trgTell n missed skipped bridge residue target) := by
  unfold State.trgTell
  dsimp only
  split
  · rename_i range
    simp only [Bool.and_eq_true, decide_eq_true_eq] at range
    exact touches_tell A s (by omega) _
  · exact .refl A s

/-- An ARM of a trigger that is not periodic (R85, R86). -/
theorem trgArmAt_once {s : State} {n target : Nat} (h : s.flag (Fld.TRGn_CFG_MODE n) = false) :
    if target ≤ s.trgTooLate n then (s.trgArmAt n target).tc = { s.tc with triggers := s.tc.triggers.set n none } ∧
      (s.trgArmAt n target).flag Fld.TC_EVT_TRG_MISSED = true
    else (s.trgArmAt n target).tc = { s.tc with triggers := s.tc.triggers.set n (some ⟨target, target, s.trgPeriod n, false⟩) } ∧
      (s.trgArmAt n target).flag (Fld.TRGn_STAT_ARMED n) = true := by
  unfold State.trgArmAt
  dsimp only
  rw [h]
  by_cases late : target ≤ s.trgTooLate n
  · have told := touches_trgTell (fun _ => False) (((s.setTrigger n none).setB (Fld.TRGn_STAT_MISSED n) true).evt Fld.TC_EVT_TRG_MISSED) n true false
      s.bridging 0 target
    rw [if_neg Bool.false_ne_true, if_pos late, if_pos late]
    refine ⟨told.tc.trans (evt_tc _ _), ?_⟩
    rw [told.flag id (by decide)]
    exact flag_tcEvt _ rfl (by decide) rfl
  · rw [if_neg Bool.false_ne_true, if_neg late, if_neg late]
    exact setTrigger_spec s n _

theorem triggerArming : Claims.TriggerArming := by
  intro req ap n s h
  have arm : s.writeAt req ap (Reg.TRGn_CMD n.val) 1 = ((s.result req 0 0).wrTrgCmd req n.val 1).mirrorWatch := trgCmd_write n (by decide) h
  have disarm : s.writeAt req ap (Reg.TRGn_CMD n.val) 2 = ((s.result req 0 0).wrTrgCmd req n.val 2).mirrorWatch := trgCmd_write n (by decide) h
  dsimp only
  refine ⟨fun denied => ?_, fun allowed => ?_, fun allowed once => ?_⟩
  · have event : (s.result req 0 0).mirrorWatch.tc = s.tc ∧ ((s.result req 0 0).evt Fld.TC_EVT_TRG_DENIED).mirrorWatch.tc = s.tc ∧
        ((s.result req 0 0).evt Fld.TC_EVT_TRG_DENIED).mirrorWatch.flag Fld.TC_EVT_TRG_DENIED = true ∧
        Accesses (· = Reg.TC_EVT) s ((s.result req 0 0).evt Fld.TC_EVT_TRG_DENIED).mirrorWatch := by
      refine ⟨State.mirrorWatch_tc _, (State.mirrorWatch_tc _).trans (evt_tc _ _), ?_, ?_⟩
      · rw [State.mirrorWatch_flag]
        exact flag_tcEvt _ rfl (by decide) rfl
      · exact accesses_of_touches (touches_tcEvt _ (f := Fld.TC_EVT_TRG_DENIED) rfl rfl)
    refine ⟨⟨_, rfl, ?_⟩, ⟨_, rfl, ?_⟩⟩
    · beta_reduce
      rw [arm, wrTrgCmd_denied (s := s.result req 0 0) (v := 1) (by decide) denied]
      exact event.2
    · beta_reduce
      rw [disarm, wrTrgCmd_denied (s := s.result req 0 0) (v := 2) (by decide) denied]
      exact event.2
  · refine ⟨_, rfl, ?_⟩
    beta_reduce
    rw [disarm, wrTrgCmd_disarm (s := s.result req 0 0) allowed, State.mirrorWatch_tc, State.mirrorWatch_flag]
    exact setTrigger_spec _ _ _
  · refine ⟨_, rfl, ?_⟩
    beta_reduce
    rw [arm, wrTrgCmd_arm (s := s.result req 0 0) allowed, State.mirrorWatch_tc, State.mirrorWatch_flag,
      State.mirrorWatch_flag]
    exact trgArmAt_once (s := s.result req 0 0) once

end Sys2Proof.Machine
end

section
/-! PROOF. O10, continued: a trigger fires (R84, R85, R378). -/

namespace Sys2Proof.Machine

theorem carried_low {a : Nat} (h : a < 0xA0000) : carried a = false := by
  unfold carried pageOf
  simp
  omega

/-- What a fire does before the trigger's next target is set. -/
def trgTold (s : State) (n : Nat) (a : ArmedTrigger) (residue : Nat) : State :=
  let s1 := { s with tc := { s.tc with fires := s.tc.fires.set n (some (a.target, residue)) } }
  let s2 := s1.set (Fld.TRGn_STAT_FIRES n) (s1.get (Fld.TRGn_STAT_FIRES n) + 1)
  let s3 := if s.bridging then s2.setB (Fld.TRGn_STAT_BRIDGE n) true else s2
  (s3.capture 1 (some n) s3.tc.now).trgTell n false false s.bridging residue a.target

theorem trgFire_eq (s : State) (n : Nat) (a : ArmedTrigger) (residue : Nat) : s.trgFire n a residue false =
    (trgTold s n a residue).setTrigger n (if a.periodic then some { a with target := a.target + a.period } else none) := rfl

theorem moves_trgTold (s : State) (n : Nat) (a : ArmedTrigger) (residue : Nat) :
    Moves (fun a => a = Reg.TRGn_STAT n ∨ a = Reg.TC_EVT) s (trgTold s n a residue) := by
  have counted (x : List (Option (Nat × Nat))) : Moves (fun a => a = Reg.TRGn_STAT n ∨ a = Reg.TC_EVT) s { s with tc := { s.tc with fires := x } } :=
    .of_regs rfl rfl rfl rfl rfl
  unfold trgTold
  refine .then ?_ (touches_trgTell _ _ _ _ _ _ _ _).moves
  refine .then ?_ (moves_capture _ (.inr rfl) _ _ _)
  have marked (u : State) (h : Moves (fun a => a = Reg.TRGn_STAT n ∨ a = Reg.TC_EVT) s u) :
      Moves (fun a => a = Reg.TRGn_STAT n ∨ a = Reg.TC_EVT) s (if s.bridging then u.setB (Fld.TRGn_STAT_BRIDGE n) true else u) :=
    .ite (h.then (moves_setB u _ (.inl rfl))) h
  exact marked _ ((counted _).then (moves_set _ _ (.inl rfl)))

/-- A fire leaves time, and the trigger with its next target or disarmed. -/
theorem trgFire_spec (s : State) (n : Nat) (a : ArmedTrigger) (residue : Nat) : (s.trgFire n a residue false).tc.now = s.tc.now ∧
    (s.trgFire n a residue false).tc.triggers = s.tc.triggers.set n (if a.periodic then some { a with target := a.target + a.period } else none) ∧
    (s.trgFire n a residue false).flag (Fld.TRGn_STAT_ARMED n) = a.periodic := by
  have told := moves_trgTold s n a residue
  obtain ⟨tc, armed⟩ := setTrigger_spec (trgTold s n a residue) n (if a.periodic then some { a with target := a.target + a.period } else none)
  rw [trgFire_eq, tc, armed]
  refine ⟨told.now, congrArg (List.set · _ _) told.triggers, ?_⟩
  cases a.periodic with
  | true => rfl
  | false => rfl

/-! ### The level that the owner has set (R378, R392) -/

/-- Words of the Shell and above it. -/
abbrev shellWord (a : Nat) : Prop := 0x40000 ≤ a

theorem shellWord_at {b : Nat} (x : Nat) (h : 0x40000 ≤ b) : shellWord (b + x) := Nat.le_add_right_of_le h

section
variable (s : State)

theorem moves_dropStart (u : Nat) : Moves shellWord s (s.dropStart u) := by
  unfold State.dropStart
  split
  · exact .refl s
  · exact (moves_setSh s _).then (moves_bump _ (shellWord_at _ (by decide)))

theorem moves_addStart (u : Nat) (x : UnitStart) : Moves shellWord s (s.addStart u x) := by
  unfold State.addStart
  exact .ite (.refl s) (.then (.ite_left (moves_dropStart s u)) (moves_setSh _ _))

theorem moves_startLive (n was nom t : Nat) : Moves shellWord s (s.startLive n was nom t) := .ite (.refl s) (moves_addStart s _ _)

theorem moves_outEvt {f : Fld} {n : Nat} (hf : f.addr = Reg.OUn_EVT n) : Moves shellWord s (s.evt f) := by
  refine moves_evt s ?_
  rw [hf]
  unfold shellWord pageOf Reg.OUn_EVT
  omega

theorem moves_takeSoft (n : Nat) : Moves shellWord s (s.takeSoft n) := by
  have seen (f : Output → Output) : Moves shellWord s (s.modOut n f) := moves_modOut s n f
  have slew (c d : Prop) [Decidable c] [Decidable d] (f : Output → Output) (u : State) (h : Moves shellWord s u) :
      Moves shellWord s (if c then u else if d then u.modOut n f else u.evt (Fld.OUn_EVT_CFG_REFUSED n)) :=
    .ite h (.ite (h.then (moves_modOut u n f)) (h.then (moves_outEvt u rfl)))
  unfold State.takeSoft
  exact slew _ _ _ _ (.ite (seen _) (.ite ((seen _).then (moves_modOut _ _ _)) ((seen _).then (moves_outEvt _ rfl))))

theorem moves_squelchNow (n : Nat) : Moves shellWord s (s.squelchNow n) := by
  have status : shellWord (Reg.OUn_STAT n) := shellWord_at _ (by decide)
  unfold State.squelchNow
  refine .then ?_ (moves_setSh _ _)
  refine .then ?_ (moves_outEvt _ rfl)
  refine .then ?_ (moves_setB _ _ status)
  refine .then ?_ (moves_setB _ _ status)
  exact (Moves.ite_left (moves_outEvt s rfl)).then (moves_modOut _ _ _)

theorem moves_pipEdge (n : Nat) (l : Bool) : Moves shellWord s (s.pipEdge n l) := by
  have level (f : Output → Output) : Moves shellWord s (s.modOut n f) := moves_modOut s n f
  have rises (u : State) (was t t' : Nat) (h : Moves shellWord s u) :
      Moves shellWord s (((u.takeSoft n).wrapBy (Reg.OUn_EDGES n) 1).startLive n was t t') :=
    ((h.then (moves_takeSoft u n)).then (moves_wrN _ _ (shellWord_at _ (by decide)))).then (moves_startLive _ _ _ _ _)
  unfold State.pipEdge
  exact .ite (.refl s) (.ite (rises _ _ _ _ (level _)) (.ite ((level _).then (moves_squelchNow _ n)) (level _)))

theorem moves_modPip (k : Nat) (f : Pip → Pip) : Moves shellWord s (s.modPip k f) := .of_regs rfl rfl rfl rfl rfl

theorem moves_firePip (n : Nat) : Moves shellWord s (s.firePip n) := by
  unfold State.firePip State.pipLevel
  split
  · split
    · exact (moves_modPip s _ _).then (.ite ((moves_modPip _ _ _).then (moves_pipEdge _ _ _)) (.refl _))
    · exact .refl s
  · exact .refl s

end

/-- A trigger fires, and the level that its owner has set reaches the output. -/
theorem fired_spec (t : State) (n : Fin 32) (a : ArmedTrigger) (residue : Nat) :
    ((t.trgFire n.val a residue false).firePip n.val).tc.triggers =
        t.tc.triggers.set n.val (if a.periodic then some { a with target := a.target + a.period } else none) ∧
      ((t.trgFire n.val a residue false).firePip n.val).flag (Fld.TRGn_STAT_ARMED n.val) = a.periodic ∧
      ((t.trgFire n.val a residue false).firePip n.val).tc.now = t.tc.now := by
  obtain ⟨now, triggers, armed⟩ := trgFire_spec t n.val a residue
  have owner := moves_firePip (t.trgFire n.val a residue false) n.val
  have low : Reg.TRGn_STAT n.val < 0x40000 := by
    unfold Reg.TRGn_STAT
    omega
  refine ⟨owner.triggers.trans triggers, ?_, owner.now.trans now⟩
  exact (owner.flag (Nat.not_le_of_lt low) (carried_low (Nat.lt_trans low (by decide)))).trans armed

theorem triggerFires : Claims.TriggerFires := by
  intro n s
  refine ⟨_, rfl, ?_⟩
  beta_reduce
  cases s.trgArmed n.val with
  | none => rfl
  | some a =>
    dsimp only
    split
    · have ran := runsOn_advanceTo s ((a.target : Int) - s.trgAdvance n.val).toNat
      have kept : (s.advanceTo ((a.target : Int) - s.trgAdvance n.val).toNat).tc.triggers = s.tc.triggers := by rw [ran.core]
      rw [← kept]
      exact fired_spec _ n a _
    · rfl

end Sys2Proof.Machine
end

section
/-! PROOF. O10, concluded: software captures, and the pops of the captures and of the transmit stamps (R88, R89, R92). -/

namespace Sys2Proof.Machine

/-! ### CAPTURE_NOW (R88) -/

/-- A write of TC_CAPn_CMD.NOW captures where the channel's source is software. -/
theorem capCmd_write {s : State} {req : Requester} {ap : Aperture} (n : Fin 8) (h : s.Admits req ap (Reg.TC_CAPn_CMD n.val)) :
    s.writeAt req ap (Reg.TC_CAPn_CMD n.val) 1 =
      (if s.get (Fld.TC_CAPn_CFG_SRC n.val) = 0 then (s.result req 0 0).capStamp n.val s.tc.now else s.result req 0 0).mirrorWatch := by
  have acts : ∀ n : Fin 8, actsAt (Reg.TC_CAPn_CMD n.val) = true := by decide +kernel
  obtain ⟨r, -, write⟩ := State.writeAt_acts (v := 1) h (acts n) (by decide)
  have page : pageOf (Reg.TC_CAPn_CMD n.val) = 6 := by
    unfold pageOf Reg.TC_CAPn_CMD
    omega
  have offset : Reg.TC_CAPn_CMD n.val % 0x1000 = 0x44 + n.val * 0x20 := by
    unfold Reg.TC_CAPn_CMD
    omega
  have now : (bitAt 1 0 && decide (s.get (Fld.TC_CAPn_CFG_SRC n.val) = 0)) = true ↔ s.get (Fld.TC_CAPn_CFG_SRC n.val) = 0 := by
    rw [show bitAt 1 0 = true by decide, Bool.true_and, decide_eq_true_iff]
  rw [write, wrEffect_channel _ req r 1 (.inr page) offset, if_neg (by rw [page]; decide)]
  exact congrArg State.mirrorWatch (if_congr now rfl rfl)

theorem capStamp_spec (s : State) (n stamp : Nat) :
    let c := s.tc.caps.getD n ⟨[], false⟩
    if c.fifo.length < 4 then (s.capStamp n stamp).tc = { s.tc with caps := s.tc.caps.set n ⟨c.fifo ++ [⟨stamp, c.dropped⟩], false⟩ }
    else (s.capStamp n stamp).tc = { s.tc with caps := s.tc.caps.set n ⟨c.fifo, true⟩ } ∧ (s.capStamp n stamp).flag Fld.TC_EVT_CAP_OVF = true := by
  unfold State.capStamp
  dsimp only
  by_cases room : (s.tc.caps.getD n ⟨[], false⟩).fifo.length < 4
  · rw [if_pos room, if_pos room]
    split
    · rfl
    · rfl
  · rw [if_neg room, if_neg room]
    exact ⟨evt_tc _ _, flag_tcEvt _ rfl (by decide) rfl⟩

/-! ### CAPTURE_POP and TXQ_POP (R89, R92) -/

theorem set_getD_self {α : Type} (l : List α) (n : Nat) (d : α) : l.set n (l.getD n d) = l := by
  by_cases h : n < l.length
  · rw [List.getD_eq_getElem _ _ h]
    exact List.set_getElem_self h
  · exact List.set_eq_of_length_le (by omega)

/-- A word whose bit 31 is set above a smaller number. -/
theorem word_bit31 {x : Nat} (h : x < 2 ^ 31) : (BitVec.ofNat 32 (2 ^ 31 + x)).getLsbD 31 = true := by
  rw [BitVec.getLsbD_ofNat, Nat.testBit_two_pow_add_eq, Nat.testBit_lt_two_pow h]
  rfl

theorem readWord_capPop (s : State) (req : Requester) (n : Fin 8) : s.readWord req (Reg.TC_CAPn_POP n.val) = s.popCapture req n.val := by
  have page : pageOf (Reg.TC_CAPn_POP n.val) = 6 := by
    unfold pageOf Reg.TC_CAPn_POP
    omega
  have offset : Reg.TC_CAPn_POP n.val % 0x1000 = 0x48 + n.val * 0x20 := by
    unfold Reg.TC_CAPn_POP
    omega
  have other : Reg.TC_CAPn_POP n.val ≠ Reg.TC_NOW_FRAC := fun e => absurd (e ▸ page) (by decide)
  have channel : (0x48 + n.val * 0x20 - 0x40) / 0x20 = n.val := by omega
  have direct : ¬(decide (0xE0 ≤ 6) && decide (6 ≤ 0xE3)) = true := by decide
  unfold State.readWord
  dsimp only
  rw [page, offset, if_neg direct, if_neg other, if_neg (by simp), if_pos (by simp; omega), channel]

theorem readWord_txqPop (s : State) (req : Requester) (p : Fin 16) : s.readWord req (Reg.TC_TXQp_POP p.val) = s.popTxq req p.val := by
  have page : pageOf (Reg.TC_TXQp_POP p.val) = 7 := by
    unfold pageOf Reg.TC_TXQp_POP
    omega
  have offset : Reg.TC_TXQp_POP p.val % 0x1000 = 0x40 + p.val * 0x10 := by
    unfold Reg.TC_TXQp_POP
    omega
  have other : Reg.TC_TXQp_POP p.val ≠ Reg.TC_NOW_FRAC := fun e => absurd (e ▸ page) (by decide)
  have direct : ¬(decide (0xE0 ≤ 7) && decide (7 ≤ 0xE3)) = true := by decide
  have queue : (0x40 + p.val * 0x10 - 0x40) / 0x10 = p.val := by omega
  unfold State.readWord
  dsimp only
  rw [page, offset, if_neg direct, if_neg other, if_neg (by simp), if_neg (by simp), if_neg (by simp),
    if_pos (by simp; omega), if_pos (by omega), queue]

theorem setLatches_tc (s : State) (req : Requester) (l : List (Nat × Nat)) : (s.setLatches req l).tc = s.tc := by
  rw [State.setLatches_eq]

/-- The registers of a pop answer a read where their page does. -/
theorem capPop_read {s : State} {req : Requester} {ap : Aperture} (n : Fin 8) (h : s.reach req ap 6 ≠ 0) :
    s.readAt req ap (Reg.TC_CAPn_POP n.val) = (s.popCapture req n.val).2.result req (BitVec.ofNat 32 (s.popCapture req n.val).1) 0 := by
  have listed : ∀ n : Fin 8, (findRow (Reg.TC_CAPn_POP n.val)).isSome = true := by decide +kernel
  have page : pageOf (Reg.TC_CAPn_POP n.val) = 6 := by
    unfold pageOf Reg.TC_CAPn_POP
    omega
  have aligned : Reg.TC_CAPn_POP n.val % 4 = 0 := by
    unfold Reg.TC_CAPn_POP
    omega
  rw [State.readAt_known (by rw [page]; exact h) (listed n) aligned (by rw [page]; decide), readWord_capPop]

theorem txqPop_read {s : State} {req : Requester} {ap : Aperture} (p : Fin 16) (h : s.reach req ap 7 ≠ 0) :
    s.readAt req ap (Reg.TC_TXQp_POP p.val) = (s.popTxq req p.val).2.result req (BitVec.ofNat 32 (s.popTxq req p.val).1) 0 := by
  have listed : ∀ p : Fin 16, (findRow (Reg.TC_TXQp_POP p.val)).isSome = true := by decide +kernel
  have page : pageOf (Reg.TC_TXQp_POP p.val) = 7 := by
    unfold pageOf Reg.TC_TXQp_POP
    omega
  have aligned : Reg.TC_TXQp_POP p.val % 4 = 0 := by
    unfold Reg.TC_TXQp_POP
    omega
  rw [State.readAt_known (by rw [page]; exact h) (listed p) aligned (by rw [page]; decide), readWord_txqPop]

/-- The captures after a pop, the word returned, and the latched nanoseconds. -/
theorem popCapture_spec (s : State) (req : Requester) (n : Nat) :
    let c := s.tc.caps.getD n ⟨[], false⟩
    (s.popCapture req n).2.tc = { s.tc with caps := s.tc.caps.set n ⟨c.fifo.tail, c.dropped⟩ } ∧
      (BitVec.ofNat 32 (s.popCapture req n).1).getLsbD 31 = !c.fifo.isEmpty ∧
      ∀ e, c.fifo.head? = some e → (s.popCapture req n).2.latch req (Reg.TC_CAPn_NS n) = nsOf e.stamp := by
  have ns : Reg.TC_CAPn_NS n = Reg.TC_CAPn_POP n + 8 := by
    unfold Reg.TC_CAPn_NS Reg.TC_CAPn_POP
    omega
  have same := set_getD_self s.tc.caps n ⟨[], false⟩
  unfold State.popCapture
  dsimp only
  cases h : (s.tc.caps.getD n ⟨[], false⟩) with
  | mk fifo dropped =>
    rw [h] at same
    cases fifo with
    | nil =>
      dsimp only
      refine ⟨?_, by decide, fun e he => absurd he (by simp)⟩
      rw [setLatches_tc, List.tail_nil, same]
    | cons e r =>
      dsimp only
      refine ⟨setLatches_tc _ _ _, ?_, ?_⟩
      · rw [Nat.add_assoc, word_bit31 ?_]
        · rfl
        · split
          · omega
          · omega
      · intro x hx
        obtain rfl : e = x := Option.some.inj hx
        generalize { s with tc := { s.tc with caps := s.tc.caps.set n ⟨r, dropped⟩ } } = t
        rw [ns]
        show (((t.setLatch req (Reg.TC_CAPn_POP n + 4) _).setLatch req (Reg.TC_CAPn_POP n + 8) _).setLatch req (Reg.TC_CAPn_POP n + 12) _).latch req
          (Reg.TC_CAPn_POP n + 8) = _
        rw [State.latch_setLatch_other _ _ _ (by omega), State.latch_setLatch_same]
        have := nsOf_lt e.stamp
        omega

/-- The three marks of an entry are bits 28 to 30. -/
theorem txqMarks (a b c : Bool) :
    ∃ m : Fin 8, (if a then 2 ^ 30 else 0) + (if b then 2 ^ 29 else 0) + (if c then 2 ^ 28 else 0) = m.val * 2 ^ 28 := by
  revert a b c
  decide

/-- The queue after a pop, and the word returned. -/
theorem popTxq_spec (s : State) (req : Requester) (p : Nat) :
    let q := s.tc.txqs.getD p ⟨[], false⟩
    (s.popTxq req p).2.tc = { s.tc with txqs := s.tc.txqs.set p ⟨q.entries.tail, q.dropped⟩ } ∧
      (BitVec.ofNat 32 (s.popTxq req p).1).getLsbD 31 = !q.entries.isEmpty ∧
      ∀ e, q.entries.head? = some e → (BitVec.ofNat 32 (s.popTxq req p).1).toNat % 65536 = e.tag % 65536 := by
  have same := set_getD_self s.tc.txqs p ⟨[], false⟩
  unfold State.popTxq
  dsimp only
  cases h : (s.tc.txqs.getD p ⟨[], false⟩) with
  | mk entries dropped =>
    rw [h] at same
    cases entries with
    | nil =>
      dsimp only
      refine ⟨?_, by decide, fun e he => absurd he (by simp)⟩
      rw [setLatches_tc, List.tail_nil, same]
    | cons e r =>
      obtain ⟨m, marks⟩ := txqMarks e.ovf e.nosend e.nostamp
      have word : 2 ^ 31 + (if e.ovf then 2 ^ 30 else 0) + (if e.nosend then 2 ^ 29 else 0) + (if e.nostamp then 2 ^ 28 else 0) + e.tag % 65536 =
          2 ^ 31 + (m.val * 2 ^ 28 + e.tag % 65536) := by
        rw [← marks]
        omega
      dsimp only
      rw [word]
      refine ⟨setLatches_tc _ _ _, ?_, ?_⟩
      · rw [word_bit31 (by omega)]
        rfl
      · intro x hx
        obtain rfl : e = x := Option.some.inj hx
        rw [BitVec.toNat_ofNat]
        omega

theorem capturesAndPops : Claims.CapturesAndPops := by
  intro req ap s
  refine ⟨fun n h => ⟨_, rfl, ?_⟩, fun n h => ⟨_, rfl, ?_⟩, fun p h => ⟨_, rfl, ?_⟩⟩
  · have entered := capStamp_spec (s.result req 0 0) n.val s.tc.now
    dsimp only at entered ⊢
    rw [capCmd_write n h, State.mirrorWatch_tc, State.mirrorWatch_flag]
    by_cases software : s.get (Fld.TC_CAPn_CFG_SRC n.val) = 0
    · rw [if_pos software, if_neg (not_not.2 software)]
      exact entered
    · rw [if_neg software, if_pos software]
      rfl
  · beta_reduce
    rw [capPop_read n h, State.lastRead_result]
    exact popCapture_spec s req n.val
  · beta_reduce
    rw [txqPop_read p h, State.lastRead_result]
    exact popTxq_spec s req p.val

/-- Settles O10: a trigger's armed values are written by `setTrigger` alone, and a FIFO's entries by `capStamp` and the pops. -/
theorem triggersAndCaptures : Obligations.TriggersAndCaptures := ⟨triggerArming, triggerFires, capturesAndPops⟩

end Sys2Proof.Machine
end

section
/-! SUPPORT. The loss of a source and a port that stops: the words and parts of the state that they leave (R111, R115, R245, R250, R258, R270). -/

namespace Sys2Proof.Machine

/-! ### The loss of a source (R111, R115) -/

/-- Words below the ports' pages. -/
abbrev belowPorts (a : Nat) : Prop := a < 0x50000

section
variable (s : State)

theorem moves_slotEvt {f : Fld} {n : Nat} (hn : n < 12) (hf : f.addr = 0x10010 + n * 0x1000) : Moves belowPorts s (s.evt f) := by
  refine moves_evt s ?_
  rw [hf]
  unfold belowPorts pageOf
  omega

theorem moves_slotTo {n : Nat} (hn : n < 12) (st cause : Nat) : Moves belowPorts s (s.slotTo n st cause) := by
  have state : belowPorts (Reg.RSn_STATE n) := by
    unfold belowPorts Reg.RSn_STATE
    omega
  have due (u : State) (h : Moves belowPorts s u) : Moves belowPorts s { u with snapDue := true } := h.then (.of_regs rfl rfl rfl rfl rfl)
  have named (u : State) (h : Moves belowPorts s u) : Moves belowPorts s (if st = 3 then u.evt (Fld.RSn_EVT_WAS_SELECTED n)
      else if st = 4 then u.evt (Fld.RSn_EVT_WAS_DEGRADED n) else if st = 5 then u.evt (Fld.RSn_EVT_WAS_DISQUALIFIED n) else u) :=
    .ite (h.then (moves_slotEvt u hn rfl)) (.ite (h.then (moves_slotEvt u hn rfl)) (.ite (h.then (moves_slotEvt u hn rfl)) h))
  unfold State.slotTo
  refine .ite (.refl s) (due _ ?_)
  refine .then (.then (named _ (.then ?_ (moves_slotEvt _ hn rfl))) (moves_modSlot _ _ _)) (moves_emitT _ _ _ _)
  exact (((moves_set s _ state).then (moves_set _ _ state)).then (moves_bumpF _ _ state)).then (moves_set _ _ state)

theorem moves_ebLost : Moves belowPorts s s.ebLost := by
  unfold State.ebLost
  exact .ite (.of_regs rfl rfl rfl rfl rfl) (.of_regs rfl rfl rfl rfl rfl)

theorem moves_retarget (ofs : Int) : Moves belowPorts s (s.retarget ofs) := by
  have slewed : Moves belowPorts s { s with tc := { s.tc with slew := ofs } } := .of_regs rfl rfl rfl rfl rfl
  unfold State.retarget
  exact (slewed.then (moves_setB _ _ (by decide))).then (moves_setB _ _ (by decide))

theorem moves_stepCancel : Moves belowPorts s s.stepCancel := by
  have withdrawn : Moves belowPorts s { s with tc := { s.tc with step := none } } := .of_regs rfl rfl rfl rfl rfl
  unfold State.stepCancel
  exact withdrawn.then (moves_setB _ _ (by decide))

theorem moves_toState (n : Nat) : Moves belowPorts s (s.toState n) := by
  have due (u : State) (h : Moves belowPorts s u) : Moves belowPorts s { u with snapDue := true } := h.then (.of_regs rfl rfl rfl rfl rfl)
  unfold State.toState
  refine .ite (.refl s) (due _ (.then ?_ (moves_capture _ (by decide) _ _ _)))
  refine .then (.then ?_ (moves_evt _ (by decide))) (moves_emitT _ _ _ _)
  exact (((moves_set s (f := Fld.TC_STAT_STATE) _ (by decide)).then (moves_set _ (f := Fld.TC_STATE_STATE) _ (by decide))).then
    (moves_set _ (f := Fld.TC_STATE_PREV) _ (by decide))).then (moves_bumpF _ _ (by decide))

theorem moves_tcUpdate (boundary : Bool) : Moves belowPorts s (s.tcUpdate boundary) := by
  unfold State.tcUpdate
  refine .ite (.refl s) (.ite (.ite_left (moves_toState s _)) (.ite (moves_toState s _) (.ite (moves_toState s _) ?_)))
  exact .ite (moves_toState s _) (moves_toState s _)

theorem moves_selectionGone : Moves belowPorts s s.selectionGone := by
  have cancelled (u : State) (x : Holdover) : Moves belowPorts u ((u.stepCancel.setHo x).evt Fld.HO_EVT_ASTEP_CANCEL) :=
    ((moves_stepCancel u).then (moves_setHo _ _)).then (moves_evt _ (by decide))
  have retargeted (u : State) : Moves belowPorts u (if u.loopClosed && !u.bridging then u.retarget 0 else u) := .ite_left (moves_retarget u 0)
  unfold State.selectionGone
  refine .then ?_ (moves_tcUpdate _ _)
  refine .then (((moves_ebLost s).then (retargeted _)).then (moves_evt _ (f := Fld.RS_EVT_NO_SEL) (by decide))) ?_
  generalize State.evt _ Fld.RS_EVT_NO_SEL = u
  split
  · exact .ite_left (cancelled _ _)
  · exact .refl _

theorem moves_signalLoss {n : Nat} (hn : n < 12) : Moves belowPorts s (s.signalLoss n) := by
  have absent : Moves belowPorts s (s.modSlot n (fun x => { x with present := false, sample := none })) := moves_modSlot s _ _
  have lost (f : Slot → Slot) : Moves belowPorts s ((((s.modSlot n (fun x => { x with present := false, sample := none })).evt
      (Fld.RSn_EVT_LOST_SIGNAL n)).slotTo n 6 0).modSlot n f) :=
    ((absent.then (moves_slotEvt _ hn rfl)).then (moves_slotTo _ hn 6 0)).then (moves_modSlot _ _ _)
  unfold State.signalLoss
  exact .ite (moves_modSlot s _ _) (.ite (.ite ((lost _).then (moves_selectionGone _)) (lost _)) absent)

theorem moves_syncELost (p : Nat) : Moves belowPorts s (s.syncELost p) := .ite_left (moves_signalLoss s (by decide))

/-! ### The buckets of the aggregation groups (R270) -/

/-- Words above the ports' pages. -/
abbrev abovePorts (a : Nat) : Prop := 0x60000 ≤ a

theorem abovePorts_at {b : Nat} (x : Nat) (h : 0x60000 ≤ b) : abovePorts (b + x) := Nat.le_add_right_of_le h

theorem moves_deal (g : Nat) (bs ms : List Nat) : Moves abovePorts s (s.deal g bs ms) := by
  unfold State.deal
  exact .ite (.refl s) (Moves.foldl _ _ (fun t x _ => moves_wrN t _ (abovePorts_at _ (by decide))) s)

theorem moves_lagDown (p : Nat) : Moves abovePorts s (s.lagDown p) :=
  Moves.foldl _ _ (fun t _ _ => .ite_left (moves_deal t _ _ _)) s

end

/-! ### Reservations and the waiting frame (R250, R258) -/

/-- Words outside the ports' pages, and those of port `p`. -/
def ofPort (p a : Nat) : Prop := a < 0x50000 ∨ 0x60000 ≤ a ∨ pageOf a = 0x50 + p

/-- Of those, all but the port's status. -/
def besideStatus (p a : Nat) : Prop := ofPort p a ∧ a ≠ Reg.PTp_STAT p

section
variable (s : State) {p : Nat}

theorem besideStatus_page {n : Nat} (h : n < 0x1000) (hn : n ≠ 0xC) : besideStatus p (0x50000 + n + p * 0x1000) := by
  unfold besideStatus ofPort pageOf Reg.PTp_STAT
  omega

theorem besideStatus_above {a : Nat} (h : 0x60000 ≤ a) (hp : p < 16) : besideStatus p a := by
  unfold besideStatus ofPort Reg.PTp_STAT
  omega

theorem besideStatus_below {a : Nat} (h : a < 0x50000) : besideStatus p a := by
  unfold besideStatus ofPort Reg.PTp_STAT
  omega

theorem moves_portEvt {f : Fld} (hf : f.addr = Reg.PTp_EVT p) : Moves (besideStatus p) s (s.evt f) := by
  have event : pageOf (Reg.PTp_EVT p) * 0x1000 + 0x10 = 0x50000 + 0x10 + p * 0x1000 := by
    unfold pageOf Reg.PTp_EVT
    omega
  refine moves_evt s ?_
  rw [hf, event]
  exact besideStatus_page (by decide) (by decide)

/-- A change of port `p` alone leaves the words and the other ports. -/
theorem moves_modPort {A : Nat → Prop} (f : Port → Port) (h : A (Reg.PTp_RES_OUT p)) : Moves A s (s.modPort p f) where
  words _ _ _ := rfl
  now := rfl
  triggers := rfl
  sw := rfl
  length := List.length_modify _ _ _
  port q hq := by
    have other : p ≠ q := fun e => hq (e ▸ h)
    unfold State.port State.modPort
    dsimp only
    rw [List.getD_eq_getElem?_getD, List.getD_eq_getElem?_getD, List.getElem?_modify_ne f s.ports other]

theorem besideStatus_resOut : besideStatus p (Reg.PTp_RES_OUT p) := besideStatus_page (n := 0x8C) (by decide) (by decide)

theorem besideStatus_missCounter (c : MissCause) : besideStatus p (State.missCounter p c) := by
  cases c with
  | late => exact besideStatus_page (n := 0xE8) (by decide) (by decide)
  | length => exact besideStatus_page (n := 0xEC) (by decide) (by decide)
  | pause => exact besideStatus_page (n := 0xF0) (by decide) (by decide)
  | link => exact besideStatus_page (n := 0xF4) (by decide) (by decide)
  | gate => exact besideStatus_page (n := 0xF8) (by decide) (by decide)
  | revoked => exact besideStatus_page (n := 0xFC) (by decide) (by decide)

theorem moves_missRes (hp : p < 16) (r : Reservation) (c : MissCause) : Moves (besideStatus p) s (s.missRes p r c) := by
  unfold State.missRes State.launchRecord State.refreshRes
  refine .then ?_ (moves_emitT _ _ _ _)
  have lost (u : State) (h : Moves (besideStatus p) s u) : Moves (besideStatus p) s (if r.job.eng = 17 then u.bump Reg.NE_LAUNCH_LOST else u) :=
    .ite (h.then (moves_bump u (besideStatus_above (by decide) hp))) h
  have revoked (u : State) (h : Moves (besideStatus p) s u) : Moves (besideStatus p) s (if c = .revoked then u.evt (Fld.PTp_EVT_REVOKED p) else u) :=
    .ite (h.then (moves_portEvt u rfl)) h
  refine lost _ (revoked _ (.then ?_ (moves_portEvt _ rfl)))
  exact ((moves_modPort s _ besideStatus_resOut).then (moves_wrN _ _ besideStatus_resOut)).then (moves_bump _ (besideStatus_missCounter c))

theorem moves_missAll (hp : p < 16) (c : MissCause) : Moves (besideStatus p) s (s.missAll p c) :=
  Moves.foldl _ _ (fun t r _ => moves_missRes t hp r c) s

theorem moves_txqAdd {q : Nat} (hq : q < 20) (e : TxqEntry) : Moves belowPorts s (s.txqAdd q e) := by
  have queued (x : List TxQueue) : Moves belowPorts s { s with tc := { s.tc with txqs := x } } := .of_regs rfl rfl rfl rfl rfl
  have drops : belowPorts (Reg.TC_TXQ_DROPp q) := by
    unfold belowPorts Reg.TC_TXQ_DROPp
    omega
  unfold State.txqAdd
  exact .ite (.ite ((queued _).then (moves_evt _ (by decide))) (queued _))
    (((queued _).then (moves_bump _ drops)).then (moves_evt _ (by decide)))

theorem moves_dropNext (hp : p < 16) : Moves (besideStatus p) s (s.dropNext p) := by
  unfold State.dropNext
  split
  · exact .refl s
  · dsimp only
    split
    · exact (moves_modPort s _ besideStatus_resOut).then ((moves_txqAdd _ (Nat.lt_trans hp (by decide)) _).mono fun _ => besideStatus_below)
    · exact moves_modPort s _ besideStatus_resOut

end

end Sys2Proof.Machine
end

section
/-! SUPPORT. What the stamp bits of a port follow, and what a port that stops leaves (R245, R258, R259). -/

namespace Sys2Proof.Machine

section
variable (s : State) {p : Nat}

theorem status_plain (hp : p < 16) : carried (Reg.PTp_STAT p) = false := by
  refine carried_low ?_
  unfold Reg.PTp_STAT
  omega

/-! ### The stamp bits (R245) -/

/-- The stamp bits are made what the markers allow. -/
def stampsMarked (s : State) (p : Nat) : State :=
  ((s.setB (Fld.PTp_STAT_STAMP_RX_OK p) (s.stampOk p false)).setB (Fld.PTp_STAT_STAMP_TX_OK p) (s.stampOk p true)).setB (Fld.PTp_STAT_GRID_OK p)
    (s.stampOk p true)

/-- A bit has fallen. -/
def stampsLost (s : State) (p : Nat) : Bool := (s.stampRx p && !s.stampOk p false) || (s.stampTx p && !s.stampOk p true)

theorem refreshStamps_eq (p : Nat) : s.refreshStamps p =
    if s.stampTx p && !s.stampOk p true then
      (if stampsLost s p then (stampsMarked s p).evt (Fld.PTp_EVT_STAMP_LOST p) else stampsMarked s p).missAll p .gate
    else if stampsLost s p then (stampsMarked s p).evt (Fld.PTp_EVT_STAMP_LOST p) else stampsMarked s p := rfl

theorem stampsMarked_spec (p : Nat) : (stampsMarked s p).stampRx p = s.stampOk p false ∧ (stampsMarked s p).stampTx p = s.stampOk p true ∧
    (stampsMarked s p).flag (Fld.PTp_STAT_GRID_OK p) = s.stampOk p true := by
  unfold stampsMarked State.stampRx State.stampTx
  refine ⟨?_, ?_, State.flag_setB_same _ _ _ (by simp) rfl⟩
  · rw [State.flag_setB_other _ _ _ _ (by simp) (by simp), State.flag_setB_other _ _ _ _ (by simp) (by simp), State.flag_setB_same _ _ _ (by simp) rfl]
  · rw [State.flag_setB_other _ _ _ _ (by simp) (by simp), State.flag_setB_same _ _ _ (by simp) rfl]

theorem get_stampsMarked {f : Fld} (h : f.lo + f.width ≤ 3 ∨ 6 ≤ f.lo) : (stampsMarked s p).get f = s.get f := by
  have apart (n : Nat) (h3 : 3 ≤ n) (h5 : n ≤ 5) : f.lo + f.width ≤ n ∨ n + 1 ≤ f.lo := by omega
  unfold stampsMarked
  rw [State.get_setB_other _ _ _ _ (by simp) (.inr (apart 5 (by decide) (by decide))),
    State.get_setB_other _ _ _ _ (by simp) (.inr (apart 4 (by decide) (by decide))),
    State.get_setB_other _ _ _ _ (by simp) (.inr (apart 3 (by decide) (by decide)))]

theorem moves_stampsMarked (p : Nat) : Moves (· = Reg.PTp_STAT p) s (stampsMarked s p) := by
  unfold stampsMarked
  refine .then (.then (moves_setB s _ ?_) (moves_setB _ _ ?_)) (moves_setB _ _ ?_)
  all_goals rfl

theorem moves_stampsLost (c : Bool) : Moves (besideStatus p) s (if c then s.evt (Fld.PTp_EVT_STAMP_LOST p) else s) := .ite_left (moves_portEvt s rfl)

/-- Once the bits are made, at most the port's reservations go. -/
theorem moves_refreshStamps (hp : p < 16) : Moves (besideStatus p) (stampsMarked s p) (s.refreshStamps p) := by
  rw [refreshStamps_eq]
  exact .ite ((moves_stampsLost _ _).then (moves_missAll _ hp _)) (moves_stampsLost _ _)

/-- The status word is as the bits were made. -/
theorem status_refreshStamps (hp : p < 16) : (s.refreshStamps p).rd (Reg.PTp_STAT p) = (stampsMarked s p).rd (Reg.PTp_STAT p) :=
  (moves_refreshStamps s hp).words _ (fun h => h.2 rfl) (status_plain hp)

/-- A reservation that is discarded leaves STAMP_LOST set. -/
theorem stampLost_missRes (hp : p < 16) (r : Reservation) (c : MissCause) (h : s.flag (Fld.PTp_EVT_STAMP_LOST p) = true) :
    (s.missRes p r c).flag (Fld.PTp_EVT_STAMP_LOST p) = true := by
  have plain : carried (Reg.PTp_EVT p) = false := (State.portEvt_addr hp).2
  have kept {u : State} {a : Nat} (n : Nat) (ha : Reg.PTp_EVT p ≠ a) (hu : u.flag (Fld.PTp_EVT_STAMP_LOST p) = true) :
      (u.wrN a n).flag (Fld.PTp_EVT_STAMP_LOST p) = true := (State.flag_of_rd (State.rd_wrN_other u n ha)).trans hu
  have event {u : State} {f : Fld} (hf : f.lo < 32) (hu : u.flag (Fld.PTp_EVT_STAMP_LOST p) = true) : (u.evt f).flag (Fld.PTp_EVT_STAMP_LOST p) = true :=
    flag_evt_mono rfl plain hf hu
  have counter : Reg.PTp_EVT p ≠ State.missCounter p c := by
    cases c <;> simp [State.missCounter]
  have revoked (u : State) (hu : u.flag (Fld.PTp_EVT_STAMP_LOST p) = true) :
      (if c = .revoked then u.evt (Fld.PTp_EVT_REVOKED p) else u).flag (Fld.PTp_EVT_STAMP_LOST p) = true := by
    split
    · exact event (by simp) hu
    · exact hu
  have lost (u : State) (hu : u.flag (Fld.PTp_EVT_STAMP_LOST p) = true) :
      (if r.job.eng = 17 then u.bump Reg.NE_LAUNCH_LOST else u).flag (Fld.PTp_EVT_STAMP_LOST p) = true := by
    split
    · exact kept _ (by unfold Reg.PTp_EVT Reg.NE_LAUNCH_LOST; omega) hu
    · exact hu
  unfold State.missRes State.launchRecord
  rw [(touches_emitT (fun _ => False) _ _ _ _).flag id plain]
  refine lost _ (revoked _ (event (by simp) (kept _ counter ?_)))
  exact kept _ (by unfold Reg.PTp_EVT Reg.PTp_RES_OUT; omega) h

theorem stampLost_missAll (hp : p < 16) (c : MissCause) (h : s.flag (Fld.PTp_EVT_STAMP_LOST p) = true) :
    (s.missAll p c).flag (Fld.PTp_EVT_STAMP_LOST p) = true := by
  unfold State.missAll
  exact List.foldlRecOn (motive := fun u : State => u.flag (Fld.PTp_EVT_STAMP_LOST p) = true) _ _ h
    fun u hu r _ => stampLost_missRes u hp r c hu

/-- The bits are what the markers allow; the fall of the transmit bit is told. -/
theorem refreshStamps_spec (hp : p < 16) : (s.refreshStamps p).stampRx p = s.stampOk p false ∧ (s.refreshStamps p).stampTx p = s.stampOk p true ∧
    (s.refreshStamps p).flag (Fld.PTp_STAT_GRID_OK p) = s.stampOk p true ∧
    (s.stampTx p = true → s.stampOk p true = false → (s.refreshStamps p).flag (Fld.PTp_EVT_STAMP_LOST p) = true) := by
  have status := status_refreshStamps s hp
  obtain ⟨rx, tx, grid⟩ := stampsMarked_spec s p
  refine ⟨(State.flag_of_rd status).trans rx, (State.flag_of_rd status).trans tx, (State.flag_of_rd status).trans grid, fun was now => ?_⟩
  have told : stampsLost s p = true := by
    unfold stampsLost
    rw [was, now]
    simp
  obtain ⟨event, plain⟩ := State.portEvt_addr hp
  rw [refreshStamps_eq, was, now, told, if_pos (by decide), if_pos rfl]
  exact stampLost_missAll _ hp _ (flag_evt_same _ _ event plain (by simp) rfl)

/-- A port without reservations keeps its state as its stamp bits follow. -/
theorem port_refreshStamps (h : (s.port p).res = []) : (s.refreshStamps p).port p = s.port p := by
  have told : ∀ c : Bool, (if c then (stampsMarked s p).evt (Fld.PTp_EVT_STAMP_LOST p) else stampsMarked s p).port p = s.port p := by
    intro c
    cases c with
    | false => rfl
    | true => exact congrArg (fun x : List Port => x.getD p Port.blank) (evt_ports (stampsMarked s p) _)
  have missed (u : State) (hu : u.port p = s.port p) : u.missAll p .gate = u := by
    unfold State.missAll
    rw [hu, h]
    rfl
  rw [refreshStamps_eq, missed _ (told _), ite_self]
  exact told _

end

end Sys2Proof.Machine
end

section
/-! SUPPORT. A port that stops, and links that go down (R258, R259, R433). -/

namespace Sys2Proof.Machine

/-! ### A port's state -/

theorem port_modPort_or (s : State) (p : Nat) (f : Port → Port) :
    (s.modPort p f).port p = f (s.port p) ∨ (s.modPort p f).port p = Port.blank ∧ s.port p = Port.blank := by
  by_cases h : p < s.ports.length
  · exact .inl (State.port_modPort_same f h)
  · have blank (l : List Port) (hl : ¬p < l.length) : l.getD p Port.blank = Port.blank := List.getD_eq_default _ _ (Nat.le_of_not_lt hl)
    exact .inr ⟨blank _ (by simpa [State.modPort] using h), blank _ h⟩

/-- A field of the port that the change makes what it is where there is no port. -/
theorem field_modPort {α : Type} (s : State) (p : Nat) {f : Port → Port} (g : Port → α) (v : α) (hf : ∀ x, g (f x) = v) (hb : g Port.blank = v) :
    g ((s.modPort p f).port p) = v := by
  rcases port_modPort_or s p f with h | ⟨h, -⟩
  · rw [h, hf]
  · rw [h, hb]

/-- A field of the port that the change leaves. -/
theorem field_modPort_kept {α : Type} (s : State) (p : Nat) {f : Port → Port} (g : Port → α) (hf : ∀ x, g (f x) = g x) :
    g ((s.modPort p f).port p) = g (s.port p) := by
  rcases port_modPort_or s p f with h | ⟨h, blank⟩
  · rw [h, hf]
  · rw [h, blank]

/-! ### Reservations and the waiting frame end (R250, R258) -/

/-- What is left of the reservations after some have been discarded. -/
theorem res_missFold {p : Nat} (hp : p < 16) (c : MissCause) (l : List Reservation) (s : State) :
    ∀ y ∈ ((l.foldl (fun t r => t.missRes p r c) s).port p).res, y ∈ (s.port p).res ∧ ∀ r ∈ l, y.id ≠ r.id := by
  induction l generalizing s with
  | nil => exact fun y hy => ⟨hy, fun r hr => absurd hr List.not_mem_nil⟩
  | cons r l ih =>
    intro y hy
    obtain ⟨held, apart⟩ := ih (s.missRes p r c) y hy
    obtain ⟨filtered, -, -⟩ := State.missRes_spec s hp r c
    rw [filtered, List.mem_filter, bne_iff_ne] at held
    exact ⟨held.1, List.forall_mem_cons.2 ⟨held.2, apart⟩⟩

/-- Discarding each of a port's reservations leaves none. -/
theorem res_missFold_all {p : Nat} (hp : p < 16) (c : MissCause) (s : State) :
    (((s.port p).res.foldl (fun t r => t.missRes p r c) s).port p).res = [] := by
  refine List.eq_nil_iff_forall_not_mem.2 fun y hy => ?_
  obtain ⟨held, apart⟩ := res_missFold hp c _ s y hy
  exact apart y held rfl

theorem dropNext_spec (s : State) {p : Nat} (hp : p < 16) : ((s.dropNext p).port p).next = none ∧ ((s.dropNext p).port p).res = (s.port p).res := by
  have emptied := field_modPort s p (f := fun x => { x with next := none }) Port.next none (fun _ => rfl) rfl
  have kept := field_modPort_kept s p (f := fun x => { x with next := none }) Port.res (fun _ => rfl)
  unfold State.dropNext
  split
  · exact ⟨‹_›, rfl⟩
  · dsimp only
    split
    · rename_i tag _
      have queued : ((s.modPort p (fun x => { x with next := none })).txqNoSend p tag).port p = (s.modPort p (fun x => { x with next := none })).port p :=
        (moves_txqAdd _ (Nat.lt_trans hp (by decide)) _).port p (by unfold belowPorts Reg.PTp_RES_OUT; omega)
      rw [queued]
      exact ⟨emptied, kept⟩
    · exact ⟨emptied, kept⟩

/-! ### A port stops (R258, R259) -/

/-- A port without markers and without a frame that cuts through. -/
def unlinked (x : Port) : Port := { x with rxMarks := [], txMarks := [], cut := none }

/-- The state before the port's stamp bits follow: it has no reservations, no waiting frame, no link and no markers. -/
def stopped (s : State) (p : Nat) (c : MissCause) : State :=
  ((((s.port p).res.foldl (fun t r => t.missRes p r c) s).dropNext p).setB (Fld.PTp_STAT_LINK p) false).modPort p unlinked

theorem portStops_eq (s : State) (p : Nat) (c : MissCause) : s.portStops p c = (((stopped s p c).refreshStamps p).lagDown p).syncELost p := rfl

/-- What has ended at a port that is down. -/
structure PortDown (s : State) (p : Nat) : Prop where
  res : (s.port p).res = []
  next : (s.port p).next = none
  cut : (s.port p).cut = none

theorem portDown_of_port {s t : State} {p : Nat} (h : PortDown s p) (k : t.port p = s.port p) : PortDown t p := by
  obtain ⟨res, next, cut⟩ := h
  exact ⟨by rw [k, res], by rw [k, next], by rw [k, cut]⟩

section
variable (s : State) {p : Nat} (hp : p < 16) (c : MissCause)
include hp

theorem moves_ended : Moves (besideStatus p) s (((s.port p).res.foldl (fun t r => t.missRes p r c) s).dropNext p) :=
  (Moves.foldl _ _ (fun t r _ => moves_missRes t hp r c) s).then (moves_dropNext _ hp)

theorem portDown_stopped : PortDown (stopped s p c) p := by
  have none := res_missFold_all hp c s
  unfold stopped
  generalize (s.port p).res.foldl (fun t r => t.missRes p r c) s = t at none
  obtain ⟨next, res⟩ := dropNext_spec t hp
  have unmarked : ((t.dropNext p).setB (Fld.PTp_STAT_LINK p) false).port p = (t.dropNext p).port p := rfl
  rw [← unmarked] at next res
  exact ⟨(field_modPort_kept _ p (f := unlinked) Port.res fun _ => rfl).trans (res.trans none),
    (field_modPort_kept _ p (f := unlinked) Port.next fun _ => rfl).trans next,
    field_modPort _ p (f := unlinked) Port.cut Option.none (fun _ => rfl) rfl⟩

omit hp in
theorem link_stopped : (stopped s p c).linkUp p = false := by
  unfold stopped State.linkUp
  rw [State.modPort_flag, State.flag_setB_same _ _ _ (by simp) rfl]

/-- A field of the status other than LINK and the stamp bits. -/
theorem get_stopped {f : Fld} (hf : f.addr = Reg.PTp_STAT p) (h1 : 1 ≤ f.lo) : (stopped s p c).get f = s.get f := by
  have beside : ¬besideStatus p f.addr := by
    rw [hf]
    exact fun h => h.2 rfl
  have plain : carried f.addr = false := by rw [hf]; exact status_plain hp
  unfold stopped
  rw [State.modPort_get, State.get_setB_other _ (Fld.PTp_STAT_LINK p) f _ (by simp) (.inr (.inr h1)), (moves_ended s hp c).get beside plain]

theorem moves_stopped : Moves (ofPort p) s (stopped s p c) := by
  have own {n : Nat} (h : n < 0x1000) : ofPort p (0x50000 + n + p * 0x1000) := by
    unfold ofPort pageOf
    omega
  refine .then (.then ((moves_ended s hp c).mono fun _ h => h.1) (moves_setB _ _ ?_)) (moves_modPort _ _ ?_)
  · exact own (n := 0xC) (by decide)
  · exact own (n := 0x8C) (by decide)

omit hp in
/-- After the stamp bits: only words outside the ports' pages. -/
theorem moves_afterStamps (t : State) : Moves (fun a => a < 0x50000 ∨ 0x60000 ≤ a) t ((t.lagDown p).syncELost p) :=
  ((moves_lagDown t p).mono fun _ => .inr).then ((moves_syncELost _ p).mono fun _ => .inl)

theorem outside_page {n : Nat} (h : n < 0x1000) : ¬(0x50000 + n + p * 0x1000 < 0x50000 ∨ 0x60000 ≤ 0x50000 + n + p * 0x1000) := by
  omega

theorem portDown_portStops : PortDown (s.portStops p c) p := by
  have down := portDown_stopped s hp c
  rw [portStops_eq]
  refine portDown_of_port (portDown_of_port down (port_refreshStamps _ down.res)) ?_
  exact (moves_afterStamps _).port p (outside_page hp (n := 0x8C) (by decide))

/-- The status after the stop, but for the stamp bits. -/
theorem get_portStops {f : Fld} (hf : f.addr = Reg.PTp_STAT p) (h : f.lo + f.width ≤ 3 ∨ 6 ≤ f.lo) :
    (s.portStops p c).get f = (stopped s p c).get f := by
  have plain : carried f.addr = false := by rw [hf]; exact status_plain hp
  rw [portStops_eq, (moves_afterStamps _).get (by rw [hf]; exact outside_page hp (n := 0xC) (by decide)) plain,
    State.get_of_rd (t := (stopped s p c).refreshStamps p) (s := stampsMarked (stopped s p c) p) (by rw [hf]; exact status_refreshStamps _ hp),
    get_stampsMarked _ h]

theorem link_portStops : (s.portStops p c).linkUp p = false := by
  have link : (s.portStops p c).get (Fld.PTp_STAT_LINK p) = (stopped s p c).get (Fld.PTp_STAT_LINK p) := get_portStops s hp c rfl (by simp)
  unfold State.linkUp State.flag
  rw [link]
  exact link_stopped s c

theorem kept_portStops {f : Fld} (hf : f.addr = Reg.PTp_STAT p) (h1 : 1 ≤ f.lo) (h : f.lo + f.width ≤ 3 ∨ 6 ≤ f.lo) :
    (s.portStops p c).get f = s.get f := (get_portStops s hp c hf h).trans (get_stopped s hp c hf h1)

theorem moves_portStops : Moves (ofPort p) s (s.portStops p c) := by
  have stamps (t : State) : Moves (ofPort p) t (t.refreshStamps p) := by
    refine .then ((moves_stampsMarked t p).mono fun a h => ?_) ((moves_refreshStamps t hp).mono fun _ h => h.1)
    rw [h]
    unfold ofPort pageOf Reg.PTp_STAT
    omega
  have after (t : State) : Moves (ofPort p) t ((t.lagDown p).syncELost p) := (moves_afterStamps t).mono fun _ h => h.imp_right .inl
  rw [portStops_eq]
  exact ((moves_stopped s hp c).then (stamps _)).then (after _)

end

end Sys2Proof.Machine
end

section
/-! PROOF. O32: a port's timers and link events, and its failure (R245, R256, R258, R259). -/

namespace Sys2Proof.Machine

/-! ### PAUSE_EXPIRY and MARKER_TIMEOUT (R245, R256) -/

/-- The pause interval that a command ends: the port's, or a priority's. -/
def pauseOf (x : Port) : Option (Fin 8) → Nat
  | none => x.pause
  | some k => x.pfc.getD k.val 0

/-- That interval ended. -/
def pauseEnded (prio : Option (Fin 8)) (y : Port) : Port :=
  match prio with
  | none => { y with pause := 0 }
  | some k => { y with pfc := y.pfc.set k.val 0 }

theorem pauseExpiry_eq (s : State) (p : Nat) (prio : Option (Fin 8)) : s.pauseExpiry p prio =
    if pauseOf (s.port p) prio = 0 then s else ((s.advanceTo (pauseOf (s.port p) prio)).modPort p (pauseEnded prio)).refreshPause p := by
  cases prio with
  | none => rfl
  | some k => rfl

/-- PAUSED shows whether the port's interval runs. -/
theorem paused_refreshPause (s : State) (p : Nat) : (s.refreshPause p).flag (Fld.PTp_STAT_PAUSED p) = decide (s.tc.now < (s.port p).pause) := by
  unfold State.refreshPause State.flag
  rw [State.get_set_other _ _ _ _ (by simp) (by simp)]
  exact State.flag_setB_same _ _ _ (by simp) rfl

theorem pause_ends (s : State) (p : Nat) (prio : Option (Fin 8)) :
    if pauseOf (s.port p) prio = 0 then s.pauseExpiry p prio = s
    else (s.pauseExpiry p prio).tc.now = (s.advanceTo (pauseOf (s.port p) prio)).tc.now ∧
      (s.pauseExpiry p prio).ports = s.ports.modify p (pauseEnded prio) ∧
      (prio = none → (s.pauseExpiry p prio).flag (Fld.PTp_STAT_PAUSED p) = false) := by
  rw [pauseExpiry_eq]
  by_cases idle : pauseOf (s.port p) prio = 0
  · rw [if_pos idle, if_pos idle]
  · rw [if_neg idle, if_neg idle]
    have ports : (s.advanceTo (pauseOf (s.port p) prio)).ports = s.ports := State.advance_ports s _
    refine ⟨rfl, congrArg (fun x : List Port => x.modify p (pauseEnded prio)) ports, ?_⟩
    rintro rfl
    rw [paused_refreshPause, field_modPort _ p Port.pause 0 (fun _ => rfl) rfl]
    rfl

/-- A time that runs on leaves a port's status. -/
theorem RunsOn.status {s t : State} (h : RunsOn s t) {p : Nat} (hp : p < 16) : t.rd (Reg.PTp_STAT p) = s.rd (Reg.PTp_STAT p) := by
  refine h.words ?_ (.inl ?_) (status_plain hp)
  · unfold slewWord Reg.PTp_STAT Reg.TC_STAT Reg.TC_EVT Reg.RS_STAT
    omega
  · unfold Reg.PTp_STAT
    omega

theorem markerTimeout_spec (p : Fin 16) (s t : State) (h : RunsOn s t) :
    (t.refreshStamps p.val).stampRx p.val = t.stampOk p.val false ∧ (t.refreshStamps p.val).stampTx p.val = t.stampOk p.val true ∧
      (t.refreshStamps p.val).flag (Fld.PTp_STAT_GRID_OK p.val) = t.stampOk p.val true ∧
      (s.stampTx p.val = true → t.stampOk p.val true = false → (t.refreshStamps p.val).flag (Fld.PTp_EVT_STAMP_LOST p.val) = true) := by
  have status : t.stampTx p.val = s.stampTx p.val := State.flag_of_rd (h.status p.isLt)
  rw [← status]
  exact refreshStamps_spec t p.isLt

theorem portTimers : Claims.PortTimers := by
  intro p s
  refine ⟨fun prio => ⟨_, rfl, ?_⟩, fun tx => ⟨_, rfl, ?_⟩⟩
  · have ends := pause_ends s p.val prio
    cases prio with
    | none => exact ends
    | some k => exact ends
  · have period : bitsOf (s.rdN Reg.SH_PCLK_PER) 0 8 = s.rdN Reg.SH_PCLK_PER % 256 := by simp [bitsOf]
    dsimp only
    rw [period]
    cases (if tx = true then (s.port p.val).txMarks else (s.port p.val).rxMarks) with
    | nil => exact markerTimeout_spec p s s (.refl s)
    | cons x l => exact markerTimeout_spec p s _ (runsOn_advanceTo s _)

end Sys2Proof.Machine
end

section
/-! PROOF. O32, continued: links that go down and come up, and a port's hardware failure (R258, R259). -/

namespace Sys2Proof.Machine

section
variable (s : State) {p : Nat}

/-- An event of a port is an access of its event word alone. -/
theorem moves_ownEvt {f : Fld} (hf : f.addr = Reg.PTp_EVT p) : Moves (· = Reg.PTp_EVT p) s (s.evt f) := by
  refine moves_evt s ?_
  rw [hf]
  unfold pageOf Reg.PTp_EVT
  omega

theorem status_ne_evt : Reg.PTp_STAT p ≠ Reg.PTp_EVT p := by
  unfold Reg.PTp_STAT Reg.PTp_EVT
  omega

theorem flag_ownEvt (hp : p < 16) {f : Fld} (hf : f.addr = Reg.PTp_EVT p) (hb : f.lo < 32) (hw : f.width = 1) : (s.evt f).flag f = true := by
  obtain ⟨event, plain⟩ := State.portEvt_addr hp
  exact flag_evt_same s f (by rw [hf]; exact event) (by rw [hf]; exact plain) hb hw

/-- What is down stays down under a change of the status or of the port's other fields. -/
theorem PortDown.evt {s : State} (h : PortDown s p) {f : Fld} : PortDown (s.evt f) p :=
  portDown_of_port h (congrArg (fun x : List Port => x.getD p Port.blank) (evt_ports s f))

theorem PortDown.emit {s : State} (h : PortDown s p) (source cls : Nat) (name : String) : PortDown (s.emit source cls name) p :=
  portDown_of_port h (congrArg (fun x : List Port => x.getD p Port.blank) (emit_ports s source cls name))

/-! ### LINK_DOWN (R258) -/

/-- The lock bits of a port whose link goes down for the loss of its lock. -/
def unlocked (s : State) (p : Nat) (lockLost : Bool) : State :=
  if lockLost then (s.setB (Fld.PTp_STAT_PCS_LOCK p) false).setB (Fld.PTp_STAT_TRAINED p) false else s

theorem linkDown_idle {lockLost : Bool} (h : s.linkUp p = false) : s.linkDown p lockLost = s := by
  unfold State.linkDown
  rw [h]
  exact if_pos rfl

theorem linkDown_eq {lockLost : Bool} (h : s.linkUp p = true) :
    s.linkDown p lockLost = (((unlocked s p lockLost).portStops p .link).evt (Fld.PTp_EVT_LINK_DOWN p)).emit (0x20 + p) 7 "LINK_DOWN" := by
  unfold State.linkDown
  rw [h]
  exact if_neg (by decide)

theorem moves_unlocked (lockLost : Bool) : Moves (ofPort p) s (unlocked s p lockLost) := by
  have status : ofPort p (Reg.PTp_STAT p) := by
    unfold ofPort pageOf Reg.PTp_STAT
    omega
  exact .ite_left ((moves_setB s _ status).then (moves_setB _ _ status))

/-- The news of an event that concerns the port: only its event word moves. -/
theorem moves_told {f : Fld} (hf : f.addr = Reg.PTp_EVT p) (source cls : Nat) (name : String) :
    Moves (· = Reg.PTp_EVT p) s ((s.evt f).emit source cls name) := (moves_ownEvt s hf).then (moves_emit _ _ _ _)

variable (hp : p < 16)
include hp

theorem moves_linkDown (lockLost : Bool) : Moves (ofPort p) s (s.linkDown p lockLost) := by
  have event : ∀ a, a = Reg.PTp_EVT p → ofPort p a := by
    rintro _ rfl
    unfold ofPort pageOf Reg.PTp_EVT
    omega
  cases up : s.linkUp p with
  | false =>
    rw [linkDown_idle s up]
    exact .refl s
  | true =>
    rw [linkDown_eq s up]
    exact ((moves_unlocked s lockLost).then (moves_portStops _ hp _)).then ((moves_told _ rfl _ _ _).mono event)

/-- A field of the status other than LINK and the stamp bits is as the lock bits were made. -/
theorem get_linkDown {lockLost : Bool} (up : s.linkUp p = true) {f : Fld} (hf : f.addr = Reg.PTp_STAT p) (h1 : 1 ≤ f.lo)
    (h : f.lo + f.width ≤ 3 ∨ 6 ≤ f.lo) : (s.linkDown p lockLost).get f = (unlocked s p lockLost).get f := by
  have told := moves_told ((unlocked s p lockLost).portStops p .link) (f := Fld.PTp_EVT_LINK_DOWN p) rfl (0x20 + p) 7 "LINK_DOWN"
  rw [linkDown_eq s up, told.get (by rw [hf]; exact status_ne_evt) (by rw [hf]; exact status_plain hp)]
  exact kept_portStops _ hp _ hf h1 h

theorem link_linkDown (lockLost : Bool) : (s.linkDown p lockLost).linkUp p = false := by
  cases up : s.linkUp p with
  | false => rw [linkDown_idle s up, up]
  | true =>
    have told := moves_told ((unlocked s p lockLost).portStops p .link) (f := Fld.PTp_EVT_LINK_DOWN p) rfl (0x20 + p) 7 "LINK_DOWN"
    rw [linkDown_eq s up]
    exact (told.flag status_ne_evt (status_plain hp)).trans (link_portStops _ hp _)

/-- A link that goes down: what ends, and what is told. -/
theorem linkDown_spec {lockLost : Bool} (up : s.linkUp p = true) : PortDown (s.linkDown p lockLost) p ∧
    (s.linkDown p lockLost).flag (Fld.PTp_EVT_LINK_DOWN p) = true ∧
    (lockLost = true → (s.linkDown p lockLost).flag (Fld.PTp_STAT_PCS_LOCK p) = false) := by
  refine ⟨?_, ?_, ?_⟩
  · rw [linkDown_eq s up]
    exact ((portDown_portStops _ hp _).evt).emit _ _ _
  · rw [linkDown_eq s up, (touches_emit (fun _ => False) _ _ _ _).flag id (State.portEvt_addr hp).2]
    exact flag_ownEvt _ hp rfl (by simp) rfl
  · rintro rfl
    have lock : (unlocked s p true).flag (Fld.PTp_STAT_PCS_LOCK p) = false := by
      unfold unlocked
      rw [if_pos rfl, State.flag_setB_other _ _ _ _ (by simp) (by simp)]
      exact State.flag_setB_same _ _ _ (by simp) rfl
    unfold State.flag at lock ⊢
    rw [get_linkDown s hp up rfl (by simp) (by simp)]
    exact lock

/-- The link's fall leaves FENCED. -/
theorem fenced_linkDown (lockLost : Bool) : (s.linkDown p lockLost).fenced p = s.fenced p := by
  cases up : s.linkUp p with
  | false => rw [linkDown_idle s up]
  | true =>
    have kept : (unlocked s p lockLost).get (Fld.PTp_STAT_FENCED p) = s.get (Fld.PTp_STAT_FENCED p) := by
      unfold unlocked
      split
      · rw [State.get_setB_other _ _ _ _ (by simp) (by simp), State.get_setB_other _ _ _ _ (by simp) (by simp)]
      · rfl
    unfold State.fenced State.flag
    rw [get_linkDown s hp up rfl (by simp) (by simp), kept]

end

/-! ### LINK_UP (R258) -/

theorem missRes_ports (s : State) (p : Nat) (r : Reservation) (c : MissCause) :
    (s.missRes p r c).ports = s.ports.modify p (fun x => { x with res := x.res.filter (fun y => y.id != r.id) }) := by
  unfold State.missRes State.launchRecord State.refreshRes
  rw [(touches_emitT (fun _ => False) _ _ _ _).ports]
  have lost (u : State) : (if r.job.eng = 17 then u.bump Reg.NE_LAUNCH_LOST else u).ports = u.ports := by
    split
    · rfl
    · rfl
  have revoked (u : State) : (if c = .revoked then u.evt (Fld.PTp_EVT_REVOKED p) else u).ports = u.ports := by
    split
    · exact evt_ports u _
    · rfl
  rw [lost, revoked, evt_ports, State.bump_ports, State.wrN_ports, State.modPort_ports]

/-- The markers of a port stay as its stamp bits follow. -/
theorem marks_refreshStamps (s : State) (p : Nat) :
    ((s.refreshStamps p).port p).rxMarks = (s.port p).rxMarks ∧ ((s.refreshStamps p).port p).txMarks = (s.port p).txMarks := by
  have told (c : Bool) : (if c then (stampsMarked s p).evt (Fld.PTp_EVT_STAMP_LOST p) else stampsMarked s p).port p = s.port p := by
    cases c with
    | false => rfl
    | true => exact congrArg (fun x : List Port => x.getD p Port.blank) (evt_ports (stampsMarked s p) _)
  have missed (u : State) (r : Reservation) (c : MissCause) : ((u.missRes p r c).port p).rxMarks = (u.port p).rxMarks ∧
      ((u.missRes p r c).port p).txMarks = (u.port p).txMarks := by
    have gone : (u.missRes p r c).port p = (u.modPort p (fun x => { x with res := x.res.filter (fun y => y.id != r.id) })).port p :=
      congrArg (fun x : List Port => x.getD p Port.blank) (missRes_ports u p r c)
    rw [gone]
    exact ⟨field_modPort_kept u p Port.rxMarks fun _ => rfl, field_modPort_kept u p Port.txMarks fun _ => rfl⟩
  rw [refreshStamps_eq]
  split
  · unfold State.missAll
    refine List.foldlRecOn (motive := fun u : State => (u.port p).rxMarks = (s.port p).rxMarks ∧ (u.port p).txMarks = (s.port p).txMarks) _ _ ?_
      fun u hu r _ => ?_
    · rw [told]
      exact ⟨rfl, rfl⟩
    · obtain ⟨rx, tx⟩ := missed u r .gate
      exact ⟨rx.trans hu.1, tx.trans hu.2⟩
  · rw [told]
    exact ⟨rfl, rfl⟩

/-- The link of a port is made up, before its stamp bits follow. -/
def linkMade (s : State) (p : Nat) : State :=
  (((s.setB (Fld.PTp_STAT_PCS_LOCK p) true).setB (Fld.PTp_STAT_TRAINED p) (s.flag (Fld.PTp_MODE_LTRAIN p))).setB (Fld.PTp_STAT_LINK p) true).modPort p
    (fun x => { x with rxMarks := [], txMarks := [] })

theorem linkComesUp_eq (s : State) (p : Nat) : s.linkComesUp p =
    if (s.port p).mode = 0 ∨ s.fenced p = true ∨ s.linkUp p = true then s
    else (((linkMade s p).refreshStamps p).evt (Fld.PTp_EVT_LINK_UP p)).emit (0x20 + p) 7 "LINK_UP" := by
  unfold State.linkComesUp
  refine if_congr ?_ rfl rfl
  simp [or_assoc]

theorem linkMade_spec (s : State) (p : Nat) : (linkMade s p).linkUp p = true ∧ (linkMade s p).flag (Fld.PTp_STAT_PCS_LOCK p) = true ∧
    (linkMade s p).flag (Fld.PTp_STAT_TRAINED p) = s.flag (Fld.PTp_MODE_LTRAIN p) ∧ ((linkMade s p).port p).rxMarks = [] ∧
    ((linkMade s p).port p).txMarks = [] := by
  unfold linkMade State.linkUp
  refine ⟨?_, ?_, ?_, field_modPort _ p Port.rxMarks [] (fun _ => rfl) rfl, field_modPort _ p Port.txMarks [] (fun _ => rfl) rfl⟩
  · rw [State.modPort_flag, State.flag_setB_same _ _ _ (by simp) rfl]
  · rw [State.modPort_flag, State.flag_setB_other _ _ _ _ (by simp) (by simp), State.flag_setB_other _ _ _ _ (by simp) (by simp),
      State.flag_setB_same _ _ _ (by simp) rfl]
  · rw [State.modPort_flag, State.flag_setB_other _ _ _ _ (by simp) (by simp), State.flag_setB_same _ _ _ (by simp) rfl]

/-- What a link that has come up shows. -/
theorem linkComesUp_spec (s : State) {p : Nat} (hp : p < 16) :
    let u := (((linkMade s p).refreshStamps p).evt (Fld.PTp_EVT_LINK_UP p)).emit (0x20 + p) 7 "LINK_UP"
    u.linkUp p = true ∧ u.flag (Fld.PTp_STAT_PCS_LOCK p) = true ∧ u.flag (Fld.PTp_EVT_LINK_UP p) = true ∧
      u.flag (Fld.PTp_STAT_TRAINED p) = s.flag (Fld.PTp_MODE_LTRAIN p) ∧ (u.port p).rxMarks = [] ∧ (u.port p).txMarks = [] := by
  obtain ⟨link, lock, trained, rx, tx⟩ := linkMade_spec s p
  obtain ⟨rxKept, txKept⟩ := marks_refreshStamps (linkMade s p) p
  have told := moves_told ((linkMade s p).refreshStamps p) (f := Fld.PTp_EVT_LINK_UP p) rfl (0x20 + p) 7 "LINK_UP"
  have field {f : Fld} (hf : f.addr = Reg.PTp_STAT p) (hw : f.lo + f.width ≤ 3) :
      ((((linkMade s p).refreshStamps p).evt (Fld.PTp_EVT_LINK_UP p)).emit (0x20 + p) 7 "LINK_UP").flag f = (linkMade s p).flag f := by
    rw [told.flag (by rw [hf]; exact status_ne_evt) (by rw [hf]; exact status_plain hp),
      State.flag_of_rd (t := (linkMade s p).refreshStamps p) (s := stampsMarked (linkMade s p) p) (by rw [hf]; exact status_refreshStamps _ hp)]
    exact congrArg (· != 0) (get_stampsMarked _ (.inl hw))
  have port := told.port p (by unfold Reg.PTp_RES_OUT Reg.PTp_EVT; omega)
  refine ⟨(field rfl (by simp)).trans link, (field rfl (by simp)).trans lock, ?_, (field rfl (by simp)).trans trained, ?_, ?_⟩
  · rw [(touches_emit (fun _ => False) _ _ _ _).flag id (State.portEvt_addr hp).2]
    exact flag_ownEvt _ hp rfl (by simp) rfl
  · rw [port, rxKept, rx]
  · rw [port, txKept, tx]

/-! ### PORT_HW (R259) -/

/-- A port that has stopped is marked fenced. -/
def fenceMarked (s : State) (p : Nat) : State :=
  (((s.setB (Fld.PTp_STAT_FENCED p) true).setB (Fld.PTp_STAT_PCS_LOCK p) false).setB (Fld.PTp_STAT_TRAINED p) false).setB (Fld.PTp_STAT_TX_GATE p) false

/-- A port's failure: it stops, is fenced and out of service, and `f` notes in its state whether it failed soon after a restart. -/
theorem portHw_eq (s : State) (p : Nat) :
    ∃ f : Port → Port, (∀ x, (f x).res = x.res) ∧ (∀ x, (f x).next = x.next) ∧ (∀ x, (f x).cut = x.cut) ∧ s.portHw p =
    ((((fenceMarked (s.portStops p .gate) p).setInService p false).modPort p f).emit (0x20 + p) 7 "PORT_FENCED").evt (Fld.PTp_EVT_FENCED p) := by
  refine ⟨_, ?_, ?_, ?_, rfl⟩
  all_goals exact fun _ => rfl

theorem testBit_clearBitAt (n k : Nat) : (clearBitAt n k).testBit k = false := by
  unfold clearBitAt
  split
  · rename_i set
    have less := Nat.sub_mul_div n (2 ^ k) 1
    rw [Nat.mul_one] at less
    rw [Nat.testBit_eq_decide_div_mod_eq, decide_eq_true_eq] at set
    rw [Nat.testBit_eq_decide_div_mod_eq, less, decide_eq_false_iff_not]
    omega
  · exact Bool.eq_false_iff.2 ‹_›

theorem inService_testBit (s : State) (p : Nat) (b : Bool) : ((s.setInService p b).rdN (Reg.PTp_CAP p)).testBit 0 = b := by
  unfold State.setInService
  rw [State.rdN_wrN_same, Nat.testBit_mod_two_pow]
  cases b with
  | true => exact (testBit_setBitAt _ 0 0).trans (Bool.or_true _)
  | false => exact testBit_clearBitAt _ 0

theorem status_setInService (s : State) (p : Nat) (b : Bool) {f : Fld} (hf : f.addr = Reg.PTp_STAT p) : (s.setInService p b).flag f = s.flag f := by
  refine State.flag_of_rd (State.rd_wrN_other s _ ?_)
  rw [hf]
  unfold Reg.PTp_STAT Reg.PTp_CAP
  omega

theorem fenceMarked_spec (s : State) (p : Nat) : (fenceMarked s p).fenced p = true ∧ (fenceMarked s p).linkUp p = s.linkUp p ∧
    (fenceMarked s p).gateOpen p = false := by
  unfold fenceMarked State.fenced State.linkUp State.gateOpen
  refine ⟨?_, ?_, State.flag_setB_same _ _ _ (by simp) rfl⟩
  · rw [State.flag_setB_other _ _ _ _ (by simp) (by simp), State.flag_setB_other _ _ _ _ (by simp) (by simp),
      State.flag_setB_other _ _ _ _ (by simp) (by simp), State.flag_setB_same _ _ _ (by simp) rfl]
  · rw [State.flag_setB_other _ _ _ _ (by simp) (by simp), State.flag_setB_other _ _ _ _ (by simp) (by simp),
      State.flag_setB_other _ _ _ _ (by simp) (by simp), State.flag_setB_other _ _ _ _ (by simp) (by simp)]

theorem fenceMarked_ports (s : State) (p : Nat) : ((fenceMarked s p).setInService p false).ports = s.ports := by
  unfold fenceMarked State.setInService
  rw [State.wrN_ports, State.setB_ports, State.setB_ports, State.setB_ports, State.setB_ports]

/-- What shows of a port's failure: fenced, without link and gate, and out of service. -/
structure PortFenced (s : State) (p : Nat) : Prop where
  fenced : s.fenced p = true
  link : s.linkUp p = false
  gate : s.gateOpen p = false
  down : PortDown s p
  service : (s.rdN (Reg.PTp_CAP p)).testBit 0 = false

/-- The news of the failure leaves what shows of it. -/
theorem PortFenced.told {s : State} {p : Nat} (hp : p < 16) (h : PortFenced s p) :
    PortFenced ((s.emit (0x20 + p) 7 "PORT_FENCED").evt (Fld.PTp_EVT_FENCED p)) p := by
  have told : Moves (· = Reg.PTp_EVT p) s ((s.emit (0x20 + p) 7 "PORT_FENCED").evt (Fld.PTp_EVT_FENCED p)) :=
    (moves_emit s _ _ _).then (moves_ownEvt _ rfl)
  have down : PortDown ((s.emit (0x20 + p) 7 "PORT_FENCED").evt (Fld.PTp_EVT_FENCED p)) p := (h.down.emit _ _ _).evt
  have cap : carried (Reg.PTp_CAP p) = false := carried_low (by unfold Reg.PTp_CAP; omega)
  have apart : Reg.PTp_CAP p ≠ Reg.PTp_EVT p := by
    unfold Reg.PTp_CAP Reg.PTp_EVT
    omega
  generalize (s.emit (0x20 + p) 7 "PORT_FENCED").evt (Fld.PTp_EVT_FENCED p) = u at told down
  have field {g : Fld} (hg : g.addr = Reg.PTp_STAT p) : u.flag g = s.flag g :=
    told.flag (by rw [hg]; exact status_ne_evt) (by rw [hg]; exact status_plain hp)
  refine ⟨(field rfl).trans h.fenced, (field rfl).trans h.link, (field rfl).trans h.gate, down, ?_⟩
  rw [State.rdN_of_rd (told.words _ apart cap)]
  exact h.service

/-- A port that is down is marked fenced and taken out of service. -/
theorem portFenced_marked (t : State) (p : Nat) (link : t.linkUp p = false) (down : PortDown t p) {f : Port → Port}
    (keepsRes : ∀ x, (f x).res = x.res) (keepsNext : ∀ x, (f x).next = x.next) (keepsCut : ∀ x, (f x).cut = x.cut) :
    PortFenced (((fenceMarked t p).setInService p false).modPort p f) p := by
  obtain ⟨fenced, up, gate⟩ := fenceMarked_spec t p
  obtain ⟨res, next, cut⟩ := portDown_of_port down (congrArg (fun x : List Port => x.getD p Port.blank) (fenceMarked_ports t p))
  have service := inService_testBit (fenceMarked t p) p false
  have field {g : Fld} (hg : g.addr = Reg.PTp_STAT p) : ((fenceMarked t p).setInService p false).flag g = (fenceMarked t p).flag g :=
    status_setInService _ _ _ hg
  generalize (fenceMarked t p).setInService p false = u at res next cut service field
  exact ⟨(field rfl).trans fenced, (field rfl).trans (up.trans link), (field rfl).trans gate,
    ⟨(field_modPort_kept _ p Port.res keepsRes).trans res, (field_modPort_kept _ p Port.next keepsNext).trans next,
      (field_modPort_kept _ p Port.cut keepsCut).trans cut⟩, service⟩

theorem portHw_spec (s : State) {p : Nat} (hp : p < 16) : PortFenced (s.portHw p) p ∧ (s.portHw p).flag (Fld.PTp_EVT_FENCED p) = true := by
  obtain ⟨f, keepsRes, keepsNext, keepsCut, eq⟩ := portHw_eq s p
  have marked := portFenced_marked _ p (link_portStops s hp .gate) (portDown_portStops s hp .gate) keepsRes keepsNext keepsCut
  rw [eq]
  generalize ((fenceMarked (s.portStops p .gate) p).setInService p false).modPort p f = u at marked
  exact ⟨marked.told hp, flag_ownEvt _ hp rfl (by simp) rfl⟩

theorem portLinks : Claims.PortLinks := by
  intro p s
  refine ⟨fun lockLost => ⟨_, rfl, ?_⟩, ⟨_, rfl, ?_⟩, fun uncovered => ⟨_, rfl, ?_⟩⟩
  · beta_reduce
    cases up : s.linkUp p.val with
    | false => exact linkDown_idle s up
    | true =>
      obtain ⟨⟨res, next, cut⟩, event, lock⟩ := linkDown_spec s p.isLt (lockLost := lockLost) up
      exact ⟨link_linkDown s p.isLt lockLost, res, next, cut, event, lock⟩
  · beta_reduce
    rw [linkComesUp_eq]
    split
    · rfl
    · exact linkComesUp_spec s p.isLt
  · have fences : s.fencing 15 p.val (fun t => t.portHw p.val) = s.portHw p.val := by
      unfold State.fencing
      refine if_neg ?_
      rcases uncovered with h | h
      · simp [h]
      · simp [h]
    beta_reduce
    rw [fences]
    split
    · rfl
    · obtain ⟨⟨fenced, link, gate, ⟨res, next, -⟩, service⟩, event⟩ := portHw_spec s p.isLt
      exact ⟨fenced, link, gate, res, next, service, event⟩

end Sys2Proof.Machine
end

section
/-! PROOF. O32, concluded: a port is restarted, and the lane references are lost and return (R259, R433). -/

namespace Sys2Proof.Machine

/-! ### PORT_RESTART (R259, R261) -/

/-- A write of PTp_CMD.RESTART is the port's restart. -/
theorem ptCmd_write {s : State} {req : Requester} {ap : Aperture} (p : Fin 16) (h : s.Admits req ap (Reg.PTp_CMD p.val)) :
    s.writeAt req ap (Reg.PTp_CMD p.val) 1 = ((s.result req 0 0).portRestart p.val).mirrorWatch := by
  have acts : ∀ p : Fin 16, actsAt (Reg.PTp_CMD p.val) = true := by decide +kernel
  obtain ⟨r, -, write⟩ := State.writeAt_acts (v := 1) h (acts p) (by decide)
  have page : pageOf (Reg.PTp_CMD p.val) = 0x50 + p.val := by
    unfold pageOf Reg.PTp_CMD
    omega
  have offset : Reg.PTp_CMD p.val % 0x1000 = 0x80 := by
    unfold Reg.PTp_CMD
    omega
  have other {b : Nat} (h : pageOf b < 0x50 ∨ 0x60 ≤ pageOf b) : Reg.PTp_CMD p.val ≠ b := by
    intro e
    rw [← e, page] at h
    omega
  have mailbox : ¬(decide (Reg.PTp_CMD p.val = Reg.SH_MB_LEN) || (decide (0x50 + p.val = 0x43) && decide (0x40 ≤ 0x80))) = true := by
    simp only [other (b := Reg.SH_MB_LEN) (by decide)]
    simp
    omega
  have effect (t : State) : t.wrEffect req (Reg.PTp_CMD p.val) r 1 = t.portRestart p.val := by
    unfold State.wrEffect State.wrMidPage
    dsimp only
    rw [offset, page, if_neg (by omega), if_neg (by omega), if_neg (by omega), if_neg (by omega), if_pos (by omega), if_neg (other (by decide)),
      if_neg (other (by decide)), if_neg mailbox, if_neg (other (by decide)), if_pos (by simp; omega), Nat.add_sub_cancel_left]
    unfold State.wrPtCmd
    exact if_pos (by decide)
  rw [write, effect]

/-- A reload changes only words of the configuration class of its pages. -/
theorem moves_reload (s : State) (sel : Nat → Bool) : Moves (fun a => isCfg a = true ∧ sel (pageOf a) = true) s (s.reload sel) := by
  unfold State.reload State.reloadWord
  refine Moves.foldl _ _ (fun t e he => moves_wrN t _ ?_) s
  simpa using (List.mem_filter.1 he).2

/-- The port's own words that no reload changes. -/
theorem status_no_cfg (p : Fin 16) : isCfg (Reg.PTp_STAT p.val) = false ∧ isCfg (Reg.PTp_CAP p.val) = false := by
  have listed : ∀ p : Fin 16, isCfg (Reg.PTp_STAT p.val) = false ∧ isCfg (Reg.PTp_CAP p.val) = false := by decide +kernel
  exact listed p

/-- The port is back in service, or its link is down. -/
def readied (s : State) (p : Nat) : State :=
  if s.fenced p then (s.setB (Fld.PTp_STAT_FENCED p) false).setInService p true else if s.linkUp p then s.linkDown p true else s

theorem portRestart_eq (s : State) (p : Nat) : s.portRestart p =
    if (s.port p).held || s.safe then s
    else ((readied s p).reload (fun g => g == 0x50 + p)).modPort p (fun x => { x with restartAt := some s.tc.now }) := rfl

theorem readied_spec (s : State) {p : Nat} (hp : p < 16) : (readied s p).fenced p = false ∧
    (readied s p).linkUp p = (if s.fenced p then s.linkUp p else false) ∧ (readied s p).ports.length = s.ports.length ∧
    (s.fenced p = true → ((readied s p).rdN (Reg.PTp_CAP p)).testBit 0 = true) := by
  unfold readied
  by_cases fenced : s.fenced p = true
  · have cleared := State.flag_setB_same s (Fld.PTp_STAT_FENCED p) false (by simp) rfl
    have link := State.flag_setB_other s (Fld.PTp_STAT_FENCED p) (Fld.PTp_STAT_LINK p) false (by simp) (by simp)
    have ports : ((s.setB (Fld.PTp_STAT_FENCED p) false).setInService p true).ports = s.ports := by
      unfold State.setInService
      rw [State.wrN_ports, State.setB_ports]
    rw [if_pos fenced, if_pos fenced, ports]
    exact ⟨(status_setInService _ _ _ rfl).trans cleared, (status_setInService _ _ _ rfl).trans link, rfl, fun _ => inService_testBit _ _ _⟩
  · have unfenced : s.fenced p = false := Bool.eq_false_iff.2 fenced
    rw [if_neg fenced, if_neg fenced]
    by_cases up : s.linkUp p = true
    · rw [if_pos up]
      exact ⟨(fenced_linkDown s hp true).trans unfenced, link_linkDown s hp true, (moves_linkDown s hp true).length, fun h => absurd h fenced⟩
    · rw [if_neg up]
      exact ⟨unfenced, Bool.eq_false_iff.2 up, rfl, fun h => absurd h fenced⟩

theorem portRestart_spec (s : State) (p : Fin 16) (h : ¬((s.port p.val).held || s.safe) = true) : (s.portRestart p.val).fenced p.val = false ∧
    (s.portRestart p.val).linkUp p.val = (if s.fenced p.val then s.linkUp p.val else false) ∧
    (p.val < s.ports.length → ((s.portRestart p.val).port p.val).restartAt = some s.tc.now) ∧
    (s.fenced p.val = true → ((s.portRestart p.val).rdN (Reg.PTp_CAP p.val)).testBit 0 = true) := by
  obtain ⟨fenced, link, length, service⟩ := readied_spec s p.isLt
  obtain ⟨status, cap⟩ := status_no_cfg p
  have reloaded := moves_reload (readied s p.val) (fun g => g == 0x50 + p.val)
  rw [portRestart_eq, if_neg h]
  generalize (readied s p.val).reload (fun g => g == 0x50 + p.val) = u at reloaded
  have field {g : Fld} (hg : g.addr = Reg.PTp_STAT p.val) : u.flag g = (readied s p.val).flag g :=
    reloaded.flag (by rw [hg, status]; simp) (by rw [hg]; exact status_plain p.isLt)
  refine ⟨(field rfl).trans fenced, (field rfl).trans link, fun inside => ?_, fun was => ?_⟩
  · rw [State.port_modPort_same _ (by rw [reloaded.length, length]; exact inside)]
  · have word : u.rd (Reg.PTp_CAP p.val) = (readied s p.val).rd (Reg.PTp_CAP p.val) :=
      reloaded.words _ (by rw [cap]; simp) (carried_low (by unfold Reg.PTp_CAP; omega))
    rw [State.modPort_rdN, State.rdN_of_rd word]
    exact service was

theorem portRestarts : Claims.PortRestarts := by
  intro req ap p s h
  refine ⟨_, rfl, ?_⟩
  have refused : ((s.port p.val).held = true ∨ s.safe = true) ↔ (((s.result req 0 0).port p.val).held || (s.result req 0 0).safe) = true :=
    Bool.or_eq_true_iff.symm
  beta_reduce
  rw [ptCmd_write p h]
  by_cases waits : (s.port p.val).held = true ∨ s.safe = true
  · rw [if_pos waits, portRestart_eq, if_pos (refused.1 waits)]
    exact accesses_of_touches (.refl _ _)
  · rw [if_neg waits]
    obtain ⟨fenced, link, instant, service⟩ := portRestart_spec (s.result req 0 0) p (mt refused.2 waits)
    unfold State.fenced State.linkUp at *
    rw [State.mirrorWatch_flag, State.mirrorWatch_flag, State.mirrorWatch_rdN]
    refine ⟨fenced, link, fun inside => ?_, service⟩
    exact (congrArg (fun x : List Port => (x.getD p.val Port.blank).restartAt) (State.mirrorWatch_ports _)).trans (instant inside)

/-! ### SDREF_LOSS and SDREF_RETURN (R259, R433) -/

/-- A walk over a list makes of each element what its own step makes and no other step undoes. -/
theorem foldl_makes {α : Type} (P : α → State → Prop) (f : State → α → State) (l : List α) (makes : ∀ t, ∀ x ∈ l, P x (f t x))
    (keeps : ∀ t, ∀ x ∈ l, ∀ y ∈ l, P y t → P y (f t x)) (s : State) : ∀ x ∈ l, P x (l.foldl f s) := by
  have invariant (m : List α) (hm : ∀ x ∈ m, x ∈ l) (y : α) (hy : y ∈ l) (t : State) (h : P y t ∨ y ∈ m) : P y (m.foldl f t) := by
    induction m generalizing t with
    | nil => exact h.resolve_right List.not_mem_nil
    | cons x m ih =>
      have inside : x ∈ l := hm x List.mem_cons_self
      refine ih (fun z hz => hm z (List.mem_cons_of_mem x hz)) (f t x) ?_
      rcases h with h | h
      · exact .inl (keeps t x inside y hy h)
      · rcases List.mem_cons.1 h with rfl | later
        · exact .inl (makes t y inside)
        · exact .inr later
  exact fun x hx => invariant l (fun _ h => h) x hx s (.inr hx)

/-- A port's link that is down stays down as another goes down. -/
theorem link_linkDown_kept (s : State) {p q : Nat} (hp : p < 16) (hq : q < 16) (lockLost : Bool) (h : s.linkUp q = false) :
    (s.linkDown p lockLost).linkUp q = false := by
  by_cases same : p = q
  · rw [← same]
    exact link_linkDown s hp lockLost
  · refine ((moves_linkDown s hp lockLost).flag ?_ (status_plain hq)).trans h
    show ¬ofPort p (Reg.PTp_STAT q)
    unfold ofPort pageOf Reg.PTp_STAT
    omega

/-! What a Usaur link that goes down leaves. -/

/-- Words above the ports' pages, but for the status words of the Usaur links. -/
def besideLinks (a : Nat) : Prop := 0x60000 ≤ a ∧ ∀ k, k < 4 → a ≠ Reg.ULk_STAT k

theorem besideLinks_of {a : Nat} (h : 0x60000 ≤ a) (apart : a < 0xC8000 ∨ a % 0x1000 ≠ 0xC) : besideLinks a := by
  refine ⟨h, fun k _ => ?_⟩
  unfold Reg.ULk_STAT
  omega

theorem linkStatus_plain {k : Nat} (hk : k < 4) : carried (Reg.ULk_STAT k) = false := by
  unfold carried pageOf Reg.ULk_STAT
  simp
  omega

section
variable (s : State) {k : Nat}

theorem moves_dropRoutes (k : Nat) : Moves besideLinks s (s.dropRoutes k) := by
  refine Moves.foldl _ _ (fun t e he => .ite_left (moves_setB t _ ?_)) s
  have small := List.mem_range.1 he
  have place : 0x60000 ≤ Reg.UL_ROUTEe e ∧ Reg.UL_ROUTEe e % 0x1000 ≠ 0xC := by
    unfold Reg.UL_ROUTEe
    omega
  exact besideLinks_of place.1 (.inr place.2)

theorem moves_modLink (A : Nat → Prop) (k : Nat) (f : ULink → ULink) : Moves A s (s.modLink k f) := .of_regs rfl rfl rfl rfl rfl

/-- What follows the loss of a Usaur link's lock. -/
def linkForgotten (s : State) (k : Nat) : State :=
  let t := ((s.setB (Fld.ULk_PEER_HELLO k) false).dropRoutes k).modLink k
    (fun x => { x with held := [], txWait := none, rxMark := none, rxWait := none, badRun := 0 })
  (if k = 0 then t.setB Fld.LS_STAT_PEER_LINK false else t).emit (0x30 + k) 14 "LINK_DOWN"

theorem moves_linkForgotten (hk : k < 4) : Moves besideLinks s (linkForgotten s k) := by
  have peer (u : State) (h : Moves besideLinks s u) : Moves besideLinks s (if k = 0 then u.setB Fld.LS_STAT_PEER_LINK false else u) :=
    .ite (h.then (moves_setB u _ (besideLinks_of (by decide) (.inl (by decide))))) h
  have hello : besideLinks (Reg.ULk_PEER k) := by
    refine besideLinks_of ?_ (.inr ?_)
    · unfold Reg.ULk_PEER
      omega
    · unfold Reg.ULk_PEER
      omega
  unfold linkForgotten
  exact .then (peer _ (((moves_setB s _ hello).then (moves_dropRoutes _ k)).then (moves_modLink _ _ _ _))) (moves_emit _ _ _ _)

theorem ulinkDown_eq : s.ulinkDown k true = if !s.ulUp k then s
    else linkForgotten (((s.setB (Fld.ULk_STAT_LINK k) false).evt (Fld.ULk_EVT_LINK_DOWN k)).setB (Fld.ULk_STAT_LOCK k) false) k := rfl

/-- Before that: the link's status and event. -/
theorem moves_linkEvt (hk : k < 4) : Moves besideLinks s (s.evt (Fld.ULk_EVT_LINK_DOWN k)) := by
  have page : pageOf (Reg.ULk_EVT k) = 0xC8 + k := by
    unfold pageOf Reg.ULk_EVT
    omega
  refine moves_evt s ?_
  rw [page]
  exact besideLinks_of (by omega) (.inr (by omega))

theorem moves_ulinkDown (hk : k < 4) : Moves abovePorts s (s.ulinkDown k true) := by
  have status (t : State) (f : Fld) (b : Bool) (hf : f.addr = Reg.ULk_STAT k) : Moves abovePorts t (t.setB f b) :=
    moves_setB t b (by rw [hf]; exact abovePorts_at _ (by decide))
  rw [ulinkDown_eq]
  refine .ite (.refl s) (.then ?_ ((moves_linkForgotten _ hk).mono fun _ h => h.1))
  exact ((status s _ _ rfl).then ((moves_linkEvt _ hk).mono fun _ h => h.1)).then (status _ _ _ rfl)

/-- A Usaur link that goes down, and how the others stand. -/
theorem ulUp_ulinkDown {j : Nat} (hk : k < 4) (hj : j < 4) : (s.ulinkDown k true).ulUp j = if j = k then false else s.ulUp j := by
  have kept {t u : State} (h : Moves besideLinks t u) : u.ulUp j = t.ulUp j := h.flag (fun out => out.2 j hj rfl) (linkStatus_plain hj)
  rw [ulinkDown_eq]
  by_cases up : s.ulUp k = true
  · have locks (t : State) : (t.setB (Fld.ULk_STAT_LOCK k) false).ulUp j = t.ulUp j := State.flag_setB_other _ _ _ _ (by simp) (by simp)
    rw [if_neg (by simp [up]), kept (moves_linkForgotten _ hk), locks, kept (moves_linkEvt _ hk)]
    split
    · rename_i same
      rw [same]
      exact State.flag_setB_same _ _ _ (by simp) rfl
    · rename_i other
      refine State.flag_setB_other _ _ _ _ (by simp) (.inl ?_)
      show Reg.ULk_STAT j ≠ Reg.ULk_STAT k
      unfold Reg.ULk_STAT
      omega
  · have down : s.ulUp k = false := Bool.eq_false_iff.2 up
    rw [if_pos (by simp [down])]
    split
    · rename_i same
      rw [same, down]
    · rfl

end

/-- The bank is marked lost, before its ports and links go down. -/
def bankLost (s : State) (bank : Nat) : State := (s.setSw { s.sw with sdrefLost := setBitAt s.sw.sdrefLost bank }).setActive 4 true

theorem sdrefLoss_eq {s : State} {bank : Nat} (h : ¬s.sw.sdrefLost.testBit bank = true) : s.sdrefLoss bank =
    ((List.range 2).foldl (fun t k => t.ulinkDown (2 * bank + k) true)
      ((List.range 8).foldl (fun t k => t.linkDown (8 * bank + k) true) (bankLost s bank))).raiseFault 4 0 false := if_neg h

theorem ports_down (bank : Fin 2) (s : State) :
    ∀ k ∈ List.range 8, ((List.range 8).foldl (fun t k => t.linkDown (8 * bank.val + k) true) s).linkUp (8 * bank.val + k) = false := by
  have inside : ∀ k ∈ List.range 8, 8 * bank.val + k < 16 := fun k hk => by
    have := List.mem_range.1 hk
    omega
  exact foldl_makes (fun k t => t.linkUp (8 * bank.val + k) = false) _ _ (fun t k hk => link_linkDown t (inside k hk) true)
    (fun t k hk j hj h => link_linkDown_kept t (inside k hk) (inside j hj) true h) s

theorem links_down (bank : Fin 2) (s : State) :
    ∀ k ∈ List.range 2, ((List.range 2).foldl (fun t k => t.ulinkDown (2 * bank.val + k) true) s).ulUp (2 * bank.val + k) = false := by
  have inside : ∀ k ∈ List.range 2, 2 * bank.val + k < 4 := fun k hk => by
    have := List.mem_range.1 hk
    omega
  refine foldl_makes (fun k t => t.ulUp (2 * bank.val + k) = false) _ _ (fun t k hk => ?_) (fun t k hk j hj h => ?_) s
  · rw [ulUp_ulinkDown t (inside k hk) (inside k hk), if_pos rfl]
  · rw [ulUp_ulinkDown t (inside k hk) (inside j hj), h, ite_self]

theorem moves_portsDown (bank : Fin 2) (s : State) :
    Moves (fun _ => True) s ((List.range 8).foldl (fun t k => t.linkDown (8 * bank.val + k) true) s) := by
  refine Moves.foldl _ _ (fun t k hk => (moves_linkDown t ?_ true).mono fun _ _ => trivial) s
  have := List.mem_range.1 hk
  omega

theorem moves_linksDown (bank : Fin 2) (s : State) :
    Moves abovePorts s ((List.range 2).foldl (fun t k => t.ulinkDown (2 * bank.val + k) true) s) := by
  refine Moves.foldl _ _ (fun t k hk => moves_ulinkDown t ?_) s
  have := List.mem_range.1 hk
  omega

theorem sdrefLoss_spec (bank : Fin 2) {s : State} (h : ¬s.sw.sdrefLost.testBit bank.val = true) :
    (s.sdrefLoss bank.val).sw.sdrefLost.testBit bank.val = true ∧ (∀ k, k < 8 → (s.sdrefLoss bank.val).linkUp (8 * bank.val + k) = false) ∧
      (∀ k, k < 2 → (s.sdrefLoss bank.val).ulUp (2 * bank.val + k) = false) := by
  have lost : (bankLost s bank.val).sw.sdrefLost.testBit bank.val = true := by
    refine (testBit_setBitAt _ bank.val bank.val).trans ?_
    simp
  have down := ports_down bank (bankLost s bank.val)
  have portsMoved := moves_portsDown bank (bankLost s bank.val)
  rw [sdrefLoss_eq h]
  generalize (List.range 8).foldl (fun t k => t.linkDown (8 * bank.val + k) true) (bankLost s bank.val) = t at down portsMoved
  have cut := links_down bank t
  have linksMoved := moves_linksDown bank t
  generalize (List.range 2).foldl (fun t k => t.ulinkDown (2 * bank.val + k) true) t = u at cut linksMoved
  have told : Touches (fun _ => False) u (u.raiseFault 4 0 false) := touches_raiseFault _ u 0 false (by decide)
  refine ⟨?_, fun k hk => ?_, fun k hk => ?_⟩
  · rw [told.sw, linksMoved.sw, portsMoved.sw, lost]
  · have plain : carried (Reg.PTp_STAT (8 * bank.val + k)) = false := status_plain (by omega)
    have below : ¬abovePorts (Reg.PTp_STAT (8 * bank.val + k)) := by
      unfold abovePorts Reg.PTp_STAT
      omega
    exact ((told.flag id plain).trans (linksMoved.flag below plain)).trans (down k (List.mem_range.2 hk))
  · exact (told.flag id (linkStatus_plain (by omega))).trans (cut k (List.mem_range.2 hk))

theorem laneReferences : Claims.LaneReferences := by
  intro bank s
  refine ⟨⟨_, rfl, ?_⟩, ⟨_, rfl, ?_⟩⟩
  · beta_reduce
    split
    · exact if_pos ‹_›
    · exact sdrefLoss_spec bank ‹_›
  · have stands (m : Nat) : (m != 0) = decide (m ≠ 0) := by
      rw [Bool.eq_iff_iff]
      simp
    exact ⟨testBit_clearBitAt _ _, (State.bitAt_setActive _ _ (by decide)).trans (stands _), writes_wrN _ _ rfl⟩

/-- Settles O32: whatever ends at a port ends in `portStops`, after which only the port's news and words outside the ports' pages move. -/
theorem portStates : Obligations.PortStates := ⟨portTimers, portLinks, portRestarts, laneReferences⟩

end Sys2Proof.Machine
end

section
/-! PROOF. O7: the state after reset (R65, R484), and the invariants in it. -/

namespace Sys2Proof.Machine

/-- No word is listed after reset, so each has its reset value. -/
theorem rd_reset (a : Nat) : State.reset.rd a = resetWord a := rfl

theorem resetState : Claims.ResetState :=
  ⟨rfl, rd_reset, ⟨rfl, rfl, rfl⟩, fun _ => rfl, rfl, by decide +kernel, by decide +kernel, by decide +kernel, rfl⟩

theorem reset_gatesFollow : State.reset.GatesFollow := by
  have closed : ∀ p < 16, State.reset.gateOpen p = State.reset.gateWanted p := by decide +kernel
  exact closed

theorem reset_linksEnabled : State.reset.LinksEnabled := by
  have down : ∀ k < 4, State.reset.ulUp k = false := by decide +kernel
  intro k hk up
  exact absurd up (by rw [down k hk]; decide)

theorem reset_safeIsStill : State.reset.SafeIsStill := by
  have outside : State.reset.safe = false := by decide +kernel
  intro safe
  exact absurd safe (by rw [outside]; decide)

/-- Settles O7: every part of the state after reset is a literal, and the words of the invariants have their reset values. -/
theorem afterReset : Obligations.AfterReset := ⟨resetState, reset_gatesFollow, reset_linksEnabled, reset_safeIsStill⟩

end Sys2Proof.Machine
end

section
/-! PROOF. O16: replenishment renews every class's allowance (R100), and so does the wheel's part of a raised boundary (R29). -/

namespace Sys2Proof.Machine

namespace State

/-- A class that owns its resource alone counts units as they are (R101). -/
theorem classWeight_of_alone {c : Nat} (h : groupOf c = []) : classWeight c = 1 := by
  unfold groupOf at h
  split at h
  · cases h
  · split at h
    · cases h
    · rename_i grouped
      simp only [Bool.or_eq_true, decide_eq_true_eq, not_or] at grouped
      obtain ⟨⟨_, h4⟩, h13⟩ := grouped
      rw [classWeight, if_neg h4, if_neg h13]

theorem getD_zeros (n c : Nat) : (List.replicate n 0).getD c 0 = 0 := by
  rw [List.getD_eq_getElem?_getD, List.getElem?_getD_replicate_default_eq]

/-- Nothing is spent, borrowed or lent by any class. -/
structure Unspent (w : Wheel) : Prop where
  spent : w.spent = List.replicate 16 0
  borrowed : w.borrowed = List.replicate 16 0
  lent : w.lent = List.replicate 16 0

section
variable {s : State} (h : Unspent s.whl)
include h

theorem Unspent.spent_eq (c : Nat) : s.spent c = 0 := by
  unfold State.spent
  rw [h.spent, getD_zeros]

theorem Unspent.borrowed_eq (c : Nat) : s.whl.borrowed.getD c 0 = 0 := by rw [h.borrowed, getD_zeros]

theorem Unspent.lent_eq (c : Nat) : s.whl.lent.getD c 0 = 0 := by rw [h.lent, getD_zeros]

/-- Where nothing is borrowed or lent, the effective ceiling is the ceiling in force (R102). -/
theorem Unspent.wCeil_eq (c : Nat) : s.wCeil c = classWeight c * s.rdN (Reg.WHLn_CEIL_IF c) := by
  unfold wCeil
  rw [h.borrowed_eq, h.lent_eq, Nat.add_zero, Nat.sub_zero]

/-- A class alone is then admitted up to its ceiling in force. -/
theorem Unspent.admits_eq {c : Nat} (alone : groupOf c = []) (n : Nat) : s.admits c n = decide (n ≤ s.rdN (Reg.WHLn_CEIL_IF c)) := by
  unfold admits wSpent
  rw [h.wCeil_eq, h.spent_eq, alone, classWeight_of_alone alone]
  simp

end

theorem unspent_replenish (s : State) : Unspent s.replenish.whl := ⟨rfl, rfl, rfl⟩

/-- The classes' marks of a stall are cleared in registers alone. -/
theorem unstalled_whl (l : List Nat) (s : State) : (l.foldl (fun t i => t.setB (Fld.WHLn_STAT_STALLED i) false) s).whl = s.whl :=
  List.foldlRecOn (motive := fun t : State => t.whl = s.whl) l _ rfl fun _ ht _ _ => ht

theorem unspent_wheelFrame (s : State) : Unspent s.wheelFrame.whl := by
  unfold wheelFrame
  rw [unstalled_whl]
  obtain ⟨spent, borrowed, lent⟩ := unspent_replenish s.reportFrame.rescale
  exact ⟨spent, borrowed, lent⟩

end State

/-- Settles O16: after a replenishment, and after the wheel's part of a raised boundary, nothing is spent, borrowed or lent. -/
theorem allowanceIsRenewed : Obligations.AllowanceIsRenewed := by
  intro s c _
  have whole (u : State) (h : State.Unspent u.whl) : u.spent c = 0 ∧ u.whl.borrowed.getD c 0 = 0 ∧ u.whl.lent.getD c 0 = 0 ∧
      u.wCeil c = classWeight c * u.rdN (Reg.WHLn_CEIL_IF c) ∧ (groupOf c = [] → ∀ n, u.admits c n = decide (n ≤ u.rdN (Reg.WHLn_CEIL_IF c))) :=
    ⟨h.spent_eq c, h.borrowed_eq c, h.lent_eq c, h.wCeil_eq c, fun alone n => h.admits_eq alone n⟩
  exact ⟨whole _ s.unspent_replenish, whole _ s.unspent_wheelFrame⟩

end Sys2Proof.Machine
end

section
/-! PROOF. O29: the bound's events, and attested statements from the request to the signature (R226, R228, R235 to R238). -/

namespace Sys2Proof.Machine

namespace State

/-! ### HIT_HOLD_EXPIRY and BOUND_LIMIT_CROSSED (R226, R228) -/

/-- The limit's crossing is marked in EB_STAT, and told. -/
def overLimit (s : State) : State := (s.setB Fld.EB_STAT_OVER_LIMIT true).evt Fld.EB_EVT_LIMIT

theorem overLimit_spec (s : State) : s.overLimit.flag Fld.EB_STAT_OVER_LIMIT = true ∧ s.overLimit.flag Fld.EB_EVT_LIMIT = true ∧
    Touches (fun a => a = Reg.EB_STAT ∨ a = Reg.EB_EVT) s s.overLimit := by
  refine ⟨?_, flag_evt_same _ _ rfl rfl (by decide) rfl, ?_⟩
  · exact (flag_evt_other _ _ _ (by decide) rfl).trans (flag_setB_same s _ true (by decide) rfl)
  · exact (writes_setB s Fld.EB_STAT_OVER_LIMIT true (.inl rfl)).touches.then (touches_evt _ _ (.inr rfl))

theorem exec_boundLimitCrossed (s : State) : exec .boundLimitCrossed s =
    .next (if s.flag Fld.EB_STAT_VALID && !s.flag Fld.EB_STAT_OVER_LIMIT then s.overLimit else s).settle := rfl

end State

theorem boundEvents : Claims.BoundEvents := by
  refine fun s => ⟨⟨_, rfl, rfl⟩, ⟨_, s.exec_boundLimitCrossed, ?_⟩⟩
  beta_reduce
  by_cases crossed : s.flag Fld.EB_STAT_VALID = true ∧ s.flag Fld.EB_STAT_OVER_LIMIT = false
  · rw [if_pos crossed, if_pos (by simp [crossed])]
    exact s.overLimit_spec
  · rw [if_neg crossed, if_neg (by simpa using crossed)]

namespace State

/-! ### ATT_REQ (R236, R237) -/

/-- A code that is chosen from a list lies below every bound of the list's codes. -/
theorem firstCode_lt {n : Nat} {l : List (Nat × Bool)} (hn : 0 < n) (hl : ∀ e ∈ l, e.1 < n) : firstCode l < n := by
  refine List.foldlRecOn (motive := fun b => b < n) l _ hn fun b hb e he => ?_
  split
  · exact hl e he
  · exact hb

theorem statementRefusal_lt (s : State) (req : Requester) : s.statementRefusal req < 2 ^ Fld.EB_ATT_STAT_RESULT.width :=
  firstCode_lt (by decide) (by simp)

/-- A refusal shows its code, and is told. -/
def Refused (s : State) (code : Nat) (u : State) : Prop := u.get Fld.EB_ATT_STAT_RESULT = code ∧ u.flag Fld.EB_EVT_ATT_REFUSED = true ∧
    Touches (fun a => a = Reg.EB_ATT_STAT ∨ a = Reg.EB_EVT) s u

theorem refused_refuseStatement (s : State) {code : Nat} (h : code < 2 ^ Fld.EB_ATT_STAT_RESULT.width) : s.Refused code (s.refuseStatement code) := by
  refine ⟨?_, flag_evt_same _ _ rfl rfl (by decide) rfl, ?_⟩
  · exact ((get_evt_other _ _ _ (by decide) rfl).trans (get_set_same s _ code (by decide))).trans (Nat.mod_eq_of_lt h)
  · exact (writes_set s Fld.EB_ATT_STAT_RESULT code (.inl rfl)).touches.then (touches_evt _ _ (.inr rfl))

/-- A statement that is not refused waits, BUSY, with what the class has said of its unit. -/
def attBegun (s : State) (req : Requester) (x : Snapshot) : State :=
  let a := s.admitFor 12 1
  (a.2.setEb { a.2.eb with att := some ⟨req, s.statementPayload x, a.1⟩ }).setB Fld.EB_ATT_STAT_BUSY true

theorem attReq_eq (s : State) (req : Requester) : s.attReq req =
    if s.flag Fld.EB_ATT_STAT_BUSY then s.refuseStatement 1
    else match s.eb.snap with
      | none => s.refuseStatement (s.statementRefusal req)
      | some x => if s.statementRefusal req ≠ 0 then s.refuseStatement (s.statementRefusal req) else s.attBegun req x := by
  unfold attReq
  cases s.eb.snap <;> rfl

theorem exec_attReq (s : State) (req : Requester) : exec (.attReq req) s = .next (s.attReq req).settle := rfl

/-! ### ATT_COMPLETE (R235, R236) -/

theorem wrWords_eb (l : List Nat) (s : State) (a : Nat) : (s.wrWords a l).eb = s.eb := by
  induction l generalizing s a with
  | nil => rfl
  | cons w l ih => exact ih _ _

/-- The buffer holds the statement, `n` octets of it, and nothing is in progress. -/
def attSigned (s : State) (n : Nat) : State :=
  (((s.tick.set Fld.EB_ATT_STAT_LEN n).set Fld.EB_ATT_STAT_RESULT 0).setB Fld.EB_ATT_STAT_BUSY false).evt Fld.EB_EVT_ATT_DONE

/-- The words of the buffer: the statement, filled up to a whole word. -/
def attWords (s : State) (a : Statement) : List Nat :=
  let b := (s.coseSign1 a.payload).take 1024
  wordsOf (b ++ List.replicate (3 - (b.length + 3) % 4) 0)

theorem attDone_admitted {s : State} {a : Statement} (h : s.eb.att = some a) (ha : a.admitted = true) :
    s.attDone = ((s.wrWords (Reg.EB_ATT_BUF 0) (s.attWords a)).setEb { s.eb with att := none }).attSigned
      (min 1024 (s.coseSign1 a.payload).length) := by
  unfold attDone attSigned attWords
  rw [h, ← List.length_take]
  dsimp only
  rw [if_neg (by simp [ha]), wrWords_eb]

theorem attDone_idle {s : State} (h : ∀ a, s.eb.att = some a → a.admitted = false) : s.attDone = s := by
  unfold attDone
  cases att : s.eb.att with
  | none => rfl
  | some a => exact if_pos (by simp [h a att])

theorem attSigned_eb (s : State) (n : Nat) : (s.attSigned n).eb = s.eb := evt_eb _ _

/-- EB_ATT_STAT after the signature, field by field. -/
theorem attSigned_spec (s : State) {n : Nat} (hn : n < 2 ^ Fld.EB_ATT_STAT_LEN.width) : (s.attSigned n).flag Fld.EB_ATT_STAT_BUSY = false ∧
    (s.attSigned n).get Fld.EB_ATT_STAT_RESULT = 0 ∧ (s.attSigned n).get Fld.EB_ATT_STAT_LEN = n ∧
    (s.attSigned n).flag Fld.EB_EVT_ATT_DONE = true := by
  unfold attSigned
  refine ⟨?_, ?_, ?_, flag_evt_same _ _ rfl rfl (by decide) rfl⟩
  · rw [flag_evt_other _ _ _ (by decide) rfl, flag_setB_same _ _ _ (by decide) rfl]
  · rw [get_evt_other _ _ _ (by decide) rfl, get_setB_other _ _ _ _ (by decide) (by decide), get_set_same _ _ _ (by decide), Nat.zero_mod]
  · rw [get_evt_other _ _ _ (by decide) rfl, get_setB_other _ _ _ _ (by decide) (by decide), get_set_other _ _ _ _ (by decide) (by decide),
      get_set_same _ _ _ (by decide), Nat.mod_eq_of_lt hn]

theorem exec_attComplete (s : State) : exec .attComplete s = .next s.attDone.settle := rfl

end State

theorem statements : Claims.Statements := by
  refine fun s => ⟨fun req => ⟨_, s.exec_attReq req, ?_⟩, ⟨_, s.exec_attComplete, ?_⟩⟩
  · beta_reduce
    have refused := s.refused_refuseStatement (s.statementRefusal_lt req)
    rw [s.attReq_eq req]
    by_cases busy : s.flag Fld.EB_ATT_STAT_BUSY = true
    · rw [if_pos busy, if_pos busy]
      exact s.refused_refuseStatement (by decide)
    · rw [if_neg busy, if_neg busy]
      cases s.eb.snap with
      | none => exact refused
      | some x =>
        dsimp only
        by_cases reason : s.statementRefusal req ≠ 0
        · rw [if_pos reason, if_pos reason]
          exact refused
        · rw [if_neg reason, if_neg reason]
          exact ⟨rfl, State.flag_setB_same _ _ _ (by decide) rfl⟩
  · beta_reduce
    cases att : s.eb.att with
    | none => exact State.attDone_idle fun a h => nomatch att.symm.trans h
    | some a =>
      dsimp only
      cases admitted : a.admitted with
      | false =>
        rw [if_neg (by decide)]
        refine State.attDone_idle fun b h => ?_
        obtain rfl := Option.some.inj (att.symm.trans h)
        exact admitted
      | true =>
        have signed := State.attDone_admitted att admitted
        obtain ⟨busy, result, len, done⟩ := State.attSigned_spec ((s.wrWords (Reg.EB_ATT_BUF 0) (s.attWords a)).setEb { s.eb with att := none })
          (n := min 1024 (s.coseSign1 a.payload).length) (Nat.lt_of_le_of_lt (Nat.min_le_left ..) (by decide))
        rw [if_pos rfl, signed, Nat.min_comm (s.coseSign1 a.payload).length]
        exact ⟨State.attSigned_eb _ _, busy, result, len, done⟩

/-- Settles O29: the bound's two events, and a statement's request and signature. -/
theorem boundAndStatements : Obligations.BoundAndStatements := ⟨boundEvents, statements⟩

end Sys2Proof.Machine
end

section
/-! SUPPORT. Work elsewhere: the words of the baseband and the counters of the switch's ports, and what leaves them and the baseband's parts. -/

namespace Sys2Proof.Machine

/-- A word of the baseband's pages or a counter of the switch's ports, but for a page's EVT. -/
abbrev FarWord (a : Nat) : Prop := (0x30000 ≤ a ∧ a < 0x35000 ∨ 0x61000 ≤ a ∧ a < 0x61400) ∧ a % 0x1000 ≠ 0x10

/-- Nothing has happened to the baseband or to the counters of the switch's ports. -/
structure Afar (s t : State) : Prop where
  words : ∀ a, FarWord a → t.rd a = s.rd a
  gn : t.gn = s.gn

section
variable {s t u : State}

theorem Afar.of_regs (hr : t.regs = s.regs) (hg : t.gn = s.gn) : Afar s t := ⟨fun a _ => congrArg (fun x : RegFile => x.word a) hr, hg⟩

theorem Afar.refl (s : State) : Afar s s := .of_regs rfl rfl

theorem Afar.then (h : Afar s t) (k : Afar t u) : Afar s u := ⟨fun a ha => (k.words a ha).trans (h.words a ha), k.gn.trans h.gn⟩

theorem Afar.ite {c : Prop} [Decidable c] (h : Afar s t) (k : Afar s u) : Afar s (if c then t else u) := by
  split
  · exact h
  · exact k

theorem Afar.ite_left {c : Prop} [Decidable c] (h : Afar s t) : Afar s (if c then t else s) := h.ite (.refl s)

theorem Afar.foldl {α : Type} (l : List α) (f : State → α → State) (h : ∀ (t : State) (x : α), x ∈ l → Afar t (f t x)) (s : State) :
    Afar s (l.foldl f s) :=
  List.foldlRecOn (motive := Afar s) l f (.refl s) fun t ht x hx => ht.then (h t x hx)

theorem Afar.flag (h : Afar s t) {f : Fld} (hf : FarWord f.addr) : t.flag f = s.flag f := State.flag_of_rd (h.words _ hf)

theorem farWord_plain {a : Nat} (h : FarWord a) : carried a = false := carried_low (by omega)

theorem farWord_ne_evt {a : Nat} (h : FarWord a) (page : Nat) : a ≠ page * 0x1000 + 0x10 := by omega

theorem Touches.afar {A : Nat → Prop} (h : Touches A s t) (hA : ∀ a, FarWord a → ¬A a) : Afar s t :=
  ⟨fun a ha => h.2 a (hA a ha) (farWord_plain ha), h.gn⟩

end

/-! ### Words and events -/

theorem near_above {b : Nat} (x : Nat) (h : 0x61400 ≤ b) : ¬FarWord (b + x) := by omega

theorem near_below {b x : Nat} (h : b + x < 0x30000) : ¬FarWord (b + x) := by omega

theorem near_port {b p : Nat} (hp : p < 16) (h0 : 0x50000 ≤ b) (h1 : b < 0x51000) : ¬FarWord (b + p * 0x1000) := by omega

section
variable (s : State) {a : Nat} {f : Fld}

theorem afar_wrN (n : Nat) (h : ¬FarWord a) : Afar s (s.wrN a n) :=
  (writes_wrN (A := (· = a)) s n rfl).touches.afar fun _ hb e => h (e ▸ hb)

theorem afar_bump (h : ¬FarWord a) : Afar s (s.bump a) := afar_wrN s _ h
theorem afar_set (v : Nat) (h : ¬FarWord f.addr) : Afar s (s.set f v) := afar_wrN s _ h
theorem afar_setB (b : Bool) (h : ¬FarWord f.addr) : Afar s (s.setB f b) := afar_wrN s _ h
theorem afar_bumpF (h : ¬FarWord f.addr) : Afar s (s.bumpF f) := afar_wrN s _ h

theorem afar_evt (f : Fld) : Afar s (s.evt f) :=
  (touches_evt (A := (· = pageOf f.addr * 0x1000 + 0x10)) s f rfl).afar fun _ ha => farWord_ne_evt ha _

theorem afar_emit (source cls : Nat) (name : String) : Afar s (s.emit source cls name) :=
  (touches_emit (fun _ => False) s source cls name).afar fun _ _ => id

theorem afar_emitT (source cls : Nat) (name : String) : Afar s (s.emitT source cls name) :=
  (touches_emitT (fun _ => False) s source cls name).afar fun _ _ => id

theorem afar_modSlot (n : Nat) (g : Slot → Slot) : Afar s (s.modSlot n g) := .of_regs rfl rfl
theorem afar_modPort (p : Nat) (g : Port → Port) : Afar s (s.modPort p g) := .of_regs rfl rfl
theorem afar_modOut (n : Nat) (g : Output → Output) : Afar s (s.modOut n g) := .of_regs rfl rfl
theorem afar_modLink (k : Nat) (g : ULink → ULink) : Afar s (s.modLink k g) := .of_regs rfl rfl
theorem afar_modPip (k : Nat) (g : Pip → Pip) : Afar s (s.modPip k g) := .of_regs rfl rfl
theorem afar_setHo (x : Holdover) : Afar s (s.setHo x) := .of_regs rfl rfl
theorem afar_setSw (x : Switch) : Afar s (s.setSw x) := .of_regs rfl rfl
theorem afar_setSh (x : Shell) : Afar s (s.setSh x) := .of_regs rfl rfl
theorem afar_setLs (x : Lease) : Afar s (s.setLs x) := .of_regs rfl rfl

/-! ### The loss of a source (R75, R88, R111, R115) -/

theorem afar_capStamp (n stamp : Nat) : Afar s (s.capStamp n stamp) := by
  have full (x : List CapChannel) : Afar s { s with tc := { s.tc with caps := x } } := .of_regs rfl rfl
  unfold State.capStamp
  dsimp only
  refine .ite ?_ ((full _).then (afar_evt _ _))
  split
  · exact .of_regs rfl rfl
  · exact .of_regs rfl rfl

theorem afar_capture (src : Nat) (sel : Option Nat) (stamp : Nat) : Afar s (s.capture src sel stamp) :=
  Afar.foldl _ _ (fun t n _ => .ite_left (afar_capStamp t n stamp)) s

theorem afar_slotTo {n : Nat} (hn : n < 12) (st cause : Nat) : Afar s (s.slotTo n st cause) := by
  have state : ¬FarWord (Reg.RSn_STATE n) := near_below (by omega)
  have due (u : State) (h : Afar s u) : Afar s { u with snapDue := true } := h.then (.of_regs rfl rfl)
  have named (u : State) (h : Afar s u) : Afar s (if st = 3 then u.evt (Fld.RSn_EVT_WAS_SELECTED n)
      else if st = 4 then u.evt (Fld.RSn_EVT_WAS_DEGRADED n) else if st = 5 then u.evt (Fld.RSn_EVT_WAS_DISQUALIFIED n) else u) :=
    .ite (h.then (afar_evt u _)) (.ite (h.then (afar_evt u _)) (.ite (h.then (afar_evt u _)) h))
  unfold State.slotTo
  refine .ite (.refl s) (due _ (.then (.then (named _ (.then ?_ (afar_evt _ _))) (afar_modSlot _ _ _)) (afar_emitT _ _ _ _)))
  exact (((afar_set s _ state).then (afar_set _ _ state)).then (afar_bumpF _ state)).then (afar_set _ _ state)

theorem afar_ebLost : Afar s s.ebLost := by
  unfold State.ebLost
  exact .ite (.of_regs rfl rfl) (.of_regs rfl rfl)

theorem afar_retarget (ofs : Int) : Afar s (s.retarget ofs) := by
  have slewed : Afar s { s with tc := { s.tc with slew := ofs } } := .of_regs rfl rfl
  unfold State.retarget
  exact (slewed.then (afar_setB _ _ (by decide))).then (afar_setB _ _ (by decide))

theorem afar_stepCancel : Afar s s.stepCancel := by
  have withdrawn : Afar s { s with tc := { s.tc with step := none } } := .of_regs rfl rfl
  unfold State.stepCancel
  exact withdrawn.then (afar_setB _ _ (by decide))

theorem afar_toState (n : Nat) : Afar s (s.toState n) := by
  have due (u : State) (h : Afar s u) : Afar s { u with snapDue := true } := h.then (.of_regs rfl rfl)
  unfold State.toState
  refine .ite (.refl s) (due _ (.then (.then (.then ?_ (afar_evt _ _)) (afar_emitT _ _ _ _)) (afar_capture _ _ _ _)))
  exact (((afar_set s (f := Fld.TC_STAT_STATE) _ (by decide)).then (afar_set _ (f := Fld.TC_STATE_STATE) _ (by decide))).then
    (afar_set _ (f := Fld.TC_STATE_PREV) _ (by decide))).then (afar_bumpF _ (by decide))

theorem afar_tcUpdate (boundary : Bool) : Afar s (s.tcUpdate boundary) := by
  unfold State.tcUpdate
  refine .ite (.refl s) (.ite (.ite_left (afar_toState s _)) (.ite (afar_toState s _) (.ite (afar_toState s _) ?_)))
  exact .ite (afar_toState s _) (afar_toState s _)

theorem afar_selectionGone : Afar s s.selectionGone := by
  have cancelled (u : State) (x : Holdover) : Afar u ((u.stepCancel.setHo x).evt Fld.HO_EVT_ASTEP_CANCEL) :=
    ((afar_stepCancel u).then (afar_setHo _ _)).then (afar_evt _ _)
  have retargeted (u : State) : Afar u (if u.loopClosed && !u.bridging then u.retarget 0 else u) := .ite_left (afar_retarget u 0)
  unfold State.selectionGone
  refine .then (.then (((afar_ebLost s).then (retargeted _)).then (afar_evt _ Fld.RS_EVT_NO_SEL)) ?_) (afar_tcUpdate _ _)
  generalize State.evt _ Fld.RS_EVT_NO_SEL = u
  split
  · exact .ite_left (cancelled _ _)
  · exact .refl _

/-- A source that is lost concerns the selector, the time core and holdover. -/
theorem afar_signalLoss {n : Nat} (hn : n < 12) : Afar s (s.signalLoss n) := by
  have absent : Afar s (s.modSlot n (fun x => { x with present := false, sample := none })) := afar_modSlot s _ _
  have lost (f : Slot → Slot) : Afar s ((((s.modSlot n (fun x => { x with present := false, sample := none })).evt
      (Fld.RSn_EVT_LOST_SIGNAL n)).slotTo n 6 0).modSlot n f) :=
    ((absent.then (afar_evt _ _)).then (afar_slotTo _ hn 6 0)).then (afar_modSlot _ _ _)
  unfold State.signalLoss
  exact .ite (afar_modSlot s _ _) (.ite (.ite ((lost _).then (afar_selectionGone _)) (lost _)) absent)

end

end Sys2Proof.Machine
end

section
/-! PROOF. O22: interfaces, searches, channels and channel faults of the GNSS baseband (R102, R156, R158 to R160, R177). -/

namespace Sys2Proof.Machine

namespace State

/-! ### The channels (R159, R180) -/

/-- The channels are those of a list, and GN_TRACKING counts the ones that track. -/
def putChans (s : State) (l : List GnChan) : State := (s.setGn { s.gn with chans := l }).wrN Reg.GN_TRACKING (l.filter (fun x => x.st == 3)).length

theorem setChan_eq (s : State) (k : Nat) (c : GnChan) : s.setChan k c = s.putChans (s.gn.chans.set k c) := rfl

theorem writes_putChans (s : State) (l : List GnChan) : Writes (· = Reg.GN_TRACKING) { s with gn := { s.gn with chans := l } } (s.putChans l) :=
  writes_wrN { s with gn := { s.gn with chans := l } } _ rfl

theorem rd_putChans (s : State) (l : List GnChan) {a : Nat} (h : a ≠ Reg.GN_TRACKING) : (s.putChans l).rd a = s.rd a := (s.writes_putChans l).2 a h

theorem gnChan_setChan_same {s : State} {k : Nat} (h : k < s.gn.chans.length) (c : GnChan) : (s.setChan k c).gnChan k = c := by
  show (s.gn.chans.set k c).getD k GnChan.free = c
  rw [List.getD_eq_getElem?_getD, List.getElem?_set_self h, Option.getD_some]

theorem gnChan_setChan_other (s : State) {j k : Nat} (h : j ≠ k) (c : GnChan) : (s.setChan j c).gnChan k = s.gnChan k := by
  show (s.gn.chans.set j c).getD k GnChan.free = s.gn.chans.getD k GnChan.free
  rw [List.getD_eq_getElem?_getD, List.getElem?_set_ne h, List.getD_eq_getElem?_getD]

/-- A channel that is not FREE is one of the list. -/
theorem lt_of_gnChan {s : State} {k : Nat} (h : (s.gnChan k).st ≠ 0) : k < s.gn.chans.length := by
  by_contra hn
  exact h (congrArg GnChan.st (List.getD_eq_default s.gn.chans GnChan.free (Nat.le_of_not_lt hn)))

/-! ### GIF_LOST and GIF_RETURN (R156, R170) -/

/-- The bit of GN_STAT for an antenna's interface. -/
abbrev gifFld (a : Nat) : Fld := if a = 0 then Fld.GN_STAT_GIFA_OK else Fld.GN_STAT_GIFB_OK

theorem gifFld_spec (a : Nat) : (gifFld a).addr = Reg.GN_STAT ∧ (gifFld a).lo + (gifFld a).width ≤ 32 ∧ (gifFld a).width = 1 := by
  unfold gifFld
  split <;> decide

theorem gifOk_of_rd {s t : State} {a : Nat} (h : t.rd Reg.GN_STAT = s.rd Reg.GN_STAT) : t.gifOk a = s.gifOk a :=
  flag_of_rd (by rw [(gifFld_spec a).1, h])

theorem gifOk_setB (s : State) (a : Nat) (b : Bool) : (s.setB (gifFld a) b).gifOk a = b := by
  obtain ⟨_, fits, bit⟩ := gifFld_spec a
  exact flag_setB_same s (gifFld a) b fits bit

/-- An antenna's solution that is withdrawn is not VALID; beside it, the baseband is as it was (R170). -/
theorem gnWithdraw_spec (s : State) {a : Nat} (ha : a < 2) : (s.gnWithdraw a).flag (Fld.GN_ANTa_SOL_VALID a) = false ∧ (s.gnWithdraw a).gn = s.gn ∧
    (s.gnWithdraw a).rd Reg.GN_STAT = s.rd Reg.GN_STAT := by
  have solution : FarWord (Reg.GN_ANTa_SOL a) := by
    unfold FarWord Reg.GN_ANTa_SOL
    omega
  have apart : Reg.GN_STAT ≠ Reg.GN_ANTa_SOL a := by
    unfold Reg.GN_STAT Reg.GN_ANTa_SOL
    omega
  unfold gnWithdraw
  cases valid : s.flag (Fld.GN_ANTa_SOL_VALID a) with
  | false => exact ⟨valid, rfl, rfl⟩
  | true =>
    have lost := afar_signalLoss ((s.setB (Fld.GN_ANTa_SOL_VALID a) false).modSlot a (fun x => { x with valid := false })) (n := a) (by omega)
    rw [if_pos rfl]
    refine ⟨?_, ?_, ?_⟩
    · rw [lost.flag (f := Fld.GN_ANTa_SOL_VALID a) solution, modSlot_flag, flag_setB_same _ _ _ (by simp) rfl]
    · rw [lost.gn, modSlot_gn, setB_gn]
    · rw [lost.words Reg.GN_STAT (by decide), modSlot_rd]
      exact rd_set_other s (Fld.GN_ANTa_SOL_VALID a) _ apart

/-- The channels of an antenna whose interface is lost coast. -/
theorem gifLost_eq (s : State) (a : Nat) : s.gifLost a =
    let t := ((s.setB (gifFld a) false).gnWithdraw a).evt Fld.GN_EVT_GIF_LOST
    t.putChans (t.gn.chans.map (fun c => if c.ant = a ∧ 1 ≤ c.st ∧ c.st ≤ 3 then { c with st := 4 } else c)) := by
  unfold gifLost
  simp only [Bool.and_eq_true, decide_eq_true_eq, and_assoc]
  rfl

theorem gifLost_spec (s : State) {a : Nat} (ha : a < 2) : (s.gifLost a).gifOk a = false ∧ (s.gifLost a).flag Fld.GN_EVT_GIF_LOST = true ∧
    (s.gifLost a).flag (Fld.GN_ANTa_SOL_VALID a) = false ∧ (s.gifLost a).gn =
      { s.gn with chans := s.gn.chans.map (fun c => if c.ant = a ∧ 1 ≤ c.st ∧ c.st ≤ 3 then { c with st := 4 } else c) } := by
  obtain ⟨invalid, parts, status⟩ := gnWithdraw_spec (s.setB (gifFld a) false) ha
  have event := afar_evt ((s.setB (gifFld a) false).gnWithdraw a) Fld.GN_EVT_GIF_LOST
  have told := flag_evt_same ((s.setB (gifFld a) false).gnWithdraw a) Fld.GN_EVT_GIF_LOST rfl rfl (by decide) rfl
  have solution : FarWord (Reg.GN_ANTa_SOL a) ∧ Reg.GN_ANTa_SOL a ≠ Reg.GN_TRACKING := by
    unfold FarWord Reg.GN_ANTa_SOL Reg.GN_TRACKING
    omega
  rw [gifLost_eq]
  refine ⟨?_, ?_, ?_, ?_⟩
  · rw [gifOk_of_rd (rd_putChans _ _ (by decide)), gifOk_of_rd (event.words _ (by decide)), gifOk_of_rd status, gifOk_setB]
  · exact (flag_of_rd (rd_putChans _ _ (by decide))).trans told
  · exact (flag_of_rd (rd_putChans _ _ solution.2)).trans ((event.flag solution.1).trans invalid)
  · have same := event.gn.trans parts
    dsimp only [putChans, setGn, wrN_gn]
    rw [same]
    rfl

theorem gifReturn_eq (s : State) (a : Nat) : s.gifReturn a =
    (s.setB (gifFld a) true).putChans (s.gn.chans.map (fun c => if c.ant = a ∧ c.st = 4 then { c with st := 3 } else c)) := by
  unfold gifReturn
  simp only [Bool.and_eq_true, decide_eq_true_eq]
  rfl

theorem gifReturn_spec (s : State) (a : Nat) : (s.gifReturn a).gifOk a = true ∧
    (s.gifReturn a).gn = { s.gn with chans := s.gn.chans.map (fun c => if c.ant = a ∧ c.st = 4 then { c with st := 3 } else c) } ∧
    Writes (fun w => w = Reg.GN_STAT ∨ w = Reg.GN_TRACKING) { s with gn := (s.gifReturn a).gn } (s.gifReturn a) := by
  have marked (g : Gnss) : Writes (fun w => w = Reg.GN_STAT ∨ w = Reg.GN_TRACKING) { s with gn := g } { s.setB (gifFld a) true with gn := g } :=
    writes_setB { s with gn := g } (gifFld a) true (.inl (gifFld_spec a).1)
  rw [gifReturn_eq]
  refine ⟨?_, rfl, (marked _).then ((writes_putChans _ _).mono fun _ => .inr)⟩
  rw [gifOk_of_rd (rd_putChans _ _ (by decide)), gifOk_setB]

end State

theorem gnssInterfaces : Claims.GnssInterfaces := fun ant s => ⟨⟨_, rfl, s.gifLost_spec ant.isLt⟩, ⟨_, rfl, s.gifReturn_spec ant.val⟩⟩

namespace State

/-! ### ACQ_SEARCH (R102, R158) -/

theorem follows_congr {s t : State} (h : t.gn = s.gn) (a band : Nat) (sat : Sat) : t.follows a band sat = s.follows a band sat := by
  unfold follows
  rw [h]

/-- An admitted search, by what it found. -/
theorem acqDone_spec {s t : State} (h : t.gn = s.gn) (a : Nat) (sat : Sat) (found : Option GnTrack) :
    match found with
    | none => t.acqDone a sat found = t
    | some x =>
      if s.follows a 0 sat then t.acqDone a sat found = t
      else match s.gn.chans.findIdx? (fun c => c.st == 0) with
        | none => t.acqDone a sat found = t
        | some k => (t.acqDone a sat found).gn.chans = s.gn.chans.set k { GnChan.free with
            st := 2, ant := a, band := 0, sat := sat, cn0 := x.cn0, code := x.code, doppler := x.doppler, multipath := x.multipath } := by
  cases found with
  | none => rfl
  | some x =>
    unfold acqDone
    dsimp only
    rw [follows_congr h]
    by_cases followed : s.follows a 0 sat = true
    · rw [if_pos followed, if_pos followed]
    · rw [if_neg followed, if_neg followed]
      unfold takeFree setChan
      rw [h]
      cases s.gn.chans.findIdx? (fun c => c.st == 0) <;> rfl

/-- A search for what is not enabled. -/
def searchOff (s : State) (a : Nat) (sat : Sat) : Bool := !s.antOn a || !s.gifOk a || !s.bandOn 0 || !s.sysOn sat.sys.val

theorem searchOff_iff (s : State) (a : Nat) (sat : Sat) :
    s.antOn a = false ∨ s.gifOk a = false ∨ s.bandOn 0 = false ∨ s.sysOn sat.sys.val = false ↔ s.searchOff a sat = true := by
  unfold searchOff
  simp only [Bool.or_eq_true, Bool.not_eq_true', or_assoc]

theorem exec_acqSearch (ant : Fin 2) (sat : Sat) (found : Option GnTrack) (s : State) : exec (.acqSearch ant sat found) s =
    .next (if s.searchOff ant.val sat then s
      else if (s.admitFor 7 1).1 then (s.admitFor 7 1).2.acqDone ant.val sat found
      else (s.admitFor 7 1).2.withhold (.acqSearch ant sat found)).settle := rfl

end State

theorem searches : Claims.Searches := by
  refine fun ant sat found s => ⟨_, s.exec_acqSearch ant sat found, ?_⟩
  beta_reduce
  simp only [s.searchOff_iff, State.admitFor_fst]
  by_cases off : s.searchOff ant.val sat = true
  · rw [if_pos off, if_pos off]
  · rw [if_neg off, if_neg off]
    cases admitted : s.admits 7 1 with
    | true =>
      have done := State.acqDone_spec (t := (s.admitFor 7 1).2) (s := s) (by rw [State.admitFor_pos admitted]; exact (spent_admitted s 7 1).gn)
        ant.val sat found
      rw [if_pos rfl, if_pos rfl]
      exact done
    | false =>
      rw [if_neg (by decide), if_neg (by decide), State.admitFor_neg admitted]
      exact withheld_stall s _ (by decide)

namespace State

/-! ### CHANNEL_INTEGRATION, TRACK_ENTRY and COAST_EXPIRY (R156, R159, R160) -/

/-- A signal that takes a FREE channel leaves the channels in use. -/
theorem gnChan_takeFree {s : State} {k : Nat} (h : (s.gnChan k).st ≠ 0) (c : GnChan) : (s.takeFree c).gnChan k = s.gnChan k := by
  unfold takeFree
  cases found : s.gn.chans.findIdx? (fun x => x.st == 0) with
  | none => rfl
  | some j =>
    obtain ⟨inside, free, _⟩ := List.findIdx?_eq_some_iff_getElem.1 found
    refine gnChan_setChan_other s (fun same => h ?_) _
    subst same
    unfold gnChan
    rw [List.getD_eq_getElem _ _ inside]
    exact beq_iff_eq.1 free

theorem gnChan_handOver {s : State} {k : Nat} (h : (s.gnChan k).st ≠ 0) (c : GnChan) : (s.handOver c).gnChan k = s.gnChan k := by
  unfold handOver
  split
  · exact gnChan_takeFree h _
  · rfl

/-- The measurement that an admitted integration takes. -/
def measured (c : GnChan) (x : GnTrack) : GnChan :=
  { c with cn0 := x.cn0, code := x.code, doppler := x.doppler, multipath := x.multipath, pullMs := if c.st = 2 then c.pullMs + 1 else c.pullMs }

/-- A millisecond without an allowance. -/
def coastedMs (s : State) (c : GnChan) : GnChan := { c with coasted := c.coasted + 1, coastAt := s.msNow :: c.coastAt.take 99 }

/-- A channel whose integration does nothing: the baseband is off, between burst windows, or the channel does not track. -/
def integrationOff (s : State) (k : Nat) : Bool :=
  !s.flag Fld.GN_CTL_EN || (s.flag Fld.GN_STAT_BURST_ACT && !s.gn.burstOpen) || !(1 ≤ (s.gnChan k).st && (s.gnChan k).st ≤ 3)

theorem integrationOff_iff (s : State) (k : Nat) : s.flag Fld.GN_CTL_EN = false ∨
    (s.flag Fld.GN_STAT_BURST_ACT = true ∧ s.gn.burstOpen = false) ∨ ¬(1 ≤ (s.gnChan k).st ∧ (s.gnChan k).st ≤ 3) ↔ s.integrationOff k = true := by
  unfold integrationOff
  simp only [Bool.or_eq_true, Bool.and_eq_true, Bool.not_eq_true', or_assoc, ← Bool.not_eq_true, decide_eq_true_eq]

theorem integrate_eq (s : State) (k : Nat) (x : GnTrack) : s.integrate k x =
    if s.integrationOff k then s
    else if (s.admitFor 7 1).1 then ((s.admitFor 7 1).2.setChan k (measured (s.gnChan k) x)).handOver (measured (s.gnChan k) x)
    else ((s.admitFor 7 1).2.setChan k (s.coastedMs (s.gnChan k))).bump Reg.GN_COAST_CNT := rfl

theorem integrate_admitted {s t : State} (h : t.gn = s.gn) {k : Nat} (used : (s.gnChan k).st ≠ 0) (x : GnTrack) :
    ((t.setChan k (measured (s.gnChan k) x)).handOver (measured (s.gnChan k) x)).gnChan k = measured (s.gnChan k) x := by
  have set := gnChan_setChan_same (s := t) (k := k) (by rw [h]; exact lt_of_gnChan used) (measured (s.gnChan k) x)
  rw [gnChan_handOver (by rw [set]; exact used), set]

theorem integrate_stalled (s : State) {k : Nat} (used : (s.gnChan k).st ≠ 0) :
    let u := ((s.stall 7).setChan k (s.coastedMs (s.gnChan k))).bump Reg.GN_COAST_CNT
    u.gnChan k = s.coastedMs (s.gnChan k) ∧ u.rdN Reg.GN_COAST_CNT = oneMore (s.rdN Reg.GN_COAST_CNT) := by
  have stalled := stalls_stall s 7
  have apart : ¬stallWords 7 Reg.GN_COAST_CNT := by
    unfold stallWords
    decide
  refine ⟨?_, ?_⟩
  · have set := gnChan_setChan_same (s := s.stall 7) (k := k) (by rw [stalled.gn]; exact lt_of_gnChan used) (s.coastedMs (s.gnChan k))
    exact set
  · rw [rdN_bump_same, setChan_eq, rdN_of_rd (rd_putChans _ _ (by decide)), rdN_of_rd (stalled.2 _ apart)]
    rfl

theorem trackEntry_eq (s : State) (k : Nat) : s.trackEntry k =
    if (s.gnChan k).st = 2 then s.setChan k { s.gnChan k with st := 3, coasted := 0 } else s := rfl

theorem exec_channelIntegration (k : Fin 256) (x : GnTrack) (s : State) :
    exec (.channelIntegration k x) s = .next (s.integrate k.val x).settle := rfl

theorem exec_trackEntry (k : Fin 256) (s : State) : exec (.trackEntry k) s = .next (s.trackEntry k.val).settle := rfl

theorem exec_coastExpiry (k : Fin 256) (s : State) :
    exec (.coastExpiry k) s = .next (if (s.gnChan k.val).st = 4 then s.setChan k.val GnChan.free else s).settle := rfl

end State

theorem integrations (k : Fin 256) (x : GnTrack) (s : State) : Effect (.channelIntegration k x) s (fun u =>
    if s.flag Fld.GN_CTL_EN = false ∨ (s.flag Fld.GN_STAT_BURST_ACT = true ∧ s.gn.burstOpen = false) ∨
      ¬(1 ≤ (s.gnChan k.val).st ∧ (s.gnChan k.val).st ≤ 3) then u = s
    else if (s.admitFor 7 1).1 then u.gnChan k.val = State.measured (s.gnChan k.val) x
    else u.gnChan k.val = s.coastedMs (s.gnChan k.val) ∧ u.rdN Reg.GN_COAST_CNT = oneMore (s.rdN Reg.GN_COAST_CNT)) := by
  refine ⟨_, s.exec_channelIntegration k x, ?_⟩
  beta_reduce
  rw [s.integrate_eq]
  simp only [s.integrationOff_iff, State.admitFor_fst]
  by_cases off : s.integrationOff k.val = true
  · rw [if_pos off, if_pos off]
  · have used : (s.gnChan k.val).st ≠ 0 := fun zero => off ((s.integrationOff_iff k.val).1 (.inr (.inr (by omega))))
    rw [if_neg off, if_neg off]
    cases admitted : s.admits 7 1 with
    | true =>
      rw [if_pos rfl, if_pos rfl, State.admitFor_pos admitted]
      exact State.integrate_admitted (spent_admitted s 7 1).gn used x
    | false =>
      rw [if_neg (by decide), if_neg (by decide), State.admitFor_neg admitted]
      exact s.integrate_stalled used

theorem channels : Claims.Channels := by
  refine fun k s => ⟨fun x => integrations k x s, ⟨_, s.exec_trackEntry k, ?_⟩, ⟨_, s.exec_coastExpiry k, ?_⟩⟩
  · beta_reduce
    rw [s.trackEntry_eq]
    split
    · exact ⟨rfl, s.writes_putChans _⟩
    · rfl
  · beta_reduce
    split
    · exact ⟨rfl, s.writes_putChans _⟩
    · rfl

namespace State

/-! ### GNSS_CHANNEL_FAULT (R177) -/

/-- A failed channel out of service, and the count of the channels that there are. -/
def chanOut (s : State) (k : Nat) : State :=
  (s.setChan k { GnChan.free with st := 5 }).set Fld.GN_CAP_CHANNELS (s.get Fld.GN_CAP_CHANNELS - 1)

/-- Its signal, if it had one, waits. -/
def chanLost (s : State) (k : Nat) : State :=
  (s.chanOut k).setGn { (s.chanOut k).gn with lostChans := if (s.gnChan k).st = 0 then s.gn.lostChans else s.gn.lostChans ++ [s.gnChan k] }

theorem chanFault_eq {s : State} (h : s.consequential 14 = false ∨ s.safe = true) (k : Nat) : s.chanFault k =
    if (s.gnChan k).st = 5 then s else ((s.chanLost k).evt Fld.GN_EVT_CHAN_FENCE).emit 0x0F 3 "MEASUREMENT_GAP" := by
  have uncovered : (s.consequential 14 && !s.safe) = false := by rcases h with h | h <;> simp [h]
  unfold chanFault fencing chanLost
  rw [uncovered]
  by_cases free : (s.gnChan k).st = 0
  · simp only [if_pos free]
    rfl
  · simp only [if_neg free]
    rfl

theorem get_chanOut (s : State) (k : Nat) : (s.chanOut k).get Fld.GN_CAP_CHANNELS = s.get Fld.GN_CAP_CHANNELS - 1 := by
  have bound : s.get Fld.GN_CAP_CHANNELS < 2 ^ Fld.GN_CAP_CHANNELS.width := bitsOf_lt _ _ _
  unfold chanOut
  rw [get_set_same _ _ _ (by decide), Nat.mod_eq_of_lt (Nat.lt_of_le_of_lt (Nat.sub_le _ _) bound)]

/-- The words that a channel fault may change. -/
abbrev chanFaultWords (a : Nat) : Prop := a = Reg.GN_TRACKING ∨ a = Reg.GN_CAP ∨ a = Reg.GN_EVT

theorem writes_chanLost (s : State) (k : Nat) : Writes chanFaultWords { s with gn := (s.chanLost k).gn } (s.chanLost k) :=
  ⟨rfl, fun _ ha => (rd_set_other (s.setChan k _) Fld.GN_CAP_CHANNELS _ (fun e => ha (.inr (.inl e)))).trans
    (rd_putChans s _ (fun e => ha (.inl e)))⟩

theorem exec_gnssChannelFault (k : Fin 256) (s : State) : exec (.gnssChannelFault k) s = .next (s.chanFault k.val).settle := rfl

end State

theorem channelFaults : Claims.ChannelFaults := by
  refine fun k s uncovered => ⟨_, s.exec_gnssChannelFault k, ?_⟩
  beta_reduce
  rw [State.chanFault_eq uncovered]
  dsimp only
  by_cases failed : (s.gnChan k.val).st = 5
  · rw [if_pos failed, if_pos failed]
  · have event := touches_evt (A := State.chanFaultWords) (s.chanLost k.val) Fld.GN_EVT_CHAN_FENCE (.inr (.inr rfl))
    have told := event.then (touches_emit State.chanFaultWords _ 0x0F 3 "MEASUREMENT_GAP")
    rw [if_neg failed, if_neg failed]
    refine ⟨told.gn, ?_, ?_, ?_⟩
    · rw [emit_flag, flag_evt_same _ _ rfl rfl (by decide) rfl]
    · rw [emit_get, get_evt_other _ _ _ (by decide) rfl]
      exact s.get_chanOut k.val
    · rw [told.gn]
      exact (s.writes_chanLost k.val).touches.then told

/-- Settles O22: interfaces, searches, channels and channel faults. -/
theorem gnssReceivers : Obligations.GnssReceivers := ⟨gnssInterfaces, searches, channels, channelFaults⟩

end Sys2Proof.Machine
end

section
/-! SUPPORT. The levels that follow a command leave the baseband and the counters of the switch's ports: whatever they move lies elsewhere. -/

namespace Sys2Proof.Machine

section
variable (s : State)

/-! ### A port (R245, R248, R252, R256) -/

theorem near_missCounter {p : Nat} (hp : p < 16) (c : MissCause) : ¬FarWord (State.missCounter p c) := by
  cases c <;> exact near_port hp (by decide) (by decide)

theorem afar_missRes {p : Nat} (hp : p < 16) (r : Reservation) (c : MissCause) : Afar s (s.missRes p r c) := by
  have counted : Afar s ((((s.modPort p (fun x => { x with res := x.res.filter (fun y => y.id != r.id) })).refreshRes p).bump
      (State.missCounter p c)).evt (Fld.PTp_EVT_LAUNCH_MISS p)) :=
    (((afar_modPort s p _).then (afar_wrN _ _ (near_port hp (by decide) (by decide)))).then (afar_bump _ (near_missCounter hp c))).then (afar_evt _ _)
  have revoked (u : State) (h : Afar s u) : Afar s (if c = .revoked then u.evt (Fld.PTp_EVT_REVOKED p) else u) := .ite (h.then (afar_evt u _)) h
  have lost (u : State) (h : Afar s u) : Afar s (if r.job.eng = 17 then u.bump Reg.NE_LAUNCH_LOST else u) :=
    .ite (h.then (afar_bump u (by decide))) h
  exact (lost _ (revoked _ counted)).then (afar_emitT _ _ _ _)

theorem afar_missAll {p : Nat} (hp : p < 16) (c : MissCause) : Afar s (s.missAll p c) := Afar.foldl _ _ (fun t r _ => afar_missRes t hp r c) s

theorem near_portStat {p : Nat} (hp : p < 16) : ¬FarWord (Reg.PTp_STAT p) := near_port hp (by decide) (by decide)

theorem afar_refreshGate {p : Nat} (hp : p < 16) : Afar s (s.refreshGate p) := by
  have gate (b : Bool) : Afar s (s.setB (Fld.PTp_STAT_TX_GATE p) b) := afar_setB s b (near_portStat hp)
  unfold State.refreshGate
  exact .ite (.refl s) (.ite (gate _) (((gate _).then (afar_missAll _ hp _)).then (afar_modPort _ _ _)))

theorem afar_refreshStamps {p : Nat} (hp : p < 16) : Afar s (s.refreshStamps p) := by
  have marked : Afar s (stampsMarked s p) :=
    ((afar_setB s (f := Fld.PTp_STAT_STAMP_RX_OK p) _ (near_portStat hp)).then (afar_setB _ (f := Fld.PTp_STAT_STAMP_TX_OK p) _ (near_portStat hp))).then
      (afar_setB _ (f := Fld.PTp_STAT_GRID_OK p) _ (near_portStat hp))
  have told : Afar s (if stampsLost s p then (stampsMarked s p).evt (Fld.PTp_EVT_STAMP_LOST p) else stampsMarked s p) :=
    .ite (marked.then (afar_evt _ _)) marked
  rw [refreshStamps_eq]
  exact .ite (told.then (afar_missAll _ hp _)) told

theorem afar_refreshPause {p : Nat} (hp : p < 16) : Afar s (s.refreshPause p) :=
  (afar_setB s _ (near_portStat hp)).then (afar_set _ _ (near_portStat hp))

/-! ### An output (R394 to R402) -/

theorem near_outStat (n : Nat) : ¬FarWord (Reg.OUn_STAT n) := near_above _ (by decide)

theorem afar_takeCfg (n : Nat) : Afar s (s.takeCfg n) := by
  have taken (f : Output → Output) (b : Bool) : Afar s ((s.modOut n f).setB (Fld.OUn_STAT_CFG_PENDING n) b) :=
    (afar_modOut s n f).then (afar_setB _ b (near_outStat n))
  unfold State.takeCfg
  exact .ite ((taken _ _).then (afar_modOut _ _ _)) ((taken _ _).then (afar_evt _ _))

theorem afar_putLag (n : Nat) (v : Int) : Afar s (s.putLag n v) := by
  have outs (x : List Output) : Afar s { s with outs := x } := .of_regs rfl rfl
  have slewing (x : List Output) (b : Bool) : Afar s (State.setB { s with outs := x } (Fld.OUn_STAT_SLEWING n) b) :=
    (outs x).then (afar_setB _ (f := Fld.OUn_STAT_SLEWING n) b (near_outStat n))
  unfold State.putLag
  exact .ite (.refl s) (.ite ((slewing _ _).then (afar_evt _ _)) (slewing _ _))

theorem afar_seeCfg (n : Nat) : Afar s (s.seeCfg n) := by
  unfold State.seeCfg
  exact .ite (.refl s) (.ite ((afar_modOut s n _).then (afar_setB _ _ (near_outStat n))) (.ite_left (afar_takeCfg s n)))

theorem afar_seeComp (n : Nat) : Afar s (s.seeComp n) := by
  unfold State.seeComp
  exact .ite (.refl s) (.ite ((afar_modOut s n _).then (afar_putLag _ _ _)) (afar_modOut s n _))

theorem afar_takeSoft (n : Nat) : Afar s (s.takeSoft n) := by
  have seen (f : Output → Output) : Afar s (s.modOut n f) := afar_modOut s n f
  have slew (c d : Prop) [Decidable c] [Decidable d] (f : Output → Output) (u : State) (h : Afar s u) :
      Afar s (if c then u else if d then u.modOut n f else u.evt (Fld.OUn_EVT_CFG_REFUSED n)) :=
    .ite h (.ite (h.then (afar_modOut u n f)) (h.then (afar_evt u _)))
  unfold State.takeSoft
  exact slew _ _ _ _ (.ite (seen _) (.ite ((seen _).then (afar_modOut _ _ _)) ((seen _).then (afar_evt _ _))))

theorem afar_squelchNow (n : Nat) : Afar s (s.squelchNow n) := by
  have truncated : Afar s (if (s.out n).level then s.evt (Fld.OUn_EVT_TRUNC n) else s) := .ite_left (afar_evt s _)
  unfold State.squelchNow
  exact ((((truncated.then (afar_modOut _ _ _)).then (afar_setB _ _ (near_outStat n))).then (afar_setB _ _ (near_outStat n))).then
    (afar_evt _ _)).then (afar_setSh _ _)

theorem afar_releaseOut (n : Nat) : Afar s (s.releaseOut n) :=
  ((afar_modOut s n _).then (afar_setB _ _ (near_outStat n))).then (afar_evt _ _)

theorem afar_refreshOut (n : Nat) : Afar s (s.refreshOut n) := by
  have soft (u : State) : Afar u (if u.outLive n then u else u.takeSoft n) := .ite (.refl u) (afar_takeSoft u n)
  have bound (c : Prop) [Decidable c] (f : Output → Output) (u : State) (h : Afar s u) : Afar s (if c then u.modOut n f else u) :=
    .ite (h.then (afar_modOut u n f)) h
  have squelched (u : State) (h : Afar s u) (c0 c1 c2 c3 : Prop) [Decidable c0] [Decidable c1] [Decidable c2] [Decidable c3]
      (f g : Output → Output) : Afar s (if c0 then (if c1 then u else if c2 then u.squelchNow n else u.modOut n f)
        else if c3 then u.modOut n g else u.releaseOut n) :=
    .ite (.ite h (.ite (h.then (afar_squelchNow u n)) (h.then (afar_modOut u n f))))
      (.ite (h.then (afar_modOut u n g)) (h.then (afar_releaseOut u n)))
  unfold State.refreshOut
  refine squelched _ (.then (.then ?_ (afar_wrN _ _ (near_above _ (by decide)))) (afar_setB _ _ (near_outStat n))) _ _ _ _ _ _
  exact bound _ _ _ (((afar_seeCfg s n).then (afar_seeComp _ n)).then (soft _))

/-! ### The engines, the switch, the links and the lease -/

theorem afar_refreshPe : Afar s s.refreshPe := by
  have halt (b : Bool) : Afar s (s.setB Fld.PE_STAT_AUTH_HALT b) := afar_setB s b (by decide)
  unfold State.refreshPe
  exact .ite ((halt _).then (afar_evt _ _)) (halt _)

theorem afar_refreshNe : Afar s s.refreshNe := by
  have halt (b : Bool) : Afar s (s.setB Fld.NE_STAT_NTS_HALT b) := afar_setB s b (by decide)
  have tampered (c d : Prop) [Decidable c] [Decidable d] (u : State) (h : Afar s u) :
      Afar s (if c then u.setB Fld.NE_STAT_TAMPERED true else if d then u.setB Fld.NE_STAT_TAMPERED false else u) :=
    .ite (h.then (afar_setB u _ (by decide))) (.ite (h.then (afar_setB u _ (by decide))) h)
  unfold State.refreshNe
  exact (tampered _ _ _ (.ite ((halt _).then (afar_evt _ _)) (halt _))).then (afar_setB _ _ (by decide))

theorem afar_deal (g : Nat) (bs ms : List Nat) : Afar s (s.deal g bs ms) := by
  unfold State.deal
  exact .ite (.refl s) (Afar.foldl _ _ (fun t _ _ => afar_wrN t _ (near_above _ (by decide))) s)

theorem afar_lagSync : Afar s s.lagSync := by
  unfold State.lagSync
  refine Afar.foldl _ _ (fun t g _ => ?_) s
  exact .ite (.refl t) (.ite ((afar_setSw t _).then (afar_deal _ _ _ _)) (afar_setSw t _))

theorem afar_dropRoutes (k : Nat) : Afar s (s.dropRoutes k) :=
  Afar.foldl _ _ (fun t _ _ => .ite_left (afar_setB t _ (near_above _ (by decide)))) s

theorem afar_ulinkDown (k : Nat) (b : Bool) : Afar s (s.ulinkDown k b) := by
  have down : Afar s ((s.setB (Fld.ULk_STAT_LINK k) false).evt (Fld.ULk_EVT_LINK_DOWN k)) :=
    (afar_setB s _ (near_above _ (by decide))).then (afar_evt _ _)
  have lock (u : State) (h : Afar s u) : Afar s (if b then u.setB (Fld.ULk_STAT_LOCK k) false else u) :=
    .ite (h.then (afar_setB u _ (near_above _ (by decide)))) h
  have peer (u : State) (h : Afar s u) : Afar s (if k = 0 then u.setB Fld.LS_STAT_PEER_LINK false else u) :=
    .ite (h.then (afar_setB u _ (by decide))) h
  unfold State.ulinkDown
  refine .ite (.refl s) (.then (peer _ (.then (.then (.then (lock _ down) ?_) (afar_dropRoutes _ k)) (afar_modLink _ _ _))) (afar_emit _ _ _ _))
  exact afar_setB _ _ (near_above _ (by decide))

theorem afar_refreshLinks : Afar s s.refreshLinks := Afar.foldl _ _ (fun t k _ => .ite_left (afar_ulinkDown t k true)) s

theorem afar_leaseTo (st : Nat) : Afar s (s.leaseTo st) := by
  have named : Afar s ((s.set Fld.LS_STAT_LEASE st).emit 0x3E 0 "LEASE") := (afar_set s st (by decide)).then (afar_emit _ _ _ _)
  have released (u : State) (x : Lease) (h : Afar s u) : Afar s (if st = 2 then u else u.setLs x) := .ite h (h.then (afar_setLs u x))
  unfold State.leaseTo
  exact released _ _ (.ite (named.then (afar_setLs _ _)) (named.then (afar_setLs _ _)))

theorem afar_refreshHb : Afar s s.refreshHb := afar_setB s _ (by decide)

theorem afar_leaseFence : Afar s s.leaseFence := by
  unfold State.leaseFence
  exact .ite (.refl s) ((((afar_leaseTo s 4).then (afar_evt _ _)).then (afar_setLs _ _)).then (afar_refreshHb _))

theorem afar_refreshFeeds : Afar s s.refreshFeeds := by
  have a : Afar s (if s.feedEn false then s else s.setB Fld.PF_STAT_A_OK false) := .ite (.refl s) (afar_setB s _ (by decide))
  have b (u : State) : Afar u (if u.feedEn true then u else u.setB Fld.PF_STAT_B_OK false) := .ite (.refl u) (afar_setB u _ (by decide))
  unfold State.refreshFeeds
  exact a.then (b _)

theorem afar_refreshLs : Afar s s.refreshLs := by
  unfold State.refreshLs
  exact (((Afar.ite_left (afar_leaseFence s)).then (afar_refreshHb _)).then (afar_refreshFeeds _)).then (afar_setB _ _ (by decide))

theorem afar_levels : Afar s s.levels := by
  have port (t : State) (p : Nat) (hp : p ∈ List.range 16) : Afar t (((t.refreshGate p).refreshStamps p).refreshPause p) :=
    ((afar_refreshGate t (List.mem_range.1 hp)).then (afar_refreshStamps _ (List.mem_range.1 hp))).then (afar_refreshPause _ (List.mem_range.1 hp))
  have outs (t : State) : Afar t t.refreshOuts := Afar.foldl _ _ (fun u n _ => afar_refreshOut u n) t
  unfold State.levels
  refine .then (.then (.then (.then ?_ (outs _)) (afar_refreshPe _)) (afar_refreshNe _)) (afar_lagSync _)
  exact ((afar_refreshLs s).then (afar_refreshLinks _)).then (Afar.foldl _ _ port _)

/-! ### The safe state (R258, R259, R385, R484) -/

theorem afar_txqAdd {p : Nat} (hp : p < 20) (e : TxqEntry) : Afar s (s.txqAdd p e) := by
  have queued (x : List TxQueue) : Afar s { s with tc := { s.tc with txqs := x } } := .of_regs rfl rfl
  have drops : ¬FarWord (Reg.TC_TXQ_DROPp p) := near_below (by omega)
  unfold State.txqAdd
  exact .ite (.ite ((queued _).then (afar_evt _ _)) (queued _)) (((queued _).then (afar_bump _ drops)).then (afar_evt _ _))

theorem afar_dropNext {p : Nat} (hp : p < 16) : Afar s (s.dropNext p) := by
  unfold State.dropNext
  split
  · exact .refl s
  · dsimp only
    split
    · exact (afar_modPort s p _).then (afar_txqAdd _ (Nat.lt_trans hp (by decide)) _)
    · exact afar_modPort s p _

theorem afar_lagDown (p : Nat) : Afar s (s.lagDown p) := Afar.foldl _ _ (fun t _ _ => .ite_left (afar_deal t _ _ _)) s

theorem afar_portStops {p : Nat} (hp : p < 16) (c : MissCause) : Afar s (s.portStops p c) := by
  have missed : Afar s ((s.port p).res.foldl (fun t r => t.missRes p r c) s) := Afar.foldl _ _ (fun t r _ => afar_missRes t hp r c) s
  have synce (t : State) : Afar t (t.syncELost p) := .ite_left (afar_signalLoss t (by decide))
  have ended : Afar s (stopped s p c) := ((missed.then (afar_dropNext _ hp)).then (afar_setB _ _ (near_portStat hp))).then (afar_modPort _ _ _)
  rw [portStops_eq]
  exact ((ended.then (afar_refreshStamps _ hp)).then (afar_lagDown _ p)).then (synce _)

theorem afar_portHw {p : Nat} (hp : p < 16) : Afar s (s.portHw p) := by
  have status {f : Fld} (u : State) (b : Bool) (h : f.addr = Reg.PTp_STAT p) : Afar u (u.setB f b) := afar_setB u b (h ▸ near_portStat hp)
  have service (u : State) : Afar u (u.setInService p false) := afar_wrN u _ (near_port hp (by decide) (by decide))
  have fenced := (((afar_portStops s hp .gate).then (status (f := Fld.PTp_STAT_FENCED p) _ true rfl)).then
    (status (f := Fld.PTp_STAT_PCS_LOCK p) _ false rfl)).then ((status (f := Fld.PTp_STAT_TRAINED p) _ false rfl).then
      (status (f := Fld.PTp_STAT_TX_GATE p) _ false rfl))
  unfold State.portHw
  exact (((fenced.then (service _)).then (afar_modPort _ _ _)).then (afar_emit _ _ _ _)).then (afar_evt _ _)

theorem afar_disarmAll (k : Nat) : Afar s (s.disarmAll k) := by
  have disarmed (t : State) (x : TimeCore) {n : Nat} (hn : n < 32) (b : Bool) :
      Afar t (State.setB { t with tc := x } (Fld.TRGn_STAT_ARMED n) b) := by
    have core : Afar t { t with tc := x } := .of_regs rfl rfl
    have near : ¬FarWord (Reg.TRGn_STAT n) := near_below (by omega)
    exact core.then (afar_setB _ (f := Fld.TRGn_STAT_ARMED n) b near)
  exact Afar.foldl _ _ (fun t n hn => .ite_left (disarmed t _ (List.mem_range.1 (List.mem_filter.1 hn).1) _)) s

/-- A line that is let go raises no edge; at most its output is squelched. -/
theorem afar_pipEdge_low (n : Nat) : Afar s (s.pipEdge n false) := by
  have low (u : State) : Afar s u → Afar s (if (s.out n).level && !false && (s.out n).sqWait then u.squelchNow n else u) :=
    fun h => .ite (h.then (afar_squelchNow u n)) h
  unfold State.pipEdge
  exact .ite (.refl s) (low _ (afar_modOut s n _))

theorem afar_releaseLines (k : Nat) : Afar s (s.releaseLines k) := by
  have low (u : State) : Afar u (u.pipLevel k false) := .ite_left ((afar_modPip u k _).then (afar_pipEdge_low _ _))
  unfold State.releaseLines
  exact .ite ((afar_modPip s k _).then (low _)) (afar_modPip s k _)

theorem afar_indFree (k : Nat) : Afar s (s.indFree k) := by
  have held (u : State) (x : IndUnit) (h : Afar s u) : Afar s { u with ind := x } := h.then (.of_regs rfl rfl)
  unfold State.indFree
  exact .ite_left (held _ _ ((afar_set s _ (by decide)).then (afar_set _ _ (by decide))))

theorem afar_pipClear (k : Nat) : Afar s (s.pipClear k) := by
  have own {f : Fld} (u : State) (b : Bool) (h : f.addr = 0xA000C + k * 0x1000 ∨ f.addr = 0xA0084 + k * 0x1000) : Afar u (u.setB f b) :=
    afar_setB u b (by rcases h with h | h <;> rw [h] <;> exact near_above _ (by decide))
  unfold State.pipClear State.setWait
  refine .then (.then (.then (.then ?_ (afar_disarmAll _ k)) (afar_releaseLines _ k)) (afar_indFree _ k)) (afar_modPip _ _ _)
  exact (((afar_modPip s k _).then (own _ _ (.inl rfl))).then (own _ _ (.inr rfl))).then (own _ _ (.inl rfl))

theorem afar_applySafe : Afar s s.applySafe := by
  have fenced (t : State) (p : Nat) (hp : p ∈ (List.range 16).filter (fun p => !s.fenced p)) : Afar t (t.portHw p) :=
    afar_portHw t (List.mem_range.1 (List.mem_filter.1 hp).1)
  have stopped (t : State) (k : Nat) : Afar t ((t.pipClear k).setB (Fld.PPk_STAT_RUNNING k) false) :=
    (afar_pipClear t k).then (afar_setB _ _ (near_above _ (by decide)))
  unfold State.applySafe
  exact (Afar.foldl _ _ fenced s).then (Afar.foldl _ _ (fun t k _ => stopped t k) _)

end

/-- Where a command's levels are no chip reset, they leave the baseband and the counters of the switch's ports. -/
theorem afar_settle {s : State} (h : (s.fc.chipResetDue && !s.safe) = false) : Afar s s.settle := by
  rw [State.settle_eq_levels h]
  exact (Afar.ite_left (afar_applySafe s)).then (afar_levels _)

end Sys2Proof.Machine
end

section
/-! PROOF. O34: the discard of an aged frame of the host, where the stamp queue of its destination drops the entry of the request it carries. The counter of
that queue's drops is at TC_TXQ_DROPp + 4 dest, which a destination far beyond the ports puts on the counter of the host's aged frames. -/

namespace Sys2Proof.Machine

/-- A frame with a time-stamp request, whose destination is so far out that its stamp queue's drops are counted where the host's aged frames are. -/
def strayReplica : Replica := ⟨0, 18, 92225, List.replicate 60 0, 0, 0, 0, none, none, 1, 0, some 0, none⟩

theorem strayReplica_counter : Reg.TC_TXQ_DROPp strayReplica.dest = Reg.SW_AGEDp 18 := by decide

/-- A stamp queue with 64 entries (R91). -/
def fullTxQueue : TxQueue := ⟨List.replicate 64 ⟨0, 0, false, false, false⟩, false⟩

/-- It heads the host's queue, long after its admission, and the stamp queues are full. -/
def strayQueued : State :=
  { State.reset with
    tc := { State.reset.tc with cycle := 2 ^ 40, txqs := List.replicate 92226 fullTxQueue }
    sw := { State.reset.sw with queues := State.reset.sw.queues.set 18 [strayReplica] } }

theorem strayQueued_head : strayQueued.queueHead 18 = some strayReplica := by decide +kernel

theorem strayQueued_aged : strayQueued.aged strayReplica = true := by decide +kernel

theorem strayQueued_count : strayQueued.rdN (Reg.SW_AGEDp 18) = 0 := by decide +kernel

/-- The frame has left its queue and is counted as aged. -/
def strayCounted : State := (strayQueued.unqueue strayReplica).bump (Reg.SW_AGEDp 18)

/-- The state that the discard leaves. -/
def strayDiscarded : State := strayQueued.discard strayReplica (Reg.SW_AGEDp 18)

theorem hostRx_strayQueued : strayQueued.hostRx = strayDiscarded := by
  unfold State.hostRx
  rw [strayQueued_head]
  exact if_pos strayQueued_aged

/-- An entry for a full stamp queue is dropped and counted, with its event. -/
theorem txqAdd_full (s : State) (p : Nat) (e : TxqEntry) (h : ¬(s.tc.txqs.getD p ⟨[], false⟩).entries.length < 64) :
    s.txqAdd p e = (({ s with tc := { s.tc with txqs := s.tc.txqs.set p ⟨(s.tc.txqs.getD p ⟨[], false⟩).entries, true⟩ } } : State).bump
      (Reg.TC_TXQ_DROPp p)).evt Fld.TC_EVT_TXQ_OVF := if_neg h

theorem strayCounted_full : strayCounted.tc.txqs.getD strayReplica.dest ⟨[], false⟩ = fullTxQueue :=
  List.getD_replicate _ (by decide : strayReplica.dest < 92226)

/-- The full stamp queue, its dropped entry noted. -/
def strayNoted : State :=
  { strayCounted with tc := { strayCounted.tc with txqs := strayCounted.tc.txqs.set strayReplica.dest ⟨fullTxQueue.entries, true⟩ } }

theorem strayNoted_regs : strayNoted.regs = strayCounted.regs := rfl

theorem strayCounted_count : strayCounted.rdN (Reg.SW_AGEDp 18) = 1 := by
  have left : (strayQueued.unqueue strayReplica).rdN (Reg.SW_AGEDp 18) = 0 := strayQueued_count
  unfold strayCounted
  rw [State.rdN_bump_same, left]
  rfl

theorem strayDiscarded_eq : strayDiscarded = (strayNoted.bump (Reg.SW_AGEDp 18)).evt Fld.TC_EVT_TXQ_OVF := by
  have added : strayDiscarded = strayCounted.txqAdd strayReplica.dest ⟨0, 0, false, true, false⟩ := rfl
  have full : ¬(strayCounted.tc.txqs.getD strayReplica.dest ⟨[], false⟩).entries.length < 64 := by rw [strayCounted_full]; decide
  rw [added, txqAdd_full _ _ _ full, strayCounted_full, strayReplica_counter]
  rfl

/-- The one frame is counted twice. -/
theorem strayDiscarded_count : strayDiscarded.rdN (Reg.SW_AGEDp 18) = 2 := by
  have once : strayNoted.rdN (Reg.SW_AGEDp 18) = 1 :=
    (congrArg (fun x : RegFile => (x.word (Reg.SW_AGEDp 18)).toNat) strayNoted_regs).trans strayCounted_count
  have event (s : State) : (s.evt Fld.TC_EVT_TXQ_OVF).rdN (Reg.SW_AGEDp 18) = s.rdN (Reg.SW_AGEDp 18) :=
    congrArg BitVec.toNat (rd_evt_other s _ (by decide) (by decide))
  rw [strayDiscarded_eq, event, State.rdN_bump_same, once]
  rfl

theorem strayDiscarded_stays : (strayDiscarded.fc.chipResetDue && !strayDiscarded.safe) = false := by
  have fc : strayDiscarded.fc = State.reset.fc := by
    have event : Marks (· = pageOf Fld.TC_EVT_TXQ_OVF.addr * 0x1000 + 0x10) (strayNoted.bump (Reg.SW_AGEDp 18)) strayDiscarded :=
      strayDiscarded_eq ▸ marks_evt _ _ (by decide) rfl
    exact event.fc
  rw [fc]
  rfl

/-- A state that settles as the discard's does counts as many aged frames of the host: a chip reset would have cleared the counter. -/
theorem count_of_settle {u : State} (h : strayDiscarded.settle = u.settle) : u.rdN (Reg.SW_AGEDp 18) = 2 := by
  have far : FarWord (Reg.SW_AGEDp 18) := by decide
  have settled : strayDiscarded.settle.rdN (Reg.SW_AGEDp 18) = 2 :=
    (congrArg BitVec.toNat ((afar_settle strayDiscarded_stays).words _ far)).trans strayDiscarded_count
  rw [h] at settled
  cases due : u.fc.chipResetDue && !u.safe with
  | false => exact (congrArg BitVec.toNat ((afar_settle due).words _ far)).symm.trans settled
  | true =>
    have reset : u.settle.rd (Reg.SW_AGEDp 18) = State.reset.rd (Reg.SW_AGEDp 18) := by
      rw [show u.settle = u.chipReset false from if_pos due, State.chipReset_rd _ _ (by decide) (by decide)]
      exact if_neg (by decide)
    have zero : u.settle.rdN (Reg.SW_AGEDp 18) = 0 := (congrArg BitVec.toNat reset).trans (by decide +kernel)
    omega

theorem exec_hostRxDelivery (s : State) : exec .hostRxDelivery s = .next s.hostRx.settle := rfl

/-- Refutes O34: an aged frame at the head of the host's queue, for destination 92225 and with a time-stamp request that the full stamp queue of that
destination drops, adds 2 to the counter of the host's aged frames. -/
theorem not_hostRings : ¬ Obligations.HostRings := by
  intro h
  obtain ⟨delivery, _, _⟩ := h
  obtain ⟨u, hu, claim⟩ := delivery strayQueued
  rw [strayQueued_head] at claim
  have once : u.rdN (Reg.SW_AGEDp 18) = min (strayQueued.rdN (Reg.SW_AGEDp 18) + 1) 0xFFFFFFFF := by
    dsimp only at claim
    rwa [if_pos strayQueued_aged] at claim
  have settles : strayDiscarded.settle = u.settle :=
    hostRx_strayQueued ▸ Host.Outcome.next.inj ((exec_hostRxDelivery strayQueued).symm.trans hu)
  rw [count_of_settle settles, strayQueued_count] at once
  exact absurd once (by decide)

end Sys2Proof.Machine
end
